-- ==== Sys2Proof/Word.lean ====
section
/-! DEFINITION. The word types of the FRK-W1 module: bytes, T16 codes and 64-bit registers (R11, R12). -/

namespace Sys2Proof

/-- A byte of a memory (R12). -/
abbrev Byte := BitVec 8

/-- The 16-bit code of a T16 value, or of any value held as one (R12, R52). -/
abbrev Code := BitVec 16

/-- A 64-bit register or a scalar register of a tile (R11, R123). -/
abbrev Word := BitVec 64

end Sys2Proof
end

