-- ==== Sys2Proof/Syntax.lean ====
section
/-! DEFINITION. The commands: one constructor for each row of the spec's table of operations and events, in its order,
with the operands that the row's rule needs. -/

namespace Sys2Proof

/-! ## Operand structures: what the surroundings decide -/

/-- An upset of a stored word that an access finds (R90): in the deck or the staging SRAM, which 8-byte word, and
whether it is beyond correction. -/
structure Upset where
  deck : Bool
  word : Nat
  hard : Bool
  deriving DecidableEq, Repr

/-- What the surroundings decide about a tile's memories: the upsets since the last command of the tile (R90). -/
structure Access where
  upsets : List Upset
  deriving DecidableEq, Repr

/-- What a stack transfer's checks report (R245, R257): addresses of bursts the gate corrected, bursts corrected on the
die, addresses of uncorrectable bursts, and in the gate buffer the corrected words and the 8-byte words of the transfer
that are uncorrectable. Where an operand of a command is left out, nothing is reported. -/
structure EccReport where
  corrected : List Nat
  onDie : Nat
  hard : List Nat
  bufCorrected : Nat
  bufHard : List Nat
  deriving DecidableEq, Repr

/-- A cell of a tile's SRAM that a test found failing: macro, row, bit column (R373). -/
structure BadCell where
  cellMacro : Nat
  row : Nat
  col : Nat
  deriving DecidableEq, Repr

/-- Findings of the self-tests of one tile (R373, R375 to R377): the frequency codes at which its logic failed, and the
failing cells. A tile that is not listed passes everything. -/
structure TileTest where
  tile : Nat
  failCodes : List Nat
  cells : List BadCell
  deriving DecidableEq, Repr

/-- Findings of a region's sequence in a wave (R370 to R378). -/
structure RegionTest where
  region : Nat
  /-- The region controller failed its self-test (R371). -/
  ctrlFail : Bool
  /-- The logic BIST gave no signature (R375). -/
  noSignature : Bool
  /-- The region node failed, and the quad nodes that failed (R375). -/
  nodeFail : Bool
  quadFails : List Nat
  tiles : List TileTest
  /-- A word of the deck wipe failed its read-back every time (R378). -/
  wipeFail : Bool
  deriving DecidableEq, Repr

/-- Findings of the interconnect test (R379): failed segments as bitmap number and index (R40), frontage tiles whose rim
hop failed, regions whose sync part failed. -/
structure InterconnectResult where
  segments : List (Nat × Nat)
  rims : List Nat
  syncs : List Nat
  deriving DecidableEq, Repr

/-- Findings of a region's retention read-back (R378, R379): failing cells by tile, boulevard links that failed with
their spare (the other end: region r as r, gate g as 84 + g), and a failed deck wipe. -/
structure RetentionResult where
  cells : List (Nat × BadCell)
  links : List Nat
  wipeFail : Bool
  deriving DecidableEq, Repr

/-- What a stack's initialisation finds (R259, R262 to R264): hard-repair rows left, listed rows that found no spare, and
whether the wipe verified. -/
structure StackInit where
  pprLeft : Nat
  noSpare : List Nat
  wipeOk : Bool
  deriving DecidableEq, Repr

/-- Telemetry of the frame that ends (R337, R338, R247): input voltage in 10 mV, module power in W, region power in W,
fixed power in W, and the stack temperatures read. -/
structure Telemetry where
  vin : Nat
  watts : Nat
  regions : List (Nat × Nat)
  fixed : Nat
  stackTemps : List (Nat × Int)
  deriving DecidableEq, Repr

/-- A flit (R292): header fields as numbers, 240 payload bytes, CRC. -/
structure Flit where
  typ : Nat
  dest : Nat
  src : Nat
  credits : Nat
  lstream : Nat
  len : Nat
  seq : Nat
  ack : Nat
  payload : List Byte
  crc : Nat
  deriving DecidableEq, Repr

/-- What training measures and exchanges (R298, R299): lanes that pass in both directions, lane margins in mV, and the
partner's GROUP_ID, MEMBER and port. -/
structure Training where
  lanes : Nat
  margins : List Nat
  group : Nat
  member : Nat
  port : Nat
  deriving DecidableEq, Repr

/-- A configuration write that the module acts on (R321, R329, R330). -/
inductive CfgOp where
  | d3hot (on : Bool)
  | busMaster (on : Bool)
  | memorySpace (on : Bool)
  | msix (enable functionMask : Bool)
  | maxRead (bytes : Nat)
  deriving DecidableEq, Repr

/-- Result of a RUN or of a REFURB's deep test (R418, R434): pass of the tests run, the signature, the new tile bytes
other than 0, the dead segments, repair entries that fuses took, and dark regions whose rail tested good. -/
structure TestResult where
  pass : Bool
  signature : Word
  tiles : List (Nat × Nat)
  segments : List (Nat × Nat)
  fuses : Nat
  rails : List Nat
  deriving DecidableEq, Repr

/-- The commands. Operands p and port are port numbers, t a tile, g a gate, r a ring or (in rows about regions) a region;
ce and ue are codewords that FEC corrected or could not correct. -/
inductive Instr where
  | powerGood (straps : Nat)
  | dawnWave (w : Nat) (tests : List RegionTest)
  | waveRepeat (test : RegionTest)
  | interconnectTest (res : InterconnectResult)
  | retentionReadback (r : Nat) (res : RetentionResult)
  | regionPowerOffExpiry (r : Nat)
  | stackReady (g : Nat) (init : StackInit)
  | stackPowerCycleExpiry (g : Nat) (initOk : Bool)
  | dawnFinalStage
  | readyReached
  | trialWatchdog
  | lockstepMismatch
  | modResetAssert
  | modResetDeassert (straps : Nat)
  | cmpResetAssert
  | cmpResetRelease
  | vrAlertFall
  | nightEnd
  | coolOkDeassert
  | coolOkRestart
  | sensorConversion (r : Nat) (temps : List Int)
  | inputUndervoltage
  | inputOvervoltage
  | computeEfuseOpen (r : Nat)
  | thoroughfareEfuseOpen (r : Nat)
  | frameEnd
  | frameTick (tel : Telemetry)
  | agingMeasurement (r point mv : Nat)
  | logSummaryWrite
  | mapStore
  | holdTimeout (tel : Telemetry)
  | originFrameRelease
  | barrierComplete (d : Nat)
  | halt (t : Nat) (a : Access)
  | nop (t : Nat) (a : Access)
  | fwait (t : Nat) (a : Access)
  | testw (t : Nat) (a : Access)
  | testWindowEnd (t : Nat)
  | sync (t : Nat) (a : Access)
  | gfence (t : Nat) (a : Access)
  | cwait (t : Nat) (a : Access)
  | sli (t : Nat) (a : Access)
  | slih (t : Nat) (a : Access)
  | salu (t : Nat) (a : Access)
  | smovs (t : Nat) (a : Access)
  | br (t : Nat) (a : Access)
  | dbnz (t : Nat) (a : Access)
  | setrc (t : Nat) (a : Access)
  | lds (t : Nat) (a : Access)
  | sts (t : Nat) (a : Access)
  | loadw (t : Nat) (a : Access)
  | loadwStart (t : Nat) (upsets : List Upset)
  | wfill (t : Nat) (a : Access)
  | stream (t : Nat) (a : Access)
  | streamStart (t : Nat) (upsets : List Upset)
  | gridRowOutput (t : Nat) (deck staging : List Upset)
  | routeSummaryWrite (t : Nat) (upsets : List Upset := [])
  | drain (t : Nat) (a : Access)
  | dfill (t : Nat) (a : Access)
  | dcopy (t : Nat) (a : Access)
  | varith (t : Nat) (a : Access)
  | vcmp (t : Nat) (a : Access)
  | vint (t : Nat) (a : Access)
  | vmove (t : Nat) (a : Access)
  | vcvt (t : Nat) (a : Access)
  | vfunc (t : Nat) (a : Access)
  | vred (t : Nat) (a : Access)
  | vld (t : Nat) (a : Access)
  | vst (t : Nat) (a : Access)
  | vgather (t : Nat) (a : Access)
  | vscatter (t : Nat) (a : Access)
  | vscadd (t : Nat) (a : Access)
  | csend (t : Nat) (a : Access)
  | crecv (t : Nat) (a : Access)
  | slotEntry (t : Nat) (upsets : List Upset)
  | localSend (t : Nat) (upsets : List Upset)
  | lineReceive (t : Nat)
  | queuedDeckWrite (t : Nat) (upsets : List Upset)
  | testSliceEnd (t : Nat) (mismatch : Bool) (upsets : List Upset)
  | testSliceAbort (t : Nat)
  | arm (port g : Nat)
  | disarm (port g : Nat)
  | stackTransferIssue (g : Nat) (host : Bool)
  | stackTransferComplete (g idx : Nat) (ecc : EccReport)
  | rimLineSend (g r : Nat) (bufCe : Nat)
  | rimLineReceive (g : Nat)
  | hostReadCompletion (g r addr : Nat) (data : List Byte)
  | hostReadError (g r : Nat)
  | completionTimeout (g r : Nat)
  | pageFault (g r page : Nat)
  | pageRequestResponse (g r : Nat) (success : Bool)
  | faultTimeout (g r : Nat)
  | atsInvalidation (port page pasid : Nat)
  | ingressDoorbell (port g r count : Nat)
  | doorbellAccept (port : Nat)
  | cqHeadWrite (port g value : Nat)
  | scqHeadWrite (port value : Nat)
  | refreshSlot (g : Nat)
  | forcedRefresh (g : Nat)
  | apertureRead (port off len : Nat) (ecc : EccReport)
  | apertureWrite (port off : Nat) (data : List (Option Byte)) (poisoned : Bool)
  | boulevardRow (node : Nat) (tile : Option Nat)
  | boulevardForward (node : Nat)
  | gradientRowAtGate (g : Nat)
  | reductionMessage (g : Nat)
  | blockUpdate (g layer idx : Nat)
  | trainingWindowOpen (p : Nat)
  | trainingWindowClose (p : Nat)
  | linkWake (p : Nat)
  | linkTrainingComplete (p : Nat) (res : Training)
  | linkLossOfLock (p : Nat)
  | recoveryComplete (p : Nat) (res : Training)
  | recoveryTimeout (p : Nat)
  | flitSlotSend (p : Nat)
  | dataFlitReceive (p : Nat) (f : Flit) (ce : Nat := 0) (ue : Nat := 0)
  | ready (p : Nat) (f : Flit) (k : Nat)
  | sendReady
  | masterTickRelease
  | go (p : Nat) (f : Flit) (k : Nat)
  | abort (p : Nat) (f : Flit) (k : Nat)
  | stepOpen (p : Nat) (f : Flit) (k : Nat)
  | resetState (p : Nat) (f : Flit) (k : Nat)
  | eof (p : Nat) (f : Flit) (k : Nat)
  | fsyncTransition
  | syncLostTimeout
  | retrain (port p : Nat)
  | disable (port p : Nat)
  | linkMapArm (port : Nat)
  | linkMapCommit
  | pciePortReset (port : Nat)
  | pciePortResetRelease (port : Nat)
  | pcieConfigWrite (port : Nat) (op : CfgOp)
  | msixUnmask (port : Nat) (vec : Option Nat)
  | registerWrite (port bar off size value : Nat)
  | updStepWrite (port off size value : Nat)
  | load (port : Nat)
  | planLoadComplete (ecc : EccReport := ⟨[], 0, [], 0, []⟩)
  | start (port : Nat)
  | stop (port : Nat)
  | stage (port : Nat)
  | stageComplete (flashOk : Bool) (ecc : EccReport := ⟨[], 0, [], 0, []⟩)
  | activate (port : Nat)
  | confirm (port : Nat)
  | revert (port : Nat)
  | cfgStore (port : Nat)
  | lcFinish (port : Nat)
  | lcClaim (port : Nat)
  | lcLock (port : Nat)
  | lcUnlock (port : Nat)
  | lcShip (port : Nat)
  | lcReceive (port : Nat)
  | lcTransfer (port : Nat)
  | lcRelease (port : Nat)
  | lcReturn (port : Nat)
  | lcRestock (port : Nat)
  | lcScrap (port : Nat)
  | lcCfgAuth (port : Nat)
  | lcFwAuth (port : Nat)
  | lifecycleWipeDone (failed : List Nat)
  | tstRun (port : Nat)
  | tstRefurb (port : Nat)
  | tstAbort (port : Nat)
  | testComplete (res : TestResult)
  | setdasa (addr : Nat)
  | entdaa (addr : Nat)
  | setEndpointId (eid : Nat)
  | getEndpointId
  | getMctpVersionSupport
  | getMessageTypeSupport
  | getStatus
  | readMap (off len : Nat)
  | readLog (off len : Nat)
  | readReg (off : Nat)
  | readLastStep
  | getNonce
  | lcRequest (req : List Byte)
  | lcStatus
  | fwStatusQuery
  | fwControl (op : Nat)
  | getVersion (tr : Nat)
  | getCapabilities (tr : Nat)
  | negotiateAlgorithms (tr : Nat)
  | getDigests (tr : Nat)
  | getCertificate (tr off len : Nat)
  | challenge (tr : Nat) (nonce : List Byte)
  | getMeasurements (tr index : Nat) (nonce : List Byte)
  | atsTranslationCompletion (g r page : Nat) (granted : Bool)
  | cfgStoreComplete (flashOk : Bool) (ecc : EccReport := ⟨[], 0, [], 0, []⟩)
  | vrAlertRise
  | coolOkAssert
  | idleFlitReceive (p : Nat) (f : Flit) (ce : Nat := 0) (ue : Nat := 0)
  | doeDiscovery (port index : Nat)
  deriving DecidableEq, Repr

end Sys2Proof
end

