-- ==== Sys2Proof/Config.lean ====
section
/-! DEFINITION. What one module fixes at manufacture or in firmware and the spec gives no number for (R1, R339, R345, R394,
R397), and the free values. No proof can see any of them. -/

namespace Sys2Proof.Config

/-- Free values: the n-th value that the spec leaves open (log 7). -/
opaque freeValue : Nat → BitVec 384

/-- The code of a lane of a VFUNC where the model's bracketing finds none: free value number, lane (log 9). -/
opaque functionCode : Nat → Nat → BitVec 16

/-- An activation whose feeder-queue entry was uncorrectable: tile, row of the stream, element (R90, R91, log 81). -/
opaque feederElem : Nat → Nat → Nat → BitVec 16

/-- GLB_ID: the device serial number, 64 bits of it a register (R398, R428). -/
opaque serial : BitVec 64

/-- Fused lowest voltage of a region in mV at a fused point: region, frequency code (R339). -/
opaque fusedVolt : Nat → Nat → Nat

/-- Leakage of a region in mW at a temperature in °C and a voltage in mV: fused, and corrected by the region's last frame in which
it was idle: its power in W, voltage and temperature (R345, log 97). -/
opaque leakage : Nat → Int → Nat → Option (Nat × Nat × Int) → Nat

/-- Fused largest K of a region, in units of 10^−12 W for 10 MHz and 1 mV² (R345). -/
opaque kMax : Nat → Nat

/-- Retention power of a region in mW before it is measured (R345, log 97). -/
opaque retentionPower : Nat → Nat

/-- Fused fixed power of all stacks and ports in W, and the fused efficiency curve: thousandths at an output power in W
(R345). -/
opaque fixedPower : Nat
opaque efficiency : Nat → Nat

/-- Codes that the service log uses and the spec does not number (R416): the outcome of a stack row (listed, repaired, no
spare), the event of a firmware record, the cause of a full reset (log 15). -/
opaque rowOutcome : Nat → Nat
opaque firmwareEvent : Nat → Nat
opaque resetCause : Nat → Nat

/-- Certificate chain, and the signature that the device key makes of a message: its bytes (R398). -/
opaque certChain : List (BitVec 8)
opaque deviceSign : List (BitVec 8) → List (BitVec 8)

/-- The versions that MCTP Get MCTP Version Support names (R333). -/
opaque mctpVersions : List (BitVec 8)

/-- Measurements of the mask ROM and of immutable hardware (R397): index to 48 bytes. -/
opaque romDigest : Nat → BitVec 384

end Sys2Proof.Config
end

