-- ==== Sys2Proof/Machine/Memory.lean ====
section
/-! DEFINITION. Byte memories as sorted lists of the bytes that differ from 0x00 (R12, R85, R262), and sparse maps. -/

namespace Sys2Proof.Machine

/-- A memory: address and byte pairs, addresses strictly rising, none holding 0x00, which is what every unlisted
address reads as (R85, R262; before the first wipe that value is the model's choice, log 4). -/
abbrev Memory := List Host.Cell

/-- The byte at an address. -/
def Memory.read : Memory → Nat → Byte
  | [], _ => 0
  | (k, v) :: rest, a => if k = a then v else if a < k then 0 else Memory.read rest a

/-- Stores one byte; storing 0x00 removes the entry. -/
def Memory.write : Memory → Nat → Byte → Memory
  | [], a, b => if b = 0 then [] else [(a, b)]
  | (k, v) :: rest, a, b =>
    if a < k then (if b = 0 then (k, v) :: rest else (a, b) :: (k, v) :: rest)
    else if a = k then (if b = 0 then rest else (a, b) :: rest)
    else (k, v) :: Memory.write rest a b

/-- Every key of the list is above the bound and the list is in canonical form. -/
def Memory.wfAbove : Option Nat → Memory → Bool
  | _, [] => true
  | lo, (k, v) :: rest =>
    (match lo with
     | none => true
     | some l => decide (l < k)) && v != 0 && Memory.wfAbove (some k) rest

/-- The canonical form: addresses strictly rising and no listed 0x00. -/
def Memory.wf (m : Memory) : Bool := Memory.wfAbove none m

/-- The bytes at the given addresses. -/
def Memory.readAt (m : Memory) (addrs : List Nat) : List Byte := addrs.map m.read

/-- Stores bytes one after another. -/
def Memory.writeList (m : Memory) : List (Nat × Byte) → Memory
  | [] => m
  | (a, b) :: rest => Memory.writeList (m.write a b) rest

/-- n consecutive addresses from a, wrapping at `size`. -/
def wrapAddrs (size a n : Nat) : List Nat := (List.range n).map fun i => (a + i) % size

/-- n consecutive bytes from an address. -/
def Memory.bytes (m : Memory) (a n : Nat) : List Byte := (List.range n).map fun i => m.read (a + i)

/-- Stores consecutive bytes from an address. -/
def Memory.putBytes (m : Memory) (a : Nat) (l : List Byte) : Memory :=
  m.writeList ((List.range l.length).zip l |>.map fun p => (a + p.1, p.2))

/-- The cells of a range, moved to begin at 0. -/
def Memory.slice (m : Memory) (base n : Nat) : Memory :=
  m.filterMap fun c => if base ≤ c.1 ∧ c.1 < base + n then some (c.1 - base, c.2) else none

/-- The cells outside a range. -/
def Memory.erase (m : Memory) (base n : Nat) : Memory :=
  m.filter fun c => decide (c.1 < base) || decide (base + n ≤ c.1)

/-- A little-endian number from bytes (R12). -/
def leNat : List Byte → Nat
  | [] => 0
  | b :: rest => b.toNat + 256 * leNat rest

/-- n little-endian bytes of a number (R12). -/
def leBytes (n v : Nat) : List Byte := (List.range n).map fun i => BitVec.ofNat 8 (v / 256 ^ i)

/-- A little-endian number of n bytes in a memory. -/
def Memory.le (m : Memory) (a n : Nat) : Nat := leNat (m.bytes a n)

/-- Two ranges share a byte. -/
def rangesMeet (a n c k : Nat) : Bool := decide (a < c + k) && decide (c < a + n) && decide (0 < n) && decide (0 < k)

/-- A sparse map: keys strictly rising; a missing key stands for the default its reader gives. -/
abbrev Map (α : Type) := List (Nat × α)

def Map.find? {α : Type} : Map α → Nat → Option α
  | [], _ => none
  | (k, v) :: rest, a => if k = a then some v else Map.find? rest a

def Map.getD {α : Type} (m : Map α) (k : Nat) (d : α) : α := (Map.find? m k).getD d

def Map.set {α : Type} : Map α → Nat → α → Map α
  | [], a, x => [(a, x)]
  | (k, v) :: rest, a, x =>
    if a < k then (a, x) :: (k, v) :: rest
    else if a = k then (a, x) :: rest
    else (k, v) :: Map.set rest a x

def Map.erase {α : Type} (m : Map α) (k : Nat) : Map α := m.filter fun p => p.1 != k

def Map.mapVals {α β : Type} (f : Nat → α → β) (m : Map α) : Map β := m.map fun p => (p.1, f p.1 p.2)

/-- Reads an element of a vector by number; the default stands for a number out of range. -/
def vget {α : Type} {n : Nat} (v : Vector α n) (i : Nat) (d : α) : α := if h : i < n then v[i] else d

/-- Replaces an element of a vector by number; a number out of range changes nothing. -/
def vset {α : Type} {n : Nat} (v : Vector α n) (i : Nat) (x : α) : Vector α n := v.setIfInBounds i x

end Sys2Proof.Machine
end

