-- ==== Sys2Proof/Machine/Digest.lean ====
section
/-! DEFINITION. The digests and signatures that the spec names (R45, R144, R292, R394, R396): SHA-384 and ECDSA P-384 as
FIPS 180-4 and FIPS 186 give them, CRC-32C (PRESUMED: those standards, log 10). -/

namespace Sys2Proof.Machine

/-! ## SHA-384 -/

def wordMod : Nat := 2 ^ 64

/-- Rotation of a 64-bit word to the right. -/
def rotr (x n : Nat) : Nat := (x >>> n) ||| ((x <<< (64 - n)) % wordMod)

/-- The 80 round constants. -/
def shaK : List Nat :=
  [0x428A2F98D728AE22, 0x7137449123EF65CD, 0xB5C0FBCFEC4D3B2F, 0xE9B5DBA58189DBBC] ++
  [0x3956C25BF348B538, 0x59F111F1B605D019, 0x923F82A4AF194F9B, 0xAB1C5ED5DA6D8118] ++
  [0xD807AA98A3030242, 0x12835B0145706FBE, 0x243185BE4EE4B28C, 0x550C7DC3D5FFB4E2] ++
  [0x72BE5D74F27B896F, 0x80DEB1FE3B1696B1, 0x9BDC06A725C71235, 0xC19BF174CF692694] ++
  [0xE49B69C19EF14AD2, 0xEFBE4786384F25E3, 0x0FC19DC68B8CD5B5, 0x240CA1CC77AC9C65] ++
  [0x2DE92C6F592B0275, 0x4A7484AA6EA6E483, 0x5CB0A9DCBD41FBD4, 0x76F988DA831153B5] ++
  [0x983E5152EE66DFAB, 0xA831C66D2DB43210, 0xB00327C898FB213F, 0xBF597FC7BEEF0EE4] ++
  [0xC6E00BF33DA88FC2, 0xD5A79147930AA725, 0x06CA6351E003826F, 0x142929670A0E6E70] ++
  [0x27B70A8546D22FFC, 0x2E1B21385C26C926, 0x4D2C6DFC5AC42AED, 0x53380D139D95B3DF] ++
  [0x650A73548BAF63DE, 0x766A0ABB3C77B2A8, 0x81C2C92E47EDAEE6, 0x92722C851482353B] ++
  [0xA2BFE8A14CF10364, 0xA81A664BBC423001, 0xC24B8B70D0F89791, 0xC76C51A30654BE30] ++
  [0xD192E819D6EF5218, 0xD69906245565A910, 0xF40E35855771202A, 0x106AA07032BBD1B8] ++
  [0x19A4C116B8D2D0C8, 0x1E376C085141AB53, 0x2748774CDF8EEB99, 0x34B0BCB5E19B48A8] ++
  [0x391C0CB3C5C95A63, 0x4ED8AA4AE3418ACB, 0x5B9CCA4F7763E373, 0x682E6FF3D6B2B8A3] ++
  [0x748F82EE5DEFB2FC, 0x78A5636F43172F60, 0x84C87814A1F0AB72, 0x8CC702081A6439EC] ++
  [0x90BEFFFA23631E28, 0xA4506CEBDE82BDE9, 0xBEF9A3F7B2C67915, 0xC67178F2E372532B] ++
  [0xCA273ECEEA26619C, 0xD186B8C721C0C207, 0xEADA7DD6CDE0EB1E, 0xF57D4F7FEE6ED178] ++
  [0x06F067AA72176FBA, 0x0A637DC5A2C898A6, 0x113F9804BEF90DAE, 0x1B710B35131C471B] ++
  [0x28DB77F523047D84, 0x32CAAB7B40C72493, 0x3C9EBE0A15C9BEBC, 0x431D67C49C100D4C] ++
  [0x4CC5D4BECB3E42B6, 0x597F299CFC657E2A, 0x5FCB6FAB3AD6FAEC, 0x6C44198C4A475817]

/-- The initial hash value of SHA-384. -/
def shaInit : List Nat :=
  [0xCBBB9D5DC1059ED8, 0x629A292A367CD507, 0x9159015A3070DD17, 0x152FECD8F70E5939] ++
  [0x67332667FFC00B31, 0x8EB44A8768581511, 0xDB0C2E0D64F98FA7, 0x47B5481DBEFA4FA4]

def shaSig0 (x : Nat) : Nat := rotr x 1 ^^^ rotr x 8 ^^^ (x >>> 7)
def shaSig1 (x : Nat) : Nat := rotr x 19 ^^^ rotr x 61 ^^^ (x >>> 6)
def shaSum0 (x : Nat) : Nat := rotr x 28 ^^^ rotr x 34 ^^^ rotr x 39
def shaSum1 (x : Nat) : Nat := rotr x 14 ^^^ rotr x 18 ^^^ rotr x 41

/-- A big-endian number from bytes. -/
def beNat (l : List Byte) : Nat := l.foldl (fun a b => a * 256 + b.toNat) 0
def beBytes (n v : Nat) : List Byte := (leBytes n v).reverse

/-- The schedule: the last 16 words, newest last; one more word a round. -/
def shaNext (w : List Nat) : List Nat :=
  w.drop 1 ++ [(w.getD 0 0 + shaSig0 (w.getD 1 0) + w.getD 9 0 + shaSig1 (w.getD 14 0)) % wordMod]

/-- The eight working variables. -/
structure ShaVars where
  a : Nat
  b : Nat
  c : Nat
  d : Nat
  e : Nat
  f : Nat
  g : Nat
  h : Nat
  deriving DecidableEq, Repr

def shaRound (k w : Nat) (v : ShaVars) : ShaVars :=
  let t1 := v.h + shaSum1 v.e + ((v.e &&& v.f) ^^^ ((wordMod - 1 - v.e) &&& v.g)) + k + w
  let t2 := shaSum0 v.a + ((v.a &&& v.b) ^^^ (v.a &&& v.c) ^^^ (v.b &&& v.c))
  ⟨(t1 + t2) % wordMod, v.a, v.b, v.c, (v.d + t1) % wordMod, v.e, v.f, v.g⟩

/-- The rounds over the round constants that are left. -/
def shaRounds : List Nat → List Nat → ShaVars → ShaVars
  | [], _, v => v
  | k :: ks, w, v => shaRounds ks (shaNext w) (shaRound k (w.getD 0 0) v)

/-- Consecutive pieces of 8 bytes as big-endian words. -/
def beWords : Nat → List Byte → List Nat
  | 0, _ => []
  | n + 1, l => beNat (l.take 8) :: beWords n (l.drop 8)

def shaBlock (h : ShaVars) (block : List Byte) : ShaVars :=
  let v := shaRounds shaK (beWords 16 block) h
  ⟨(h.a + v.a) % wordMod, (h.b + v.b) % wordMod, (h.c + v.c) % wordMod, (h.d + v.d) % wordMod,
   (h.e + v.e) % wordMod, (h.f + v.f) % wordMod, (h.g + v.g) % wordMod, (h.h + v.h) % wordMod⟩

def shaBlocks : Nat → ShaVars → List Byte → ShaVars
  | 0, h, _ => h
  | n + 1, h, l => shaBlocks n (shaBlock h (l.take 128)) (l.drop 128)

/-- SHA-384: 48 bytes. -/
def sha384 (l : List Byte) : List Byte :=
  let zeros := (128 - (l.length + 17) % 128) % 128
  let padded := l ++ [0x80] ++ List.replicate zeros 0 ++ beBytes 16 (8 * l.length)
  let i := fun n => shaInit.getD n 0
  let h := shaBlocks (padded.length / 128) ⟨i 0, i 1, i 2, i 3, i 4, i 5, i 6, i 7⟩ padded
  beBytes 8 h.a ++ beBytes 8 h.b ++ beBytes 8 h.c ++ beBytes 8 h.d ++ beBytes 8 h.e ++ beBytes 8 h.f

/-! ## ECDSA P-384 -/

def curveP : Nat := 2 ^ 384 - 2 ^ 128 - 2 ^ 96 + 2 ^ 32 - 1
def curveB : Nat := 0xB3312FA7E23EE7E4988E056BE3F82D19181D9C6EFE8141120314088F5013875AC656398D8A2ED19D2A85C8EDD3EC2AEF
def curveN : Nat := 0xFFFFFFFFFFFFFFFFFFFFFFFFFFFFFFFFFFFFFFFFFFFFFFFFC7634D81F4372DDF581A0DB248B0A77AECEC196ACCC52973
def curveG : Nat × Nat :=
  (0xAA87CA22BE8B05378EB1C71EF320AD746E1D3B628BA79B9859F741E082542A385502F25DBF55296C3A545E3872760AB7,
   0x3617DE4A96262C6F5D9E98BF9292DC29F8F41DBD289A147CE9DA3113B5F0B8C00A60B1CE1D7E819D7A431D7C90EA0E5F)

/-- A point in Jacobian coordinates; z = 0 is the point at infinity. -/
structure JPoint where
  x : Nat
  y : Nat
  z : Nat
  deriving DecidableEq, Repr

def JPoint.infinity : JPoint := ⟨1, 1, 0⟩

def subP (a b : Nat) : Nat := (a + curveP - b % curveP) % curveP

def JPoint.double (q : JPoint) : JPoint :=
  let zz := q.z * q.z % curveP
  let m := 3 * (subP q.x zz * ((q.x + zz) % curveP)) % curveP
  let yy := q.y * q.y % curveP
  let s := 4 * q.x * yy % curveP
  let x := subP (m * m) (2 * s)
  ⟨x, subP (m * subP s x) (8 * (yy * yy)), 2 * q.y * q.z % curveP⟩

def JPoint.add (p q : JPoint) : JPoint :=
  if p.z = 0 then q
  else if q.z = 0 then p
  else
    let z1 := p.z * p.z % curveP
    let z2 := q.z * q.z % curveP
    let u1 := p.x * z2 % curveP
    let u2 := q.x * z1 % curveP
    let s1 := p.y * (q.z * z2 % curveP) % curveP
    let s2 := q.y * (p.z * z1 % curveP) % curveP
    if u1 = u2 then (if s1 = s2 then p.double else JPoint.infinity)
    else
      let h := subP u2 u1
      let r := subP s2 s1
      let hh := h * h % curveP
      let hhh := h * hh % curveP
      let v := u1 * hh % curveP
      let x := subP (subP (r * r) hhh) (2 * v)
      ⟨x, subP (r * subP v x) (s1 * hhh), h * (p.z * q.z % curveP) % curveP⟩

/-- a p + b q over bits i - 1 down to 0 of the scalars. -/
def mulAdd (a b : Nat) (p q pq : JPoint) : Nat → JPoint → JPoint
  | 0, acc => acc
  | i + 1, acc =>
    let acc := acc.double
    mulAdd a b p q pq i
      (match a.testBit i, b.testBit i with
       | true, true => acc.add pq
       | true, false => acc.add p
       | false, true => acc.add q
       | false, false => acc)

/-- The power of a number modulo m over bits i - 1 down to 0 of the exponent. -/
def powMod (m b e : Nat) : Nat → Nat → Nat
  | 0, acc => acc
  | i + 1, acc => powMod m b e i (if e.testBit i then acc * acc % m * b % m else acc * acc % m)

def invMod (m a : Nat) : Nat := powMod m (a % m) (m - 2) 384 1

/-- The bytes X then Y name a point on P-384 (R409). -/
def onCurve (key : List Byte) : Bool :=
  let x := beNat (key.take 48)
  let y := beNat ((key.drop 48).take 48)
  decide (x < curveP) && decide (y < curveP) && y * y % curveP == (x * x % curveP * x + 3 * (curveP - x) + curveB) % curveP

/-- ECDSA P-384 verification over a digest, with the key as X then Y and the signature as r then s, each most significant
byte first (R394). -/
def ecdsaVerify (key digest sig : List Byte) : Bool :=
  let r := beNat (sig.take 48)
  let s := beNat ((sig.drop 48).take 48)
  let w := invMod curveN s
  let u1 := beNat digest * w % curveN
  let u2 := r * w % curveN
  let g : JPoint := ⟨curveG.1, curveG.2, 1⟩
  let q : JPoint := ⟨beNat (key.take 48), beNat ((key.drop 48).take 48), 1⟩
  let v := mulAdd u1 u2 g q (g.add q) 384 JPoint.infinity
  let zi := invMod curveP v.z
  onCurve key && decide (0 < r) && decide (r < curveN) && decide (0 < s) && decide (s < curveN) && v.z != 0 &&
    v.x * (zi * zi % curveP) % curveP % curveN == r

/-! ## CRC-32C (R292) -/

def crcBits : Nat → Nat → Nat
  | 0, c => c
  | n + 1, c => crcBits n (if c % 2 = 1 then (c >>> 1) ^^^ 0x82F63B78 else c >>> 1)

def crc32c (l : List Byte) : Nat :=
  (l.foldl (fun c b => crcBits 8 (c ^^^ b.toNat)) 0xFFFFFFFF) ^^^ 0xFFFFFFFF

end Sys2Proof.Machine
end

