-- ==== Sys2Proof/Machine/FloorPlan.lean ====
section
/-! DEFINITION. Identifiers, frontages, neighbours, segments and distances of the floor plan (R18, R33 to R35, R40, R47, R48). -/

namespace Sys2Proof.Machine

def nTiles : Nat := 26880
def nRegions : Nat := 84
def nGates : Nat := 48
def nPorts : Nat := 16

/-- Column and row of a tile id (R18). -/
def tileX (t : Nat) : Nat := t % 192
def tileY (t : Nat) : Nat := t / 192
def tileAt (x y : Nat) : Nat := y * 192 + x

/-- Region of a tile (R18). -/
def regionOf (t : Nat) : Nat := (tileY t / 20) * 12 + tileX t / 16

/-- Quad of a tile (R34). -/
def quadOf (t : Nat) : Nat := (tileY t / 2) * 96 + tileX t / 2

/-- Region of a quad (R34). -/
def regionOfQuad (q : Nat) : Nat := (q / 96 / 10) * 12 + q % 96 / 8

/-- The tiles of a region, ascending (R18). -/
def tilesOfRegion (r : Nat) : List Nat :=
  (List.range 20).flatMap fun j => (List.range 16).map fun i => tileAt (16 * (r % 12) + i) (20 * (r / 12) + j)

/-- First row of side block k: floor(35 k / 2) (R35). -/
def sideRow (k : Nat) : Nat := 35 * k / 2

/-- The side block that holds row y (R35). -/
def sideBlock (y : Nat) : Nat := ((List.range 8).filter fun k => decide (sideRow k ≤ y)).length - 1

/-- The gate that a rim port of a tile leads into (R35, R179); none where the port is no rim port. -/
def rimGate (t port : Nat) : Option Nat :=
  let x := tileX t
  let y := tileY t
  if y = 0 ∧ (port = 0 ∨ port = 4 ∨ port = 5) then some (x / 12)
  else if y = 139 ∧ (port = 2 ∨ port = 8 ∨ port = 9) then some (24 + (191 - x) / 12)
  else if x = 0 ∧ (port = 3 ∨ port = 10 ∨ port = 11) then some (47 - sideBlock y)
  else if x = 191 ∧ (port = 1 ∨ port = 6 ∨ port = 7) then some (16 + sideBlock y)
  else none

/-- The neighbour that a street or avenue port reaches (R178), where it exists. -/
def neighbour (t port : Nat) : Option Nat :=
  let x := tileX t
  let y := tileY t
  match port with
  | 0 => if 1 ≤ y then some (tileAt x (y - 1)) else none
  | 1 => if x + 1 < 192 then some (tileAt (x + 1) y) else none
  | 2 => if y + 1 < 140 then some (tileAt x (y + 1)) else none
  | 3 => if 1 ≤ x then some (tileAt (x - 1) y) else none
  | 4 | 5 => if 8 ≤ y then some (tileAt x (y - 8)) else none
  | 6 | 7 => if x + 8 < 192 then some (tileAt (x + 8) y) else none
  | 8 | 9 => if y + 8 < 140 then some (tileAt x (y + 8)) else none
  | 10 | 11 => if 8 ≤ x then some (tileAt (x - 8) y) else none
  | _ => none

/-- The source port at which a line that left through a port arrives (R180): the opposite port of the same lane. -/
def oppositePort : Nat → Nat
  | 0 => 2
  | 1 => 3
  | 2 => 0
  | 3 => 1
  | 4 => 8
  | 5 => 9
  | 6 => 10
  | 7 => 11
  | 8 => 4
  | 9 => 5
  | 10 => 6
  | 11 => 7
  | p => p

/-- The four segment bitmaps of the floor-plan map (R40). -/
inductive SegKind where
  | streetH
  | streetV
  | avenueEW
  | avenueNS
  deriving DecidableEq, Repr

/-- The segment that a hop through a port uses (R40). -/
def segmentOf (t port : Nat) : Option (SegKind × Nat) :=
  let x := tileX t
  let y := tileY t
  match neighbour t port with
  | none => none
  | some _ =>
    match port with
    | 0 => some (.streetV, (y - 1) * 192 + x)
    | 1 => some (.streetH, y * 191 + x)
    | 2 => some (.streetV, y * 192 + x)
    | 3 => some (.streetH, y * 191 + (x - 1))
    | 4 | 5 => some (.avenueNS, (y - 8) * 192 + x)
    | 6 | 7 => some (.avenueEW, y * 184 + x)
    | 8 | 9 => some (.avenueNS, y * 192 + x)
    | 10 | 11 => some (.avenueEW, y * 184 + (x - 8))
    | _ => none

/-- The street segments of a tile that exist (R43). -/
def streetsOf (t : Nat) : List (SegKind × Nat) := [0, 1, 2, 3].filterMap (segmentOf t)

/-- Every segment whose route depends on a region's thoroughfare (R41): streets with an end tile in it, avenue hops
that start in it, end in it or pass over it. -/
def segmentsOfRegion (r : Nat) : List (SegKind × Nat) :=
  let x0 := 16 * (r % 12)
  let y0 := 20 * (r / 12)
  let streets := (tilesOfRegion r).flatMap streetsOf
  let ew := (List.range 20).flatMap fun j => (List.range 184).filterMap fun x =>
    if x < x0 + 16 ∧ x0 ≤ x + 8 then some (SegKind.avenueEW, (y0 + j) * 184 + x) else none
  let ns := (List.range 16).flatMap fun i => (List.range 132).filterMap fun y =>
    if y < y0 + 20 ∧ y0 ≤ y + 8 then some (SegKind.avenueNS, y * 192 + (x0 + i)) else none
  (streets ++ ew ++ ns).eraseDups

/-- Hops and cycles of a leg of a reference route (R48). -/
def legHops (d : Nat) : Nat := d / 8 + d % 8
def legCycles (d : Nat) : Nat := 3 * (d / 8) + 2 * (d % 8)

/-- Distance of v from the range a to b. -/
def gap (v a b : Nat) : Nat := if v < a then a - v else if b < v then v - b else 0

/-- Distances along and across the side of a gate from a tile (R48). -/
def routeLegs (t g : Nat) : Nat × Nat :=
  let x := tileX t
  let y := tileY t
  if g < 16 then (gap x (12 * g) (12 * g + 11), y)
  else if g < 24 then (gap y (sideRow (g - 16)) (sideRow (g - 15) - 1), 191 - x)
  else if g < 40 then (gap x (180 - 12 * (g - 24)) (191 - 12 * (g - 24)), 139 - y)
  else (gap y (sideRow (47 - g)) (sideRow (48 - g) - 1), x)

/-- Published distance of a tile to a gate in hops and in cycles (R48). -/
def gateHops (t g : Nat) : Nat := legHops (routeLegs t g).1 + legHops (routeLegs t g).2 + 1
def gateCycles (t g : Nat) : Nat := legCycles (routeLegs t g).1 + legCycles (routeLegs t g).2 + 4

end Sys2Proof.Machine
end

