-- ==== Sys2Proof/Machine/Flags.lean ====
section
/-! DEFINITION. The block status byte (R78) and the flags that roundings and conversions set in it. -/

namespace Sys2Proof.Machine

/-- A block status byte (R78): bit 7 always 0. -/
abbrev Status := BitVec 8

/-- No flag set. -/
def Status.none : Status := 0
/-- UNDER_WIN (R78 bit 0). -/
def Status.underWin : Status := 0x01
/-- OVER_WIN (R78 bit 1). -/
def Status.overWin : Status := 0x02
/-- SAT_HI (R78 bit 2). -/
def Status.satHi : Status := 0x04
/-- SAT_LO (R78 bit 3). -/
def Status.satLo : Status := 0x08
/-- NAR (R78 bit 4). -/
def Status.nar : Status := 0x10
/-- CONV_RANGE (R78 bit 5). -/
def Status.convRange : Status := 0x20
/-- PIN (R78 bit 6). -/
def Status.pin : Status := 0x40

/-- The flags a node takes over from a partial sum it adds: PIN and NAR (R75). -/
def Status.carried (s : Status) : Status := s &&& 0x50

/-- Seven flags as GLB_NUM_STATUS shows them (R79). -/
def Status.visible (s : Status) : Status := s &&& 0x7F

/-- The OR of a list of status bytes (R79). -/
def Status.orAll (l : List Status) : Status := l.foldl (· ||| ·) 0

end Sys2Proof.Machine
end

