-- ==== Sys2Proof/Machine/Numerics.lean ====
section
/-! DEFINITION. Number formats, exact values, the two rounding modes and the stochastic rounding
generator (R50 to R68), and the exact accumulator (R69 to R76). -/

namespace Sys2Proof.Machine

/-! ## Exact values -/

/-- An exact rational value `num / den`, `den` positive. Nothing is normalised: only the value counts. -/
structure Q where
  num : Int
  den : Nat
  deriving DecidableEq, Repr

/-- A value of the arithmetic: not a real, or an exact rational. -/
inductive Val where
  | nar
  | real (q : Q)
  deriving DecidableEq, Repr

/-- The value `m × 2^e`. -/
def Q.scale2 (m : Int) (e : Int) : Q :=
  if 0 ≤ e then ⟨m * (2 ^ e.toNat : Nat), 1⟩ else ⟨m, 2 ^ (-e).toNat⟩

def Q.zero : Q := ⟨0, 1⟩
def Q.one : Q := ⟨1, 1⟩
def Q.ofInt (n : Int) : Q := ⟨n, 1⟩
def Q.isNeg (a : Q) : Bool := decide (a.num < 0)
def Q.neg (a : Q) : Q := ⟨-a.num, a.den⟩
def Q.abs (a : Q) : Q := ⟨a.num.natAbs, a.den⟩

/-- Exact sum; equal denominators are kept, which keeps long sums of dyadic values short. -/
def Q.add (a b : Q) : Q :=
  if a.den = b.den then ⟨a.num + b.num, a.den⟩
  else ⟨a.num * b.den + b.num * a.den, a.den * b.den⟩

def Q.sub (a b : Q) : Q := a.add b.neg
def Q.mul (a b : Q) : Q := ⟨a.num * b.num, a.den * b.den⟩

/-- Exact quotient by a non-zero value. -/
def Q.div (a b : Q) : Q :=
  if b.num < 0 then ⟨-(a.num * b.den), a.den * b.num.natAbs⟩
  else ⟨a.num * b.den, a.den * b.num.natAbs⟩

def Q.mul2 (a : Q) (e : Int) : Q :=
  if 0 ≤ e then ⟨a.num * (2 ^ e.toNat : Nat), a.den⟩ else ⟨a.num, a.den * 2 ^ (-e).toNat⟩

/-- `a < b`. -/
def Q.lt (a b : Q) : Bool := decide (a.num * b.den < b.num * a.den)
/-- `a ≤ b`. -/
def Q.le (a b : Q) : Bool := decide (a.num * b.den ≤ b.num * a.den)
/-- The two rationals have one value. -/
def Q.same (a b : Q) : Bool := decide (a.num * b.den = b.num * a.den)

def Q.min (a b : Q) : Q := if a.le b then a else b
def Q.max (a b : Q) : Q := if a.le b then b else a

/-- Floor of the value. -/
def Q.floor (a : Q) : Int := Int.fdiv a.num a.den

/-- Floor of the base-2 logarithm of `p / q`, both positive. -/
def floorLog2 (p q : Nat) : Int :=
  let g : Int := (p.log2 : Int) - (q.log2 : Int)
  -- g - 1 ≤ log2 (p/q) < g + 1
  if 0 ≤ g then (if q * 2 ^ g.toNat ≤ p then g else g - 1)
  else (if q ≤ p * 2 ^ (-g).toNat then g else g - 1)

/-- Exponent k of a non-zero value: 2^k ≤ |a| < 2^(k+1). -/
def Q.exponent (a : Q) : Int := floorLog2 a.num.natAbs a.den

/-! ## Rounding (R57 to R60) -/

/-- The two rounding modes (R58); stochastic rounding carries the 16 random bits of the element (R61). -/
inductive Rounding where
  | rne
  | sr (u : Nat)
  deriving DecidableEq, Repr

/-- A magnitude `p / q` measured in units of 2^unit: the multiple below it and the remainder over `den`. -/
def unitsOf (p q : Nat) (unit : Int) : Nat × Nat × Nat :=
  if 0 ≤ unit then
    let d := q * 2 ^ unit.toNat
    (p / d, p % d, d)
  else
    let n := p * 2 ^ (-unit).toNat
    (n / q, n % q, q)

/-- Rounds a positive magnitude p / q to a multiple of 2^unit by the mode: R59 for RNE, with ties to the multiple
whose lowest bit is clear, and R60 for SR, with f = floor(residue / spacing × 65,536). -/
def roundUnits (r : Rounding) (p q : Nat) (unit : Int) : Nat :=
  match unitsOf p q unit with
  | (a, rem, den) =>
    if rem = 0 then a
    else match r with
    | .rne =>
      if 2 * rem < den then a
      else if den < 2 * rem then a + 1
      else if a % 2 = 0 then a else a + 1
    | .sr u => if u < rem * 65536 / den then a + 1 else a

/-- The width n of the fraction field of exponent k, tier D spacing carried on without limit (R52, R57). -/
def fracBits (k : Int) : Nat :=
  if -4 ≤ k ∧ k ≤ 3 then 11
  else if -20 ≤ k ∧ k ≤ 19 then 8
  else if -84 ≤ k ∧ k ≤ 83 then 5
  else 3

/-- The code of the positive T16 value with exponent k (from -339 to 339) and fraction f of width `fracBits k` (R52). -/
def encodePos (k : Int) (f : Nat) : Nat :=
  if -4 ≤ k ∧ k ≤ 3 then (k + 4).toNat * 2048 + f
  else if -20 ≤ k ∧ k ≤ -5 then 0x4000 + (k + 20).toNat * 256 + f
  else if 4 ≤ k ∧ k ≤ 19 then 0x4000 + (k + 12).toNat * 256 + f
  else if -84 ≤ k ∧ k ≤ -21 then 0x6000 + (k + 84).toNat * 32 + f
  else if 20 ≤ k ∧ k ≤ 83 then 0x6000 + (k + 44).toNat * 32 + f
  else if k < 0 then 0x7000 + (k + 340).toNat * 8 + f
  else 0x7000 + (k + 172).toNat * 8 + f

/-- The positive value m × 2^unit (m positive, on the grid) as a T16 magnitude and its flags (R57 items 3 and 4). -/
def encodeMag (m : Nat) (unit : Int) : Nat × Status :=
  let k : Int := (m.log2 : Int) + unit
  if 339 < k then (0x7FFF, Status.satHi)
  else if k < -339 then (0x7008, Status.satLo)
  else
    let n := fracBits k
    let f := if n ≤ m.log2 then m / 2 ^ (m.log2 - n) else m * 2 ^ (n - m.log2)
    (encodePos k (f - 2 ^ n), Status.none)

def codeZero : Code := 0x7000
def codeNar : Code := 0xF000

/-- Rounds an exact value to T16 (R57). A NaR result sets NAR (R78). -/
def roundT16 (r : Rounding) : Val → Code × Status
  | .nar => (codeNar, Status.nar)
  | .real x =>
    if x.num = 0 then (codeZero, Status.none)
    else
      let k := x.exponent
      let unit : Int := k - (fracBits k : Int)
      let m := roundUnits r x.num.natAbs x.den unit
      match encodeMag m unit with
      | (c, st) => (BitVec.ofNat 16 (c + if x.num < 0 then 0x8000 else 0), st)

/-- The fields of a T16 code: sign, exponent, fraction and its width; nothing for zero, NaR and the reserved codes (R52). -/
def t16Fields (c : Code) : Option (Bool × Int × Nat × Nat) :=
  let n := c.toNat
  let s := c.getLsbD 15
  if !c.getLsbD 14 then
    some (s, (n / 2048 % 8 : Nat) - 4, n % 2048, 11)
  else if !c.getLsbD 13 then
    let e : Nat := n / 256 % 32
    some (s, if e < 16 then (e : Int) - 20 else (e : Int) - 12, n % 256, 8)
  else if !c.getLsbD 12 then
    let e : Nat := n / 32 % 128
    some (s, if e < 64 then (e : Int) - 84 else (e : Int) - 44, n % 32, 5)
  else
    let e : Nat := n / 8 % 512
    if e = 0 then none
    else some (s, if e < 256 then (e : Int) - 340 else (e : Int) - 172, n % 8, 3)

/-- The value of a T16 code (R52, R53): reserved codes read as NaR. -/
def t16Val (c : Code) : Val :=
  match t16Fields c with
  | some (s, k, f, n) =>
    let m : Int := ((2 ^ n + f : Nat) : Int)
    .real (Q.scale2 (if s then -m else m) (k - n))
  | none => if c = codeZero then .real Q.zero else .nar

/-- The order key of a T16 code (R55). -/
def t16Key (c : Code) : Int :=
  match t16Fields c with
  | some (s, k, f, n) =>
    let mag : Int := (k + 340) * 2048 + ((f * 2 ^ (11 - n) : Nat) : Int)
    if s then -mag else mag
  | none => if c = codeZero then 0 else -(4194304)

/-- The code is NaR or one of the reserved codes, which read as NaR (R53). -/
def t16IsNar (c : Code) : Bool := (t16Fields c).isNone && c != codeZero

/-- Negation (R56). -/
def t16Neg (c : Code) : Code :=
  if t16IsNar c then codeNar else if c = codeZero then codeZero else c ^^^ 0x8000

/-- Absolute value (R56). -/
def t16Abs (c : Code) : Code :=
  if t16IsNar c then codeNar else if c = codeZero then codeZero else c &&& 0x7FFF

/-! ## The stochastic rounding generator (R61, R62) -/

def srMix (z : Word) : Word :=
  let z1 := (z ^^^ (z >>> 30)) * 0xBF58476D1CE4E5B9#64
  let z2 := (z1 ^^^ (z1 >>> 27)) * 0x94D049BB133111EB#64
  z2 ^^^ (z2 >>> 31)

/-- The 16 random bits of one rounding (R61); row and col keep their low 40 and 32 bits (R62). -/
def srBits (seed step : Word) (tensorId row col : Nat) : Nat :=
  let h0 := srMix (seed ^^^ srMix step)
  let h1 := srMix (h0 ^^^ (BitVec.ofNat 64 (tensorId % 2 ^ 24) <<< 40) ^^^ BitVec.ofNat 64 (row % 2 ^ 40))
  let h2 := srMix (h1 ^^^ BitVec.ofNat 64 (col % 2 ^ 32))
  h2.toNat % 65536

/-! ## Other formats (R63 to R68) -/

/-- The numeric formats of the format codes (R50). -/
inductive Fmt where
  | t16 | bf16 | e4m3 | e5m2 | mx4 | mx5
  deriving DecidableEq, Repr

/-- The format of a 3-bit format code; 6 and 7 are reserved (R50). -/
def Fmt.ofCode : Nat → Option Fmt
  | 0 => some .t16
  | 1 => some .bf16
  | 2 => some .e4m3
  | 3 => some .e5m2
  | 4 => some .mx4
  | 5 => some .mx5
  | _ => none

/-- Bytes of one element. -/
def Fmt.bytes : Fmt → Nat
  | .t16 => 2
  | .bf16 => 2
  | _ => 1

/-- A small binary float: exponent width, fraction width, bias; all-ones exponents are decoded by the callers. -/
def floatVal (eBits fBits : Nat) (bias : Int) (sign : Bool) (n : Nat) : Q :=
  let f := n % 2 ^ fBits
  let e := n / 2 ^ fBits % 2 ^ eBits
  let m : Int := if e = 0 then (f : Nat) else ((2 ^ fBits + f : Nat) : Int)
  Q.scale2 (if sign then -m else m) ((if e = 0 then 1 else (e : Int)) - bias - fBits)

def bf16Val (c : Code) : Val :=
  if c.toNat / 128 % 256 = 255 then .nar else .real (floatVal 8 7 127 (c.getLsbD 15) c.toNat)

def e4m3Val (b : Byte) : Val :=
  if b.toNat % 128 = 127 then .nar else .real (floatVal 4 3 7 (b.getLsbD 7) b.toNat)

def e5m2Val (b : Byte) : Val :=
  if b.toNat / 4 % 32 = 31 then .nar else .real (floatVal 5 2 15 (b.getLsbD 7) b.toNat)

/-- The value of an element of codes 0 to 3 held in 16 bits (its low byte for the 8-bit formats; R50, R63, R65). -/
def Fmt.val (f : Fmt) (c : Code) : Val :=
  match f with
  | .t16 => t16Val c
  | .bf16 => bf16Val c
  | .e4m3 | .mx4 => e4m3Val (c.setWidth 8)
  | .e5m2 | .mx5 => e5m2Val (c.setWidth 8)

/-- Conversion of an element to T16 (R63, R65): exact but for BF16 outside the tiers' width. -/
def toT16 (r : Rounding) (f : Fmt) (c : Code) : Code × Status :=
  match f with
  | .t16 => if t16IsNar c then (codeNar, Status.nar) else (c, Status.none)
  | _ => roundT16 r (f.val c)

/-- Rounds a real value into a small float with a least normal exponent, fraction width and largest magnitude:
the magnitude's code without sign, and CONV_RANGE where it saturates or flushes to zero (R64, R66). -/
def toSmall (r : Rounding) (x : Q) (eMin : Int) (fBits : Nat) (maxM : Nat) (maxUnit : Int) (maxCode : Nat) :
    Nat × Status :=
  let k := x.exponent
  let unit : Int := (if k < eMin then eMin else k) - fBits
  let m := roundUnits r x.num.natAbs x.den unit
  if m = 0 then (0, Status.convRange)
  else
    let tooBig : Bool :=
      if maxUnit ≤ unit then decide (maxM < m * 2 ^ (unit - maxUnit).toNat)
      else decide (maxM * 2 ^ (maxUnit - unit).toNat < m)
    if tooBig then (maxCode, Status.convRange)
    else
      -- exponent field counted from the least normal exponent; a carry out of the fraction moves into it
      let e : Int := unit + fBits - eMin
      (e.toNat * 2 ^ fBits + m, Status.none)

/-- T16 value to BF16 (R64). -/
def toBf16 (r : Rounding) : Val → Code × Status
  | .nar => (0x7FC0, Status.nar)
  | .real x =>
    if x.num = 0 then (0, Status.none)
    else match toSmall r x (-126) 7 255 120 0x7F7F with
      | (0, st) => (0, st)
      | (c, st) => (BitVec.ofNat 16 (c + if x.num < 0 then 0x8000 else 0), st)

/-- T16 value to E4M3 (R66). -/
def toE4m3 (r : Rounding) : Val → Byte × Status
  | .nar => (0x7F, Status.nar)
  | .real x =>
    if x.num = 0 then (0, Status.none)
    else match toSmall r x (-6) 3 14 5 0x7E with
      | (0, st) => (0, st)
      | (c, st) => (BitVec.ofNat 8 (c + if x.num < 0 then 0x80 else 0), st)

/-- T16 value to E5M2 (R66). -/
def toE5m2 (r : Rounding) : Val → Byte × Status
  | .nar => (0x7F, Status.nar)
  | .real x =>
    if x.num = 0 then (0, Status.none)
    else match toSmall r x (-14) 2 7 13 0x7B with
      | (0, st) => (0, st)
      | (c, st) => (BitVec.ofNat 8 (c + if x.num < 0 then 0x80 else 0), st)

/-- Rounds an exact value once into the destination format (R57 to R60, R64, R66); 8-bit codes stand in the low byte. -/
def Fmt.round (f : Fmt) (r : Rounding) (v : Val) : Code × Status :=
  match f with
  | .t16 => roundT16 r v
  | .bf16 => toBf16 r v
  | .e4m3 | .mx4 => let x := toE4m3 r v; (x.1.setWidth 16, x.2)
  | .e5m2 | .mx5 => let x := toE5m2 r v; (x.1.setWidth 16, x.2)

/-- One element of an MXFP8 block with scale byte X, as T16 (R67). -/
def mxElement (five : Bool) (x : Byte) (e : Byte) : Code × Status :=
  if x = 0xFF then (codeNar, Status.nar)
  else match (if five then e5m2Val e else e4m3Val e) with
    | .nar => (codeNar, Status.nar)
    | .real q => roundT16 .rne (.real (q.mul2 ((x.toNat : Int) - 127)))

/-- The scale byte of a block of T16 codes written as MXFP8 (R68). -/
def mxScale (codes : List Code) : Byte :=
  let ks := codes.filterMap fun c => (t16Fields c).map fun p => p.2.1
  match ks with
  | [] => 0
  | k0 :: rest =>
    let kmax := rest.foldl (fun a b => if a < b then b else a) k0
    let x : Int := kmax - 7 + 127
    if x < 0 then 0 else if 254 < x then 254 else BitVec.ofInt 8 x

/-- A block of T16 codes as MXFP8 with E4M3 elements: the scale, the elements and the flags (R68). -/
def mxWrite (codes : List Code) : Byte × List Byte × Status :=
  let x := mxScale codes
  let es := codes.map fun c =>
    toE4m3 .rne (match t16Val c with
      | .nar => .nar
      | .real q => .real (q.mul2 (127 - (x.toNat : Int))))
  (x, es.map (·.1), Status.orAll (es.map (·.2)))

/-! ## Arithmetic on values -/

def Val.add : Val → Val → Val
  | .real a, .real b => .real (a.add b)
  | _, _ => .nar

def Val.neg : Val → Val
  | .real a => .real a.neg
  | .nar => .nar

def Val.sub (a b : Val) : Val := a.add b.neg

def Val.mul : Val → Val → Val
  | .real a, .real b => .real (a.mul b)
  | _, _ => .nar

/-! ## The exact accumulator (R70 to R76) -/

/-- The NaR marker of an accumulator (R70). -/
def accNar : Int := -(2 ^ 191)

/-- The largest magnitude of the window, 2^(A+1) − 2^(A−159), as an accumulator integer (R72). -/
def accWindowTop : Int := 2 ^ 160 - 1

/-- An accumulator sum under way: the integer, the flags, and whether this sum has pinned (R73). -/
structure AccSum where
  s : Int
  st : Status
  pinned : Bool
  deriving DecidableEq, Repr

/-- Adds an integer already on the accumulator's grid (R72 item 4, R73). -/
def AccSum.addInt (a : AccSum) (c : Int) : AccSum :=
  if a.s = accNar ∨ a.pinned then a
  else
    let t := a.s + c
    if t < -(2 ^ 191) + 1 then ⟨-accWindowTop, a.st ||| Status.pin ||| Status.overWin, true⟩
    else if 2 ^ 191 - 1 < t then ⟨accWindowTop, a.st ||| Status.pin ||| Status.overWin, true⟩
    else { a with s := t }

/-- A value on the accumulator's grid of the anchor: clamped to the window and truncated towards zero (R72 items 2, 3). -/
def accContribution (anchor : Int) (x : Q) : Int × Status :=
  if x.num = 0 then (0, Status.none)
  else
    match unitsOf x.num.natAbs x.den (anchor - 159) with
    | (m, rem, _) =>
      if 2 ^ 160 ≤ m then (if x.num < 0 then -accWindowTop else accWindowTop, Status.overWin)
      else ((if x.num < 0 then -(m : Int) else m), if rem = 0 then Status.none else Status.underWin)

/-- One contribution to a sum (R72). A NaR among the contributions after pinning still sets the marker (R73). -/
def AccSum.add (anchor : Int) (a : AccSum) : Val → AccSum
  | .nar => { a with s := accNar, st := a.st ||| Status.nar }
  | .real x =>
    if a.pinned then a
    else
      match accContribution anchor x with
      | (c, st) => ({ a with st := a.st ||| st } : AccSum).addInt c

/-- A partial sum in wide form with the block status it came with (R72, R75). -/
def AccSum.addWide (a : AccSum) (w : Int) (st : Status) : AccSum :=
  let a := { a with st := a.st ||| st.carried }
  if w = accNar then { a with s := accNar, st := a.st ||| Status.nar } else a.addInt w

/-- The value that the final rounding of an element takes, and OVER_WIN where it left the window (R74 items 1, 2). -/
def accFinal (anchor : Int) (s : Int) : Val × Status :=
  if s = accNar then (.nar, Status.none)
  else if 2 ^ 160 ≤ s then (.real (Q.scale2 accWindowTop (anchor - 159)), Status.overWin)
  else if s ≤ -(2 ^ 160) then (.real (Q.scale2 (-accWindowTop) (anchor - 159)), Status.overWin)
  else (.real (Q.scale2 s (anchor - 159)), Status.none)

/-- The final rounding of an element into a format (R74). -/
def accRound (f : Fmt) (r : Rounding) (anchor : Int) (s : Int) : Code × Status :=
  let v := accFinal anchor s
  let x := f.round r v.1
  (x.1, v.2 ||| x.2)

/-- The 24 bytes of a wide-form partial sum, little-endian (R75). -/
def wideBytes (s : Int) : List Byte :=
  let b := BitVec.ofInt 192 s
  (List.range 24).map fun i => b.extractLsb' (8 * i) 8

end Sys2Proof.Machine
end

