-- ==== Sys2Proof/Machine/State.lean ====
section
/-! DEFINITION. The state of the module as plain data: every register, memory, queue and mode the spec gives it, the
reasons a step can stop, and the state before power good (R23, R119, R367). -/

namespace Sys2Proof.Machine

/-- The cases of undefined behaviour (R453): the spec gives them no effect, so the model stops. -/
inductive Undef where
  /-- A reserved encoding in a tile instruction or a grid parameter record (R141). Raised by tile instructions. -/
  | reservedEncoding
  /-- The instruction at index 8,191 did not branch (R122). Raised by tile instructions. -/
  | leftProgramStore
  /-- A reserved entry of a slot table (R184). Raised by SLOT_ENTRY. -/
  | reservedSlotEntry
  /-- Two avenue hops in one slot of a track section (R181). Raised by SLOT_ENTRY. -/
  | slotCollision
  /-- Two rings use one rim lane in one gate cycle (R214). Raised by RIM_LINE_SEND and RIM_LINE_RECEIVE. -/
  | rimCollision
  /-- Gate-buffer areas of two active rings overlap (R214). Raised by FRAME_TICK and HOLD_TIMEOUT. -/
  | bufferOverlap
  /-- Two sources of stack writes reach the same bytes in one frame (R227). Raised by STACK_TRANSFER_ISSUE. -/
  | writeOverlap
  /-- A live register is written while its block is active (R439). Raised by the commands of the host ports that
  write a register, and by DOORBELL_ACCEPT for one that waited. -/
  | liveRegister
  /-- The plan has a program on a tile that is dead or dark in the map it was compiled against (R46). Raised by
  FRAME_TICK and HOLD_TIMEOUT. -/
  | deadTile
  /-- The host writes stack space through the aperture while a step is active (R32). Raised by APERTURE_WRITE, and by
  DOORBELL_ACCEPT for a write that waited. -/
  | apertureWrite
  deriving DecidableEq, Repr

/-! ## Shadowed fields (R15, R436) -/

/-- What has been written to a shadowed register since its last commit: the value that the next commit applies, the one that
stood before the core cycle of the last write, and that cycle (R15: a write of a tick's own cycle commits at the tick after). -/
structure Shadow (α : Type) where
  val : Option α
  before : Option α
  wrote : Nat
  deriving DecidableEq, Repr

/-- Nothing has been written since the last commit. -/
def Shadow.clear {α : Type} : Shadow α := ⟨none, none, 0⟩

/-! ## One tile (04, 05, 06, 08) -/

/-- The 64 lanes of a vector register (R109). -/
abbrev Lanes := Vector Code 64

/-- Rounding context: tensor id 24 bits, ROW0 40 bits, COL0 32 bits (R123). -/
structure RndCtx where
  tensor : Nat
  row0 : Nat
  col0 : Nat
  deriving DecidableEq, Repr

/-- What a channel is armed for (R133). -/
inductive ChanUse where
  | idle
  | send
  | recvDeck
  | recvWeights
  deriving DecidableEq, Repr

/-- A local-port channel: address, stride, lines left, and for a weight-buffer target the slot and the next line of
the arming (R133). -/
structure Channel where
  use : ChanUse
  addr : Nat
  stride : Nat
  count : Nat
  slot : Nat
  line : Nat
  deriving DecidableEq, Repr

/-- A result of a vector instruction that is not yet due: cycle, register, mask and lanes (R110, R111). -/
structure VWrite where
  due : Nat
  reg : Nat
  mask : Word
  lanes : Lanes
  deriving DecidableEq, Repr

/-- A result for a mask register that is not yet due; the mask chooses the bits written (R109, R138). -/
structure KWrite where
  due : Nat
  reg : Nat
  mask : Word
  bits : Word
  deriving DecidableEq, Repr

/-- A result for a scalar register that is not yet due (R127). -/
structure SWrite where
  due : Nat
  reg : Nat
  val : Word
  deriving DecidableEq, Repr

/-- A channel arming that slots see from its cycle on (R133). -/
structure ChanWrite where
  due : Nat
  chan : Nat
  val : Channel
  deriving DecidableEq, Repr

/-- A waiting LOADW (R93, R105): issue cycle of the grid, plane, slot, format, width class and transpose bit. -/
structure LoadOp where
  issue : Nat
  plane : Nat
  slot : Nat
  fmt : Fmt
  w8 : Bool
  transpose : Bool
  deriving DecidableEq, Repr

/-- What one PE received from a load: the codes of its weights, whether each came from an uncorrectable word (R91, R93),
and its position nibble (R153). -/
structure PeCell where
  codes : List Code
  bad : List Bool
  nib : Nat
  deriving DecidableEq, Repr

/-- One load of a plane: the grid cycle L at which it began, its parameters, and the columns written so far, each with its
48 PEs (R94, R107). -/
structure PlaneLoad where
  start : Nat
  slot : Nat
  fmt : Fmt
  w8 : Bool
  transpose : Bool
  cols : List (List PeCell)
  deriving DecidableEq, Repr

/-- MODE of a STREAM or DRAIN (R100, R104). -/
inductive GridMode where
  | keep
  | round
  | wide
  deriving DecidableEq, Repr

/-- The sparse block of a grid parameter record (R148). -/
structure SparseBlock where
  skip : Bool
  s24 : Bool
  route : Bool
  first : Bool
  last : Bool
  cclr : Bool
  k : Nat
  skipAddr : Nat
  experts : Nat
  cap : Nat
  dispBase : Nat
  sumBase : Nat
  dropCap : Nat
  deriving DecidableEq, Repr

/-- A STREAM or DRAIN with its grid parameter record as used (R96, R104, R136): the grid cycle and the core cycle of its
issue, the width class of its rows (R97), and the pending status at issue (R269). -/
structure GridOp where
  issue : Nat
  issueAt : Nat
  w8 : Bool
  pendIssue : Status
  drain : Bool
  plane : Nat
  afmt : Fmt
  mode : GridMode
  accIn : Bool
  entry : Nat
  rows : Nat
  inBase : Nat
  inStride : Nat
  outBase : Nat
  outStride : Nat
  statAddr : Nat
  anchor : Int
  ofmt : Fmt
  sr : Bool
  boulevard : Bool
  tensor : Nat
  col0 : Nat
  row0 : Nat
  sparse : SparseBlock
  deriving DecidableEq, Repr

/-- A row in the feeder queues (R99): its row number, first deck byte, bytes, bytes for each grid row, format, whether the
bitmap declares it zero (R150), its entry of the queues and how many it takes (R154), the lines still to be requested, the
lines read with the cycle of their bank access (R89), the bytes read with the uncorrectable words among them (R91), and the
grid rows whose queue entry was itself uncorrectable. -/
structure RowFetch where
  row : Nat
  base : Nat
  len : Nat
  per : Nat
  fmt : Fmt
  skip : Bool
  slot : Nat
  weight : Nat
  left : List Nat
  got : List (Nat × Nat)
  buf : Memory
  bad : List Nat
  lost : List Nat
  deriving DecidableEq, Repr

/-- A STREAM whose rows the feeder fill still has to request: the next row, and the bitmap byte of its group once it has
been read (R99, R151). -/
structure FeedJob where
  op : GridOp
  next : Nat
  bits : Option Byte
  deriving DecidableEq, Repr

/-- A STREAM or DRAIN under way: the grid cycle of its first row (entry of a STREAM, output of a DRAIN), the pace of
R164, how many rows have left, and the flags raised. -/
structure GridActive where
  op : GridOp
  start : Nat
  pace : Nat
  done : Nat
  flags : Status
  deriving DecidableEq, Repr

/-- A gradient row on the boulevard (R269): key (tensor, row, first column), anchor, status, count of contributions and
the 48 wide elements; the gate that the first region node chose for it (R271). -/
structure WideRow where
  tensor : Nat
  row : Nat
  col0 : Nat
  anchor : Int
  status : Status
  count : Nat
  vals : List Int
  gate : Option Nat
  deriving DecidableEq, Repr

/-- A line write of the output queue: deck address within one line, bytes, and the block status that it writes (R79, R86,
R103). -/
structure OutWrite where
  addr : Nat
  data : List Byte
  flags : Status
  deriving DecidableEq, Repr

/-- An entry of the output queue (R82, R86, R106): whether it counts as one of the 16 rows (placement and summary writes of
R164 do not), the row that waits for the boulevard port (R269), and the line writes still to be made. -/
structure OutRow where
  counts : Bool
  wide : Option WideRow
  writes : List OutWrite
  deriving DecidableEq, Repr

/-- What the selection network has still to do, in order (R159, R160, R162, R164): clear the counters, place one pair of a
token, write a line of a summary. -/
inductive RouteItem where
  | clear
  | place (sp : SparseBlock) (token rank : Nat) (score : Code) (expert : Nat)
  | summary (sp : SparseBlock) (start line : Nat)
  deriving DecidableEq, Repr

/-- What an access of the vector row or of LDS and STS serves (R110, R130). -/
inductive VecUse where
  /-- VLD, VGATHER: format, destination, mask and the address of each lane. -/
  | load (f : Fmt) (reg : Nat) (mask : Word) (addrs : List Nat)
  /-- LDS: destination and address. -/
  | lds (reg addr : Nat)
  /-- Stores: bytes in the order in which they stand. -/
  | store (bytes : List (Nat × Byte))
  /-- VSCADD while it reads: the active lanes in ascending order with address, addend and rounding. -/
  | scadd (f : Fmt) (lanes : List (Nat × Code × Rounding))
  deriving DecidableEq, Repr

/-- An instruction whose deck accesses are under way (R110, R114): for each cycle still to come the lines it accesses, and
the bytes read so far with the uncorrectable words among them. -/
structure VecAcc where
  steps : List (List Nat)
  use : VecUse
  buf : Memory
  bad : List Nat
  deriving DecidableEq, Repr

/-- What the copy engine runs (R95, R137): offset in the weight buffer, row stride and row length; pattern; a copy. -/
inductive CopyKind where
  | wfill (off stride rowBytes : Nat)
  | dfill (pattern : Nat)
  | dcopy
  deriving DecidableEq, Repr

/-- A copy under way: first cycle, source and destination, bytes in all and bytes of the chunks done, the lines of the
current chunk still to be read and to be written, and its bytes read so far by offset, with their error mark. -/
structure CopyJob where
  kind : CopyKind
  start : Nat
  src : Nat
  dst : Nat
  bytes : Nat
  done : Nat
  rd : List Nat
  wr : List Nat
  buf : List (Nat × Byte × Bool)
  deriving DecidableEq, Repr

/-- A write on its way to the weight buffer (R89, R95, R186): its cycle, the bytes by offset with their error mark, and
whether it is the copy engine's. -/
structure LateWrite where
  due : Nat
  cells : List (Nat × Byte × Bool)
  copy : Bool
  deriving DecidableEq, Repr

/-- What a tile's sequencer waits for (R126, R131, R132, R134). -/
inductive Wait where
  | none
  | halted
  | frames (n : Nat)
  | window (started : Bool) (left : Nat)
  | sync (domain : Nat)
  | stopped
  deriving DecidableEq, Repr

/-- Switch state of a crossing (R183): the source of each destination and the channels bound to the two lanes. -/
structure Switch where
  conn : Map Nat
  send : Option Nat
  recv : Option Nat
  deriving DecidableEq, Repr

/-- A line queued for the deck (R186): line address, its 64 bytes, and its place in the line queue's memory (R83). -/
structure QueuedLine where
  addr : Nat
  data : List Byte
  slot : Nat
  deriving DecidableEq, Repr

/-- A test slice that runs on the tile (R384): the region's controller started it in this window. -/
structure SliceRun where
  target : Nat
  deriving DecidableEq, Repr

/-- The state of one tile. -/
structure Tile where
  /-- The cycle up to which the tile's engines have run; whether the arbitration of that cycle has been resolved, and the
  banks taken in it (R84, R86, R110). -/
  at_ : Nat
  half : Bool
  busy : List Nat
  deck : Memory
  staging : Memory
  /-- Words (of 8 bytes) of the deck with a single-bit error, and with an uncorrectable one (R90). -/
  deckCe : List Nat
  deckUe : List Nat
  stagingCe : List Nat
  stagingUe : List Nat
  /-- Loads of the two planes, newest first; none stands for T16 zero in every PE (R119). -/
  plane0 : List PlaneLoad
  plane1 : List PlaneLoad
  /-- Accumulator entries, keyed 48 × entry + column; a missing one is 0 (R100, R119). -/
  acc : Map Int
  pending : Status
  v : Vector Lanes 32
  k : Vector Word 8
  s : Vector Word 32
  rc : Vector RndCtx 4
  chan : Vector Channel 16
  pc : Nat
  wait : Wait
  vDue : List VWrite
  kDue : List KWrite
  sDue : List SWrite
  chanDue : List ChanWrite
  /-- First cycle in which the sequencer may issue (R127). -/
  nextIssue : Nat
  /-- Cycles from which the function unit is free and the last store's lines are written (R110, R118). -/
  funcFree : Nat
  storeDone : Nat
  /-- Deck accesses of instructions under way, oldest first; the copy engine; writes on their way to the weight buffer. -/
  vq : List VecAcc
  copy : Option CopyJob
  late : List LateWrite
  /-- Grid stall cycles so far: grid time is `now` less these (R106). -/
  stalls : Nat
  loadQ : List LoadOp
  /-- Width class of the last LOADW issued for each plane, which the rows of a STREAM issued next have (R97). -/
  wide0 : Bool
  wide1 : Bool
  streamQ : List GridOp
  active : List GridActive
  /-- The feeder fill: streams with rows still to request, rows in the queues oldest first, the next queue entry (R99). -/
  feedQ : List FeedJob
  rows : List RowFetch
  feedSlot : Nat
  /-- Grid cycles L_prev + 48, Z + 1 and Q + 1 of R94, R99 and R104. -/
  loadNext : Nat
  zNext : Nat
  qNext : Nat
  drainNext : Nat
  /-- The output queue (R82, R86, R272). -/
  outQ : List OutRow
  /-- Expert routing (R158 to R160, R165): lists keyed by entry, best first; fill counters; DROPS; LISTED; and what the
  selection network has still to do (R162, R164). -/
  routes : Map (List (Code × Nat))
  fill : Map Nat
  drops : Nat
  listed : Nat
  places : List RouteItem
  /-- SYNC: domains with an arrival that has not completed (R134). -/
  arrived : List Nat
  /-- Crossing (R182 to R186): switch state, cycles of the last applied entry, of the last send read and of the last queued
  writes, lines at destination 12, write queue. -/
  switch : Switch
  entryAt : Option Nat
  sendAt : Option Nat
  drainAt : Option Nat
  rx : List (List Byte)
  wq : List QueuedLine
  /-- Test slices (R384 to R387): the running one, slices run since Dawn, frame of the last one. -/
  slice : Option SliceRun
  slices : Nat
  lastSlice : Nat
  deriving DecidableEq, Repr

def Channel.reset : Channel := ⟨.idle, 0, 0, 0, 0, 0⟩
def Switch.cleared : Switch := ⟨[], none, none⟩
def Lanes.zero : Lanes := Vector.replicate 64 codeZero

/-- A tile after a reset (R85, R119): memories 0x00, planes T16 zero, accumulators 0, lanes 0x7000, masks all ones,
scalars 0, contexts 0, channels idle, PC 0, halted. -/
def Tile.reset : Tile where
  at_ := 0
  half := false
  busy := []
  deck := []
  staging := []
  deckCe := []
  deckUe := []
  stagingCe := []
  stagingUe := []
  plane0 := []
  plane1 := []
  acc := []
  pending := 0
  v := Vector.replicate 32 Lanes.zero
  k := Vector.replicate 8 (BitVec.allOnes 64)
  s := Vector.replicate 32 0
  rc := Vector.replicate 4 ⟨0, 0, 0⟩
  chan := Vector.replicate 16 Channel.reset
  pc := 0
  wait := .halted
  vDue := []
  kDue := []
  sDue := []
  chanDue := []
  nextIssue := 0
  funcFree := 0
  storeDone := 0
  vq := []
  copy := none
  late := []
  stalls := 0
  loadQ := []
  wide0 := false
  wide1 := false
  streamQ := []
  active := []
  feedQ := []
  rows := []
  feedSlot := 0
  loadNext := 0
  zNext := 0
  qNext := 0
  drainNext := 0
  outQ := []
  routes := []
  fill := []
  drops := 0
  listed := 0
  places := []
  arrived := []
  switch := Switch.cleared
  entryAt := none
  sendAt := none
  drainAt := none
  rx := []
  wq := []
  slice := none
  slices := 0
  lastSlice := 0

/-- A line on a street, an avenue or on its way from a local port or a rim port to a source of a crossing (R180):
destination tile and source port, the cycle in which it is present there and the one in which it left, the 64 bytes. -/
structure Flight where
  tile : Nat
  port : Nat
  due : Nat
  left : Nat
  data : List Byte
  deriving DecidableEq, Repr

/-- A line on its way to a gate (R180): gate, frontage tile, rim port, cycle of arrival, data. -/
structure RimFlight where
  gate : Nat
  tile : Nat
  port : Nat
  due : Nat
  data : List Byte
  deriving DecidableEq, Repr

/-! ## Gates, rings and stacks (09, 10) -/

/-- STATE of a ring (STRM_STATE, R228). -/
inductive RingState where
  | idle
  | active
  | faulted
  | done
  | error
  deriving DecidableEq, Repr

/-- A stack or host transfer of a block (R223): offset in the block's stream or compressed bytes, address and length. -/
structure Xfer where
  off : Nat
  addr : Nat
  len : Nat
  /-- The group frame whose EOF counts these bytes of a class 3 ring (R302). -/
  eof : Option Nat
  deriving DecidableEq, Repr

/-- A block of a ring in the gate buffer (R215, R217, R220): its stream bytes, the words of them that are uncorrectable,
the compressed bytes of the walk side by their offset from BASE, the reads and writes not yet issued, how many writes are in
flight, and how far it has come: requested and complete in the buffer (core cycles, R227), complete at the tick that began its due frame (R218),
what of it has been sent or given to its writes, all of its writes in the stack (R222), and the elements before the first
one outside the slice, where there is one (R245). -/
structure Block where
  num : Nat
  bytes : Memory
  bad : List Nat
  packed : Memory
  reads : List Xfer
  writes : List Xfer
  inFlight : Nat
  complete : Bool
  sent : Nat
  reqAt : Nat
  doneAt : Nat
  go : Bool
  done : Bool
  cut : Option Nat
  deriving DecidableEq, Repr

/-- An arming of a ring (R228): its SEQ, committed descriptor, origin, window and progress. -/
structure Arming where
  /-- Tells the ring's walks apart, those that a REPEAT ring begins anew included (R231); the model's own. -/
  gen : Nat
  seq : Nat
  desc : List Byte
  /-- FRM_COUNT of frame 0 (R216). -/
  origin : Nat
  /-- Oldest block not released, which is also the count of blocks completed at the destination in order since the origin
  (R217, R238), and the next block to request. -/
  released : Nat
  requested : Nat
  blocks : List Block
  /-- Stream-side bytes delivered (R233). -/
  delivered : Nat
  /-- Compressed bytes written so far and elements not yet in a full group (R241 to R243). -/
  packPos : Nat
  packCarry : List Code
  /-- An uncorrectable word was delivered (R245). -/
  ecc : Bool
  finalPosted : Bool
  /-- Stream bytes received so far on a link, the padding of the last line included (class 3). -/
  received : Nat
  deriving DecidableEq, Repr

/-- A page fault of a ring (R236): page, resume element, wall time of the Page Request. -/
structure FaultInfo where
  page : Nat
  resume : Nat
  since : Nat
  deriving DecidableEq, Repr

/-- One of the 1,024 rings of a gate (R211, R228, R233). -/
structure Ring where
  pendDesc : Shadow (List Byte)
  pendCmd : Shadow Nat
  desc : List Byte
  state : RingState
  seq : Nat
  status : Nat
  announced : Nat
  /-- Blocks of a producer that its linked consumer has released since the arming (R238, R239). -/
  consumed : Nat
  /-- Number of the next walk (the model's own). -/
  gen : Nat
  /-- First element not yet delivered, as STRM_IDX shows it. -/
  index : Nat
  arming : Option Arming
  /-- Armings that have ended and whose blocks are still being written (R229). -/
  old : List Arming
  fault : Option FaultInfo
  deriving DecidableEq, Repr

/-- Which engine a stack transfer serves. -/
inductive XferOwner where
  /-- A walk of a ring: ring, walk, block. -/
  | ring (ring gen block : Nat)
  /-- The update unit: layer, global block and plane (R277). -/
  | update (layer blk plane : Nat)
  deriving DecidableEq, Repr

/-- A transfer in flight (R225): performed on the stack in issue order (R227), it holds a tag until it completes. -/
structure StackFlight where
  owner : XferOwner
  write : Bool
  off : Nat
  addr : Nat
  len : Nat
  data : Memory
  bad : List Nat
  eof : Option Nat
  deriving DecidableEq, Repr

/-- A host read in flight (R235): ring, walk, block, offset in the block, host address and length, bytes received, and
the wall time of issue, PCIe port, PASID, and whether it uses a translation. -/
structure HostFlight where
  ring : Nat
  gen : Nat
  block : Nat
  off : Nat
  addr : Nat
  len : Nat
  got : Nat
  since : Nat
  port : Nat
  pasid : Nat
  ats : Bool
  deriving DecidableEq, Repr

/-- STATE of a stack (GATE_STACK_STATUS, R258). -/
inductive StackState where
  | off
  | init
  | wipe
  | ready
  | selfRefresh
  | failed
  deriving DecidableEq, Repr

/-- One gate: its register block, rings, queue, host translations, and its stack's controller. -/
structure Gate where
  strmSel : Nat
  rings : Map Ring
  /-- GATE_CQ_BASE and GATE_CQ_ENTRIES committed and pending, HEAD, TAIL, LOST (R234). -/
  cqBase : Nat
  cqEntries : Nat
  cqBasePend : Shadow Nat
  cqEntriesPend : Shadow Nat
  cqHead : Nat
  cqTail : Nat
  cqLost : Nat
  bufCe : Nat
  bufUe : Nat
  rimDrop : Nat
  flights : List StackFlight
  hostFlights : List HostFlight
  /-- ATS translations held, and requests outstanding: PCIe port, PASID, page (R235). -/
  trans : List (Nat × Nat × Nat)
  transAsked : List (Nat × Nat × Nat)
  /-- GATE_STACK_STATUS and the stack counters (R258). -/
  stackState : StackState
  temp : Int
  pprLeft : Nat
  pprExhausted : Bool
  hot : Bool
  eccCe : Nat
  eccOdc : Nat
  eccUe : Nat
  eccLast : Nat
  refTaken : Nat
  refForced : Nat
  addrErr : Nat
  /-- Corrected bursts per row since Dawn, and the rows that found no place on the repair list (R259). -/
  rowCe : Map Nat
  unlisted : List Nat
  /-- Refresh debt in wall units × rate (one refresh is 3.9 µs), and the wall time up to which it is counted (R253). -/
  debt : Nat
  debtAt : Nat
  /-- Wall times until which a transfer occupies the stack and a refresh window closes it (R224, R253). -/
  busyUntil : Nat
  refreshUntil : Nat
  /-- The core cycle of the last refresh slot taken (R253). -/
  slotAt : Option Nat
  /-- The stack is without power after a failed wipe (R264), until this wall time; the wall time at which it got power again for
  its second initialisation and wipe. -/
  powerOffUntil : Option Nat
  reinit : Option Nat
  /-- Writes issued in this frame: ring (1,024 for the update unit), address, length (R227). -/
  frameWrites : List (Nat × Nat × Nat)
  deriving DecidableEq, Repr

def Ring.reset : Ring :=
  { pendDesc := Shadow.clear, pendCmd := Shadow.clear, desc := List.replicate 120 0, state := .idle, seq := 0, status := 0,
    announced := 0, consumed := 0, gen := 0, index := 0, arming := none, old := [], fault := none }

/-- A gate at reset (R228, R234, R258): stack off. -/
def Gate.reset : Gate :=
  { strmSel := 0, rings := [], cqBase := 0, cqEntries := 0, cqBasePend := Shadow.clear, cqEntriesPend := Shadow.clear, cqHead := 0,
    cqTail := 0, cqLost := 0, bufCe := 0, bufUe := 0, rimDrop := 0, flights := [], hostFlights := [], trans := [],
    transAsked := [], stackState := .off, temp := 0, pprLeft := 0,
    pprExhausted := false, hot := false, eccCe := 0, eccOdc := 0, eccUe := 0, eccLast := 0, refTaken := 0,
    refForced := 0, addrErr := 0, rowCe := [], unlisted := [], debt := 0, debtAt := 0, busyUntil := 0, refreshUntil := 0, slotAt := none,
    powerOffUntil := none, reinit := none, frameWrites := [] }

/-! ## Boulevard and update units (11) -/

/-- A row on its way between boulevard nodes or into a gate (R270): the node it left and the one it goes to. -/
structure BlvdFlight where
  src : Nat
  dst : Nat
  row : WideRow
  deriving DecidableEq, Repr

/-- The boulevard: rows buffered in each node, oldest first (quad q is node q, region r node 6,720 + r, gate g node
6,804 + g); rows on the links, which still hold their entry in the node they leave until the next one accepts them; the
cycle from which each output is free (tile t, or 26,880 + 6,852 × node + next node); and for each region node the cycle in
which it last accepted rows, with how many came from its quads and from its neighbours (R270 to R272). -/
structure Boulevard where
  nodes : Map (List WideRow)
  links : List BlvdFlight
  free : Map Nat
  taken : Map (Nat × Nat × Nat)
  deriving DecidableEq, Repr

/-- A slot of an update store (R274): layer and block, wide accumulators, row counts, anchor, status, the reduced
gradient once final, the bytes of its planes that it holds a copy of (8,192 × plane + offset; 0xF000 in every element of an
uncorrectable burst), and the new residual of the elements already compressed. -/
structure UpdSlot where
  layer : Nat
  blk : Nat
  acc : Map Int
  counts : Map Nat
  anchor : Option Int
  status : Status
  grad : List Code
  copy : Map Nat
  resid : Map Code
  /-- The unit has asked for the planes it holds no copy of (R276). -/
  asked : Bool
  /-- The block has been updated and its writes are waiting to issue (R274, R277). -/
  updated : Bool
  deriving DecidableEq, Repr

/-- A compression payload held for the group gradient (R282, R284): layer, compression block, member and bytes. -/
structure Payload where
  layer : Nat
  cblock : Nat
  member : Nat
  bytes : List Byte
  deriving DecidableEq, Repr

/-- A transfer of the update unit waiting for the stack (R277): layer, block, plane and offset in it, read or write, address,
length, the bytes of a write, and the cycle since which it waits. -/
structure UpdXfer where
  layer : Nat
  blk : Nat
  plane : Nat
  write : Bool
  off : Nat
  addr : Nat
  len : Nat
  data : List Byte
  at_ : Nat
  deriving DecidableEq, Repr

/-- The update unit of a gate (R274 to R289): step counter, open slots, PEAK of the last completed step and of the one
under way, blocks final and written in the step, payloads held, transfers waiting, blocks ready and not yet updated in the
order in which they became ready, and the cycle from which its arithmetic is free. -/
structure UpdUnit where
  counter : Nat
  slots : List UpdSlot
  peak : Nat
  peakNow : Nat
  finals : List (Nat × Nat)
  written : List (Nat × Nat)
  payloads : List Payload
  queue : List UpdXfer
  ready : List (Nat × Nat)
  freeAt : Nat
  deriving DecidableEq, Repr

/-- A step-open message held for the agreement (R287): member, STEP and ok. -/
structure StepOpenMsg where
  member : Nat
  step : Nat
  ok : Bool
  deriving DecidableEq, Repr

/-- UPD_STEP, UPD_STATUS and the counters common to the update units (R286 to R288). -/
structure Upd where
  pend : Shadow (Nat × Code)
  step : Nat
  eta : Code
  units : Map UpdUnit
  slotWait : Bool
  stale : Bool
  blvdDrop : Bool
  agreed : Bool
  refused : Bool
  mismatch : Bool
  ownOk : Bool
  stallCount : Nat
  dropCount : Nat
  staleCount : Nat
  msgs : List StepOpenMsg
  deriving DecidableEq, Repr

def UpdUnit.reset : UpdUnit := ⟨0, [], 0, 0, [], [], [], [], [], 0⟩
def Boulevard.reset : Boulevard := ⟨[], [], [], []⟩

/-- The update registers at reset (R286, R288): UPD_STEP 0 with ETA 0x7000, every counter 0. -/
def Upd.reset : Upd :=
  { pend := Shadow.clear, step := 0, eta := codeZero, units := [], slotWait := false, stale := false,
    blvdDrop := false, agreed := false, refused := false, mismatch := false, ownOk := false, stallCount := 0,
    dropCount := 0, staleCount := 0, msgs := [] }

/-- A layer of the loaded plan (R143, R265, R266). -/
structure Layer where
  id : Nat
  rule : Nat
  scaleX : Int
  gradSr : Bool
  stateSr : Bool
  exchange : Nat
  topk : Nat
  stateBase : Nat
  openFrame : Nat
  gate0 : Nat
  contrib : Nat
  rows : Nat
  cols : Nat
  gradTensor : Nat
  stateTensor : Nat
  consts : List Code
  deriving DecidableEq, Repr
/-! ## Time and frames (01, 08, 17) -/

/-- The model's clocks: core cycles, cycle of the frame, wall-clock time in units of `wallPerNs` to the nanosecond; the
frequency code in force and the one that takes effect at the next tick (R22, R24); the compute spines run. -/
structure Clock where
  now : Nat
  cycle : Nat
  wall : Nat
  code : Nat
  nextCode : Nat
  running : Bool
  deriving DecidableEq, Repr

/-- A record of the miss log (R202). -/
structure MissRec where
  frame : Nat
  source : Nat
  unit : Nat
  ring : Nat
  wait : Nat
  deriving DecidableEq, Repr

/-- The frame registers (R23, R201 to R206, R430) and what the frame under way has seen: its end reached, the sources
that held its tick, the misses whose wait still counts, the last tile to execute its frame wait, the wait of cycle 0
(R219), and the wall time at which its tick fell due. -/
structure Frm where
  count : Nat
  lenConf : Nat
  lenNow : Nat
  holdRegion : Nat
  holdUnit : Nat
  holdCause : Nat
  timeout : Bool
  strictStop : Bool
  miss : Bool
  stretchFrames : Nat
  stretchCycles : Nat
  missCount : Nat
  missHead : Nat
  missLog : Map MissRec
  /-- The miss log as its window shows it since the last tick (R425). -/
  missShown : Map MissRec
  holdLimit : Nat
  holdLimitPend : Shadow Nat
  ended : Bool
  heldMask : Nat
  openMiss : List Nat
  lastWait : Option Nat
  originWait : Bool
  dueAt : Option Nat
  deriving DecidableEq, Repr

/-! ## The floor-plan map (02) -/

/-- Link table entry (R42). -/
structure LinkEntry where
  width : Nat
  mask : Nat
  result : Nat
  deriving DecidableEq, Repr

/-- A floor-plan map: tile bytes other than 0, dead segments (key 32,768 × bitmap + index), region flags [1:0] other
than 0, link table, GENERATION and CHANGED_AT (R38 to R42). -/
structure FloorMap where
  tiles : Map Nat
  segs : Map Bool
  flags : Map Nat
  links : Map LinkEntry
  gen : Nat
  changedAt : Nat
  deriving DecidableEq, Repr

/-- A change of the live map that waits for the tick (R44). -/
inductive MapChange where
  | tile (t byte : Nat)
  | segment (key : Nat)
  | flag (r bit : Nat)
  | link (p : Nat) (e : LinkEntry)
  /-- A port retrained at the same lanes: only the generation rises (R301). -/
  | generation
  /-- A refurbishment's tile bytes and dead segments replace the map's; a region whose rail tests good is no longer dark (R418). -/
  | rebuild (tiles : Map Nat) (segs : Map Bool)
  | relight (r : Nat)
  deriving DecidableEq, Repr

/-! ## Plans (05) -/

/-- What of a plan header the module keeps (R142). -/
structure PlanHeader where
  strict : Bool
  frameLen : Nat
  framesPerStep : Nat
  stepCount : Nat
  seed : Word
  digest : List Byte
  planId : List Byte
  deriving DecidableEq, Repr

/-- What of a tile image stays beside the program store (R143): ENTRY, SYNC, CODE_BYTES, initial S1 to S31. -/
structure TileImage where
  entry : Nat
  sync : Nat
  codeBytes : Nat
  regs : List Word
  deriving DecidableEq, Repr

/-- A ring template (R143). -/
structure RingTemplate where
  gate : Nat
  ring : Nat
  armed : Bool
  desc : List Byte
  deriving DecidableEq, Repr

/-- An entry of the phase table (R143, R343): the masks list region ids. -/
structure Phase where
  start : Nat
  idle : List Nat
  dusk : List Nat
  deriving DecidableEq, Repr

structure Plan where
  hdr : PlanHeader
  images : Map TileImage
  templates : List RingTemplate
  phases : List Phase
  layers : List Layer
  deriving DecidableEq, Repr

/-- STATE of GLB_PLAN_STATUS (R428). -/
inductive PlanState where
  | none
  | loading
  | loaded
  | running
  | stopped
  deriving DecidableEq, Repr

/-- The plan registers (R428), the plan, and the run (R146, R147, R331): frame of the step, steps completed of the run,
whether the step is the run's first, what the step has collected for its
record, and the failure or refusal that the next tick carries out (R449, R288); the cycles in which an accepted STOP and START
were written (R15, R429). -/
structure PlanCtl where
  base : Nat
  state : PlanState
  refusal : Nat
  stepsDone : Nat
  stopPending : Bool
  startPending : Bool
  plan : Option Plan
  resetNeeded : Bool
  run : Bool
  frameInStep : Nat
  runSteps : Nat
  firstStep : Bool
  stepFrames : Nat
  stepStretch : Nat
  stepMisses : Nat
  stepFlags : Status
  stepMiss : Bool
  failNext : Bool
  refuseNext : Bool
  ceiling : Nat
  /-- The live map changed since the run began (R308). -/
  mapChanged : Bool
  stopAt : Option Nat
  startAt : Option Nat
  deriving DecidableEq, Repr

/-! ## Error records (18) -/

/-- An error record before it has its sequence number (R444). -/
structure ErrRec where
  code : Nat
  fails : Bool
  uncorrected : Bool
  refuses : Bool
  region : Nat
  unit : Nat
  tile : Nat
  ring : Nat
  count : Nat
  addr : Nat
  d0 : Nat
  d1 : Nat
  frame : Nat
  step : Nat
  life : Nat
  cycle : Nat
  deriving DecidableEq, Repr

/-- ERR_STATUS, ERR_NEXT_SEQ, the window by slot, the records of this frame in order of detection, and the first record
of the step that fails it (R435, R447, R449). -/
structure Err where
  record : Bool
  uncorrected : Bool
  stepFailed : Bool
  nextSeq : Nat
  window : Map (List Byte)
  frame : List ErrRec
  firstFail : Option (Nat × Nat)
  deriving DecidableEq, Repr

/-! ## Regions (14, 15, 17) -/

/-- One region: its TILE_REGION counters (R431), sensors (R349), dusk reasons and the frame count at which a ramp back
ends (R352 to R354), e-fuse switches open (R360, R361), rail voltage and last region power (R338 to R341), consecutive frames near each fused
point (R340), and its test slices (R384). -/
structure Region where
  ce : Nat
  ue : Nat
  chanDrop : Nat
  routeDrop : Nat
  temps : List Int
  duskPlan : Bool
  duskHeat : Bool
  heatNext : Bool
  rampPlan : Option Nat
  rampHeat : Option Nat
  dark : Bool
  thorLost : Bool
  power : Nat
  /-- V_set in force, and how far it is above its target after a measurement that lowers it, in mV (R340). -/
  vset : Nat
  lag : Nat
  /-- Power in the last frame in which the region was dusk; power, voltage and temperature of the last in which it was idle (R345). -/
  retW : Option Nat
  leakSeen : Option (Nat × Nat × Int)
  near : List Nat
  sliceTile : Option Nat
  lastSlice : Option Nat
  /-- The region's PWR_REGION entry since the last tick (R425). -/
  shown : List Byte
  deriving DecidableEq, Repr

/-! ## Links and group (12) -/

/-- STATE of a link port (R297 to R301). -/
inductive PortState where
  | quiet
  | window
  | training
  | up
  | recovery
  | down
  | disabled
  deriving DecidableEq, Repr

/-- A sync message (R295). -/
structure SyncMsg where
  kind : Nat
  src : Nat
  arg32 : Nat
  arg64 : Nat
  deriving DecidableEq, Repr

/-- A data flit waiting to be sent: its fields, and for a ring's flit the group frame it is counted in (R302). -/
structure TxFlit where
  dest : Nat
  src : Nat
  lstream : Nat
  start : Bool
  stop : Bool
  data : List Byte
  frame : Option Nat
  /-- The port whose receive buffer a forwarded flit holds (R294, R296). -/
  via : Option Nat
  deriving DecidableEq, Repr

/-- One link port (R290 to R302): status and control registers, counters, training window, sequence numbers, replay
buffer and what of it is to be resent, credits, freed receive buffers, queues, and EOF bookkeeping. -/
structure Port where
  st : PortState
  result : Nat
  mask : Nat
  width : Nat
  peerMember : Nat
  peerPort : Nat
  peerReset : Bool
  disable : Bool
  disablePend : Shadow Bool
  fecCe : Nat
  fecUe : Nat
  replays : Nat
  rxDrop : Nat
  /-- Wall times of the uncorrectable codewords of the last millisecond (R293). -/
  ueTimes : List Nat
  /-- Wall time at which the window closes; of the last wake sent; the partner has answered; wall time at which recovery
  began. -/
  windowEnd : Nat
  wakeAt : Nat
  answered : Bool
  lostAt : Nat
  oldMask : Nat
  txSeq : Nat
  rxSeq : Nat
  nak : Bool
  replay : List Flit
  resend : List Flit
  credits : Nat
  freed : Nat
  slot : Nat
  own : List TxFlit
  fwd : List TxFlit
  fwdLast : Bool
  syncQ : List SyncMsg
  /-- The sync flit last accepted, and how many of its messages have been taken. -/
  syncIn : Option (Flit × Nat)
  /-- Data flits sent for the frame being sent; group frames whose EOF is queued (all below), EOFs received (all below). -/
  sent : Nat
  eofSent : Nat
  eofIn : Nat
  /-- Payloads in receive buffers that wait for a slot of their class 3 ring: LSTREAM, SRC, bytes, and the group frame whose
  EOF counts them (R294, R302). -/
  rxq : List (Nat × Nat × List Byte × Nat)
  deriving DecidableEq, Repr

/-- A READY held from a sync child (R307). -/
structure ReadyMsg where
  port : Nat
  freq : Nat
  stop : Bool
  armed : Bool
  deriving DecidableEq, Repr

/-- A GO received or sent (R308). -/
structure GoMsg where
  freq : Nat
  stop : Bool
  start : Bool
  at_ : Nat
  deriving DecidableEq, Repr

/-- The group (R304 to R309): committed and pending link map, the armed one, GFRAME, LINK_GSTATUS, what is held of the
tick protocol (the group frame whose GO comes next, the GO of the frame under way), FSYNC levels and the wall time of a
tick that FSYNC has fixed, flooded messages seen since the tick, members in reset. -/
structure Group where
  map : List Byte
  mapPend : List Byte
  armed : Option (List Byte)
  badMap : Bool
  gframe : Nat
  formed : Bool
  mapRefused : Bool
  mapCommitted : Bool
  portChange : Bool
  peerResetSeen : Bool
  syncLost : Bool
  readies : List ReadyMsg
  sentReady : Bool
  goNext : Nat
  goMsg : Option GoMsg
  fsyncIn : Bool
  fsyncOut : Bool
  tickAt : Option Nat
  seen : List (Nat × Nat × Nat)
  inReset : List Nat
  /-- The armed map commits now; the next GO gives the group frame of a group just formed (R305, R309). -/
  mapDue : Bool
  adopt : Bool
  deriving DecidableEq, Repr

/-- A reduction message being put together from flits at a gate (R283, R310): source member and bytes so far. -/
structure Assembly where
  port : Nat
  lstream : Nat
  src : Nat
  data : List Byte
  deriving DecidableEq, Repr

/-! ## Host interface (13) -/

/-- SPDM connection of a transport (R335, R398). -/
inductive SpdmState where
  | start
  | version
  | capabilities
  | negotiated
  deriving DecidableEq, Repr

/-- A PCIe function and its port (R317 to R330): PERST_N asserted, link up, D3hot, command bits, MSI-X control, the
MSI-X table as dwords that differ from reset, pending vectors, HOST_APER_BASE, the held doorbell (gate, ring, count) and
the requests that wait behind it (R327), ATS invalidations (page, PASID) that wait for reads (R235). -/
structure HostPort where
  perst : Bool
  linkUp : Bool
  d3 : Bool
  memSpace : Bool
  busMaster : Bool
  msixEnable : Bool
  functionMask : Bool
  maxRead : Nat
  table : Map Nat
  pba : List Nat
  aper : Nat
  held : Option (Nat × Nat × Nat)
  waiting : List Instr
  inval : List (Nat × Nat)
  deriving DecidableEq, Repr

/-- The HOST_ registers common to both ports (R331, R326, R324), the I3C target (R332, R333) and SPDM. -/
structure HostRegs where
  scqBase : Nat
  scqPort : Nat
  scqEntries : Nat
  scqBasePend : Shadow Nat
  scqEntriesPend : Shadow Nat
  scqHead : Nat
  scqTail : Nat
  scqLost : Nat
  dbDrop : Nat
  badAccess : Nat
  lastRec : List Byte
  lastOk : List Byte
  straps : Nat
  staticAddr : Nat
  dynAddr : Option Nat
  eid : Nat
  spdm : Vector SpdmState 3
  deriving DecidableEq, Repr
/-! ## Power (14) -/

/-- The fields of PWR_CAP (R342). -/
structure PwrCap where
  tj : Nat
  fixedFreq : Nat
  policy : Nat
  cap : Nat
  deriving DecidableEq, Repr

/-- What is learned of a phase (R345, R364): K by region, F, the cap code, steps measured, the prediction in W; and the
largest values of the step under way. -/
structure PhaseLearn where
  /-- The THROUGHPUT cap frequency of the step before (R346). -/
  prev : Nat
  k : Map Q
  fixedW : Nat
  known : Bool
  freq : Nat
  steps : Nat
  predict : Nat
  kNow : Map Q
  fixedNow : Nat
  seenNow : Bool
  deriving DecidableEq, Repr

/-- The power controller (R342 to R366): PWR_CAP committed and pending, PWR_FREQ, PWR_STATUS, PWR_INPUT, PWR_EVENTS
[7:0], counters, phases, timers of f_th (wall), levels of the fast lines and their timers (wall). -/
structure Pwr where
  cap : PwrCap
  capPend : Shadow PwrCap
  group : Nat
  request : Nat
  thermal : Nat
  hotRegion : Nat
  hotTemp : Nat
  phase : Nat
  learned : Nat
  vin : Nat
  watts : Nat
  events : Word
  nightCount : Nat
  capExceed : Nat
  heatDuskCount : Nat
  energyNum : Nat
  phases : Map PhaseLearn
  /-- What PWR_PHASE shows since the last tick (R425). -/
  phasesShown : Map PhaseLearn
  lastFall : Option Nat
  lastRise : Option Nat
  tickWall : Nat
  night : Bool
  alertHigh : Bool
  alertSince : Nat
  coolOk : Bool
  coolSince : Nat
  coolStop : Bool
  trip : Bool
  hot85 : Bool
  /-- The next tick ends Night, or restarts the module after a COOL_OK stop (R356, R358). -/
  nightOver : Bool
  restart : Bool
  deriving DecidableEq, Repr

/-! ## Dawn (15) -/

/-- A repair of an SRAM macro (R372 to R374): tile, macro, column or row, spare used, line replaced, retention flag. -/
structure SramRepair where
  tile : Nat
  cellMacro : Nat
  column : Bool
  spare : Nat
  line : Nat
  retention : Bool
  deriving DecidableEq, Repr

/-- Dawn (R367 to R383) and the resets (R388, R389): start (wall), the next wave and the wall time from which it may run,
regions that repeat their wave, wall times at which waves ended, regions read back, regions whose power-off is due, a deck
wipe that failed, the interconnect test, the last stage's end (wall), GLB_DAWN_STATUS counts, GLB_STATUS bits, resets in
progress. -/
structure Dawn where
  on : Bool
  started : Nat
  nextWave : Nat
  waveFrom : Nat
  repeats : List Nat
  waveEnd : Map Nat
  readBack : List Nat
  powerOff : List Nat
  wipeBad : Bool
  interconnect : Bool
  stageEnd : Nat
  newRepairs : Nat
  newDead : Nat
  newSlow : Nat
  retentionRepairs : Nat
  regionsDone : Nat
  bistDone : Bool
  ready : Bool
  /-- READY has been 1 since this Dawn began (R322). -/
  firstReady : Bool
  belowFloor : Bool
  /-- A compute reset is in progress; CMP_RESET_N is low; a full reset is in progress; its cause (R388, R389, R393). -/
  cmpReset : Bool
  cmpPin : Bool
  modReset : Bool
  resetCause : Nat
  powered : Bool
  /-- The next tick starts the compute spines (R382, R389). -/
  release : Bool
  /-- Wafer map entries added in this Dawn (R380). -/
  added : Bool
  /-- This Dawn follows a trial that fell back (R403). -/
  fellBack : Bool
  /-- The frame length that this Dawn's configuration read gives, until the first tick after the read (R23). -/
  lenRead : Option Nat
  deriving DecidableEq, Repr

/-! ## Firmware, configuration, life cycle (16) -/

/-- The owner section of a configuration record as the module uses it (R405): 304 bytes. -/
structure CfgRecord where
  format : Nat
  storeSeq : Nat
  owner : List Byte
  map : FloorMap
  deriving DecidableEq, Repr

/-- One NVM image (R395): its bytes, whether its header and body verified when last checked, and its configuration. -/
structure Image where
  bytes : Memory
  valid : Bool
  cfg : Option CfgRecord
  deriving DecidableEq, Repr

/-- States of the life cycle (R407). -/
inductive LcState where
  | maker
  | stock
  | owned
  | locked
  | transit
  | return_
  | scrap
  deriving DecidableEq, Repr

/-- A life-cycle change whose pending transition is written (R410, R412): operation, new state, RETURN_TO, owner key. -/
structure Transition where
  op : Nat
  target : LcState
  returnTo : LcState
  owner : List Byte
  resetOwner : Bool
  deriving DecidableEq, Repr

/-- The state sector, the fuses and the mask ROM's keys (R394, R395, R407 to R412). -/
structure Sector where
  state : LcState
  returnTo : LcState
  lcSeq : Nat
  pending : Option Transition
  owner : List Byte
  active : Bool
  trial : Bool
  activation : Bool
  svnMin : Nat
  firmwareKey : List Byte
  makerKey : List Byte
  refurbPassed : Bool
  wipeOk : Bool
  changeLife : Nat
  deriving DecidableEq, Repr

/-- The LCS_ and FW_ registers and the firmware that runs (R396 to R406, R419, R420): nonce, last request and its result,
the LCS_REQ window, the log page; the change under way; the authorisations; the image that runs, recovery and its buffer
(R404), STAGE and CFG_STORE with the owner section being stored; the digest of the configuration read at Dawn and C6
(R396, R397); the BIST policy (R381). -/
structure Ctl where
  nonce : List Byte
  lastOp : Nat
  result : Nat
  phase : Nat
  req : List Byte
  logPage : Nat
  change : Option Transition
  cfgAuth : Option (List Byte)
  fwAuth : Option (List Byte)
  fwAuthStaged : Bool
  image : Bool
  recovery : Bool
  buffer : Memory
  cfgLost : Bool
  fallback : Bool
  stageBusy : Bool
  storing : Option (List Byte)
  stageResult : Nat
  src : Nat
  size : Nat
  cfgDigest : List Byte
  chain : List Byte
  retention : Bool
  sliceEn : Bool
  sliceGap : Nat
  deriving DecidableEq, Repr

/-- The service log (R413 to R417): LIFE_BASE, the summary's fields, lists and records, and what of the stack counters
has been added. -/
structure Log where
  lifeBase : Nat
  lifeStored : Nat
  powerCycles : Nat
  thermalCycles : Nat
  tempFrames : List Nat
  trips : Nat
  shorts : Nat
  refurbs : Nat
  nextSeq : Nat
  firstSeq : Nat
  rowsUnlisted : Nat
  head : List Byte
  base : List Byte
  totals : Map (Nat × Nat × Nat)
  added : Map (Nat × Nat × Nat)
  aging : Map (List Nat × Nat)
  sram : List SramRepair
  fuses : List SramRepair
  rows : Map (List (Nat × Nat × Bool))
  records : Map (List Byte)
  deriving DecidableEq, Repr

/-- The test engine (R433, R434) and the slice registers (R387). -/
structure Tst where
  patterns : Nat
  mode : Nat
  wide : Bool
  tile : Nat
  seed : Nat
  signature : Word
  region : Nat
  result : Nat
  busy : Bool
  refurb : Bool
  abort : Bool
  sliceTile : Nat
  sliceResult : Nat
  sliceCount : Nat
  sliceFail : Nat
  sliceAbort : Nat
  deriving DecidableEq, Repr

/-! ## What leaves the module -/

/-- Something that has left the module, newest last in `State.out`. -/
inductive Out where
  /-- An MSI-X message: port, vector (R329). -/
  | msix (port vec : Nat)
  /-- A write to host memory: port, address, bytes (R331). -/
  | hostWrite (port addr : Nat) (data : List Byte)
  /-- A memory read request: port, address, length, PASID, translated (R235). -/
  | hostRead (port addr len pasid : Nat) (translated : Bool)
  /-- An ATS translation request and a PRI Page Request: port, page, PASID (R235, R236). -/
  | atsRequest (port page pasid : Nat)
  | pageRequest (port page pasid : Nat)
  /-- Completion of an ATS invalidation (R235). -/
  | invalidated (port page pasid : Nat)
  /-- Data of an aperture read (R325). -/
  | apertureData (port : Nat) (data : List Byte)
  /-- The response to a management command: its code and what follows (R334, R419). -/
  | response (code : Nat) (data : List Byte)
  /-- The body of the response to an MCTP control command (R333). -/
  | mctp (data : List Byte)
  /-- An SPDM response: transport, response code, the contents that the spec names (R398). -/
  | spdm (tr code : Nat) (data : List Byte)
  /-- A DOE Discovery response (R318). -/
  | doe (port : Nat) (data : List Byte)
  /-- Unsupported Request (R321). -/
  | unsupported (port : Nat)
  /-- A poisoned write reported through AER (R325). -/
  | poisoned (port : Nat)
  /-- A flit on a port; a wake on every lane of a port; a transition of FSYNC_OUT (R291, R297, R306). -/
  | flit (p : Nat) (f : Flit)
  | wake (p : Nat)
  /-- What a port sends in training: its GROUP_ID, MEMBER and port number (R299). -/
  | identity (p group member : Nat)
  | fsync (level : Bool)
  /-- Acknowledgement of a dynamic address on the I3C bus (R332). -/
  | i3cAddress (addr : Nat)
  deriving DecidableEq, Repr

/-! ## The module -/

structure State where
  clk : Clock
  frm : Frm
  map : FloorMap
  mapNext : List MapChange
  /-- FRM_COUNT of the oldest live-map change not yet in the stored map (R36). -/
  mapDirty : Option Nat
  plan : PlanCtl
  err : Err
  /-- The core cycle in which hardware last set each W1C bit: 64 × the register's number of `W1cReg` + bit (R16). -/
  setAt : Map Nat
  /-- GLB_NUM_STATUS and the flags of the frame under way (R79). -/
  num : Status
  numNow : Status
  tiles : Map Tile
  regions : Map Region
  mesh : List Flight
  rim : List RimFlight
  /-- The avenue hops of this cycle, those included whose line is lost: cycle, port, tile (R181). -/
  hops : List (Nat × Nat × Nat)
  /-- Per domain: the cycle of the arrival that made a barrier complete 400 cycles later (R198). -/
  barriers : Map Nat
  gates : Map Gate
  stack : Memory
  /-- Uncorrectable 32-byte bursts of the stacks, by address / 32 (R257). -/
  stackUe : List Nat
  blvd : Boulevard
  upd : Upd
  ports : Vector Port 16
  group : Group
  assembling : List Assembly
  /-- Reduction messages put together, waiting for their gate: gate, source member, bytes (R283). -/
  reductions : List (Nat × Nat × List Byte)
  host : Vector HostPort 2
  hostRegs : HostRegs
  pwr : Pwr
  dawn : Dawn
  images : Vector Image 2
  sector : Sector
  ctl : Ctl
  log : Log
  tst : Tst
  free : Nat
  out : List Out
  pending : List Instr
  deriving DecidableEq, Repr
/-! ## Why a step stops -/

/-- Why the machine stops with a fault. -/
inductive Fault where
  /-- Undefined behaviour of the closed list of R453, with its case; raised by the commands that the case names. Safe:
  the hardware goes on in some bounded way (R4) and the model stops. -/
  | undefined (u : Undef)
  deriving DecidableEq, Repr

/-- Why a command is refused. -/
inductive Refusal where
  /-- The command has no meaning in the model yet. Safe: the model stops. -/
  | notModelled (mnemonic : String)
  deriving DecidableEq, Repr

/-! ## The module before power good -/

def Clock.reset : Clock := ⟨0, 0, 0, 40, 40, false⟩

def Frm.reset : Frm :=
  { count := 0, lenConf := 8192, lenNow := 8192, holdRegion := 0xFF, holdUnit := 0xFF, holdCause := 0, timeout := false,
    strictStop := false, miss := false, stretchFrames := 0, stretchCycles := 0, missCount := 0, missHead := 0,
    missLog := [], missShown := [], holdLimit := 100000, holdLimitPend := Shadow.clear, ended := false, heldMask := 0, openMiss := [],
    lastWait := none, originWait := false, dueAt := none }

def FloorMap.empty : FloorMap := ⟨[], [], [], [], 0, 0⟩

def PlanCtl.reset : PlanCtl :=
  { base := 0, state := .none, refusal := 0, stepsDone := 0, stopPending := false, startPending := false, plan := none,
    resetNeeded := false, run := false, frameInStep := 0, runSteps := 0, firstStep := false, stepFrames := 0, stepStretch := 0, stepMisses := 0, stepFlags := 0, stepMiss := false,
    failNext := false, refuseNext := false, ceiling := 110, mapChanged := false, stopAt := none, startAt := none }

def Err.reset : Err := ⟨false, false, false, 1, [], [], none⟩

def Region.reset : Region :=
  { ce := 0, ue := 0, chanDrop := 0, routeDrop := 0, temps := [0, 0, 0, 0], duskPlan := false, duskHeat := false,
    heatNext := false, rampPlan := none, rampHeat := none, dark := false, thorLost := false, power := 0, vset := 0, lag := 0, retW := none, leakSeen := none,
    near := List.replicate 8 0, sliceTile := none, lastSlice := none, shown := [] }

def Port.reset : Port :=
  { st := .quiet, result := 0, mask := 0, width := 0, peerMember := 0, peerPort := 0, peerReset := false,
    disable := false, disablePend := Shadow.clear, fecCe := 0, fecUe := 0, replays := 0, rxDrop := 0, ueTimes := [], windowEnd := 0, wakeAt := 0,
    answered := false, lostAt := 0, oldMask := 0, txSeq := 0, rxSeq := 4095, nak := false, replay := [], resend := [],
    credits := 1024, freed := 0, slot := 0, own := [], fwd := [], fwdLast := false, syncQ := [], syncIn := none,
    sent := 0, eofSent := 0, eofIn := 0, rxq := [] }

/-- The link map of a module that is in no group (R304): MEMBERS 1, every port unused. -/
def soloMap : List Byte :=
  leBytes 4 0x4B4E4C46 ++ leBytes 2 1 ++ leBytes 2 0 ++ [0, 1, 0, 0, 0xFF, 0] ++ leBytes 2 0 ++ leBytes 8 0 ++ leBytes 8 1 ++
  (List.range 16).flatMap (fun _ => [0xFF, 0, 0, 0, 0, 0, 0, 0]) ++ List.replicate 64 0xFF ++ List.replicate 32 0

def Group.reset : Group :=
  { map := soloMap, mapPend := List.replicate 256 0, armed := none, badMap := false, gframe := 0, formed := false,
    mapRefused := false, mapCommitted := false, portChange := false, peerResetSeen := false, syncLost := false,
    readies := [], sentReady := false, goNext := 0, goMsg := none, fsyncIn := false, fsyncOut := false, tickAt := none, seen := [],
    inReset := [], mapDue := false, adopt := false }

/-- A PCIe function after its reset (R320, R321): command bits clear, D0, MSI-X off and unmasked by the function bit. -/
def HostPort.reset : HostPort :=
  { perst := true, linkUp := false, d3 := false, memSpace := false, busMaster := false, msixEnable := false,
    functionMask := false, maxRead := 512, table := [], pba := [], aper := 0, held := none, waiting := [], inval := [] }

def HostRegs.reset : HostRegs :=
  { scqBase := 0, scqPort := 0, scqEntries := 0, scqBasePend := Shadow.clear, scqEntriesPend := Shadow.clear, scqHead := 0, scqTail := 0,
    scqLost := 0, dbDrop := 0, badAccess := 0, lastRec := List.replicate 64 0, lastOk := List.replicate 64 0, straps := 0,
    staticAddr := 0x30, dynAddr := none, eid := 0, spdm := Vector.replicate 3 .start }

/-- PWR_CAP under the Caeren defaults (R405), FIXED_FREQ 100 (R342). -/
def PwrCap.reset : PwrCap := ⟨90, 100, 0, 340⟩

def Pwr.reset : Pwr :=
  { cap := PwrCap.reset, capPend := Shadow.clear, group := 40, request := 40, thermal := 110, hotRegion := 0, hotTemp := 0,
    phase := 0, learned := 0, vin := 0, watts := 0, events := 0, nightCount := 0, capExceed := 0, heatDuskCount := 0,
    energyNum := 0, phases := [], phasesShown := [], lastFall := none, lastRise := none, tickWall := 0, night := false, alertHigh := true,
    alertSince := 0, coolOk := true, coolSince := 0, coolStop := false, trip := false, hot85 := false, nightOver := false, restart := false }

def Dawn.reset : Dawn :=
  { on := false, started := 0, nextWave := 0, waveFrom := 0, repeats := [], waveEnd := [], readBack := [], powerOff := [],
    wipeBad := false, interconnect := false, stageEnd := 0, newRepairs := 0, newDead := 0, newSlow := 0,
    retentionRepairs := 0, regionsDone := 0, bistDone := false, ready := false, firstReady := false,
    belowFloor := false, cmpReset := false, cmpPin := false, modReset := false, resetCause := 0, powered := false,
    release := false, added := false, fellBack := false, lenRead := none }

/-- The Caeren defaults of the owner section (R405), 304 bytes. -/
def ownerDefaults : List Byte :=
  soloMap ++ leBytes 2 340 ++ [0, 90] ++ leBytes 4 8192 ++ [1, 1, 0, 0] ++ leBytes 4 100000 ++ List.replicate 32 0

/-- An image as the module leaves manufacture: verified, its configuration at the defaults (log 23). -/
def Image.reset : Image := ⟨[], true, some ⟨1, 0, ownerDefaults, FloorMap.empty⟩⟩

def Sector.reset : Sector :=
  { state := .maker, returnTo := .maker, lcSeq := 0, pending := none, owner := [], active := false, trial := false,
    activation := false, svnMin := 0, firmwareKey := List.replicate 96 0, makerKey := List.replicate 96 0,
    refurbPassed := false, wipeOk := false, changeLife := 0 }

def Ctl.reset : Ctl :=
  { nonce := List.replicate 32 0, lastOp := 0, result := 0, phase := 0, req := List.replicate 232 0, logPage := 0,
    change := none, cfgAuth := none, fwAuth := none, fwAuthStaged := false, image := false, recovery := false, buffer := [],
    cfgLost := false, fallback := false, stageBusy := false, storing := none, stageResult := 0, src := 0, size := 0,
    cfgDigest := List.replicate 48 0, chain := List.replicate 48 0, retention := true, sliceEn := true, sliceGap := 100000 }

/-- H_0 of the log's chain (R417). -/
def logSeed : List Byte := sha384 (leBytes 8 Config.serial.toNat)

def Log.reset : Log :=
  { lifeBase := 0, lifeStored := 0, powerCycles := 0, thermalCycles := 0, tempFrames := List.replicate 6 0, trips := 0,
    shorts := 0, refurbs := 0, nextSeq := 1, firstSeq := 0, rowsUnlisted := 0, head := logSeed, base := logSeed, totals := [], added := [], aging := [], sram := [], fuses := [], rows := [], records := [] }

def Tst.reset : Tst :=
  { patterns := 0, mode := 0, wide := false, tile := 0, seed := 0, signature := 0, region := 0, result := 0, busy := false,
    refurb := false, abort := false, sliceTile := 0, sliceResult := 0, sliceCount := 0, sliceFail := 0, sliceAbort := 0 }

/-- The module before power good: no power, nothing stored, every register at its reset value (R23, R119, R367; the
values the spec leaves to the part are the model's, log 1 to 8). -/
def State.reset : State :=
  { clk := Clock.reset, frm := Frm.reset, map := FloorMap.empty, mapNext := [], mapDirty := none, plan := PlanCtl.reset,
    err := Err.reset, setAt := [], num := 0, numNow := 0, tiles := [], regions := [], mesh := [], rim := [], hops := [], barriers := [], gates := [],
    stack := [], stackUe := [], blvd := Boulevard.reset, upd := Upd.reset, ports := Vector.replicate 16 Port.reset,
    group := Group.reset, assembling := [], reductions := [], host := Vector.replicate 2 HostPort.reset,
    hostRegs := HostRegs.reset, pwr := Pwr.reset, dawn := Dawn.reset, images := Vector.replicate 2 Image.reset,
    sector := Sector.reset, ctl := Ctl.reset, log := Log.reset, tst := Tst.reset, free := 0, out := [], pending := [] }

end Sys2Proof.Machine
end

