-- ==== Sys2Proof/Machine/TileOps.lean ====
section
/-! DEFINITION. Shared operations of one tile: its memories with their error correction, its registers with the results
not yet due, the bank model, and the fence conditions (04, 05). -/

namespace Sys2Proof.Machine

/-- What a tile's step needs to know of the module: identity, time, step, seed and frame. -/
structure TileCtx where
  id : Nat
  now : Nat
  cycle : Nat
  step : Word
  seed : Word
  frameInStep : Nat
  frmCount : Nat
  deriving DecidableEq, Repr

/-- A finding of a tile's step that the region controller or the wafer controller records. -/
inductive TileEvent where
  /-- An uncorrectable word: deck or staging SRAM, byte address of the word, and the cycle of the access where it is not
  that of the command (R90, R445, R446). -/
  | uncorrectable (deck : Bool) (addr : Nat) (at_ : Option Nat)
  /-- The write queue overflowed (R187). -/
  | queueOverflow
  deriving DecidableEq, Repr

/-- What a tile's step reports beside the new tile: counts for the region (R90, R159, R183), numeric flags for
GLB_NUM_STATUS (R79) and events. -/
structure Notes where
  ce : Nat
  ue : Nat
  chanDrop : Nat
  routeDrop : Nat
  flags : Status
  events : List TileEvent
  deriving DecidableEq, Repr

def Notes.none : Notes := ⟨0, 0, 0, 0, 0, []⟩

def Notes.add (a b : Notes) : Notes :=
  ⟨a.ce + b.ce, a.ue + b.ue, a.chanDrop + b.chanDrop, a.routeDrop + b.routeDrop, a.flags ||| b.flags, a.events ++ b.events⟩

def Notes.ofFlags (f : Status) : Notes := { Notes.none with flags := f }

/-- The events of an access that the tile's engines made in an earlier cycle than the command's carry that cycle. -/
def TileEvent.stamp (c : Nat) : TileEvent → TileEvent
  | .uncorrectable d a none => .uncorrectable d a (some c)
  | e => e

def Notes.stamp (c : Nat) (n : Notes) : Notes := { n with events := n.events.map (TileEvent.stamp c) }

/-- The outcome of a tile instruction: issue is held, the encoding is undefined, or it issued. -/
inductive Issue where
  | held
  | undef (u : Undef)
  | done (t : Tile) (n : Notes)

def deckSize : Nat := 8388608
def stagingSize : Nat := 1048576
def weightBase : Nat := 0x16000
def slotBytes : Nat := 4608
def weightBytes : Nat := 958464
def slotTableBase : Nat := 0x10000

/-- Distinct elements in order of first appearance. -/
def dedup (l : List Nat) : List Nat := l.foldl (fun acc x => if acc.contains x then acc else acc ++ [x]) []

/-! ## Memories with SECDED (R90, R91) -/

/-- The bank and line of a deck word (R84). -/
def deckBank (addr : Nat) : Nat := addr / 64 % 32
def deckLine (addr : Nat) : Nat := addr / 2048 % 4096

/-- The counts and events of reading the words at the given addresses (R90). -/
def eccNotes (deck : Bool) (ceWords ueWords : List Nat) (addrs : List Nat) : Notes :=
  let words := dedup (addrs.map (· / 8))
  let bad := words.filter ueWords.contains
  { Notes.none with
    ce := (words.filter ceWords.contains).length
    ue := bad.length
    events := bad.map fun w => .uncorrectable deck (8 * w) none }

/-- Some byte of the addresses lies in an uncorrectable word. -/
def anyBad (ueWords : List Nat) (addrs : List Nat) : Bool := addrs.any fun a => ueWords.contains (a / 8)

def Tile.deckNotes (t : Tile) (addrs : List Nat) : Notes := eccNotes true t.deckCe t.deckUe addrs
def Tile.stagingNotes (t : Tile) (addrs : List Nat) : Notes := eccNotes false t.stagingCe t.stagingUe addrs

/-- The error marks after a write: a word written whole is clean; a partial write cleans a corrected word and leaves an
uncorrectable one uncorrectable (R90). -/
def ueAfterWrite (ueWords : List Nat) (addrs : List Nat) : List Nat :=
  ueWords.filter fun w => !decide (8 ≤ (dedup (addrs.filter fun a => a / 8 == w)).length)

def ceAfterWrite (ceWords : List Nat) (addrs : List Nat) : List Nat :=
  ceWords.filter fun w => !(addrs.any fun a => a / 8 == w)

/-- Stores bytes in the deck, address by address (R84: addresses wrap). -/
def Tile.deckWrite (t : Tile) (l : List (Nat × Byte)) : Tile :=
  let l := l.map fun p => (p.1 % deckSize, p.2)
  let addrs := l.map (·.1)
  { t with
    deck := t.deck.writeList l
    deckUe := ueAfterWrite t.deckUe addrs
    deckCe := ceAfterWrite t.deckCe addrs }

/-- Stores consecutive deck bytes from an address. -/
def Tile.deckPut (t : Tile) (a : Nat) (l : List Byte) : Tile := t.deckWrite ((wrapAddrs deckSize a l.length).zip l)

/-- Cycles of the grid: `now` less the stall cycles (R106). -/
def Tile.gridNow (t : Tile) (now : Nat) : Nat := now - t.stalls

/-- Stores bytes of the weight buffer by offset, wrapping from slot 207 to slot 0 (R95, R133); words written whole lose an
old mark, and words that receive a marked byte get one (R90, R91). -/
def Tile.weightPut (t : Tile) (l : List (Nat × Byte × Bool)) : Tile :=
  let cells := l.map fun p => (weightBase + p.1 % weightBytes, p.2.1, p.2.2)
  let marked := dedup ((cells.filter fun p => p.2.2).map fun p => p.1 / 8)
  let ue := ueAfterWrite t.stagingUe (cells.map (·.1))
  { t with
    staging := t.staging.writeList (cells.map fun p => (p.1, p.2.1))
    stagingUe := ue ++ marked.filter fun w => !ue.contains w
    stagingCe := ceAfterWrite t.stagingCe (cells.map (·.1)) }

/-- A 16-bit element of a memory as its consumer sees it: 0xF000 where any byte is uncorrectable (R91). -/
def codeIn (m : Memory) (ue : List Nat) (a : Nat) : Code :=
  let as := wrapAddrs deckSize a 2
  if anyBad ue as then 0xF000 else BitVec.ofNat 16 (leNat (m.readAt as))

/-- An 8-bit element as its consumer sees it: 0x7F where uncorrectable (R91). -/
def byteIn (m : Memory) (ue : List Nat) (a : Nat) : Code :=
  let a := a % deckSize
  if ue.contains (a / 8) then 0x7F else (m.read a).setWidth 16

/-- An element of a format of codes 0 to 3, as its raw code (R91). -/
def elemIn (f : Fmt) (m : Memory) (ue : List Nat) (a : Nat) : Code := if f.bytes = 2 then codeIn m ue a else byteIn m ue a

/-- Bytes as seen through the marks: every 16-bit unit of an uncorrectable word reads 0xF000 (R91: LDS, crossing send). -/
def bytesIn (m : Memory) (ue : List Nat) (a n : Nat) : List Byte :=
  (wrapAddrs deckSize a n).map fun x =>
    if ue.contains (x / 8) then (if x % 2 = 0 then 0x00 else 0xF0) else m.read x

def Tile.deckCode (t : Tile) (a : Nat) : Code := codeIn t.deck t.deckUe a
def Tile.deckByte (t : Tile) (a : Nat) : Code := byteIn t.deck t.deckUe a
def Tile.deckElem (t : Tile) (f : Fmt) (a : Nat) : Code := elemIn f t.deck t.deckUe a
def Tile.deckBytesMarked (t : Tile) (a n : Nat) : List Byte := bytesIn t.deck t.deckUe a n

/-! ## Registers (R109, R111, R123, R127) -/

/-- A scalar register: S0 reads as 0 (R123). -/
def Tile.sGet (t : Tile) (i : Nat) : Word := if i = 0 then 0 else vget t.s i 0

/-- A write of a scalar register: S0 ignores it (R123). -/
def Tile.sSet (t : Tile) (i : Nat) (x : Word) : Tile := if i = 0 then t else { t with s := vset t.s i x }

/-- A mask register: K0 reads as all ones (R109). -/
def Tile.kGet (t : Tile) (i : Nat) : Word := if i = 0 then BitVec.allOnes 64 else vget t.k i (BitVec.allOnes 64)

def Tile.vGet (t : Tile) (i : Nat) : Lanes := vget t.v i Lanes.zero
def laneAt (l : Lanes) (i : Nat) : Code := vget l i codeZero
def maskBit (m : Word) (l : Nat) : Bool := m.getLsbD l

/-- A result of a vector instruction reaching its register: only the lanes of the mask change (R109). -/
def Tile.applyV (t : Tile) (w : VWrite) : Tile :=
  let old := t.vGet w.reg
  { t with v := vset t.v w.reg (Vector.ofFn fun i => if maskBit w.mask i.1 then laneAt w.lanes i.1 else laneAt old i.1) }

/-- A result reaching a mask register: K0 ignores it, and bits outside the mask keep their values (R109). -/
def Tile.applyK (t : Tile) (w : KWrite) : Tile :=
  if w.reg = 0 then t
  else { t with k := vset t.k w.reg ((w.bits &&& w.mask) ||| (t.kGet w.reg &&& ~~~w.mask)) }

/-- Inserts by due cycle after every entry due no later, so that the later-issued of two results due in one cycle
stands (R111). -/
def insertDue {α : Type} (due : α → Nat) (x : α) : List α → List α
  | [] => [x]
  | y :: rest => if due x < due y then x :: y :: rest else y :: insertDue due x rest

def Tile.pushV (t : Tile) (w : VWrite) : Tile := { t with vDue := insertDue VWrite.due w t.vDue }
def Tile.pushK (t : Tile) (w : KWrite) : Tile := { t with kDue := insertDue KWrite.due w t.kDue }
def Tile.pushS (t : Tile) (w : SWrite) : Tile := { t with sDue := insertDue SWrite.due w t.sDue }

/-- Every result due by `now` reaches its register (R110, R111, R127), and channel armings take effect (R133). -/
def Tile.settleRegs (t : Tile) (now : Nat) : Tile :=
  let t := (t.vDue.filter fun w => decide (w.due ≤ now)).foldl Tile.applyV t
  let t := (t.kDue.filter fun w => decide (w.due ≤ now)).foldl Tile.applyK t
  let t := (t.sDue.filter fun w => decide (w.due ≤ now)).foldl (fun t w => t.sSet w.reg w.val) t
  let t := (t.chanDue.filter fun w => decide (w.due ≤ now)).foldl (fun t w => { t with chan := vset t.chan w.chan w.val }) t
  { t with
    vDue := t.vDue.filter fun w => !decide (w.due ≤ now)
    kDue := t.kDue.filter fun w => !decide (w.due ≤ now)
    sDue := t.sDue.filter fun w => !decide (w.due ≤ now)
    chanDue := t.chanDue.filter fun w => !decide (w.due ≤ now) }

/-- The scalar register that an access under way will write: that of LDS (R127, R130). -/
def VecAcc.dest (a : VecAcc) : Option Nat :=
  match a.use with
  | .lds r _ => some r
  | _ => none

/-- No write of the scalar registers named is outstanding (R127); S0 never is. -/
def Tile.sReady (t : Tile) (regs : List Nat) : Bool :=
  (t.sDue.all fun w => !(regs.contains w.reg) || w.reg == 0) &&
  t.vq.all fun a => match a.dest with
    | some r => !(regs.contains r) || r == 0
    | none => true

def Tile.chanGet (t : Tile) (c : Nat) : Channel := vget t.chan c Channel.reset

/-- Stochastic rounding bits of a lane under a rounding context, or RNE (R58, R117). -/
def TileCtx.rounding (x : TileCtx) (t : Tile) (sr : Bool) (rc col : Nat) : Rounding :=
  if sr then
    let c := vget t.rc rc ⟨0, 0, 0⟩
    .sr (srBits x.seed x.step c.tensor c.row0 (c.col0 + col))
  else .rne

/-! ## Instruction words (R128) -/

/-- Bits hi down to lo of an instruction word. -/
def fld (w hi lo : Nat) : Nat := w / 2 ^ lo % 2 ^ (hi + 1 - lo)

/-- The instruction word at an index of the program store (R122). -/
def Tile.instrAt (t : Tile) (pc : Nat) : Nat := leNat (t.staging.bytes (8 * pc) 8)

/-- The two's complement value of a field of n bits. -/
def signed (n v : Nat) : Int := if v < 2 ^ (n - 1) then v else (v : Int) - (2 ^ n : Nat)

/-- A deck address from a register and a signed offset (R84, R130, R138). -/
def deckAddr (base : Word) (off : Int) : Nat := (((base.toNat : Int) + off) % (deckSize : Nat)).toNat

/-- The PC after an instruction that does not branch; index 8,191 leaves the store (R122). -/
def Tile.advance (t : Tile) (now cycles : Nat) : Tile := { t with pc := t.pc + 1, nextIssue := now + cycles }

/-- Ends an instruction that goes on to the next index, or undefined behaviour at index 8,191 (R122). -/
def Tile.fin (t : Tile) (now cycles : Nat) (n : Notes) : Issue :=
  if 8191 ≤ t.pc then .undef .leftProgramStore else .done (t.advance now cycles) n

/-! ## Fences (R108, R118) -/

/-- The copy engine is free: no chunk left and nothing of it on its way to the weight buffer (R95, R127). -/
def Tile.copyIdle (t : Tile) : Bool := t.copy.isNone && t.late.all fun w => !w.copy

/-- Every grid and copy-engine instruction has completed and its deck writes are done (R108, R164). -/
def Tile.gridIdle (t : Tile) (now : Nat) : Bool :=
  t.loadQ.isEmpty && t.streamQ.isEmpty && t.active.isEmpty && t.places.isEmpty && t.outQ.isEmpty && t.copyIdle &&
  (t.plane0 ++ t.plane1).all fun ld => decide (ld.start + 50 ≤ t.gridNow now)

/-- The conditions of R118: the grid fence, every vector result delivered, every store's lines written. -/
def Tile.fenceHolds (t : Tile) (now : Nat) : Bool :=
  t.gridIdle now && t.vq.isEmpty && t.vDue.isEmpty && t.kDue.isEmpty && t.sDue.isEmpty && decide (t.storeDone ≤ now)

/-- The registers and planes that R119 resets, without memories, scalars, contexts, channels and PC (R120, R132 item 4,
R165: route state goes with the accumulators). -/
def Tile.resetDatapath (t : Tile) : Tile :=
  { t with
    plane0 := []
    plane1 := []
    acc := []
    pending := 0
    v := Vector.replicate 32 Lanes.zero
    k := Vector.replicate 8 (BitVec.allOnes 64)
    routes := []
    fill := []
    drops := 0
    listed := 0 }

/-- What is under way in the grid, the vector row and the copy engine is given up: nothing of before a dusk reaches the
tile after it (R120). -/
def Tile.dropWork (t : Tile) : Tile :=
  { t with
    vDue := []
    kDue := []
    vq := []
    copy := none
    late := []
    loadQ := []
    streamQ := []
    active := []
    feedQ := []
    rows := []
    places := []
    outQ := []
    loadNext := 0
    zNext := 0
    qNext := 0
    drainNext := 0 }

/-- A tile whose clocks start again after a dusk or a stop (R120, R358). -/
def Tile.wake (t : Tile) (now : Nat) : Tile := { t.resetDatapath.dropWork with at_ := now, half := false, busy := [] }

/-- A test window that reaches a step boundary, or the tick at which the run stops, ends there with its reset (R132, R165; a
window that has not begun makes none, log 85). -/
def Tile.leaveWindow (t : Tile) : Tile :=
  match t.wait with
  | .window true _ => t.resetDatapath
  | _ => t

end Sys2Proof.Machine
end

