-- ==== Sys2Proof/Machine/DeckOps.lean ====
section
/-! DEFINITION. Deck accesses that take cycles: those of vector instructions, LDS and STS, and the copy engine's, bank by bank
(R84 to R91, R95, R110, R114, R130, R137). -/

namespace Sys2Proof.Machine

/-! ## Lines and banks (R84, R86) -/

/-- The number of the line that holds a deck byte. -/
def lineOf (a : Nat) : Nat := a % deckSize / 64

/-- The bank of a line. -/
def lineBank (l : Nat) : Nat := l % 32

/-- The addresses that lie in a line. -/
def inLine (l : Nat) (addrs : List Nat) : List Nat := addrs.filter fun a => lineOf a == l

/-- Inserts a number into an ascending list. -/
def insertNat (x : Nat) : List Nat → List Nat
  | [] => [x]
  | y :: rest => if x < y then x :: y :: rest else if x = y then y :: rest else y :: insertNat x rest

/-- The distinct lines of some addresses, in ascending order. -/
def linesOf (addrs : List Nat) : List Nat := addrs.foldl (fun acc a => insertNat (lineOf a) acc) []

/-- Serves lines in the order given while each bank makes one access in the cycle: the lines served, those that have lost,
and the banks then taken (R84, R86). -/
def serveLines : List Nat → List Nat → List Nat × List Nat × List Nat
  | busy, [] => ([], [], busy)
  | busy, l :: rest =>
    if busy.contains (lineBank l) then
      let y := serveLines busy rest
      (y.1, l :: y.2.1, y.2.2)
    else
      let y := serveLines (lineBank l :: busy) rest
      (l :: y.1, y.2.1, y.2.2)

/-! ## Vector row, LDS and STS (R110, R112 to R114, R130) -/

/-- The deck bytes that an access touches. -/
def VecUse.addrs : VecUse → List Nat
  | .load f _ m as => ((List.range 64).zip as).flatMap fun p => if maskBit m p.1 then wrapAddrs deckSize p.2 f.bytes else []
  | .lds _ a => wrapAddrs deckSize a 8
  | .store bs => bs.map (·.1)
  | .scadd f ls => ls.flatMap fun p => wrapAddrs deckSize p.1 f.bytes

/-- The issue cycles n of an indexed access: the largest number of distinct lines in one bank (R114). -/
def indexCycles (addrs : List Nat) : Nat :=
  let lines := dedup (addrs.map (· / 64))
  max 1 ((List.range 32).foldl (fun m b => max m (lines.filter fun k => k % 32 == b).length) 0)

/-- The lines of an indexed access cycle by cycle: each bank takes its lines in ascending order (R86, R114). -/
def indexSteps (addrs : List Nat) : List (List Nat) :=
  let lines := linesOf addrs
  (List.range (indexCycles addrs)).map fun k =>
    lines.filter fun l => (lines.filter fun m => m % 32 == l % 32 && decide (m < l)).length == k

/-- An access that takes all its lines in one cycle. -/
def oneStep (addrs : List Nat) : List (List Nat) := [linesOf addrs]

/-- The raw or converted lane of an element loaded from the deck (R138). -/
def loadLane (f : Fmt) (c : Code) : Code × Status := if f.bytes = 2 then (c, 0) else toT16 .rne f c

def lanesOf (f : Nat → Code) : Lanes := Vector.ofFn fun i => f i.1

/-- The flags of the active lanes of a result. -/
def laneFlags (mask : Word) (f : Nat → Status) : Status :=
  (List.range 64).foldl (fun s l => if maskBit mask l then s ||| f l else s) 0

/-- The lanes of a scatter-add one after another: old value plus the lane's, rounded once; the old value of an
uncorrectable word is NaR (R91, R114, R138). -/
def addLanes (f : Fmt) (bad : List Nat) : List (Nat × Code × Rounding) → Memory → Status → Memory × Status
  | [], m, st => (m, st)
  | (a, c, r) :: rest, m, st =>
    let old := if anyBad bad (wrapAddrs deckSize a 2) then .nar else f.val (codeIn m [] a)
    let y := f.round r (old.add (f.val c))
    addLanes f bad rest (m.writeList ((wrapAddrs deckSize a 2).zip (leBytes 2 y.1.toNat))) (st ||| y.2)

/-- One line of an access: a store writes its bytes, a read takes them as they stand (R89 to R91). -/
def serveVec (x : Tile × VecAcc × Notes) (l : Nat) : Tile × VecAcc × Notes :=
  let t := x.1
  let a := x.2.1
  match a.use with
  | .store bs => (t.deckWrite (bs.filter fun p => lineOf p.1 == l), a, x.2.2)
  | u =>
    let need := inLine l u.addrs
    (t, { a with
      buf := a.buf.writeList (need.map fun b => (b, t.deck.read b))
      bad := a.bad ++ dedup ((need.filter fun b => t.deckUe.contains (b / 8)).map (· / 8)) }, x.2.2.add (t.deckNotes need))

/-- An access whose last line was served in cycle c: a result is due five cycles later (R89, R110), a store has written its
lines, and a scatter-add goes on to its writes (R114). -/
def finishVec (t : Tile) (c : Nat) (a : VecAcc) (rest : List VecAcc) : Tile × Notes :=
  match a.use with
  | .load f reg m as =>
    let r := fun l => loadLane f (elemIn f a.buf a.bad (as.getD l 0))
    (({ t with vq := rest }).pushV ⟨c + 5, reg, m, lanesOf fun l => (r l).1⟩, Notes.ofFlags (laneFlags m fun l => (r l).2))
  | .lds reg b => (({ t with vq := rest }).pushS ⟨c + 5, reg, BitVec.ofNat 64 (leNat (bytesIn a.buf a.bad b 8))⟩, Notes.none)
  | .store _ => ({ t with vq := rest, storeDone := c + 1 }, Notes.none)
  | .scadd f ls =>
    let y := addLanes f a.bad ls a.buf 0
    let addrs := dedup a.use.addrs
    ({ t with vq := ⟨indexSteps addrs, .store (addrs.map fun b => (b, y.1.read b)), [], []⟩ :: rest }, Notes.ofFlags y.2)

/-- Class 3 in cycle c: the oldest access makes those accesses of its step whose banks are free; when one has lost, the
sequencer holds issue and every later event of the instruction is a cycle later (R86, R87, R110). -/
def Tile.vecCycle (t : Tile) (c : Nat) : Tile × Notes :=
  match t.vq with
  | [] => (t, Notes.none)
  | a :: rest =>
    let y := serveLines t.busy (a.steps.headD [])
    let z := y.1.foldl serveVec (t, a, Notes.none)
    let t := { z.1 with busy := y.2.2 }
    if !y.2.1.isEmpty then
      ({ t with vq := { z.2.1 with steps := y.2.1 :: a.steps.tail } :: rest, nextIssue := t.nextIssue + 1 }, z.2.2)
    else if a.steps.length ≤ 1 then
      let w := finishVec t c z.2.1 rest
      (w.1, z.2.2.add w.2)
    else ({ t with vq := { z.2.1 with steps := a.steps.tail } :: rest }, z.2.2)

/-! ## Copy engine (R95, R137) -/

/-- The deck address of byte i of a copy's source and destination. -/
def CopyJob.srcAddr (j : CopyJob) (i : Nat) : Nat :=
  match j.kind with
  | .wfill _ stride rb => (j.src + i / rb * stride + i % rb) % deckSize
  | _ => (j.src + i) % deckSize

def CopyJob.dstAddr (j : CopyJob) (i : Nat) : Nat := (j.dst + i) % deckSize

/-- The bytes of the current chunk (R95, R137: 128 bytes a cycle). -/
def CopyJob.chunk (j : CopyJob) : List Nat := (List.range (min 128 (j.bytes - j.done))).map (j.done + ·)

/-- The lines of the current chunk that are to be read, and to be written. -/
def CopyJob.begin (j : CopyJob) : CopyJob :=
  { j with
    rd := match j.kind with
      | .dfill _ => []
      | _ => linesOf (j.chunk.map j.srcAddr)
    wr := match j.kind with
      | .wfill _ _ _ => []
      | _ => linesOf (j.chunk.map j.dstAddr)
    buf := [] }

/-- Byte i of the destination with its error mark. -/
def CopyJob.byteAt (j : CopyJob) (i : Nat) : Byte × Bool :=
  match j.kind with
  | .dfill pat => (BitVec.ofNat 8 (if i % 2 = 0 then pat else pat / 256), false)
  | _ => (Map.find? j.buf i).getD (0, false)

/-- Reads a line for the copy; bytes for the weight buffer arrive there four cycles later (R89, R91). -/
def copyRead (c : Nat) (x : Tile × CopyJob × Notes) (l : Nat) : Tile × CopyJob × Notes :=
  let t := x.1
  let j := x.2.1
  let mine := j.chunk.filter fun i => lineOf (j.srcAddr i) == l
  let got := mine.map fun i => (i, t.deck.read (j.srcAddr i), t.deckUe.contains (j.srcAddr i / 8))
  let n := x.2.2.add (t.deckNotes (mine.map j.srcAddr))
  match j.kind with
  | .wfill off _ _ => ({ t with late := t.late ++ [⟨c + 4, got.map fun p => (off + p.1, p.2), true⟩] }, j, n)
  | _ => (t, { j with buf := j.buf ++ got }, n)

/-- Writes a line of the copy; a word that receives a byte of an uncorrectable word becomes uncorrectable (R91). -/
def copyWrite (x : Tile × CopyJob) (l : Nat) : Tile × CopyJob :=
  let j := x.2
  let mine := j.chunk.filter fun i => lineOf (j.dstAddr i) == l
  let t := x.1.deckWrite (mine.map fun i => (j.dstAddr i, (j.byteAt i).1))
  let marked := dedup ((mine.filter fun i => (j.byteAt i).2).map fun i => j.dstAddr i / 8)
  ({ t with deckUe := t.deckUe ++ marked.filter fun w => !t.deckUe.contains w }, j)

/-- Class 4 in cycle c: the current chunk is read and then written, each bank once; when a line has lost, the chunk takes
one more cycle (R86, R87, R95, R137). -/
def Tile.copyCycle (t : Tile) (c : Nat) : Tile × Notes :=
  match t.copy with
  | none => (t, Notes.none)
  | some j =>
    if c < j.start then (t, Notes.none)
    else
      let r := serveLines t.busy j.rd
      let y := r.1.foldl (copyRead c) (t, j, Notes.none)
      let w := if r.2.1.isEmpty then serveLines r.2.2 j.wr else ([], j.wr, r.2.2)
      let z := w.1.foldl copyWrite (y.1, y.2.1)
      let j : CopyJob := { z.2 with rd := r.2.1, wr := w.2.1 }
      let t := { z.1 with busy := w.2.2 }
      if !r.2.1.isEmpty ∨ !w.2.1.isEmpty then ({ t with copy := some j }, y.2.2)
      else if j.bytes ≤ j.done + 128 then ({ t with copy := none }, y.2.2)
      else ({ t with copy := some ({ j with done := j.done + 128 } : CopyJob).begin }, y.2.2)

/-- The writes of the weight buffer that are due (R89, R95, R186). -/
def Tile.lateCycle (t : Tile) (c : Nat) : Tile :=
  let t' := (t.late.filter fun w => decide (w.due ≤ c)).foldl (fun t w => t.weightPut w.cells) t
  { t' with late := t.late.filter fun w => !decide (w.due ≤ c) }

end Sys2Proof.Machine
end

