-- ==== Sys2Proof/Machine/GridOps.lean ====
section
/-! DEFINITION. The systolic grid of a tile: weight planes, feeder fill, column sums, accumulator stage, output queue and
expert routing (R92 to R108, R148 to R166). -/

namespace Sys2Proof.Machine

/-! ## Weights (R92 to R94, R153) -/

/-- The offset in the slot of element (p, q) (R93). -/
def elemOffset (ld : PlaneLoad) (p q : Nat) : Nat :=
  ld.fmt.bytes * ((if ld.w8 ∧ ld.transpose then 96 else 48) * p + q)

/-- The slot offsets of the weights of PE(i, j): one in class W16, two in class W8 (R93). -/
def peOffsets (ld : PlaneLoad) (i j : Nat) : List Nat :=
  if ld.w8 then
    (if ld.transpose then [elemOffset ld j (2 * i), elemOffset ld j (2 * i + 1)]
     else [elemOffset ld (2 * i) j, elemOffset ld (2 * i + 1) j])
  else [if ld.transpose then elemOffset ld j i else elemOffset ld i j]

def PlaneLoad.base (ld : PlaneLoad) : Nat := weightBase + ld.slot * slotBytes
def PlaneLoad.nibBase (ld : PlaneLoad) : Nat := weightBase + (ld.slot + 1) % 208 * slotBytes

/-- What PE(i, j) of a load holds, once its column is written. -/
def PlaneLoad.cell (ld : PlaneLoad) (i j : Nat) : Option PeCell := (ld.cols[j]?).bind fun l => l[i]?

/-- The weights of PE(i, j): NaR where the word was uncorrectable (R91, R92). -/
def PlaneLoad.weights (ld : PlaneLoad) (i j : Nat) : List Val :=
  match ld.cell i j with
  | some c => (c.codes.zip c.bad).map fun p => if p.2 then .nar else ld.fmt.val p.1
  | none => [.real Q.zero]

/-- The position nibble of PE(i, j): P0 and P1 (R153). -/
def PlaneLoad.positions (ld : PlaneLoad) (i j : Nat) : Nat × Nat :=
  let n := match ld.cell i j with
    | some c => c.nib
    | none => 0
  (n % 4, n / 4)

/-- A code is a zero value of its format (R152). -/
def zeroCode (f : Fmt) (c : Code) : Bool :=
  match f with
  | .t16 => c == 0x7000
  | .bf16 => c.toNat % 0x8000 == 0
  | _ => c.toNat % 0x80 == 0

/-- The load is marked zero: every weight it has loaded is a zero value (R152). The mark changes no result. -/
def PlaneLoad.zeroMark (ld : PlaneLoad) : Bool :=
  ld.cols.length == 48 &&
  ld.cols.all fun col => col.all fun c => (c.codes.zip c.bad).all fun p => !p.2 && zeroCode ld.fmt p.1

/-- The loads of a plane, newest first. -/
def Tile.plane (t : Tile) (p : Nat) : List PlaneLoad := if p = 0 then t.plane0 else t.plane1

def Tile.setPlane (t : Tile) (p : Nat) (l : List PlaneLoad) : Tile :=
  if p = 0 then { t with plane0 := l } else { t with plane1 := l }

/-- The load whose weights row i of a plane holds when a row that entered at grid cycle e passes it: column j is
written at L + 2 + j and held from the next cycle, and the row passes PE(i, j) at e + i + j (R99, R107). -/
def loadSeen (l : List PlaneLoad) (e i : Nat) : Option PlaneLoad := l.find? fun ld => decide (ld.start + 3 ≤ e + i)

/-- Starts the oldest waiting LOADW when its cycle L has come (R94, R105). Loads that no row still in the grid can meet are
forgotten. -/
def Tile.loadBegin (t : Tile) (g : Nat) : Tile :=
  match t.loadQ with
  | [] => t
  | op :: rest =>
    if g < op.issue ∨ g < t.loadNext then t
    else
      let l := max op.issue t.loadNext
      let oldest := t.active.foldl (fun m a => if a.op.drain then m else min m (a.start + a.done * a.pace)) l
      let old := t.plane op.plane
      let keep := match old.findIdx? (fun o => decide (o.start + 3 ≤ oldest)) with
        | some i => old.take (i + 1)
        | none => old
      { (t.setPlane op.plane (⟨l, op.slot, op.fmt, op.w8, op.transpose, []⟩ :: keep)) with loadQ := rest, loadNext := l + 48 }

/-- One PE of the column that a load writes now: its weights as they stand in the slot, and the nibble of a W8 load; a W16
load keeps the nibble (R91, R94, R153). -/
def readCell (t : Tile) (ld : PlaneLoad) (older : Option PlaneLoad) (i j : Nat) : PeCell :=
  let os := peOffsets ld i j
  { codes := os.map fun o => BitVec.ofNat 16 (t.staging.le (ld.base + o) ld.fmt.bytes)
    bad := os.map fun o => anyBad t.stagingUe ((List.range ld.fmt.bytes).map (ld.base + o + ·))
    nib :=
      if ld.w8 then
        let b := (t.staging.read (ld.nibBase + 24 * j + i / 2)).toNat
        if i % 2 = 0 then b % 16 else b / 16
      else match older.bind fun o => o.cell i j with
        | some c => c.nib
        | none => 0 }

/-- The staging bytes that column j of a load reads. -/
def columnAddrs (ld : PlaneLoad) (j : Nat) : List Nat :=
  ((List.range 48).flatMap fun i => (peOffsets ld i j).flatMap fun o => (List.range ld.fmt.bytes).map (ld.base + o + ·)) ++
  (if ld.w8 then (List.range 24).map (ld.nibBase + 24 * j + ·) else [])

/-- The loads of a plane write the column of grid cycle g, all 48 rows together (R94). -/
def columnCycle (t : Tile) (g : Nat) : List PlaneLoad → List PlaneLoad × Notes
  | [] => ([], Notes.none)
  | ld :: rest =>
    let y := columnCycle t g rest
    let j := ld.cols.length
    if j < 48 ∧ ld.start + 2 + j ≤ g then
      ({ ld with cols := ld.cols ++ [(List.range 48).map fun i => readCell t ld y.1.head? i j] } :: y.1,
        y.2.add (t.stagingNotes (columnAddrs ld j)))
    else (ld :: y.1, y.2)

def Tile.columnsCycle (t : Tile) (g : Nat) : Tile × Notes :=
  let a := columnCycle t g t.plane0
  let b := columnCycle t g t.plane1
  ({ t with plane0 := a.1, plane1 := b.1 }, a.2.add b.2)

/-! ## Rows (R96 to R99, R150 to R155) -/

/-- The combination of width class, format and S24 makes every output NaR (R97, R155). -/
def narCombination (w8 : Bool) (f : Fmt) (s24 : Bool) : Bool :=
  if s24 then !w8 || f.bytes == 2 else w8 && f.bytes == 2

/-- Activations in a row (R97, R154). -/
def rowElems (w8 : Bool) (f : Fmt) (s24 : Bool) : Nat :=
  if w8 then (if s24 ∧ f.bytes = 1 then 192 else 96) else 48

/-- Row r's first deck byte (R96). -/
def rowAddr (op : GridOp) (r : Nat) : Nat := (op.inBase + r * op.inStride) % deckSize / 2 * 2

/-- Bytes of a row of a stream. -/
def GridOp.rowLen (op : GridOp) : Nat := rowElems op.w8 op.afmt op.sparse.s24 * op.afmt.bytes

/-- Entries of every feeder queue that a row takes (R99, R154). -/
def GridOp.rowWeight (op : GridOp) : Nat := if op.sparse.s24 ∧ op.w8 ∧ op.afmt.bytes = 1 then 2 else 1

/-- The address of the bitmap byte of row r (R150). -/
def skipByteAddr (op : GridOp) (r : Nat) : Nat := (op.sparse.skipAddr + r / 16 / 8) % deckSize

/-- Rows that have entered the grid by grid cycle g (R99, R164). -/
def rowsEntered (a : GridActive) (g : Nat) : Nat :=
  if g < a.start then 0 else min a.op.rows ((g - a.start) / a.pace + 1)

/-- The grid cycle at which row r of a stream under way enters. -/
def GridActive.entry (a : GridActive) (r : Nat) : Nat := a.start + r * a.pace

/-- The lines of a row of `len` bytes in ascending order, with the row's offset at which each begins. -/
def rowPieces (base len : Nat) : List (Nat × Nat) :=
  (List.range ((base % 64 + len + 63) / 64)).map fun k => (lineOf (base + 64 * k), if k = 0 then 0 else 64 * k - base % 64)

/-- The rows of the feeder queues that belong to each stream under way, and those of streams that have not begun. -/
def splitRows : List GridActive → List RowFetch → List (GridActive × List RowFetch) × List RowFetch
  | [], rows => ([], rows)
  | a :: as, rows =>
    let n := if a.op.drain then 0 else a.op.rows - a.done
    let y := splitRows as (rows.drop n)
    ((a, rows.take n) :: y.1, y.2)

/-- A queue lacks an element of the row that is due by grid cycle g: its line has not arrived by cycle c, four cycles after
the bank access (R89, R99, R106). -/
def RowFetch.lacks (x : RowFetch) (e g c : Nat) : Bool :=
  decide (g ≤ e + 48) &&
  (rowPieces x.base x.len).any fun p => decide (e + p.2 / x.per ≤ g) && !x.got.any fun q => q.1 == p.1 && decide (q.2 + 4 ≤ c)

/-- A feeder queue lacks the element due to enter the grid (R106). -/
def Tile.lacking (t : Tile) (g c : Nat) : Bool :=
  (splitRows t.active t.rows).1.any fun y =>
    !y.1.op.drain &&
    (decide (y.1.done + y.2.length < rowsEntered y.1 g) || y.2.any fun x => x.lacks (y.1.entry x.row) g c)

/-- Rows that are in the queues and have not entered the grid (R99). -/
def Tile.waitingRows (t : Tile) (g : Nat) : List RowFetch :=
  let y := splitRows t.active t.rows
  (y.1.flatMap fun p => p.2.filter fun x => decide (g < p.1.entry x.row)) ++ y.2

/-- The staging bytes of a row's entries of the feeder queues: queue i takes 128 bytes (R82, R83). -/
def queueAddrs (slot weight : Nat) (i : Nat) : List Nat :=
  (List.range weight).flatMap fun k =>
    let a := 0x12000 + 128 * i + 2 * ((slot + k) % 64)
    [a, a + 1]

/-- A row that enters the grid is read out of the feeder queues: their words are checked (R90), and the elements of an
uncorrectable one are free values (log 81). -/
def RowFetch.enter (t : Tile) (x : RowFetch) : RowFetch × Notes :=
  let addrs := (List.range 48).flatMap (queueAddrs x.slot x.weight)
  ({ x with lost := (List.range 48).filter fun i => anyBad t.stagingUe (queueAddrs x.slot x.weight i) }, t.stagingNotes addrs)

/-- The row due at grid cycle g enters the grid (R99). -/
def Tile.enterCycle (t : Tile) (g : Nat) : Tile × Notes :=
  let y := splitRows t.active t.rows
  let z := y.1.flatMap fun p => p.2.map fun x =>
    if !p.1.op.drain && p.1.entry x.row == g then x.enter t else (x, Notes.none)
  ({ t with rows := z.map (·.1) ++ y.2 }, (z.map (·.2)).foldl Notes.add Notes.none)

/-- A new row of a stream takes its place in the feeder queues (R99, R150, R154). -/
def FeedJob.newRow (j : FeedJob) (slot : Nat) : RowFetch :=
  { row := j.next, base := rowAddr j.op j.next, len := j.op.rowLen, per := j.op.rowLen / 48, fmt := j.op.afmt
    skip := j.op.sparse.skip && (j.bits.getD 0).getLsbD (j.next / 16 % 8)
    slot := slot, weight := j.op.rowWeight
    left := (rowPieces (rowAddr j.op j.next) j.op.rowLen).map (·.1), got := [], buf := [], bad := [], lost := [] }

/-- Takes the next row of the oldest stream into the queues when an entry is free (R99). -/
def Tile.reserveRow (t : Tile) (j : FeedJob) (rest : List FeedJob) : Tile :=
  let x := j.newRow t.feedSlot
  { t with
    rows := t.rows ++ [x]
    feedSlot := (t.feedSlot + x.weight) % 64
    stagingCe := ceAfterWrite t.stagingCe ((List.range 48).flatMap (queueAddrs x.slot x.weight))
    feedQ := if j.op.rows ≤ j.next + 1 then rest
      else { j with next := j.next + 1, bits := if (j.next + 1) % 128 = 0 then none else j.bits } :: rest }

/-- The row's next line as its bank serves it: a skipped row activates no bank (R89, R91, R151). -/
def RowFetch.take (t : Tile) (c : Nat) (x : RowFetch) : RowFetch × Notes :=
  match x.left with
  | [] => (x, Notes.none)
  | l :: rest =>
    let need := if x.skip then [] else inLine l (wrapAddrs deckSize x.base x.len)
    ({ x with
      left := rest
      got := x.got ++ [(l, c)]
      buf := x.buf.writeList (need.map fun b => (b, t.deck.read b))
      bad := x.bad ++ dedup ((need.filter fun b => t.deckUe.contains (b / 8)).map (· / 8)) }, t.deckNotes need)

/-- Replaces the first row that still has lines to request. -/
def takeFirst (t : Tile) (c : Nat) : List RowFetch → List RowFetch × Notes
  | [] => ([], Notes.none)
  | x :: rest =>
    if x.left.isEmpty then
      let y := takeFirst t c rest
      (x :: y.1, y.2)
    else
      let y := x.take t c
      (y.1 :: rest, y.2)

/-- The request of the feeder fill for the line that leads its order: served when its bank is free; none where the fill
presents nothing more or its leading request has lost (R86, R99). -/
def Tile.feedLine (t : Tile) (c : Nat) : Option (Tile × Notes) :=
  match t.rows.find? fun x => !x.left.isEmpty with
  | none => none
  | some x =>
    let b := lineBank (x.left.headD 0)
    if t.busy.contains b then none
    else
      let y := takeFirst t c t.rows
      some ({ t with rows := y.1, busy := b :: t.busy }, y.2)

/-- One request of the feeder fill: a line of the row under way, or the bitmap byte of the next group, or the first line of
the next row; the tile, the notes, and whether the fill goes on in this cycle (R86, R99, R151). -/
def Tile.feedOne (t : Tile) (c : Nat) : Tile × Notes × Bool :=
  if t.rows.any fun x => !x.left.isEmpty then
    match t.feedLine c with
    | some y => (y.1, y.2, true)
    | none => (t, Notes.none, false)
  else
    match t.feedQ with
    | [] => (t, Notes.none, false)
    | j :: rest =>
      let used := (t.waitingRows (t.gridNow c)).foldl (fun n x => n + x.weight) 0
      if c ≤ j.op.issueAt ∨ 64 < used + j.op.rowWeight then (t, Notes.none, false)
      else if j.op.sparse.skip ∧ j.bits.isNone then
        let a := skipByteAddr j.op j.next
        let b := deckBank a
        if t.busy.contains b then (t, Notes.none, false)
        else
          ({ t with
            feedQ := { j with bits := some (if t.deckUe.contains (a / 8) then 0 else t.deck.read a) } :: rest
            busy := b :: t.busy }, t.deckNotes [a], true)
      else
        let t := t.reserveRow j rest
        match t.feedLine c with
        | some y => (y.1, y.2, true)
        | none => (t, Notes.none, false)

/-- At most n requests of the feeder fill in one cycle. -/
def feedMany (c : Nat) : Nat → Tile → Notes → Tile × Notes
  | 0, t, n => (t, n)
  | k + 1, t, n =>
    let y := t.feedOne c
    if y.2.2 then feedMany c k y.1 (n.add y.2.1) else (y.1, n.add y.2.1)

/-- Class 5 in cycle c: the feeder fill presents at most four requests (R86). -/
def Tile.feedCycle (t : Tile) (c : Nat) : Tile × Notes := feedMany c 4 t Notes.none

/-- A STREAM begins when it heads the stream port's queue and its cycle B has come (R99, R105). -/
def Tile.streamBegin (t : Tile) (g : Nat) : Tile :=
  match t.streamQ with
  | [] => t
  | op :: rest =>
    if op.drain ∨ g < op.issue + 8 ∨ g < t.zNext ∨ g < t.qNext then t
    else
      let pace := if op.sparse.route ∧ op.sparse.last ∧ 2 ≤ op.sparse.k then op.sparse.k else 1
      let z := g + (op.rows - 1) * pace
      { t with
        streamQ := rest
        active := t.active ++ [{ op := op, start := g, pace := pace, done := 0, flags := 0 }]
        zNext := z + 1
        drainNext := z + 97 }

/-- A DRAIN at the head of the stream port's queue begins with its first entry (R104, R105). -/
def Tile.drainBegin (t : Tile) (g : Nat) : Tile :=
  match t.active, t.streamQ with
  | [], op :: rest =>
    if op.drain ∧ op.issue + 4 ≤ g ∧ t.drainNext ≤ g then
      { t with
        streamQ := rest
        active := [{ op := op, start := g, pace := 1, done := 0, flags := 0 }]
        qNext := g + op.rows
        drainNext := g + op.rows }
    else t
  | _, _ => t

/-! ## Column sums (R98, R154) -/

/-- The codes of a row's elements: free values where its queue entry was uncorrectable (log 81). -/
def RowFetch.codes (x : RowFetch) (tile : Nat) : List Code :=
  (List.range (x.len / x.fmt.bytes)).map fun i =>
    if x.lost.contains (i * x.fmt.bytes / x.per) then Config.feederElem tile x.row i
    else elemIn x.fmt x.buf x.bad (x.base + i * x.fmt.bytes)

/-- The activations that meet the weights of PE(i, j) (R97, R154). -/
def peActivations (a : GridActive) (ld : Option PlaneLoad) (row : List Val) (i j : Nat) : List Val :=
  if a.op.w8 then
    (if a.op.sparse.s24 then
      (let p := match ld with
        | some l => l.positions i j
        | none => (0, 0)
       [row.getD (4 * i + p.1) .nar, row.getD (4 * i + p.2) .nar])
     else [row.getD (2 * i) .nar, row.getD (2 * i + 1) .nar])
  else [row.getD i .nar]

/-- The weights of PE(i, j): T16 zero where nothing was loaded since reset (R119). -/
def peWeights (ld : Option PlaneLoad) (i j : Nat) : List Val :=
  match ld with
  | some l => l.weights i j
  | none => [.real Q.zero]

/-- The sum of column j for a row that entered at grid cycle e (R98, R72, R73). -/
def columnSum (loads : List PlaneLoad) (a : GridActive) (e j : Nat) (row : List Val) : AccSum :=
  (List.range 48).foldl (fun s i =>
    let ld := loadSeen loads e i
    ((peWeights ld i j).zip (peActivations a ld row i j)).foldl (fun s p => s.add a.op.anchor (p.1.mul p.2)) s)
    ⟨0, 0, false⟩

/-- The sums of the 48 columns for a row: a skipped row gives exact zeros, a NaR combination NaR (R97, R150, R155). -/
def rowSums (t : Tile) (tile : Nat) (a : GridActive) (x : RowFetch) : List AccSum :=
  if narCombination a.op.w8 a.op.afmt a.op.sparse.s24 then List.replicate 48 ⟨accNar, Status.nar, false⟩
  else if x.skip then List.replicate 48 ⟨0, 0, false⟩
  else
    let vals := (x.codes tile).map a.op.afmt.val
    (List.range 48).map fun j => columnSum (t.plane a.op.plane) a (a.entry x.row) j vals

def entryOf (op : GridOp) (r : Nat) : Nat := (op.entry + r) % 128
def Tile.accAt (t : Tile) (e j : Nat) : Int := Map.getD t.acc (48 * e + j) 0

/-- The accumulator stage: the column sum, or the entry plus it with ACC_IN (R100). -/
def accStage (t : Tile) (op : GridOp) (r : Nat) (sums : List AccSum) : List AccSum :=
  if op.accIn then
    ((List.range 48).zip sums).map fun p =>
      (⟨t.accAt (entryOf op r) p.1, p.2.st, false⟩ : AccSum).addWide p.2.s p.2.st
  else sums

/-! ## The output queue (R82, R86, R87, R101 to R103) -/

/-- A row of bytes as line writes in ascending address order (R86). -/
def outPieces (a : Nat) (l : List Byte) : List OutWrite :=
  (rowPieces (a % deckSize) l.length).map fun p =>
    ⟨(a + p.2) % deckSize, (l.drop p.2).take (64 - (a + p.2) % 64), 0⟩

/-- The rows that the output queue holds (R106). -/
def Tile.outRows (t : Tile) : Nat := (t.outQ.filter fun r => r.counts).length

/-- A write that follows the rows in the queue without being a row (R164). -/
def Tile.pushWrites (t : Tile) (w : List OutWrite) : Tile :=
  if t.outQ.isEmpty then { t with outQ := [⟨false, none, w⟩] }
  else { t with outQ := (t.outQ.dropLast) ++ (t.outQ.getLast?.toList.map fun r => { r with writes := r.writes ++ w }) }

/-- The leading writes whose banks are free, each bank once: served, left, banks taken (R86). -/
def servePrefix : List Nat → List OutWrite → List OutWrite × List OutWrite × List Nat
  | busy, [] => ([], [], busy)
  | busy, w :: rest =>
    if busy.contains (deckBank w.addr) then ([], w :: rest, busy)
    else
      let y := servePrefix (deckBank w.addr :: busy) rest
      (w :: y.1, y.2)

/-- Serves the rows of the queue in order; a write that is not served, or a row that waits for the boulevard port, holds
everything behind it (R86, R101). -/
def serveRows : List Nat → List OutRow → List OutWrite × List OutRow × List Nat
  | busy, [] => ([], [], busy)
  | busy, r :: rest =>
    if r.wide.isSome then ([], r :: rest, busy)
    else
      let y := servePrefix busy r.writes
      if y.2.1.isEmpty then
        let z := serveRows y.2.2 rest
        (y.1 ++ z.1, z.2)
      else (y.1, { r with writes := y.2.1 } :: rest, y.2.2)

/-- Class 2: the output queue's line writes of one cycle; a block status byte that is written goes to GLB_NUM_STATUS
(R79, R86). -/
def Tile.outCycle (t : Tile) : Tile × Notes :=
  let y := serveRows t.busy t.outQ
  let t' := y.1.foldl (fun t w => t.deckPut w.addr w.data) t
  ({ t' with outQ := y.2.1, busy := y.2.2 }, Notes.ofFlags (Status.orAll (y.1.map (·.flags))))

/-! ## Expert routing (R157 to R165) -/

/-- One routed pair ranks before another (R157). -/
def ranksBefore (a b : Code × Nat) : Bool :=
  if t16Key a.1 ≠ t16Key b.1 then decide (t16Key b.1 < t16Key a.1) else decide (a.2 < b.2)

def rankInsert (x : Code × Nat) : List (Code × Nat) → List (Code × Nat)
  | [] => [x]
  | y :: rest => if ranksBefore x y then x :: y :: rest else y :: rankInsert x rest

/-- The K best pairs, best first (R158). -/
def bestK (k : Nat) (l : List (Code × Nat)) : List (Code × Nat) := (l.foldl (fun acc x => rankInsert x acc) []).take k

/-- The candidates of an output row (R157). -/
def candidates (op : GridOp) (codes : List Code) : List (Code × Nat) :=
  ((List.range 48).zip codes).filterMap fun p => if op.col0 + p.1 < op.sparse.experts then some (p.2, op.col0 + p.1) else none

/-- DROP_LIST (R159). -/
def dropList (sp : SparseBlock) : Nat := sp.sumBase + 16 + 8 * ((sp.experts + 3) / 4)

/-- Places one pair of a token: a dispatch entry, or a drop, counted and listed (R159). -/
def Tile.placeOne (t : Tile) (sp : SparseBlock) (token rank : Nat) (score : Code) (e : Nat) : Tile × Notes :=
  let f := Map.getD t.fill e 0
  if f < sp.cap then
    (({ t with fill := Map.set t.fill e (f + 1) }).pushWrites
      (outPieces (sp.dispBase + (e * sp.cap + f) * 8) (leBytes 8 (token % 2 ^ 40 + rank * 2 ^ 40 + score.toNat * 2 ^ 48))),
      Notes.none)
  else
    let t := { t with drops := min (t.drops + 1) (2 ^ 32 - 1) }
    let n : Notes := { Notes.none with routeDrop := 1 }
    if t.listed < sp.dropCap then
      (({ t with listed := t.listed + 1 }).pushWrites
        (outPieces (dropList sp + 8 * t.listed) (leBytes 8 (token % 2 ^ 40 + rank * 2 ^ 40 + e % 256 * 2 ^ 48))), n)
    else (t, n)

/-- The bytes of the route summary (R162). -/
def Tile.summaryBytes (t : Tile) (frmCount : Nat) (sp : SparseBlock) : List Byte :=
  leBytes 4 t.drops ++ leBytes 2 t.listed ++ leBytes 2 sp.experts ++ leBytes 8 frmCount ++
  (List.range sp.experts).flatMap fun e => leBytes 2 (Map.getD t.fill e 0)

/-- Counter clears at the head of the network's work take no cycle (R160). -/
def Tile.clearRoutes : Tile → List RouteItem → Tile
  | t, .clear :: rest => Tile.clearRoutes { t with fill := [], drops := 0, listed := 0 } rest
  | t, l => { t with places := l }

/-- The selection network's work of one cycle: one placement, or one line of a summary (R159, R162, R164). -/
def Tile.placeCycle (t : Tile) (frmCount g : Nat) : Tile × Notes :=
  let t := t.clearRoutes t.places
  match t.places with
  | .place sp token rank score e :: rest => ({ t with places := rest }).placeOne sp token rank score e
  | .summary sp start line :: rest =>
    if g < start then (t, Notes.none)
    else
      (({ t with places := rest }).pushWrites
        ((outPieces sp.sumBase (t.summaryBytes frmCount sp))[line]?.toList), Notes.none)
  | _ => (t, Notes.none)

/-- Merges a row into its list, and the work that follows: with LAST its pairs in rank order, and after the last row of the
stream the summary line by line, from the cycle after (R158 to R164). -/
def Tile.routeRow (t : Tile) (op : GridOp) (g r : Nat) (skipped isLast : Bool) (codes : List Code) : Tile :=
  let e := entryOf op r
  let old := if op.sparse.first then [] else Map.getD t.routes e []
  let lst := if skipped then old else bestK op.sparse.k (old ++ candidates op codes)
  let clear : List RouteItem := if r = 0 ∧ op.sparse.cclr then [.clear] else []
  let pairs : List RouteItem :=
    if op.sparse.last ∧ !skipped then
      ((List.range lst.length).zip lst).map fun p => .place op.sparse ((op.row0 + r) % 2 ^ 40) p.1 p.2.1 p.2.2
    else []
  let lines : List RouteItem :=
    if op.sparse.last ∧ isLast then
      (List.range (rowPieces op.sparse.sumBase (16 + 2 * op.sparse.experts)).length).map fun k => .summary op.sparse (g + 1) k
    else []
  { t with routes := Map.set t.routes e lst, places := t.places ++ clear ++ pairs ++ lines }

/-! ## Output (R100 to R104) -/

/-- The rounding of element (r, j) of an output block (R58, R101). -/
def outRounding (x : TileCtx) (op : GridOp) (r j : Nat) : Rounding :=
  if op.sr then .sr (srBits x.seed x.step op.tensor (op.row0 + r) (op.col0 + j)) else .rne

/-- Bytes of a code in an output format. -/
def codeBytes (f : Fmt) (c : Code) : List Byte := leBytes f.bytes c.toNat

/-- The wide block header (R102). -/
def wideHeader (op : GridOp) (st : Status) : List Byte :=
  leBytes 2 ((op.anchor % 65536).toNat) ++ [st, 0] ++ leBytes 2 op.rows ++ leBytes 2 48 ++ leBytes 4 op.tensor ++
  leBytes 4 op.col0 ++ leBytes 8 op.row0 ++ leBytes 8 0

/-- A NaR among wide sums sets NAR (R78). -/
def wideNar (sums : List AccSum) : Status := if sums.any (fun s => s.s == accNar) then Status.nar else 0

/-- The block status write that goes with the last row (R103). -/
def statusWrite (op : GridOp) (isLast : Bool) (st : Status) : List OutWrite :=
  if isLast then [⟨op.statAddr % deckSize, [st], st⟩] else []

/-- Finishes output row r of a STREAM or DRAIN from its accumulator-stage sums: a KEEP row goes to its entry, any other into
the output queue; a row that is routed is merged; the last row takes the block status with it (R100 to R103, R158, R269).
The flags of a KEEP row join the pending status as the row leaves the output stage, and it is there that a later row's
status finds them (log 82). -/
def emitRow (x : TileCtx) (g : Nat) (t : Tile) (a : GridActive) (r : Nat) (skipped : Bool) (sums : List AccSum) : Tile × GridActive :=
  let op := a.op
  let isLast : Bool := decide (op.rows ≤ r + 1)
  let stSums := Status.orAll (sums.map (·.st))
  match op.mode with
  | .keep =>
    ({ t with
      acc := ((List.range 48).zip sums).foldl (fun m p => Map.set m (48 * entryOf op r + p.1) p.2.s) t.acc
      pending := t.pending ||| stSums }, a)
  | .round =>
    let outs := ((List.range 48).zip sums).map fun p => accRound op.ofmt (outRounding x op r p.1) op.anchor p.2.s
    let fl := a.flags ||| stSums ||| Status.orAll (outs.map (·.2))
    let row := outPieces ((op.outBase + r * op.outStride) % deckSize / 2 * 2) (outs.flatMap fun o => codeBytes op.ofmt o.1)
    let t := { t with
      outQ := t.outQ ++ [⟨true, none, row ++ statusWrite op isLast (t.pending ||| fl)⟩]
      pending := if isLast then 0 else t.pending }
    (if op.sparse.route then t.routeRow op g r skipped isLast (outs.map (·.1)) else t, { a with flags := fl })
  | .wide =>
    let fl := a.flags ||| stSums ||| wideNar sums
    let st := t.pending ||| fl
    let row : OutRow :=
      if op.boulevard then
        ⟨true, some ⟨op.tensor, (op.row0 + r) % 2 ^ 40, op.col0, op.anchor, op.pendIssue ||| stSums ||| wideNar sums, 1,
          sums.map (·.s), none⟩, statusWrite op isLast st⟩
      else
        ⟨true, none, outPieces ((op.outBase + 32 + r * op.outStride) % deckSize) (sums.flatMap fun s => wideBytes s.s) ++
          (if isLast then outPieces op.outBase (wideHeader op st) else []) ++ statusWrite op isLast st⟩
    ({ t with outQ := t.outQ ++ [row], pending := if isLast then 0 else t.pending }, { a with flags := fl })

/-- Whether the next row of the oldest STREAM or DRAIN leaves the output stage at grid cycle g (R99, R104). -/
def rowDue (a : GridActive) (g : Nat) : Bool :=
  decide (a.done < a.op.rows) &&
  (if a.op.drain then decide (a.start + a.done ≤ g) else decide (a.entry a.done + 96 ≤ g))

/-- The row that leaves the output stage in grid cycle g, if one does (R99, R100, R104). -/
def Tile.rowOutput (x : TileCtx) (t : Tile) (g : Nat) : Tile :=
  match t.active with
  | [] => t
  | a :: rest =>
    if !rowDue a g then t
    else
      let r := a.done
      let y :=
        if a.op.drain then
          emitRow x g t a r false ((List.range 48).map fun j => (⟨t.accAt (entryOf a.op r) j, 0, false⟩ : AccSum))
        else
          match t.rows with
          | [] => (t, a)
          | f :: more => emitRow x g { t with rows := more } a r f.skip (accStage t a.op r (rowSums t x.id a f))
      { y.1 with active := if a.op.rows ≤ r + 1 then rest else { y.2 with done := r + 1 } :: rest }

/-- The whole grid stalls in grid cycle g: a feeder queue lacks an element, or the output queue holds 16 rows when a row,
of whatever mode, leaves the output stage (R106; log 82). -/
def Tile.stalled (t : Tile) (g c : Nat) : Bool :=
  t.lacking g c ||
  (match t.active with
   | a :: _ => rowDue a g && decide (16 ≤ t.outRows)
   | [] => false)

/-- One cycle of the grid: the instructions whose cycle has come begin, a row enters, a row leaves, a pair is placed and
the columns of the loads are written; or everything is held for the cycle (R94, R99, R104 to R106, R164). -/
def Tile.gridCycle (x : TileCtx) (t0 : Tile) (c : Nat) : Tile × Notes :=
  let g := t0.gridNow c
  let t := ((t0.loadBegin g).streamBegin g).drainBegin g
  if t.stalled g c then ({ t0 with stalls := t0.stalls + 1 }, Notes.none)
  else
    let e := t.enterCycle g
    let p := (Tile.rowOutput x e.1 g).placeCycle x.frmCount g
    let k := p.1.columnsCycle g
    (k.1, (e.2.add p.2).add k.2)

/-! ## Issue of the grid instructions (R105, R128, R135, R136) -/

/-- LOADW: encoding checks of format L (R135, R141). -/
def issueLoadw (x : TileCtx) (t : Tile) (w : Nat) : Issue :=
  let fmt := fld w 54 52
  let w8 := fld w 51 51 == 1
  let slot := fld w 7 0
  let rs := fld w 44 40
  match Fmt.ofCode fmt with
  | none => .undef .reservedEncoding
  | some f =>
    if 4 ≤ fmt ∨ fld w 9 8 ≠ 0 ∨ 208 ≤ slot ∨ (w8 ∧ fmt < 2) then .undef .reservedEncoding
    else if !t.sReady [rs] ∨ 4 ≤ t.loadQ.length then .held
    else
      let op : LoadOp := { issue := t.gridNow x.now, plane := fld w 55 55, slot := (slot + (t.sGet rs).toNat) % 208,
                           fmt := f, w8 := w8, transpose := fld w 50 50 == 1 }
      ({ t with
        loadQ := t.loadQ ++ [op]
        wide0 := if fld w 55 55 = 0 then w8 else t.wide0
        wide1 := if fld w 55 55 = 0 then t.wide1 else w8 }).fin x.now 1 Notes.none

/-- A grid parameter record as an operation, with the checks of the fields the instruction uses (R136, R148, R149). -/
def parseRecord (x : TileCtx) (t : Tile) (w : Nat) (drain : Bool) (mode : GridMode) (rows : Nat) (afmt : Fmt) : Option GridOp :=
  let b := fld w 25 16 * 64
  let le := fun o n => t.staging.le (b + o) n
  let anchor := signed 16 (le 20 2)
  let outctl := le 22 1
  let keep : Bool := mode == .keep
  let ofmtCode := outctl % 8
  let ofmt := (Fmt.ofCode (if mode = .round then ofmtCode else 0)).getD .t16
  let sflags := le 40 1
  let rctl := le 41 1
  let route : Bool := !drain && sflags / 4 % 2 == 1 && mode == .round && ofmtCode == 0
  if anchor < -512 ∨ 511 < anchor ∨ le 23 1 ≠ 0 then none
  else if !keep ∧ (32 ≤ outctl ∨ 2 ^ 24 ≤ le 24 4 ∨ 2 ^ 40 ≤ le 32 8) then none
  else if mode = .round ∧ 4 ≤ ofmtCode then none
  else if !drain ∧ (8 ≤ sflags ∨ le 43 1 ≠ 0 ∨ le 62 2 ≠ 0) then none
  else if route ∧ (8 ≤ rctl ∨ 8 < le 42 1 ∨ 256 < le 48 2) then none
  else
    let rin := (t.sGet (fld w 41 37)).toNat
    let rout := (t.sGet (fld w 36 32)).toNat
    let rrow := (t.sGet (fld w 31 27)).toNat
    let sp : SparseBlock :=
      { skip := !drain && sflags % 2 == 1, s24 := !drain && sflags / 2 % 2 == 1, route := route
        first := route && rctl % 2 == 1, last := route && rctl / 2 % 2 == 1, cclr := route && rctl / 4 % 2 == 1
        k := le 42 1, skipAddr := le 44 4 % deckSize, experts := le 48 2, cap := le 50 2
        dispBase := le 52 4 % deckSize, sumBase := le 56 4 % deckSize, dropCap := le 60 2 }
    some
      { issue := t.gridNow x.now, issueAt := x.now, w8 := !drain && (if fld w 55 55 = 0 then t.wide0 else t.wide1)
        pendIssue := t.pending, drain := drain, plane := fld w 55 55, afmt := afmt, mode := mode,
        accIn := !drain && fld w 49 49 == 1, entry := fld w 48 42, rows := rows,
        inBase := (le 0 4 + rin) % deckSize, inStride := le 4 4 % deckSize,
        outBase := (le 8 4 + rout) % deckSize, outStride := le 12 4 % deckSize,
        statAddr := (le 16 4 + rout) % deckSize, anchor := anchor, ofmt := ofmt,
        sr := mode == .round && outctl / 8 % 2 == 1, boulevard := mode == .wide && outctl / 16 % 2 == 1,
        tensor := le 24 4 % 2 ^ 24, col0 := le 28 4, row0 := (le 32 8 % 2 ^ 40 + rrow) % 2 ^ 40, sparse := sp }

/-- A record with an uncorrectable word stops the sequencer: the instruction does not issue (R91). -/
def recordBad (t : Tile) (w : Nat) : Option (Tile × Notes) :=
  let addrs := (List.range 64).map (fld w 25 16 * 64 + ·)
  if anyBad t.stagingUe addrs then some ({ t with wait := .stopped }, t.stagingNotes addrs) else none

/-- STREAM or DRAIN once its word is decoded: record, queue and the zero-row case (R105, R121, R136). -/
def issueGrid (x : TileCtx) (t : Tile) (w : Nat) (drain : Bool) (mode : GridMode) (rows : Nat) (afmt : Fmt) : Issue :=
  match recordBad t w with
  | some y => .done y.1 y.2
  | none =>
    match parseRecord x t w drain mode rows afmt with
    | none => .undef .reservedEncoding
    | some op =>
      let regs := (if drain then [] else [fld w 41 37]) ++ [fld w 36 32, fld w 31 27]
      let n := t.stagingNotes ((List.range 64).map (fld w 25 16 * 64 + ·))
      if !t.sReady regs ∨ 4 ≤ t.streamQ.length then .held
      else
        (if rows = 0 then t
         else { t with
           streamQ := t.streamQ ++ [op]
           feedQ := if drain then t.feedQ else t.feedQ ++ [⟨op, 0, none⟩] }).fin x.now 1 n

/-- MODE of a format G word (R128). -/
def GridMode.ofCode : Nat → Option GridMode
  | 0 => some .keep
  | 1 => some .round
  | 2 => some .wide
  | _ => none

def issueStream (x : TileCtx) (t : Tile) (w : Nat) : Issue :=
  match GridMode.ofCode (fld w 51 50), Fmt.ofCode (fld w 54 52) with
  | some m, some f =>
    if fld w 26 26 ≠ 0 ∨ 4 ≤ fld w 54 52 then .undef .reservedEncoding
    else issueGrid x t w false m (fld w 15 0) f
  | _, _ => .undef .reservedEncoding

def issueDrain (x : TileCtx) (t : Tile) (w : Nat) : Issue :=
  match GridMode.ofCode (fld w 51 50) with
  | some m =>
    if m = .keep ∨ fld w 26 26 ≠ 0 ∨ fld w 15 8 ≠ 0 ∨ 128 < fld w 7 0 then .undef .reservedEncoding
    else issueGrid x t w true m (fld w 7 0) .t16
  | none => .undef .reservedEncoding

/-! ## Issue of the copy engine's instructions (R95, R137) -/

/-- A copy begins four cycles after its issue (R95, R127). -/
def Tile.startCopy (t : Tile) (x : TileCtx) (k : CopyKind) (src dst bytes : Nat) : Tile :=
  { t with copy := some ({ kind := k, start := x.now + 4, src := src, dst := dst, bytes := bytes, done := 0, rd := [], wr := [],
                           buf := [] } : CopyJob).begin }

def issueWfill (x : TileCtx) (t : Tile) (w : Nat) : Issue :=
  let rows := fld w 39 33
  let rb := fld w 32 26
  let slot := fld w 7 0
  let regB := fld w 49 45
  let regS := fld w 44 40
  if 96 < rows ∨ 96 < rb ∨ 208 ≤ slot ∨ fld w 9 8 ≠ 0 then .undef .reservedEncoding
  else if !t.sReady [regB, regS] ∨ !t.copyIdle then .held
  else if rows = 0 ∨ rb = 0 then t.fin x.now 1 Notes.none
  else
    let s := (slot + (t.sGet regS).toNat) % 208
    (t.startCopy x (.wfill (s * slotBytes) (fld w 25 10) rb) ((t.sGet regB).toNat % deckSize) 0 (rows * rb)).fin x.now 1 Notes.none

def issueDfill (x : TileCtx) (t : Tile) (w : Nat) : Issue :=
  let bytes := fld w 23 0
  let rb := fld w 55 51
  if deckSize < bytes ∨ fld w 29 24 ≠ 0 then .undef .reservedEncoding
  else if !t.sReady [rb] ∨ !t.copyIdle then .held
  else if bytes / 2 = 0 then t.fin x.now 1 Notes.none
  else
    (t.startCopy x (.dfill (fld w 45 30)) 0 ((t.sGet rb).toNat % deckSize / 2 * 2) (bytes / 2 * 2)).fin x.now 1 Notes.none

def issueDcopy (x : TileCtx) (t : Tile) (w : Nat) : Issue :=
  let bytes := fld w 23 0
  let rb := fld w 55 51
  let ra := fld w 50 46
  if deckSize < bytes ∨ fld w 29 24 ≠ 0 then .undef .reservedEncoding
  else if !t.sReady [ra, rb] ∨ !t.copyIdle then .held
  else if bytes = 0 then t.fin x.now 1 Notes.none
  else
    (t.startCopy x .dcopy ((t.sGet ra).toNat % deckSize) ((t.sGet rb).toNat % deckSize) bytes).fin x.now 1 Notes.none

end Sys2Proof.Machine
end

