-- ==== Sys2Proof/Machine/EngineOps.lean ====
section
/-! DEFINITION. A tile's engines cycle by cycle: in each cycle the results due, the grid, the output queue and the vector row
before the sequencer issues, and the copy engine and the feeder fill after it (R84 to R91, R99, R106, R110, R127). -/

namespace Sys2Proof.Machine

/-- An upset marks a stored word as correctable or uncorrectable (R90). -/
def Tile.upset (t : Tile) (u : Upset) : Tile :=
  match u.deck, u.hard with
  | true, true => { t with deckUe := if t.deckUe.contains u.word then t.deckUe else t.deckUe ++ [u.word] }
  | true, false => { t with deckCe := if t.deckCe.contains u.word then t.deckCe else t.deckCe ++ [u.word] }
  | false, true => { t with stagingUe := if t.stagingUe.contains u.word then t.stagingUe else t.stagingUe ++ [u.word] }
  | false, false => { t with stagingCe := if t.stagingCe.contains u.word then t.stagingCe else t.stagingCe ++ [u.word] }

def Tile.upsetAll (t : Tile) (l : List Upset) : Tile := l.foldl Tile.upset t

/-- The part of cycle c before the issue decision: results due reach their registers, the grid moves, writes of the weight
buffer land, and classes 2 and 3 take their banks after the local port (R86, R110). -/
def Tile.openCycle (x : TileCtx) (c : Nat) (t : Tile) : Tile × Notes :=
  if t.half then (t, Notes.none)
  else
    let g := (t.settleRegs c).gridCycle x c
    let o := (g.1.lateCycle c).outCycle
    let v := o.1.vecCycle c
    ({ v.1 with half := true }, (g.2.add o.2).add v.2)

/-- The part of cycle c after the issue decision: classes 4 and 5 take what banks are left (R86). -/
def Tile.closeCycle (c : Nat) (t : Tile) : Tile × Notes :=
  let y := t.copyCycle c
  let z := y.1.feedCycle c
  ({ z.1 with at_ := c + 1, half := false, busy := [] }, y.2.add z.2)

/-- Nothing of the engines is under way, so that cycles pass without effect. -/
def Tile.quiet (t : Tile) : Bool :=
  t.vq.isEmpty && t.copy.isNone && t.late.isEmpty && t.loadQ.isEmpty && t.streamQ.isEmpty && t.active.isEmpty &&
  t.feedQ.isEmpty && t.rows.isEmpty && t.places.isEmpty && t.outQ.isEmpty &&
  (t.plane0 ++ t.plane1).all fun ld => ld.cols.length == 48

/-- Up to n cycles of a tile that has work under way. -/
def runCycles (x : TileCtx) : Nat → Tile → Notes → Tile × Notes
  | 0, t, n => (t, n)
  | k + 1, t, n =>
    if t.quiet then (t, n)
    else
      let a := t.openCycle x t.at_
      let b := a.1.closeCycle t.at_
      runCycles x k b.1 (n.add ((a.2.add b.2).stamp t.at_))

/-- Brings a tile to the beginning of cycle c: every cycle before it has passed. -/
def Tile.runTo (x : TileCtx) (c : Nat) (t : Tile) : Tile × Notes :=
  let y := runCycles x (c - t.at_) t Notes.none
  (if y.1.at_ < c then { y.1 with at_ := c, half := false, busy := [] } else y.1, y.2)

/-- The tile in cycle c before its issue decision, with the upsets found now in its words (R90, R110). -/
def Tile.toNow (x : TileCtx) (ups : List Upset) (t : Tile) : Tile × Notes :=
  let y := t.runTo x x.now
  let z := (y.1.upsetAll ups).openCycle x x.now
  (z.1, y.2.add z.2)

/-- The tile at the beginning of cycle c, while the local port may still take banks of the cycle (R86 class 1, R185, R186). -/
def Tile.toPort (x : TileCtx) (ups : List Upset) (t : Tile) : Tile × Notes :=
  let y := t.runTo x x.now
  ((y.1.upsetAll ups).settleRegs x.now, y.2)

end Sys2Proof.Machine
end

