-- ==== Sys2Proof/Machine/RingOps.lean ====
section
/-! DEFINITION. Stream descriptors, walks, blocks, transfers and the packed formats of weight streams (R210 to R246). -/

namespace Sys2Proof.Machine

/-- The fields of a stream descriptor (R211). -/
structure Desc where
  cls : Nat
  elem : Nat
  comp : Nat
  repeats : Bool
  irq : Bool
  ingress : Bool
  linked : Bool
  ats : Bool
  sizes : List Nat
  blockLines : Nat
  tagLimit : Nat
  strides : List Int
  base : Nat
  destBase : Nat
  destBlocks : Nat
  bufBase : Nat
  producer : Nat
  f0 : Nat
  fs : Nat
  c0 : Nat
  cs : Nat
  rimTile : Nat
  rimPort : Nat
  linkPort : Nat
  hostPort : Nat
  lstream : Nat
  pasid : Nat
  deriving DecidableEq, Repr

/-- n bytes of a byte list at an offset, as a number. -/
def leAt (l : List Byte) (o n : Nat) : Nat := leNat ((l.drop o).take n)

def sint64 (v : Nat) : Int := (BitVec.ofNat 64 v).toInt

/-- A descriptor from its 120 bytes (R211). -/
def parseDesc (l : List Byte) : Desc :=
  let g := leAt l
  let fl := g 4 4
  { cls := g 0 1, elem := g 1 1 % 8, comp := g 2 1 % 4, repeats := fl % 2 == 1, irq := fl / 2 % 2 == 1,
    ingress := fl / 4 % 2 == 1, linked := fl / 8 % 2 == 1, ats := fl / 16 % 2 == 1,
    sizes := [g 8 4, g 12 4, g 16 4, g 20 4, g 24 4], blockLines := g 28 2, tagLimit := g 30 2,
    strides := [sint64 (g 32 8), sint64 (g 40 8), sint64 (g 48 8), sint64 (g 56 8), sint64 (g 64 8)],
    base := g 72 8, destBase := g 80 8, destBlocks := g 88 4, bufBase := g 92 2, producer := g 94 2, f0 := g 96 4,
    fs := g 100 2, c0 := g 102 2, cs := g 104 2, rimTile := g 106 1, rimPort := g 107 1, linkPort := g 108 1,
    hostPort := g 109 1, lstream := g 110 2, pasid := g 112 4 % 2 ^ 20 }

/-- A reserved value or a non-zero reserved bit of a descriptor (R211, R214). LINK_PORT, HOST_PORT and PRODUCER have no reserved
values, and BUF_BASE has the check of its area; a class 4 ring has no PCIe port above 1 (R213, log 89). -/
def descReserved (l : List Byte) : Bool :=
  let g := leAt l
  decide (6 ≤ g 0 1) || decide (7 ≤ g 1 1) || decide (4 ≤ g 2 1) || g 3 1 != 0 || decide (32 ≤ g 4 4) ||
  decide (3 ≤ g 107 1) || (g 0 1 == 4 && decide (2 ≤ g 109 1)) || decide (2 ^ 20 ≤ g 112 4) || g 116 4 != 0

/-- Elements of the walk (R212). -/
def Desc.elems (d : Desc) : Nat := d.sizes.foldl (· * ·) 1
def Desc.elemBytes (d : Desc) : Nat := 2 ^ d.elem
/-- Bytes of the stream side (R212). -/
def Desc.streamBytes (d : Desc) : Nat := d.elems * d.elemBytes
def Desc.blockBytes (d : Desc) : Nat := d.blockLines * 64
/-- Blocks of the stream side (R215). -/
def Desc.blocks (d : Desc) : Nat := if d.blockBytes = 0 then 0 else (d.streamBytes + d.blockBytes - 1) / d.blockBytes
def Desc.scheduled (d : Desc) : Bool := decide (d.cls ≤ 2)
/-- Outbound scheduled classes (R217). -/
def Desc.outbound (d : Desc) : Bool := d.cls == 0 || d.cls == 2
/-- Stream bytes of block j (R215). -/
def Desc.blockLen (d : Desc) (j : Nat) : Nat := min d.blockBytes (d.streamBytes - j * d.blockBytes)
/-- Lines of block j, the last padded to a whole line (R215). -/
def Desc.linesOf (d : Desc) (j : Nat) : Nat := (d.blockLen j + 63) / 64
/-- The due frame of block j, counted from the origin (R216). -/
def Desc.dueFrame (d : Desc) (j : Nat) : Nat := d.f0 + j * d.fs
/-- A producer's walk starts again at its end (R238). -/
def Desc.endless (d : Desc) : Bool := d.cls == 4 && d.ingress
/-- The ring restarts at every step boundary; REPEAT is ignored for a producer (R231, R238). -/
def Desc.restarts (d : Desc) : Bool := d.repeats && !d.endless
/-- The ring takes its data from a producer (R239). -/
def Desc.consumes (d : Desc) : Bool := d.linked && d.outbound
/-- The stream bytes with the last block padded to whole lines, as a link carries them (R215). -/
def Desc.paddedBytes (d : Desc) : Nat := (d.streamBytes + 63) / 64 * 64
/-- The gate-buffer slot of block j: first byte and length (R217, R220). -/
def Desc.slot (d : Desc) (j : Nat) : Nat × Nat := (d.bufBase * 4096 + j % 5 * d.blockBytes, d.blockBytes)

/-- The index vector of an element (R212). -/
def indexVec : List Nat → Nat → List Nat
  | [], _ => []
  | n :: rest, e => if n = 0 then 0 :: indexVec rest 0 else e % n :: indexVec rest (e / n)

/-- The walk address of an element (R212). -/
def Desc.addrOf (d : Desc) (e : Nat) : Int :=
  ((indexVec d.sizes e).zip d.strides).foldl (fun a p => a + (p.1 : Int) * p.2) (d.base : Int)

/-- Bytes of a stack slice and of its populated part (R248, R249). -/
def sliceBytes : Nat := 0x001200000000
def populatedBytes : Nat := 72000000000

/-- A run of stack bytes lies in the populated part of a gate's slice (R245). -/
def inSlice (g : Nat) (a : Int) (n : Nat) : Bool :=
  decide ((g * sliceBytes : Nat) ≤ a) && decide (a + n ≤ ((g * sliceBytes + populatedBytes : Nat) : Int))

/-- Runs of contiguous ascending elements as transfers, cut at 4 KiB boundaries of the address (R223):
the offsets count from the first element given. -/
def cutRuns (eb : Nat) : List Nat → Nat → List Xfer → List Xfer
  | [], _, acc => acc.reverse
  | a :: rest, off, [] => cutRuns eb rest (off + eb) [⟨off, a, eb, none⟩]
  | a :: rest, off, x :: acc =>
    if x.addr + x.len = a ∧ a % 4096 ≠ 0 then cutRuns eb rest (off + eb) ({ x with len := x.len + eb } :: acc)
    else cutRuns eb rest (off + eb) (⟨off, a, eb, none⟩ :: x :: acc)

/-- A contiguous range cut at 4 KiB boundaries (R223). -/
def cutRange (fuel : Nat) (off addr len : Nat) : List Xfer :=
  match fuel with
  | 0 => []
  | k + 1 =>
    if len = 0 then []
    else
      let n := min len (4096 - addr % 4096)
      ⟨off, addr, n, none⟩ :: cutRange k (off + n) (addr + n) (len - n)

def cutContig (off addr len : Nat) : List Xfer := cutRange (len / 4096 + 2) off addr len

/-- First element of block j and the number of its elements; a producer's walk runs round (R215, R238). -/
def Desc.blockElems (d : Desc) (j : Nat) : Nat × Nat :=
  let per := d.blockBytes / d.elemBytes
  (j * per, if d.endless then per else d.blockLen j / d.elemBytes)

/-- Walk addresses of the elements of block j. -/
def Desc.blockAddrs (d : Desc) (j : Nat) : List Int :=
  let p := d.blockElems j
  (List.range p.2).map fun i => d.addrOf (if d.endless then (p.1 + i) % d.elems else p.1 + i)

/-- The elements of block j before the first one outside the gate's populated slice (R245). -/
def goodElems (g : Nat) (eb : Nat) (l : List Int) : List Int := l.takeWhile fun a => inSlice g a eb

/-! ## Packed formats (R241 to R243) -/

/-- The sign moved to bit 0 (R242). -/
def packRot (c : Code) : Nat := c.toNat % 32768 * 2 + c.toNat / 32768
def packUnrot (r : Nat) : Code := BitVec.ofNat 16 (r / 2 + r % 2 * 32768)

/-- Number of bits of a number. -/
def bitLength (n : Nat) : Nat := if n = 0 then 0 else n.log2 + 1

/-- One group of the block-exponent pack (R242). -/
def packGroup (codes : List Code) : List Byte :=
  let r := codes.map packRot
  let h := r.map (· / 256)
  let base := h.foldl min 255
  let w := bitLength ((h.foldl max 0) - base)
  let bits := ((List.range h.length).zip h).foldl (fun a p => a + (p.2 - base) * 2 ^ (p.1 * w)) 0
  [BitVec.ofNat 8 base, BitVec.ofNat 8 w] ++ r.map (fun x => BitVec.ofNat 8 x) ++ leBytes ((h.length * w + 7) / 8) bits

/-- Bytes of a packed group of n codes whose byte 1 is w; a w above 8 stands for damaged data (R242). -/
def packedLen (n w : Nat) : Nat := 2 + n + (n * w + 7) / 8

/-- The n codes of a packed group and NAR where its byte 1 exceeds 8 (R242). -/
def unpackGroup (n : Nat) (l : List Byte) : List Code × Status :=
  let base := leAt l 0 1
  let w := leAt l 1 1
  if 8 < w then (List.replicate n codeNar, Status.nar)
  else
    let bits := leNat (l.drop (2 + n))
    ((List.range n).map fun i => packUnrot ((base + bits / 2 ^ (i * w) % 2 ^ w) % 256 * 256 + leAt l (2 + i) 1), 0)

/-- The stack offset of a group of the pack, found by walking the widths from the base (R242). -/
def packOffset (m : Memory) (base elems : Nat) : Nat → Nat
  | 0 => 0
  | k + 1 =>
    let o := packOffset m base elems k
    o + packedLen (min 64 (elems - 64 * k)) (m.read (base + o + 1)).toNat

/-- Bytes of MXFP8 data that hold n elements, in chunks of 512 (R243). -/
def mxBytes (n : Nat) : Nat :=
  let full := n / 512
  let rest := n % 512
  full * 528 + (if rest = 0 then 0 else (rest + 31) / 32 * 33)

/-- The byte range of the compressed data that block j needs: offset from BASE and length (R241). -/
def packedRange (m : Memory) (d : Desc) (j : Nat) : Nat × Nat :=
  let p := d.blockElems j
  if d.comp = 1 then
    let lo := packOffset m d.base d.elems (p.1 / 64)
    (lo, packOffset m d.base d.elems ((p.1 + p.2 + 63) / 64) - lo)
  else
    let lo := p.1 / 512 * 528
    (lo, mxBytes (min d.elems ((p.1 + p.2 + 511) / 512 * 512)) - lo)

/-- The bytes of the compressed data that element e needs, from BASE: offset and length of each part (R242, R243). -/
def packedParts (m : Memory) (d : Desc) (e : Nat) : List (Nat × Nat) :=
  if d.comp = 1 then
    let lo := packOffset m d.base d.elems (e / 64)
    [(lo, packOffset m d.base d.elems (e / 64 + 1) - lo)]
  else
    let first := e / 512 * 512
    let blocks := min 16 ((d.elems - first + 31) / 32)
    [(e / 512 * 528 + (e - first) / 32, 1), (e / 512 * 528 + blocks + (e - first), 1)]

/-- The elements of block j of a compressed walk before the first one with a byte outside the gate's slice (R245, log 90). -/
def goodPacked (g : Nat) (m : Memory) (d : Desc) (j : Nat) : Nat :=
  let p := d.blockElems j
  (((List.range p.2).map (p.1 + ·)).takeWhile fun e =>
    (packedParts m d e).all fun x => inSlice g ((d.base + x.1 : Nat) : Int) x.2).length

/-- The part of a range that lies in the gate's slice, where its first byte does. -/
def insidePart (g a n : Nat) : Nat :=
  if g * sliceBytes ≤ a ∧ a < g * sliceBytes + populatedBytes then min n (g * sliceBytes + populatedBytes - a) else 0

/-- Element e of MXFP8 data whose bytes begin at the chunk boundary of element e0 (R67, R243). -/
def mxAt (l : List Byte) (elems e0 e : Nat) (five : Bool) : Code × Status :=
  let chunk := (e - e0) / 512
  let first := e0 + 512 * chunk
  let blocks := min 16 ((elems - first + 31) / 32)
  let i := e - first
  mxElement five (BitVec.ofNat 8 (leAt l (chunk * 528 + i / 32) 1)) (BitVec.ofNat 8 (leAt l (chunk * 528 + blocks + i) 1))

/-- The groups of a packed range from group k on. -/
def unpackFrom (elems : Nat) : Nat → Nat → List Byte → List Code × Status
  | 0, _, _ => ([], 0)
  | f + 1, k, l =>
    let n := min 64 (elems - 64 * k)
    let x := unpackGroup n l
    let y := unpackFrom elems f (k + 1) (l.drop (packedLen n (leAt l 1 1)))
    (x.1 ++ y.1, x.2 ||| y.2)

/-- Bytes that hold all compressed bytes of block j from its first unit on, and perhaps more. -/
def Desc.packedRoom (d : Desc) (j : Nat) : Nat := ((d.blockElems j).2 / 64 + 18) * 130

/-- The T16 codes of block j from its compressed bytes, with the flags raised (R241 to R243). -/
def unpackBlock (d : Desc) (j : Nat) (l : List Byte) : List Code × Status :=
  let p := d.blockElems j
  if d.comp = 1 then
    let k := p.1 / 64
    let x := unpackFrom d.elems ((p.1 + p.2 + 63) / 64 - k) k l
    ((x.1.drop (p.1 - 64 * k)).take p.2, x.2)
  else
    let e0 := p.1 / 512 * 512
    let xs := (List.range p.2).map fun i => mxAt l d.elems e0 (p.1 + i) (d.comp == 3)
    (xs.map (·.1), Status.orAll (xs.map (·.2)))

/-- Consecutive pieces of a list, each of n elements but the last. -/
def pieces {α : Type} (n : Nat) : Nat → List α → List (List α)
  | 0, _ => []
  | f + 1, l => if l.isEmpty then [] else l.take n :: pieces n f (l.drop n)

/-- The units that a compressed stream is cut into: a group of the pack, a chunk of MXFP8 (R242, R243). -/
def packUnit (comp : Nat) : Nat := if comp = 1 then 64 else 512

/-- Compresses the elements of an inbound stream as far as whole units allow (all of them at the end of the walk): for each
unit its number of elements, its bytes and the flags; and the elements left over (R241 to R243). -/
def compressSome (comp : Nat) (last : Bool) (codes : List Code) : List (Nat × List Byte × Status) × List Code :=
  let unit := packUnit comp
  let n := if last then codes.length else codes.length / unit * unit
  let parts := pieces unit (n / unit + 1) (codes.take n)
  if comp = 1 then (parts.map fun g => (g.length, packGroup g, 0), codes.drop n)
  else
    (parts.map fun chunk =>
      let bl := (pieces 32 17 chunk).map mxWrite
      (chunk.length, bl.map (·.1) ++ bl.flatMap (fun b => (b.2.1 ++ List.replicate (32 - b.2.1.length) 0).take 32),
        Status.orAll (bl.map (·.2.2))), codes.drop n)

/-- The compressed units that lie in the populated part of a gate's slice, up to the first that does not (R245). -/
def goodUnits (g : Nat) : Nat → List (Nat × List Byte × Status) → List (Nat × List Byte × Status)
  | _, [] => []
  | a, u :: rest => if inSlice g (a : Int) u.2.1.length then u :: goodUnits g (a + u.2.1.length) rest else []

/-- Codes of little-endian 16-bit elements. -/
def codesOf (l : List Byte) : List Code := (pieces 2 (l.length / 2 + 1) l).map fun p => BitVec.ofNat 16 (leNat p)

/-- Bytes of 16-bit codes. -/
def bytesOf (l : List Code) : List Byte := l.flatMap fun c => leBytes 2 c.toNat

/-! ## Descriptor check (R214) -/

/-- The number of tiles on a gate's frontage (R35). -/
def frontageLen (g : Nat) : Nat :=
  if g < 16 ∨ (24 ≤ g ∧ g < 40) then 12
  else if g < 24 then sideRow (g - 15) - sideRow (g - 16)
  else sideRow (48 - g) - sideRow (47 - g)

/-- The tile at a position of a gate's frontage (R209). -/
def frontageTile (g i : Nat) : Nat :=
  if g < 16 then tileAt (12 * g + i) 0
  else if g < 24 then tileAt 191 (sideRow (g - 16) + i)
  else if g < 40 then tileAt (180 - 12 * (g - 24) + i) 139
  else tileAt 0 (sideRow (47 - g) + i)

/-- The crossing port of a rim lane of a gate (R179, R209). -/
def rimCrossingPort (g p : Nat) : Nat :=
  let side := if g < 16 then [0, 4, 5] else if g < 24 then [1, 6, 7] else if g < 40 then [2, 8, 9] else [3, 10, 11]
  side.getD p 0

/-- What the check of a descriptor needs to know beside it: gate, frame length, ports that are up, and the producer's
block length where the producer is an active ingress ring of the gate (R214). -/
structure DescEnv where
  gate : Nat
  frameLen : Nat
  portUp : Nat → Bool
  producer : Nat → Option Nat

/-- The check of an arming (R214): true where the arming is refused. -/
def descBad (v : DescEnv) (l : List Byte) : Bool :=
  let d := parseDesc l
  descReserved l ||
  ((!d.linked || !d.outbound) &&
    (d.base % d.elemBytes != 0 || (d.comp == 0 && d.strides.any fun s => s % (d.elemBytes : Int) != 0))) ||
  (d.elems != 0 && d.blockLines == 0) ||
  (d.scheduled && d.fs == 0) ||
  (decide (d.cls ≤ 1) && (d.cs == 0 || decide (v.frameLen ≤ d.c0 + (d.blockLines - 1) * d.cs) ||
    decide (frontageLen v.gate ≤ d.rimTile))) ||
  decide (100663296 < d.bufBase * 4096 + (5 * d.blockLines * 64 + 4095) / 4096 * 4096) ||
  (d.comp != 0 && (d.cls == 4 || d.cls == 5 || d.elem != 1 || (d.comp == 3 && (d.cls == 1 || d.cls == 3)))) ||
  (d.ingress && (d.cls != 4 || d.destBlocks == 0 || decide (2 ^ 31 < d.destBlocks))) ||
  (d.linked && (!d.outbound || v.producer d.producer != some d.blockLines)) ||
  ((d.cls == 2 || d.cls == 3) && !v.portUp d.linkPort)

/-- The 32-byte stream completion record (R233). -/
def streamRecord (frame bytes : Nat) (step : Word) (gate status ring seq : Nat) : List Byte :=
  leBytes 8 frame ++ leBytes 8 (min bytes (2 ^ 64 - 1)) ++ leBytes 8 step.toNat ++
  [BitVec.ofNat 8 gate, BitVec.ofNat 8 status] ++ leBytes 2 ring ++ leBytes 4 seq

end Sys2Proof.Machine
end

