-- ==== Sys2Proof/Machine/Ops.lean ====
section
/-! DEFINITION. Named operations over the state that every family uses: access to tiles, regions, gates and ports, the
stacks, interrupts, error records, counters, the live map, barriers (02, 08, 10, 13, 17, 18). -/

namespace Sys2Proof.Machine

abbrev Outcome := Host.Outcome State Fault Refusal

/-! ## Constants -/

/-- Wall-time units to the nanosecond: a multiple of every cycle length and of the stack's byte time, so that wall-clock
times are exact (R8). -/
def wallPerNs : Nat := 42295931518859666350155355675056652822859581176000

/-- Wall units of one core cycle at a frequency code (R22: code f is f × 10 MHz). -/
def cycleWall (code : Nat) : Nat := 100 * wallPerNs / code

def wallUs (n : Nat) : Nat := 1000 * n * wallPerNs
def wallMs (n : Nat) : Nat := 1000000 * n * wallPerNs

/-- A counter that stops at 2^64 − 1. -/
def satAdd (a n : Nat) : Nat := min (a + n) (2 ^ 64 - 1)

/-- A counter modulo 2^64. -/
def wrap64 (n : Nat) : Nat := n % 2 ^ 64
def wrap32 (n : Nat) : Nat := n % 2 ^ 32

/-! ## Shadowed fields and W1C bits (R14 to R16) -/

/-- A write to a shadowed field in core cycle c (R15). -/
def Shadow.write {α : Type} (p : Shadow α) (c : Nat) (v : α) : Shadow α :=
  ⟨some v, if p.val.isSome ∧ p.wrote = c then p.before else p.val, c⟩

/-- What a read returns: the value that the next commit applies (R15). -/
def Shadow.get {α : Type} (p : Shadow α) (committed : α) : α := p.val.getD committed

/-- The value that a commit in core cycle c applies: a write of the same cycle is not in it (R15). -/
def Shadow.due {α : Type} (p : Shadow α) (c : Nat) (committed : α) : α :=
  (if p.wrote = c then p.before else p.val).getD committed

/-- What is still pending after a commit in core cycle c (R15). -/
def Shadow.left {α : Type} (p : Shadow α) (c : Nat) : Shadow α := if p.wrote = c then { p with before := none } else Shadow.clear

/-- The registers that have W1C bits (R16). -/
inductive W1cReg where
  | num
  | frm
  | upd
  | link
  | pwr
  | fw
  | err
  deriving DecidableEq, Repr

def W1cReg.key (r : W1cReg) (bit : Nat) : Nat :=
  64 * (match r with
    | .num => 0
    | .frm => 1
    | .upd => 2
    | .link => 3
    | .pwr => 4
    | .fw => 5
    | .err => 6) + bit

/-- Hardware sets a W1C bit in this cycle (R16). -/
def State.noteSet (s : State) (r : W1cReg) (bit : Nat) : State := { s with setAt := Map.set s.setAt (r.key bit) s.clk.now }

/-- Writing a 1 in this cycle does not clear the bit, because hardware set it in the same cycle (R16). -/
def State.justSet (s : State) (r : W1cReg) (bit : Nat) : Bool := Map.find? s.setAt (r.key bit) == some s.clk.now

/-- Software's 1 in bit `bit` of a written value clears the bit (R14, R16). -/
def State.clears (s : State) (r : W1cReg) (bit v : Nat) : Bool := v / 2 ^ bit % 2 == 1 && !s.justSet r bit

/-- The bits below n of a W1C register that a written value clears. -/
def State.clearMask (s : State) (r : W1cReg) (n v : Nat) : Nat :=
  (List.range n).foldl (fun a b => if s.clears r b v then a + 2 ^ b else a) 0

/-! ## Access to the parts of the state -/

def State.getTile (s : State) (t : Nat) : Tile := Map.getD s.tiles t Tile.reset
def State.setTile (s : State) (t : Nat) (x : Tile) : State := { s with tiles := Map.set s.tiles t x }
def State.modTile (s : State) (t : Nat) (f : Tile → Tile) : State := s.setTile t (f (s.getTile t))

def State.region (s : State) (r : Nat) : Region := Map.getD s.regions r Region.reset
def State.setRegion (s : State) (r : Nat) (x : Region) : State := { s with regions := Map.set s.regions r x }
def State.modRegion (s : State) (r : Nat) (f : Region → Region) : State := s.setRegion r (f (s.region r))

def State.gate (s : State) (g : Nat) : Gate := Map.getD s.gates g Gate.reset
def State.setGate (s : State) (g : Nat) (x : Gate) : State := { s with gates := Map.set s.gates g x }
def State.modGate (s : State) (g : Nat) (f : Gate → Gate) : State := s.setGate g (f (s.gate g))

def State.port (s : State) (p : Nat) : Port := vget s.ports p Port.reset
def State.setPort (s : State) (p : Nat) (x : Port) : State := { s with ports := vset s.ports p x }
def State.modPort (s : State) (p : Nat) (f : Port → Port) : State := s.setPort p (f (s.port p))

def State.hostPort (s : State) (p : Nat) : HostPort := vget s.host p HostPort.reset
def State.setHost (s : State) (p : Nat) (x : HostPort) : State := { s with host := vset s.host p x }
def State.modHost (s : State) (p : Nat) (f : HostPort → HostPort) : State := s.setHost p (f (s.hostPort p))

def State.unit (s : State) (g : Nat) : UpdUnit := Map.getD s.upd.units g UpdUnit.reset
def State.setUnit (s : State) (g : Nat) (x : UpdUnit) : State := { s with upd := { s.upd with units := Map.set s.upd.units g x } }
def State.modUnit (s : State) (g : Nat) (f : UpdUnit → UpdUnit) : State := s.setUnit g (f (s.unit g))

def State.emit (s : State) (o : Out) : State := { s with out := s.out ++ [o] }

/-- The next free value (log 7). -/
def State.freeNow (s : State) : BitVec 384 := Config.freeValue s.free
def State.useFree (s : State) : State := { s with free := s.free + 1 }

/-! ## Run, clocks, regions -/

/-- The compute spines run (R22, R357, R388, R389). -/
def State.coreRuns (s : State) : Bool := s.clk.running
/-- A run is active (R146, R147). -/
def State.runActive (s : State) : Bool := s.plan.run
/-- The step number committed at the boundary that began the step (R331). -/
def State.stepNow (s : State) : Word := BitVec.ofNat 64 s.upd.step

def State.isDusk (s : State) (r : Nat) : Bool := (s.region r).duskPlan || (s.region r).duskHeat
def State.isDark (s : State) (r : Nat) : Bool := (s.region r).dark
def State.thoroughfareLost (s : State) (r : Nat) : Bool := (s.region r).thorLost

/-- Lifetime powered frames (R413). -/
def State.lifeFrames (s : State) : Nat := s.log.lifeBase + s.frm.count

/-! ## Counters and flags -/

def State.addChanDrop (s : State) (r n : Nat) : State :=
  if n = 0 then s else s.modRegion r fun x => { x with chanDrop := satAdd x.chanDrop n }

/-- Numeric flags reach GLB_NUM_STATUS at the tick (R79). -/
def State.addFlags (s : State) (f : Status) : State := { s with numNow := s.numNow ||| f.visible }

/-! ## Interrupts (R328, R329) -/

/-- Vector numbers (R328). -/
def vecError : Nat := 0
def vecFrame : Nat := 1
def vecStep : Nat := 2
def vecPlan : Nat := 3
def vecFirmware : Nat := 4
def vecLink : Nat := 5
def vecPower : Nat := 6
def vecReady : Nat := 7
def vecMap : Nat := 8
def gateVector (g : Nat) : Nat := 64 + g
def ingressVector (g : Nat) : Nat := 112 + g

/-- The vector's mask bit in the MSI-X table; an entry is masked until written (R320, log 11). -/
def HostPort.vectorMasked (h : HostPort) (v : Nat) : Bool := Map.getD h.table (4 * v + 3) 1 % 2 == 1

/-- The port can issue requests (R320, R321). -/
def HostPort.canRequest (h : HostPort) : Bool := !h.perst && h.linkUp && !h.d3 && h.busMaster

/-- The message of a vector can leave on the port (R321, R329). -/
def HostPort.canSend (h : HostPort) (v : Nat) : Bool :=
  h.canRequest && h.msixEnable && !h.functionMask && !h.vectorMasked v

/-- Raises a vector on one port: its message, or its pending bit (R329). -/
def State.raiseOn (s : State) (p v : Nat) : State :=
  let h := s.hostPort p
  if h.canSend v then s.emit (.msix p v)
  else if h.pba.contains v then s
  else s.setHost p { h with pba := h.pba ++ [v] }

/-- Raises a vector: on both ports, vector 2 on the port of the step queue only (R329). -/
def State.raiseVector (s : State) (v : Nat) : State :=
  if v = vecStep then s.raiseOn s.hostRegs.scqPort v else (s.raiseOn 0 v).raiseOn 1 v

/-- Pending messages that may leave now do (R329). -/
def State.sendPending (s : State) (p : Nat) : State :=
  let h := s.hostPort p
  let go := h.pba.filter h.canSend
  let s := s.setHost p { h with pba := h.pba.filter fun v => !h.canSend v }
  go.foldl (fun s v => s.emit (.msix p v)) s

/-! ## Error records (R443 to R447) -/

/-- The events of the code table with the fields they use (R445). -/
inductive ErrKind where
  | memUe (region tile addr d0 : Nat)
  | gateBufUe (gate ring addr : Nat)
  | stackUe (gate ring addr : Nat)
  | wqOverflow (region tile : Nat)
  | holdTimeout (mask limit : Nat)
  | blvdLost (region tensor row : Nat)
  | blvdDiscard (gate tensor cause row : Nat)
  | stateRange (gate addr layer : Nat)
  | stepMismatch (step detail : Nat)
  | ringError (gate ring status : Nat)
  | linkRxDrop (port lstream src : Nat)
  | linkDown (port result : Nat)
  | sliceFail (region tile : Nat)
  | regionDark (region : Nat)
  | thoroughfareLost (region : Nat)
  | heatDusk (region : Nat) (temp : Int)
  | coolStop
  | thermTripSensor (region : Nat) (temp : Int)
  | thermTripStack (gate : Nat) (temp : Int)
  | groupAbort (port cause src : Nat)
  | syncLost
  | peerReset (port src : Nat)
  | computeReset
  deriving DecidableEq, Repr

/-- Two's complement 64-bit form of a temperature. -/
def word64 (i : Int) : Nat := (i % 2 ^ 64).toNat

/-- The record's own fields: CODE, UNCORRECTED, REFUSES, REGION, UNIT, TILE, RING, ADDR, DETAIL0, DETAIL1 (R444, R445). -/
structure ErrFields where
  code : Nat
  uncorrected : Bool := false
  refuses : Bool := false
  region : Nat := 0xFF
  unit : Nat := 0xFF
  tile : Nat := 0xFFFF
  ring : Nat := 0xFFFF
  addr : Nat := 0
  d0 : Nat := 0
  d1 : Nat := 0

/-- STRM_IDX0 of a ring as it stands: the first index of the element not yet delivered (R228, R233). -/
def ringIdx0 (r : Ring) : Nat :=
  match r.arming with
  | some a => (indexVec (parseDesc a.desc).sizes r.index).headD 0
  | none => 0

def ErrKind.fields (s : State) : ErrKind → ErrFields
  | .memUe r t a d => { code := 1, uncorrected := true, region := r, tile := t, addr := a, d0 := d }
  | .gateBufUe g r a => { code := 2, uncorrected := true, unit := g, ring := r, addr := a }
  | .stackUe g r a => { code := 3, uncorrected := true, unit := g, ring := r, addr := a }
  | .wqOverflow r t => { code := 4, region := r, tile := t }
  | .holdTimeout m l => { code := 5, d0 := m, d1 := l }
  | .blvdLost r x y => { code := 6, region := r, d0 := x, d1 := y }
  | .blvdDiscard g x c y => { code := 7, unit := g, d0 := x % 2 ^ 24 + c * 2 ^ 24, d1 := y }
  | .stateRange g a l => { code := 8, unit := g, addr := a, d0 := l }
  | .stepMismatch n d => { code := 9, refuses := true, d0 := n, d1 := d }
  | .ringError g r st => { code := 10, unit := g, ring := r, d0 := st, d1 := ringIdx0 (Map.getD (s.gate g).rings r Ring.reset) }
  | .linkRxDrop p l src => { code := 11, unit := p, d0 := l, d1 := src }
  | .linkDown p x => { code := 12, unit := p, d0 := x }
  | .sliceFail r t => { code := 13, region := r, tile := t }
  | .regionDark r => { code := 14, region := r }
  | .thoroughfareLost r => { code := 15, region := r }
  | .heatDusk r x => { code := 16, region := r, d0 := word64 x }
  | .coolStop => { code := 17 }
  | .thermTripSensor r x => { code := 18, region := r, d0 := word64 x }
  | .thermTripStack g x => { code := 18, unit := g, d0 := word64 x }
  | .groupAbort p c src => { code := 19, unit := p, d0 := c, d1 := src }
  | .syncLost => { code := 20 }
  | .peerReset p src => { code := 21, unit := p, d1 := src }
  | .computeReset => { code := 22 }

/-- Two events make one record (R446). -/
def ErrRec.sameKey (a b : ErrRec) : Bool :=
  a.code == b.code && a.region == b.region && a.unit == b.unit && a.tile == b.tile && a.ring == b.ring

/-- Merges an event into the frame's records (R446). -/
def mergeErr (x : ErrRec) : List ErrRec → List ErrRec
  | [] => [x]
  | y :: rest =>
    if y.sameKey x then
      { y with count := min (y.count + 1) (2 ^ 32 - 1), fails := y.fails || x.fails
               uncorrected := y.uncorrected || x.uncorrected, refuses := y.refuses || x.refuses } :: rest
    else y :: mergeErr x rest

/-- An event of a core cycle is recorded; with a run active and `fails`, the step fails at the next tick (R443 to R446,
R449). -/
def State.addErrorAt (s : State) (k : ErrKind) (fails : Bool) (cycle : Nat) : State :=
  let f := k.fields s
  let hit := fails && s.runActive
  let rec_ : ErrRec :=
    { code := f.code, fails := hit, uncorrected := f.uncorrected, refuses := f.refuses, region := f.region, unit := f.unit,
      tile := f.tile, ring := f.ring, count := 1, addr := f.addr, d0 := f.d0, d1 := f.d1, frame := s.frm.count,
      step := if s.runActive then s.upd.step else 0, life := s.lifeFrames, cycle := cycle }
  { s with
    err := { s.err with frame := mergeErr rec_ s.err.frame }
    plan := { s.plan with failNext := s.plan.failNext || hit } }

/-- An event of this cycle is recorded. -/
def State.addError (s : State) (k : ErrKind) (fails : Bool) : State := s.addErrorAt k fails s.clk.now

/-- Order of the records detected in one frame (R446). -/
def ErrRec.before (a b : ErrRec) : Bool :=
  if a.cycle ≠ b.cycle then decide (a.cycle < b.cycle)
  else if a.code ≠ b.code then decide (a.code < b.code)
  else if a.region ≠ b.region then decide (a.region < b.region)
  else if a.unit ≠ b.unit then decide (a.unit < b.unit)
  else if a.tile ≠ b.tile then decide (a.tile < b.tile)
  else decide (a.ring < b.ring)

def insertErr (x : ErrRec) : List ErrRec → List ErrRec
  | [] => [x]
  | y :: rest => if x.before y then x :: y :: rest else y :: insertErr x rest

def sortErrs (l : List ErrRec) : List ErrRec := l.foldl (fun acc x => insertErr x acc) []

/-- The 64 bytes of an error record (R444). -/
def ErrRec.bytes (r : ErrRec) (seq : Nat) : List Byte :=
  leBytes 8 r.frame ++ leBytes 8 r.step ++ leBytes 4 seq ++
  [BitVec.ofNat 8 r.code,
   BitVec.ofNat 8 ((if r.fails then 1 else 0) + (if r.uncorrected then 2 else 0) + (if r.refuses then 4 else 0)),
   BitVec.ofNat 8 r.region, BitVec.ofNat 8 r.unit] ++
  leBytes 2 r.tile ++ leBytes 2 r.ring ++ leBytes 4 r.count ++ leBytes 8 r.addr ++ leBytes 8 r.d0 ++ leBytes 8 r.d1 ++
  leBytes 8 r.life

/-- One record takes its sequence number and its place in the window (R435, R447). -/
def Err.place (e : Err) (r : ErrRec) : Err :=
  { e with
    window := Map.set e.window (e.nextSeq % 256) (r.bytes e.nextSeq)
    nextSeq := if e.nextSeq + 1 = 2 ^ 32 then 1 else e.nextSeq + 1
    uncorrected := e.uncorrected || r.uncorrected
    record := true
    firstFail := match e.firstFail with
      | some f => some f
      | none => if r.fails then some (r.code, e.nextSeq) else none }

/-- The records of the frame are placed and vector 0 raised (R447). -/
def State.placeErrors (s : State) : State :=
  if s.err.frame.isEmpty then s
  else
    let e := (sortErrs s.err.frame).foldl Err.place s.err
    let s := (if s.err.frame.any fun r => r.uncorrected then s.noteSet .err 1 else s).noteSet .err 0
    ({ s with err := { e with frame := [] } }).raiseVector vecError

/-! ## Notes of a tile (R79, R90, R183, R187) -/

/-- DETAIL0 [7:0] of MEM_UE for a staging address (R83, R445). -/
def stagingKind (a : Nat) : Nat :=
  if a < 0x10000 then 1 else if a < 0x12000 then 2 else if a < 0x14000 then 3 else if a < 0x16000 then 4 else 5

def State.applyEvent (s : State) (t : Nat) : TileEvent → State
  | .uncorrectable true a c => s.addErrorAt (.memUe (regionOf t) t a (deckBank a * 256)) true (c.getD s.clk.now)
  | .uncorrectable false a c => s.addErrorAt (.memUe (regionOf t) t a (stagingKind a)) true (c.getD s.clk.now)
  | .queueOverflow => s.addError (.wqOverflow (regionOf t) t) true

/-- What a tile's step reported reaches the counters, GLB_NUM_STATUS and the error records. -/
def State.applyNotes (s : State) (t : Nat) (n : Notes) : State :=
  let s := s.modRegion (regionOf t) fun x =>
    { x with ce := satAdd x.ce n.ce, ue := satAdd x.ue n.ue, chanDrop := satAdd x.chanDrop n.chanDrop
             routeDrop := satAdd x.routeDrop n.routeDrop }
  n.events.foldl (fun s e => s.applyEvent t e) (s.addFlags n.flags)

/-! ## Tiles in time (R22, R86, R88, R193, R357) -/

/-- What a tile's step needs to know (R126). -/
def State.ctx (s : State) (t : Nat) : TileCtx :=
  { id := t, now := s.clk.now, cycle := s.clk.cycle, step := s.stepNow
    seed := (match s.plan.plan with
      | some p => p.hdr.seed
      | none => 0)
    frameInStep := s.plan.frameInStep, frmCount := s.frm.count }

/-- The module is the spare of its group: its committed map gives it ROLE 1 (R304, R315). -/
def State.isSpare (s : State) : Bool := leAt s.group.map 11 1 == 1

/-- The compute clocks of a region are gated: dusk, dark, or a spare's, gated as for a dusk region (R193, R194, R315). -/
def State.gatedRegion (s : State) (r : Nat) : Bool := s.isDusk r || s.isDark r || s.isSpare

/-- The tile's compute clocks run (R22, R193, R315, R357, R360). -/
def State.tileClocked (s : State) (t : Nat) : Bool := s.coreRuns && !s.gatedRegion (regionOf t)

/-- Puts a tile back with what it reported. -/
def State.putTile (s : State) (t : Nat) (x : Tile) (n : Notes) : State := (s.setTile t x).applyNotes t n

/-- The tile in this cycle before its issue decision, and what its engines reported on the way (log 84). -/
def State.tileNow (s : State) (t : Nat) (ups : List Upset) : Tile × Notes :=
  if s.tileClocked t then (s.getTile t).toNow (s.ctx t) ups else ((s.getTile t).upsetAll ups, Notes.none)

/-- The tile at the beginning of this cycle, while its local port may still take banks. -/
def State.tilePort (s : State) (t : Nat) (ups : List Upset) : Tile × Notes :=
  if s.tileClocked t then (s.getTile t).toPort (s.ctx t) ups else ((s.getTile t).upsetAll ups, Notes.none)

/-- The engines of a tile, and of every tile, have run up to this cycle. -/
def State.syncTile (s : State) (t : Nat) : State :=
  if s.tileClocked t then
    let y := (s.getTile t).runTo (s.ctx t) s.clk.now
    s.putTile t y.1 y.2
  else s

def State.syncRegion (s : State) (r : Nat) : State :=
  ((s.tiles.map (·.1)).filter fun t => regionOf t == r).foldl State.syncTile s

def State.syncTiles (s : State) : State := (s.tiles.map (·.1)).foldl State.syncTile s

/-! ## Stacks (R248, R249, R257) -/

/-- A stack address lies in a populated part (R249). -/
def populated (a : Nat) : Bool := decide (a / sliceBytes < 48) && decide (a % sliceBytes < populatedBytes)

/-- The gate that owns a stack address (R248). -/
def ownerGate (a : Nat) : Nat := a / sliceBytes

/-- A byte range lies wholly in uncorrectable-free bursts, or which bursts of it are not (R257). -/
def State.badBursts (s : State) (a n : Nat) : List Nat :=
  s.stackUe.filter fun b => decide (b < (a + n + 31) / 32) && decide (a / 32 ≤ b)

/-- The burst is written whole by the range. -/
def coversBurst (a n b : Nat) : Bool := decide (a ≤ 32 * b) && decide (32 * b + 32 ≤ a + n)

/-- Writes bytes to the stacks: bytes outside a populated part are discarded (R251), a burst written whole is clean
again, and one written in part stays uncorrectable (R257). -/
def State.stackPut (s : State) (a : Nat) (l : List Byte) : State :=
  { s with
    stack := s.stack.writeList (((List.range l.length).zip l).filterMap fun p => if populated (a + p.1) then some (a + p.1, p.2) else none)
    stackUe := s.stackUe.filter fun b => !coversBurst a l.length b }

/-- A write in which some 8-byte words are uncorrectable: their bursts read back as uncorrectable (R245). -/
def State.stackPutMarked (s : State) (a : Nat) (l : List Byte) (badWords : List Nat) : State :=
  let s := s.stackPut a l
  let new := dedup (badWords.map fun w => (a + w) / 32)
  { s with stackUe := s.stackUe ++ new.filter fun b => !s.stackUe.contains b }

/-! ## The live map (R36 to R44) -/

def bitmapOf : SegKind → Nat
  | .streetH => 0
  | .streetV => 1
  | .avenueEW => 2
  | .avenueNS => 3

def segKey (g : SegKind × Nat) : Nat := 32768 * bitmapOf g.1 + g.2

/-- Bits of a segment bitmap that stand for a segment; the others are padding (R40). -/
def segmentBits : Nat → Nat
  | 0 => 26740
  | 1 => 26688
  | 2 => 25760
  | 3 => 25344
  | _ => 0

/-- A bitmap and an index name a segment (R40). -/
def segmentOk (p : Nat × Nat) : Bool := decide (p.2 < segmentBits p.1)

def FloorMap.segDead (m : FloorMap) (g : SegKind × Nat) : Bool := Map.getD m.segs (segKey g) false
def State.segDead (s : State) (g : SegKind × Nat) : Bool := s.map.segDead g

def FloorMap.tileByte (m : FloorMap) (t : Nat) : Nat := Map.getD m.tiles t 0
def FloorMap.tileDead (m : FloorMap) (t : Nat) : Bool := m.tileByte t / 64 == 2
def FloorMap.regionFlags (m : FloorMap) (r : Nat) : Nat := Map.getD m.flags r 0
def FloorMap.dark (m : FloorMap) (r : Nat) : Bool := m.regionFlags r % 2 == 1

/-- A tile is usable (R43). -/
def FloorMap.usable (m : FloorMap) (t : Nat) : Bool :=
  let b := m.tileByte t
  (b / 64 == 0 || (b / 64 == 1 && decide (10 ≤ b % 64))) && !m.dark (regionOf t) && (streetsOf t).any fun g => !m.segDead g

def FloorMap.usableIn (m : FloorMap) (r : Nat) : Nat := ((tilesOfRegion r).filter m.usable).length
/-- The guarantee of R20 is met (R43). -/
def FloorMap.meetsFloor (m : FloorMap) : Bool :=
  let l := (List.range nRegions).map m.usableIn
  decide (26112 ≤ l.foldl (· + ·) 0) && l.all fun n => decide (296 ≤ n)

def FloorMap.link (m : FloorMap) (p : Nat) : LinkEntry := Map.getD m.links p ⟨0, 0, 0⟩

/-- The bytes of a bitmap of n bytes (R40). -/
def FloorMap.bitmap (m : FloorMap) (k : Nat) (n : Nat) : List Byte :=
  let bits := m.segs.filter fun p => p.2 && p.1 / 32768 == k
  (List.range n).map fun i =>
    BitVec.ofNat 8 ((bits.filter fun p => p.1 % 32768 / 8 == i).foldl (fun a p => a + 2 ^ (p.1 % 8)) 0)

def FloorMap.deadSegs (m : FloorMap) (ks : List Nat) : Nat := (m.segs.filter fun p => p.2 && ks.contains (p.1 / 32768)).length

/-- The 40,412 bytes of a map (R38 to R42). -/
def FloorMap.bytes (m : FloorMap) : List Byte :=
  let usable := (List.range nRegions).map m.usableIn
  let states := fun k => (m.tiles.filter fun p => p.2 / 64 == k).length
  let darks := ((List.range nRegions).filter m.dark).length
  leBytes 4 0x50414D46 ++ leBytes 2 1 ++ leBytes 2 64 ++ leBytes 4 40412 ++ leBytes 4 m.gen ++
  leBytes 2 (usable.foldl (· + ·) 0) ++ leBytes 2 (states 2) ++ leBytes 2 (states 1) ++ leBytes 2 (m.deadSegs [0, 1]) ++
  leBytes 2 (m.deadSegs [2, 3]) ++ [BitVec.ofNat 8 darks, 16, if m.meetsFloor then 1 else 0, 0, 0, 0] ++
  leBytes 8 m.changedAt ++ List.replicate 24 0 ++
  (List.range nTiles).map (fun t => BitVec.ofNat 8 (m.tileByte t)) ++
  m.bitmap 0 3344 ++ m.bitmap 1 3336 ++ m.bitmap 2 3220 ++ m.bitmap 3 3168 ++
  ((List.range nRegions).zip usable).flatMap (fun p =>
    [BitVec.ofNat 8 (m.regionFlags p.1 % 4 + (if p.2 < 296 then 4 else 0)), 0] ++ leBytes 2 p.2) ++
  (List.range nPorts).flatMap fun p =>
    let e := m.link p
    [BitVec.ofNat 8 e.width, BitVec.ofNat 8 e.mask, BitVec.ofNat 8 e.result, 0]

/-- The map digest: GENERATION and CHANGED_AT count as zero (before R45). -/
def FloorMap.digest (m : FloorMap) : List Byte := sha384 ({ m with gen := 0, changedAt := 0 } : FloorMap).bytes

/-- A change detected in this frame takes effect at its tick (R44). -/
def State.mapChange (s : State) (c : MapChange) : State := { s with mapNext := s.mapNext ++ [c] }

/-- Marks a tile dead with a cause (R39); a dead tile keeps its first cause (R36: entries are only added). -/
def FloorMap.apply (m : FloorMap) : MapChange → FloorMap
  | .tile t b => if m.tileDead t then m else { m with tiles := Map.set m.tiles t b }
  | .segment k => { m with segs := Map.set m.segs k true }
  | .flag r b => { m with flags := Map.set m.flags r (m.regionFlags r ||| 2 ^ b) }
  | .link p e => { m with links := Map.set m.links p e }
  | .generation => m
  | .rebuild tiles segs =>
    -- the segments of a lost thoroughfare stay dead (R41)
    let lost := ((m.flags.filter fun p => p.2 / 2 % 2 == 1).map (·.1)).flatMap segmentsOfRegion
    { m with tiles := tiles, segs := lost.foldl (fun a g => Map.set a (segKey g) true) segs }
  | .relight r => { m with flags := (Map.set m.flags r (m.regionFlags r / 2 * 2)).filter fun p => p.2 != 0 }

/-- A change that the stored map takes over (R36): all but the link section. -/
def MapChange.stored : MapChange → Bool
  | .link _ _ => false
  | .generation => false
  | _ => true

/-- The changes of a list that add an entry which the stored map takes over (R36, R380). -/
def FloorMap.gains (m : FloorMap) (l : List MapChange) : Bool :=
  l.any fun c => c.stored && { m.apply c with links := [] } != { m with links := [] }

/-- Changes of Dawn take effect without a generation of their own: Dawn adds one at its end (R36, R37, R380). -/
def State.mapDawn (s : State) (l : List MapChange) : State :=
  { s with map := l.foldl FloorMap.apply s.map, dawn := { s.dawn with added := s.dawn.added || s.map.gains l } }

/-- The change of a Dawn is closed: one generation if any entry was added, and the stored map is due (R36, R380). -/
def State.closeDawnMap (s : State) : State :=
  if s.dawn.added then
    { s with
      map := { s.map with gen := wrap32 (s.map.gen + 1), changedAt := s.lifeFrames }
      mapDirty := some s.frm.count
      dawn := { s.dawn with added := false } }
  else s

/-- The changes that wait become part of the live map as one (R44, R322 BELOW_FLOOR). -/
def State.mergeMap (s : State) : State :=
  if s.mapNext.isEmpty then s
  else if !s.dawn.bistDone then ({ s with mapNext := [] } : State).mapDawn s.mapNext
  else
    let m := s.mapNext.foldl FloorMap.apply s.map
    let m := { m with gen := wrap32 (m.gen + 1), changedAt := s.lifeFrames }
    { s with
      map := m
      mapNext := []
      mapDirty := if s.mapNext.any MapChange.stored then (match s.mapDirty with
          | some f => some f
          | none => some s.frm.count) else s.mapDirty
      dawn := { s.dawn with belowFloor := !m.meetsFloor }
      plan := { s.plan with mapChanged := true } }

/-- The map changes of a frame take effect at its tick (R44, R328). -/
def State.applyMap (s : State) : State :=
  if !s.mapNext.isEmpty && s.dawn.bistDone && s.dawn.firstReady then s.mergeMap.raiseVector vecMap else s.mergeMap

/-- Every change that has been detected is in the live map before the module stops counting frames, or closes the map (R36, R37). -/
def State.settleMap (s : State) : State := if s.dawn.bistDone then s.mergeMap else s.mergeMap.closeDawnMap

/-- The port is down in the link table (R42, R214). -/
def State.mapPortUp (s : State) (p : Nat) : Bool := (s.map.link p).width != 0

/-! ## Barriers (R198, R199) -/

/-- The tile image of the loaded plan. -/
def State.image? (s : State) (t : Nat) : Option TileImage := s.plan.plan.bind fun p => Map.find? p.images t

def TileImage.member (i : TileImage) (d : Nat) : Bool := i.sync / 2 ^ d % 2 == 1

/-- The tile counts as arrived at every barrier (R199). -/
def State.transparent (s : State) (t : Nat) : Bool :=
  let r := regionOf t
  !s.thoroughfareLost r &&
  (s.isDusk r || s.isDark r ||
    (match (s.getTile t).wait with
     | .halted => true
     | .window started _ => started
     | _ => false))

/-- Every member of a domain has arrived or counts as arrived, and some arrival is pending (R198, R199). -/
def State.barrierFull (s : State) (d : Nat) : Bool :=
  match s.plan.plan with
  | none => false
  | some p =>
    let ms := (p.images.filter fun x => x.2.member d).map (·.1)
    ms.any (fun t => (s.getTile t).arrived.contains d) &&
    ms.all fun t => !s.thoroughfareLost (regionOf t) && ((s.getTile t).arrived.contains d || s.transparent t)

/-- Starts the 400 cycles of every barrier whose last member has just arrived (R198). -/
def State.noteBarriers (s : State) : State :=
  (List.range 4).foldl (fun s d =>
    if (Map.find? s.barriers d).isNone && s.barrierFull d then { s with barriers := Map.set s.barriers d s.clk.now } else s) s

end Sys2Proof.Machine
end

