-- ==== Sys2Proof/Machine/GroupOps.lean ====
section
/-! DEFINITION. The link map, the sync tree and the messages a port sends (R295, R302, R304 to R311). -/

namespace Sys2Proof.Machine

/-! ## Fields of a link map (R304) -/

def mapGroupId (m : List Byte) : Nat := leAt m 6 2
def mapMember (m : List Byte) : Nat := leAt m 8 1
def mapMembers (m : List Byte) : Nat := leAt m 9 1
def mapMaster (m : List Byte) : Nat := leAt m 10 1
def mapRole (m : List Byte) : Nat := leAt m 11 1
def mapParent (m : List Byte) : Nat := leAt m 12 1
def mapRedMode (m : List Byte) : Nat := leAt m 13 1
def mapDelay (m : List Byte) : Nat := leAt m 14 2
def mapCommit (m : List Byte) : Nat := leAt m 16 8
def mapRedSet (m : List Byte) : Nat := leAt m 24 8
def mapPeer (m : List Byte) (p : Nat) : Nat := leAt m (32 + 8 * p) 1
def mapPeerPort (m : List Byte) (p : Nat) : Nat := leAt m (33 + 8 * p) 1
def mapFlags (m : List Byte) (p : Nat) : Nat := leAt m (36 + 8 * p) 1
def mapRoute (m : List Byte) (k : Nat) : Nat := leAt m (160 + k) 1
def mapEntry (m : List Byte) (p : Nat) : List Byte := (m.drop (32 + 8 * p)).take 8

/-- A map fails its checks (R304). -/
def mapFails (m : List Byte) : Bool :=
  leAt m 0 4 != 0x4B4E4C46 || leAt m 4 2 != 1 || decide (mapMembers m ≤ mapMember m) || mapMembers m == 0 ||
  decide (64 < mapMembers m) || decide (mapMembers m ≤ mapMaster m) || mapRedSet m / 2 ^ mapMember m % 2 == 0 ||
  (mapParent m == 0xFF && mapMember m != mapMaster m) ||
  (mapParent m != 0xFF && (decide (16 ≤ mapParent m) || mapPeer m (mapParent m) == 0xFF)) ||
  (List.range 16).any (fun p => decide (8 ≤ mapFlags m p) || leAt m (37 + 8 * p) 3 != 0) ||
  (m.drop 224).any fun b => b != 0

def State.member (s : State) : Nat := mapMember s.group.map
def State.members (s : State) : Nat := mapMembers s.group.map
/-- The module belongs to a group (R304). -/
def State.grouped (s : State) : Bool := decide (1 < s.members)
def State.isMaster (s : State) : Bool := s.member == mapMaster s.group.map
def State.peer (s : State) (p : Nat) : Nat := mapPeer s.group.map p
def State.portUsed (s : State) (p : Nat) : Bool := s.peer p != 0xFF
def State.portIsUp (s : State) (p : Nat) : Bool := (s.port p).st == .up

/-- Ports to the sync children (R304). -/
def State.syncChildren (s : State) : List Nat :=
  (List.range 16).filter fun p => s.portUsed p && mapFlags s.group.map p % 2 == 1

/-- The ports of the sync tree: parent and children (R304). -/
def State.syncPorts (s : State) : List Nat :=
  let par := mapParent s.group.map
  (if par < 16 then [par] else []) ++ s.syncChildren.filter fun p => p != par

/-- Members of the reduction set (R304, R283). -/
def State.redSet (s : State) : List Nat := (List.range 64).filter fun m => mapRedSet s.group.map / 2 ^ m % 2 == 1

/-! ## Sync messages (R295) -/

/-- Puts a message into a port's queue: lowest kind first, in the order they arose within a kind. -/
def insertMsg (x : SyncMsg) : List SyncMsg → List SyncMsg
  | [] => [x]
  | y :: rest => if x.kind < y.kind then x :: y :: rest else y :: insertMsg x rest

def State.sendMsg (s : State) (p : Nat) (m : SyncMsg) : State := s.modPort p fun x => { x with syncQ := insertMsg m x.syncQ }

def SyncMsg.key (m : SyncMsg) : Nat × Nat × Nat := (m.kind, m.src, m.arg64 * 2 ^ 32 + m.arg32)

/-- Remembers a flooded message, in place of a RESET_STATE of the same member (R295, log 93). -/
def Group.remember (g : Group) (m : SyncMsg) : Group :=
  { g with seen := (g.seen.filter fun k => k != m.key && !(k.1 == 5 && m.kind == 5 && k.2.1 == m.src)) ++ [m.key] }

/-- Sends a message on every sync-tree port but one, and remembers it; RESET_STATE leaves its originator on every port
in use (R295). -/
def State.flood (s : State) (m : SyncMsg) (skip : Option Nat) : State :=
  let s := { s with group := s.group.remember m }
  let ports := if m.kind = 5 ∧ skip = none then (List.range 16).filter s.portUsed else s.syncPorts
  (ports.filter fun p => some p != skip && ((s.port p).st == .up || (s.port p).st == .recovery)).foldl (fun s p => s.sendMsg p m) s

/-- Sets a bit of LINK_GSTATUS; vector 5 where it was clear (R328). -/
def State.linkStatus (s : State) (bit : Nat) (f : Group → Group) : State :=
  let g := f s.group
  let rose := (g.mapRefused && !s.group.mapRefused) || (g.mapCommitted && !s.group.mapCommitted) ||
    (g.portChange && !s.group.portChange) || (g.peerResetSeen && !s.group.peerResetSeen) || (g.syncLost && !s.group.syncLost)
  let s := ({ s with group := g } : State).noteSet .link bit
  if rose then s.raiseVector vecLink else s

/-- ABORT with a cause, flooded to the group (R295, R309, R449). -/
def State.floodAbort (s : State) (cause : Nat) : State :=
  if s.grouped then s.flood ⟨3, s.member, cause, s.group.gframe⟩ none else s

/-- The group is dissolved: the member ticks alone until it forms again (R309). -/
def State.unform (s : State) : State :=
  { s with
    group := { s.group with formed := false, readies := [], sentReady := false, goMsg := none, tickAt := none, adopt := false }
    upd := { s.upd with msgs := [] } }

/-- SYNC_LOST is detected here: the record, ABORT with cause 3, and the member ticks alone (R309). -/
def State.detectSyncLost (s : State) : State :=
  let s := s.addError .syncLost true
  let s := s.linkStatus 0 fun g => { g with syncLost := true }
  (s.floodAbort 3).unform

/-! ## Data to be sent on a port (R302, R310, R311) -/

/-- Cuts a block or message into flits of 240 payload bytes. -/
def cutFlits (dest src lstream : Nat) (frame : Option Nat) (l : List Byte) : List TxFlit :=
  let ps := pieces 240 (l.length / 240 + 1) l
  let n := ps.length
  ((List.range n).zip ps).map fun p =>
    { dest := dest, src := src, lstream := lstream, start := p.1 == 0, stop := p.1 + 1 == n, data := p.2, frame := frame, via := none }

def State.queueData (s : State) (p : Nat) (l : List TxFlit) : State := s.modPort p fun x => { x with own := x.own ++ l }

/-- The UP ports whose PEER is a member, ascending (R311). -/
def State.portGroup (s : State) (peer : Nat) : List Nat := (List.range 16).filter fun p => s.peer p == peer && s.portIsUp p

/-- The ports with RING_NEXT that are UP (R311). -/
def State.ringNext (s : State) : List Nat :=
  (List.range 16).filter fun p => s.portUsed p && mapFlags s.group.map p / 2 % 2 == 1 && s.portIsUp p

/-- Sends the reduction message of compression block c of a gate (R310, R311): directly to each member, or to the ring's
next member. -/
def State.sendReduction (s : State) (g c src : Nat) (msg : List Byte) : State :=
  let put := fun (s : State) (ports : List Nat) (dest : Nat) =>
    match ports[c % ports.length]? with
    | some p => s.queueData p (cutFlits dest src (0xFFF0 + g % 16) none msg)
    | none => s
  if mapRedMode s.group.map = 1 then
    let ports := s.ringNext
    put s ports (s.peer (ports.headD 0))
  else
    (s.redSet.filter fun m => m != s.member).foldl (fun s m =>
      put s (s.portGroup (s.peer (mapRoute s.group.map m))) m) s

end Sys2Proof.Machine
end

