-- ==== Sys2Proof/Machine/StackOps.lean ====
section
/-! DEFINITION. Records of the service log with their chain (R416, R417), and what a stack's checks report: corrected and
uncorrectable bursts, and the repair list (R257 to R259). -/

namespace Sys2Proof.Machine

/-! ## Log records (R416, R417) -/

/-- Records that the area holds, and those of one sector (R415, R416). -/
def logRoom : Nat := 1046528
def logSector : Nat := 1024

/-- A list cut or padded with 0x00 to n bytes. -/
def padTo (n : Nat) (l : List Byte) : List Byte := (l ++ List.replicate n 0).take n

/-- Bytes 0 to 47 of a record (R416). -/
def recordHead (life seq kind : Nat) (data : List Byte) : List Byte :=
  leBytes 8 life ++ leBytes 4 seq ++ [BitVec.ofNat 8 kind, 0, 0, 0] ++ padTo 32 data

/-- H of the next record (R417). -/
def chainNext (h rec_ : List Byte) : List Byte := sha384 (h ++ rec_)

/-- The chain value after the records of an erased sector (R416). -/
def chainOver (recs : Map (List Byte)) (first n : Nat) (h : List Byte) : List Byte :=
  (List.range n).foldl (fun h i => chainNext h ((Map.getD recs ((first + i) % logRoom) []).take 48)) h

/-- When the area is full its oldest sector is erased (R416). -/
def Log.makeRoom (l : Log) : Log :=
  let first := if l.firstSeq = 0 then 1 else l.firstSeq
  if l.nextSeq - first < logRoom then l
  else
    { l with
      firstSeq := first + logSector
      base := chainOver l.records first logSector l.base
      records := (List.range logSector).foldl (fun m i => Map.erase m ((first + i) % logRoom)) l.records }

/-- Appends a record of a kind (R416, R417). -/
def State.logRecord (s : State) (kind : Nat) (data : List Byte) : State :=
  let l := s.log.makeRoom
  let b := recordHead s.lifeFrames l.nextSeq kind data
  let h := chainNext l.head b
  { s with log := { l with
      records := Map.set l.records (l.nextSeq % logRoom) (b ++ h.take 16)
      nextSeq := wrap32 (l.nextSeq + 1)
      head := h } }

/-! ## The sequence of a stack (R256, R263, R264) -/

/-- What a stack is doing, self refresh apart: its power-up sequence and that of a second initialisation go by their times
(R263, R264, log 95). -/
def State.stackPhase (s : State) (g : Nat) : StackState :=
  let x := s.gate g
  if x.stackState ≠ .off then x.stackState
  else
    match x.powerOffUntil, x.reinit with
    | some _, _ => .off
    | none, some w => if s.clk.wall < w + wallMs 20 then .off else if s.clk.wall < w + wallMs 140 then .init else .wipe
    | none, none =>
      if !s.dawn.on ∨ s.clk.wall < s.dawn.started + wallMs 20 then .off
      else if s.clk.wall < s.dawn.started + wallMs 1100 then .init
      else .wipe

/-- STATE of a stack: in self refresh while a COOL_OK stop lasts, if it has power (R256, R258). -/
def State.stackNow (s : State) (g : Nat) : StackState :=
  let p := s.stackPhase g
  if s.pwr.coolStop ∧ p ≠ .off ∧ p ≠ .failed then .selfRefresh else p

/-- A wipe runs on the stack, its second initialisation included (R263, R264). -/
def State.wiping (s : State) (g : Nat) : Bool :=
  s.stackPhase g == .wipe || (s.gate g).powerOffUntil.isSome || (s.gate g).reinit.isSome

/-- The sequences of the stacks go on: in Dawn and in a life-cycle change (R264, R391). -/
def State.stacksGo (s : State) : Bool := (s.dawn.on || s.ctl.change.isSome) && !s.pwr.coolStop && !s.dawn.modReset

/-- Every byte of a stack reads as zero with no error (R262). -/
def State.blankSlice (s : State) (g : Nat) : State :=
  { s with
    stack := s.stack.erase (g * sliceBytes) sliceBytes
    stackUe := s.stackUe.filter fun b => ownerGate (32 * b) != g }

/-- A wipe ends well: the stack is READY (R262, R263). -/
def State.stackUp (s : State) (g : Nat) : State :=
  (s.blankSlice g).modGate g fun x => { x with stackState := .ready, reinit := none }

/-- A wipe has failed: the gate removes the stack's power for 2 s (R264). -/
def State.stackPowerOff (s : State) (g : Nat) : State :=
  (s.blankSlice g).modGate g fun x => { x with stackState := .off, powerOffUntil := some (s.clk.wall + wallMs 2000) }

/-! ## The address map in a stack (R250) -/

/-- What a slice offset selects (R250). -/
structure StackPlace where
  byte : Nat
  pseudo : Nat
  line : Nat
  channel : Nat
  bank : Nat
  group : Nat
  stackId : Nat
  row : Nat
  deriving DecidableEq, Repr

def stackPlace (o : Nat) : StackPlace :=
  { byte := o % 64, pseudo := o / 2 ^ 6 % 2, line := o / 2 ^ 7 % 16, channel := o / 2 ^ 11 % 32, bank := o / 2 ^ 16 % 4,
    group := o / 2 ^ 18 % 4, stackId := o / 2 ^ 20 % 3, row := o / 2 ^ 20 / 3 }

/-! ## Bursts and the repair list (R257, R259) -/

/-- Rows of a stack on its repair list: slice offset, cause, whether a spare was missing. -/
def State.listed (s : State) (g : Nat) : List (Nat × Nat × Bool) := Map.getD s.log.rows g []

/-- The slice offset of the row that holds a stack address: its row unit (R250, log 14). -/
def rowOf (a : Nat) : Nat := a % sliceBytes / 2048 * 2048

/-- An entry of the stack repair list: row offset, cause, no spare (R259, R415). -/
def rowEntry (x : Nat × Nat × Bool) : Nat := x.1 % 2 ^ 48 + x.2.1 % 4 * 2 ^ 48 + (if x.2.2 then 2 ^ 50 else 0)

/-- STACK_ROW in the log: stack, entry, outcome (R416). -/
def State.logRow (s : State) (g : Nat) (e : Nat × Nat × Bool) (outcome : Nat) : State :=
  s.logRecord 5 ([BitVec.ofNat 8 g] ++ leBytes 8 (rowEntry e) ++ [BitVec.ofNat 8 (Config.rowOutcome outcome)])

/-- A row joins its stack's repair list with a cause: 1 uncorrectable, 2 four corrected bursts; one that finds no place is counted
once (R259, log 96). -/
def State.listRow (s : State) (g row cause : Nat) : State :=
  let l := s.listed g
  if l.any fun e => e.1 == row then s
  else if 64 ≤ l.length then
    if (s.gate g).unlisted.contains row then s
    else
      ({ s with log := { s.log with rowsUnlisted := s.log.rowsUnlisted + 1 } } : State).modGate g fun x =>
        { x with unlisted := x.unlisted ++ [row] }
  else
    let e := (row, cause, false)
    ({ s with log := { s.log with rows := Map.set s.log.rows g (l ++ [e]) } }).logRow g e 0

/-- A burst at a stack address came back corrected (R257, R259). -/
def State.countCorrected (s : State) (g a : Nat) : State :=
  let x := s.gate g
  let n := Map.getD x.rowCe (rowOf a) 0 + 1
  let s := s.setGate g { x with eccCe := satAdd x.eccCe 1, rowCe := Map.set x.rowCe (rowOf a) n }
  if n = 4 then s.listRow g (rowOf a) 2 else s

/-- A burst came back uncorrectable: counted, listed, recorded for a ring (0xFFFF for others) (R257, R259, R445). -/
def State.countHard (s : State) (g ring b : Nat) (fails : Bool) : State :=
  let s := s.modGate g fun x => { x with eccUe := satAdd x.eccUe 1, eccLast := 32 * b }
  let s := { s with stackUe := if s.stackUe.contains b then s.stackUe else s.stackUe ++ [b] }
  (s.listRow g (rowOf (32 * b)) 1).addError (.stackUe g ring (32 * b)) fails

/-- The reports of one read reach the counters (R257). -/
def State.readReport (s : State) (g : Nat) (e : EccReport) : State :=
  e.corrected.foldl (fun s a => s.countCorrected g a) (s.modGate g fun x => { x with eccOdc := satAdd x.eccOdc e.onDie })

/-- The bytes of uncorrectable bursts in a memory whose address 0 is a stack address are free values (log 33). -/
def spoil (m : Memory) (base free : Nat) (bad : List Nat) : Memory :=
  ((List.range bad.length).zip bad).foldl (fun m p =>
    m.putBytes (32 * p.2 - base) ((leBytes 32 (Config.freeValue (free + p.1)).toNat).drop (base - 32 * p.2))) m

/-- The report of a read of n bytes that neither a ring nor the update unit makes: the bursts `known` to be uncorrectable and
those that the report names are counted and recorded, and named with the state (R257, R445). -/
def State.loadReport (s : State) (a n : Nat) (known : List Nat) (e : EccReport) (fails : Bool) : State × List Nat :=
  let mine := fun (x : Nat) => decide (a / 32 ≤ x / 32) && decide (x / 32 ≤ (a + n - 1) / 32)
  let hard := dedup (known ++ (e.hard.filter mine).map (· / 32))
  let s := s.modGate (ownerGate a) fun x => { x with eccOdc := satAdd x.eccOdc e.onDie }
  let s := (e.corrected.filter mine).foldl (fun s x => s.countCorrected (ownerGate x) x) s
  let s := hard.foldl (fun s b => s.countHard (ownerGate (32 * b)) 0xFFFF b fails) s
  ({ s with free := s.free + hard.length }, hard)

/-- Such a read of the stacks: the state, and the memory as it was read (R257). -/
def State.stackLoad (s : State) (a n : Nat) (e : EccReport) (fails : Bool) : State × Memory :=
  let y := s.loadReport a n (s.badBursts a n) e fails
  (y.1, spoil s.stack 0 s.free y.2)

/-- A report that names nothing. -/
def cleanReport : EccReport := ⟨[], 0, [], 0, []⟩

end Sys2Proof.Machine
end

