-- ==== Sys2Proof/Machine/Functions.lean ====
section
/-! DEFINITION. The function unit (R116): the exact value of each function at an operand, rounded once. A function that
is not rational is enclosed between two rationals, at rising precision, until both round to one code. -/

namespace Sys2Proof.Machine

/-- The functions of the vector row (R116). -/
inductive Fn where
  | exp2 | exp | log2 | log | rcp | sqrt | rsqrt | sigmoid | tanh | silu | gelu | softplus | erf
  deriving DecidableEq, Repr

/-- The function of an OP value of VFUNC (R138). -/
def Fn.ofCode : Nat → Option Fn
  | 0 => some .exp2
  | 1 => some .exp
  | 2 => some .log2
  | 3 => some .log
  | 4 => some .rcp
  | 5 => some .sqrt
  | 6 => some .rsqrt
  | 7 => some .sigmoid
  | 8 => some .tanh
  | 9 => some .silu
  | 10 => some .gelu
  | 11 => some .softplus
  | 12 => some .erf
  | _ => none

/-- An interval in units of 2^-p. -/
structure Iv where
  lo : Int
  hi : Int
  deriving DecidableEq, Repr

def fdivI (a : Int) (b : Nat) : Int := Int.fdiv a b
def cdivI (a : Int) (b : Nat) : Int := -Int.fdiv (-a) b

def Iv.ofQ (p : Nat) (q : Q) : Iv := ⟨fdivI (q.num * (2 ^ p : Nat)) q.den, cdivI (q.num * (2 ^ p : Nat)) q.den⟩
def Iv.add (a b : Iv) : Iv := ⟨a.lo + b.lo, a.hi + b.hi⟩
def Iv.sub (a b : Iv) : Iv := ⟨a.lo - b.hi, a.hi - b.lo⟩
def Iv.neg (a : Iv) : Iv := ⟨-a.hi, -a.lo⟩
def Iv.scale (a : Iv) (n : Int) : Iv := if 0 ≤ n then ⟨a.lo * n, a.hi * n⟩ else ⟨a.hi * n, a.lo * n⟩

def minI (a b : Int) : Int := if a ≤ b then a else b
def maxI (a b : Int) : Int := if a ≤ b then b else a

def Iv.mul (p : Nat) (a b : Iv) : Iv :=
  let w := a.lo * b.lo
  let x := a.lo * b.hi
  let y := a.hi * b.lo
  let z := a.hi * b.hi
  ⟨fdivI (minI (minI w x) (minI y z)) (2 ^ p), cdivI (maxI (maxI w x) (maxI y z)) (2 ^ p)⟩

/-- Division by a positive whole number. -/
def Iv.divNat (a : Iv) (n : Nat) : Iv := ⟨fdivI a.lo n, cdivI a.hi n⟩

/-- Division by a positive interval. -/
def Iv.div (p : Nat) (a b : Iv) : Iv :=
  let n := b.lo.toNat
  let m := b.hi.toNat
  ⟨minI (fdivI (a.lo * (2 ^ p : Nat)) n) (fdivI (a.lo * (2 ^ p : Nat)) m),
   maxI (cdivI (a.hi * (2 ^ p : Nat)) n) (cdivI (a.hi * (2 ^ p : Nat)) m)⟩

/-- Widens an interval by the magnitude of another. -/
def Iv.widen (a t : Iv) : Iv :=
  let m : Int := maxI t.lo.natAbs t.hi.natAbs + 1
  ⟨a.lo - m, a.hi + m⟩

/-- Times 2^n, in units of 2^-p. -/
def Iv.shift (a : Iv) (n : Int) : Iv :=
  if 0 ≤ n then ⟨a.lo * (2 ^ n.toNat : Nat), a.hi * (2 ^ n.toNat : Nat)⟩
  else ⟨fdivI a.lo (2 ^ (-n).toNat), cdivI a.hi (2 ^ (-n).toNat)⟩

/-- Whole square root by digits, from `fuel` bits. -/
def isqrtAux : Nat → Nat → Nat → Nat
  | 0, _, r => r
  | k + 1, n, r => isqrtAux k n (if (r + 2 ^ k) * (r + 2 ^ k) ≤ n then r + 2 ^ k else r)

/-- Floor of the square root. -/
def isqrt (n : Nat) : Nat := isqrtAux (n.log2 / 2 + 1) n 0

/-- Taylor terms of e^r from term k on: the sum and the last term. -/
def expTerms (p : Nat) (r : Iv) : Nat → Nat → Iv → Iv → Iv × Iv
  | 0, _, t, s => (s, t)
  | f + 1, k, t, s =>
    let t' := (Iv.mul p t r).divNat k
    expTerms p r f (k + 1) t' (s.add t')

/-- e^r for |r| at most about 1. -/
def expSmall (p : Nat) (r : Iv) : Iv :=
  let one : Iv := ⟨(2 ^ p : Nat), (2 ^ p : Nat)⟩
  let x := expTerms p r (p / 4 + 20) 1 one one
  x.1.widen x.2

/-- Terms of atanh z = z + z³/3 + …: the sum and the last power. -/
def atanhTerms (p : Nat) (z2 : Iv) : Nat → Nat → Iv → Iv → Iv × Iv
  | 0, _, t, s => (s, t)
  | f + 1, k, t, s =>
    let t' := Iv.mul p t z2
    atanhTerms p z2 f (k + 2) t' (s.add (t'.divNat k))

/-- atanh z for |z| at most about 1/3. -/
def atanhSmall (p : Nat) (z : Iv) : Iv :=
  let x := atanhTerms p (Iv.mul p z z) (p / 3 + 10) 3 z z
  x.1.widen x.2

/-- ln 2 = 2 atanh(1/3). -/
def ivLn2 (p : Nat) : Iv := (atanhSmall p (Iv.ofQ p ⟨1, 3⟩)).scale 2

/-- Terms of atan z = z − z³/3 + … -/
def atanTerms (p : Nat) (z2 : Iv) : Nat → Nat → Iv → Iv → Iv × Iv
  | 0, _, t, s => (s, t)
  | f + 1, k, t, s =>
    let t' := (Iv.mul p t z2).neg
    atanTerms p z2 f (k + 2) t' (s.add (t'.divNat k))

def atanSmall (p : Nat) (z : Iv) : Iv :=
  let x := atanTerms p (Iv.mul p z z) (p / 3 + 10) 3 z z
  x.1.widen x.2

/-- π = 16 atan(1/5) − 4 atan(1/239). -/
def ivPi (p : Nat) : Iv :=
  ((atanSmall p (Iv.ofQ p ⟨1, 5⟩)).scale 16).sub ((atanSmall p (Iv.ofQ p ⟨1, 239⟩)).scale 4)

/-- √ of a non-negative interval. -/
def Iv.sqrt (p : Nat) (a : Iv) : Iv := ⟨isqrt (a.lo.toNat * 2 ^ p), isqrt (a.hi.toNat * 2 ^ p) + 1⟩

/-- e^x as an interval times 2^n. -/
def ivExp (p : Nat) (x : Iv) : Iv × Int :=
  let l := ivLn2 p
  let n := Int.fdiv x.lo l.lo
  (expSmall p (x.sub (l.scale n)), n)

/-- ln of a positive rational. -/
def ivLn (p : Nat) (q : Q) : Iv :=
  let e := q.exponent
  let m := q.mul2 (-e)
  let z := Iv.ofQ p ((m.sub Q.one).div (m.add Q.one))
  ((atanhSmall p z).scale 2).add ((ivLn2 p).scale e)

/-- ln (1 + y) for an interval y between 0 and about 1. -/
def ivLn1p (p : Nat) (y : Iv) : Iv :=
  (atanhSmall p (Iv.div p y (y.add (Iv.ofQ p (Q.ofInt 2))))).scale 2

/-- Terms of z Σ (2z²)^k / (2k+1)!!. -/
def erfTerms (p : Nat) (z2 : Iv) : Nat → Nat → Iv → Iv → Iv × Iv
  | 0, _, t, s => (s, t)
  | f + 1, k, t, s =>
    let t' := ((Iv.mul p t z2).scale 2).divNat (2 * k + 3)
    erfTerms p z2 f (k + 1) t' (s.add t')

/-- erf z for z ≥ 0 with z² given as a rational (z up to about 22). -/
def ivErf (p : Nat) (z : Iv) (zz : Q) : Iv :=
  let z2 := Iv.ofQ p zz
  let x := erfTerms p z2 (2 * (zz.floor.toNat + 1) + p + 20) 0 z z
  let s := x.1.widen x.2
  let e := ivExp p z2.neg
  let c := Iv.div p (Iv.ofQ p (Q.ofInt 2)) (Iv.sqrt p (ivPi p))
  Iv.mul p c (Iv.mul p (e.1.shift e.2) s)

/-- Bounds as rationals: an interval times 2^n. -/
def Iv.toQ (p : Nat) (a : Iv) (n : Int) : Q × Q := (Q.mul2 ⟨a.lo, 2 ^ p⟩ n, Q.mul2 ⟨a.hi, 2 ^ p⟩ n)

/-- Both ends times an exact value. -/
def scaleQ (x : Q) (b : Q × Q) : Q × Q :=
  if x.num < 0 then (x.mul b.2, x.mul b.1) else (x.mul b.1, x.mul b.2)

def qHalf : Q := ⟨1, 2⟩
/-- 1 − 2^-200: every value this close below 1, and only slightly off it, rounds as this one does. -/
def qBelowOne : Q := Q.one.sub (Q.scale2 1 (-200))
def qAboveOne : Q := Q.one.add (Q.scale2 1 (-200))
/-- 2^-700 and 2^700 stand for values beyond every format's range. -/
def qTiny : Q := Q.scale2 1 (-700)
def qHuge : Q := Q.scale2 1 700

/-- An operand so near 0 that the leading terms of the function decide every rounding. -/
def qSmall (x : Q) : Bool := x.abs.lt (Q.scale2 1 (-32))
def qAbove (x : Q) (n : Nat) : Bool := (Q.ofInt n).lt x
def qBelow (x : Q) (n : Nat) : Bool := x.lt (Q.ofInt (-(n : Int)))

/-- Bounds of a function that is not rational at a real operand, at precision p. -/
def fnBounds (p : Nat) (f : Fn) (x : Q) : Q × Q :=
  let one := Iv.ofQ p Q.one
  match f with
  | .exp2 =>
    if qAbove x 600 then (qHuge, qHuge)
    else if qBelow x 600 then (qTiny, qTiny)
    else if qSmall x then
      (if x.isNeg then (Q.one.add x, Q.one.add (x.mul qHalf)) else (Q.one.add (x.mul qHalf), Q.one.add x))
    else
      let n := x.floor
      (expSmall p (Iv.mul p (ivLn2 p) (Iv.ofQ p (x.sub (Q.ofInt n))))).toQ p n
  | .exp =>
    if qAbove x 400 then (qHuge, qHuge)
    else if qBelow x 400 then (qTiny, qTiny)
    else if qSmall x then
      (if x.isNeg then (Q.one.add (x.mul (Q.ofInt 2)), Q.one.add (x.mul qHalf))
       else (Q.one.add (x.mul qHalf), Q.one.add (x.mul (Q.ofInt 2))))
    else
      let e := ivExp p (Iv.ofQ p x)
      e.1.toQ p e.2
  | .log2 => (Iv.div p (ivLn p x) (ivLn2 p)).toQ p 0
  | .log => (ivLn p x).toQ p 0
  | .sigmoid =>
    if qAbove x 100 then (qBelowOne, qBelowOne)
    else if qBelow x 400 then (qTiny, qTiny)
    else if qSmall x then
      let q := x.mul ⟨1, 4⟩
      let c := (x.mul (x.mul x)).abs
      (qHalf.add (q.sub c), qHalf.add (q.add c))
    else
      let e := ivExp p (Iv.ofQ p x.abs.neg)
      let d := one.add (e.1.shift e.2)
      if x.isNeg then (Iv.div p e.1 d).toQ p e.2 else (Iv.div p one d).toQ p 0
  | .tanh =>
    if qAbove x 100 then (qBelowOne, qBelowOne)
    else if qBelow x 100 then (qBelowOne.neg, qBelowOne.neg)
    else if qSmall x then
      let c := x.mul (x.mul x)
      let a := x.sub (c.mul ⟨1, 3⟩)
      let b := x.sub (c.mul ⟨1, 6⟩)
      if x.isNeg then (b, a) else (a, b)
    else
      let e := ivExp p (Iv.ofQ p (x.abs.mul (Q.ofInt (-2))))
      let y := e.1.shift e.2
      let r := (Iv.div p (one.sub y) (one.add y)).toQ p 0
      if x.isNeg then (r.2.neg, r.1.neg) else r
  | .silu =>
    if qAbove x 200 then (x.mul qBelowOne, x.mul qBelowOne)
    else if qBelow x 600 then (qTiny.neg, qTiny.neg)
    else if qSmall x then
      let h := x.mul qHalf
      let c := x.mul x
      (h.add (c.mul ⟨1, 8⟩), h.add (c.mul qHalf))
    else
      let e := ivExp p (Iv.ofQ p x.abs.neg)
      let d := one.add (e.1.shift e.2)
      scaleQ x (if x.isNeg then (Iv.div p e.1 d).toQ p e.2 else (Iv.div p one d).toQ p 0)
  | .gelu =>
    if qAbove x 30 then (x.mul qBelowOne, x.mul qBelowOne)
    else if qBelow x 30 then (qTiny.neg, qTiny.neg)
    else if qSmall x then
      let h := x.mul qHalf
      let c := x.mul x
      (h.add (c.mul ⟨1, 4⟩), h.add (c.mul qHalf))
    else
      let zz := (x.mul x).mul qHalf
      let er := ivErf p (Iv.sqrt p (Iv.ofQ p zz)) zz
      let phi2 := if x.isNeg then one.sub er else one.add er
      scaleQ x (phi2.toQ p (-1))
  | .softplus =>
    if qAbove x 200 then (x.mul qAboveOne, x.mul qAboveOne)
    else if qBelow x 400 then (qTiny, qTiny)
    else
      let e := ivExp p (Iv.ofQ p x.abs.neg)
      if qBelow x 40 ∧ p < 2048 then
        -- y − y² < ln(1 + y) < y − y²/4
        let y := e.1.toQ p e.2
        (y.1.sub (y.2.mul y.2), y.2.sub ((y.1.mul y.1).mul ⟨1, 4⟩))
      else
        let l := ivLn1p p (e.1.shift e.2)
        if x.isNeg then l.toQ p 0
        else
          let b := l.toQ p 0
          (x.add b.1, x.add b.2)
  | .erf =>
    if qAbove x 10 then (qBelowOne, qBelowOne)
    else if qBelow x 10 then (qBelowOne.neg, qBelowOne.neg)
    else if qSmall x then
      let c := (Iv.div p (Iv.ofQ p (Q.ofInt 2)) (Iv.sqrt p (ivPi p))).toQ p 0
      let a := x.abs
      let lo := (a.mul c.1).mul (Q.one.sub (x.mul x))
      let hi := a.mul c.2
      if x.isNeg then (hi.neg, lo.neg) else (lo, hi)
    else
      let r := (ivErf p (Iv.ofQ p x.abs) (x.mul x)).toQ p 0
      if x.isNeg then (r.2.neg, r.1.neg) else r
  | .sqrt =>
    let y : Nat := x.num.natAbs * 2 ^ (2 * (p + 400)) / x.den
    let s := isqrt y
    (Q.scale2 s (-((p + 400 : Nat) : Int)),
     Q.scale2 (if s * s * x.den = x.num.natAbs * 2 ^ (2 * (p + 400)) then s else s + 1) (-((p + 400 : Nat) : Int)))
  | .rsqrt =>
    let y : Nat := x.den * 2 ^ (2 * (p + 400)) / x.num.natAbs
    let s := isqrt y
    (Q.scale2 s (-((p + 400 : Nat) : Int)),
     Q.scale2 (if s * s * x.num.natAbs = x.den * 2 ^ (2 * (p + 400)) then s else s + 1) (-((p + 400 : Nat) : Int)))
  | .rcp => (Q.one.div x, Q.one.div x)

/-- The values at which a function is taken exactly, and its NaR operands (R116): `none` asks for the bounds. -/
def fnExact (f : Fn) (x : Q) : Option Val :=
  if x.num = 0 then
    match f with
    | .exp2 | .exp => some (.real Q.one)
    | .log2 | .log | .rcp | .rsqrt => some .nar
    | .sqrt | .tanh | .silu | .gelu | .erf => some (.real Q.zero)
    | .sigmoid => some (.real qHalf)
    | .softplus => none
  else if x.isNeg ∧ (f = .log2 ∨ f = .log ∨ f = .sqrt ∨ f = .rsqrt) then some .nar
  else
    match f with
    | .rcp => some (.real (Q.one.div x))
    | .exp2 =>
      let n := x.floor
      if (Q.ofInt n).same x ∧ -600 ≤ n ∧ n ≤ 600 then some (.real (Q.scale2 1 n)) else none
    | .log2 => if (x.mul2 (-x.exponent)).same Q.one then some (.real (Q.ofInt x.exponent)) else none
    | .log => if x.same Q.one then some (.real Q.zero) else none
    | _ => none

/-- Tries the precisions in turn until both bounds round to one code. -/
def fnTry (o : Fmt) (r : Rounding) (f : Fn) (x : Q) : List Nat → Option (Code × Status)
  | [] => none
  | p :: rest =>
    let b := fnBounds p f x
    let lo := o.round r (.real b.1)
    let hi := o.round r (.real b.2)
    if lo = hi then some lo else fnTry o r f x rest

/-- A function of R116 at an operand, rounded once into T16 or BF16. `none` only where every precision leaves two
codes possible; the caller then takes a free value (log 9). -/
def fnValue (o : Fmt) (r : Rounding) (f : Fn) (v : Val) : Option (Code × Status) :=
  match v with
  | .nar => some (o.round r .nar)
  | .real x =>
    match fnExact f x with
    | some y => some (o.round r y)
    | none => fnTry o r f x [64, 128, 512, 2048]

end Sys2Proof.Machine
end

