-- ==== Sys2Proof/Machine/UpdateOps.lean ====
section
/-! DEFINITION. Update blocks and planes, update arithmetic, the four rules, and the exchange's compression
(R265 to R268, R279 to R284). -/

namespace Sys2Proof.Machine

/-! ## Blocks (R267, R268) -/

def Layer.rb (l : Layer) : Nat := (l.rows + 47) / 48
def Layer.cb (l : Layer) : Nat := (l.cols + 47) / 48
/-- Blocks of the layer. -/
def Layer.blocks (l : Layer) : Nat := l.rb * l.cb
/-- N: the blocks of one gate at most (R267). -/
def Layer.perGate (l : Layer) : Nat := (l.blocks + 47) / 48
/-- Owner gate of block u (R267). -/
def Layer.owner (l : Layer) (u : Nat) : Nat := (l.gate0 + u) % 48
/-- The block of a gate with local index i (R267). -/
def Layer.blockOf (l : Layer) (g i : Nat) : Nat := 48 * i + (g + 48 - l.gate0 % 48) % 48
/-- The blocks a gate owns, by local index. -/
def Layer.owned (l : Layer) (g : Nat) : List Nat :=
  ((List.range l.perGate).map (l.blockOf g)).filter fun u => decide (u < l.blocks)

/-- Planes present and their sizes: plane number and bytes per block (R268). -/
def Layer.planes (l : Layer) : List (Nat × Nat) :=
  [(0, 4608), (1, 4608)] ++
  (if l.rule = 1 then [(2, 4608)] else if l.rule = 3 then [(2, 192)] else []) ++
  (if l.exchange = 1 ∨ l.exchange = 2 then [(3, 4608)] else [])

/-- Bytes of the planes before plane p in each block (R268). -/
def Layer.planeOff (l : Layer) (p : Nat) : Nat :=
  l.perGate * ((l.planes.filter fun q => decide (q.1 < p)).map (·.2)).foldl (· + ·) 0

def Layer.planeSize (l : Layer) (p : Nat) : Nat := ((l.planes.find? fun q => q.1 == p).map (·.2)).getD 0

/-- Stack address of plane p of block u (R268). -/
def Layer.planeAddr (l : Layer) (u p : Nat) : Nat :=
  l.owner u * sliceBytes + l.stateBase + l.planeOff p + u / 48 * l.planeSize p

/-- The planes of a block lie in the populated part (R278). -/
def Layer.inPopulated (l : Layer) (u : Nat) : Bool :=
  l.planes.all fun q => inSlice (l.owner u) ((l.planeAddr u q.1 : Nat) : Int) q.2

/-! ## Update arithmetic (R279, R280) -/

/-- RNE to a 32-bit significand with an unbounded exponent. -/
def round32 (a : Q) : Q :=
  if a.num = 0 then Q.zero
  else
    let unit := a.exponent - 31
    let m := roundUnits .rne a.num.natAbs a.den unit
    Q.scale2 (if a.num < 0 then -(m : Int) else m) unit

/-- A value of update arithmetic; none is NaR (R279). -/
abbrev U := Option Q

def uOp (f : Q → Q → Q) : U → U → U
  | some a, some b => some (round32 (f a b))
  | _, _ => none

def uAdd : U → U → U := uOp Q.add
def uSub : U → U → U := uOp Q.sub
def uMul : U → U → U := uOp Q.mul
/-- A quotient with a zero divisor is 0. -/
def uDiv : U → U → U := uOp fun a b => if b.num = 0 then Q.zero else a.div b

/-- The square root, rounded once; of a negative value 0. -/
def uSqrt : U → U
  | none => none
  | some a =>
    if a.num ≤ 0 then some Q.zero
    else
      -- 2^(2k) × a has at least 160 bits, so its root has at least 80 and the lost part only makes it inexact
      let e := a.exponent
      let k : Int := 80 - e / 2
      let y := a.mul2 (2 * k)
      let n := y.floor.toNat
      let s := isqrt n
      let exact : Bool := decide (s * s * y.den = y.num.toNat)
      some (round32 ((Q.scale2 (2 * s + (if exact then 0 else 1)) (-k - 1))))

def uSign : U → U
  | none => none
  | some a => some (Q.ofInt (if a.num = 0 then 0 else if a.num < 0 then -1 else 1))

def uOne : U := some Q.one

/-- The binary digits of a number, most significant first. -/
def binDigits (n : Nat) : List Bool := (List.range (bitLength n)).reverse.map fun i => n.testBit i

/-- pow_t (R280). -/
def powT (b : U) (t : Nat) : U := (binDigits t).foldl (fun r bit => let r := uMul r r; if bit then uMul r b else r) uOne

/-- corr (R280). -/
def corr (value b : U) (t : Nat) : U :=
  match uSub uOne (powT b t) with
  | none => none
  | some d => if d.num = 0 then value else uDiv value (some d)

/-- The exact mean of 48 operands, rounded once (R279). -/
def mean48 (l : List U) : U :=
  l.foldl (fun (a : U) x => match a, x with
    | some p, some q => some (p.add q)
    | _, _ => none) (some Q.zero) |>.map fun s => round32 (s.div (Q.ofInt 48))

/-- A T16 code times 2^e, exactly. -/
def uCode (c : Code) (e : Int) : U :=
  match t16Val c with
  | .nar => none
  | .real q => some (q.mul2 e)

/-- A field scaled back exactly and rounded once to T16; NaR sets NAR (R279). -/
def uStore (r : Rounding) (v : U) (e : Int) : Code × Status :=
  roundT16 r (match v with
    | none => .nar
    | some q => .real (q.mul2 e))

/-! ## The rules (R281) -/

/-- Rule constants at their exact values. -/
def Layer.const (l : Layer) (i : Nat) : U := uCode (l.consts.getD i codeNar) 0

/-- Some field is NaR. -/
def anyNone (l : List U) : Bool := l.any Option.isNone

/-- RULE 0: new weight and momentum. -/
def momentum (l : Layer) (eta w m g : U) : U × U :=
  let m1 := uAdd (uMul (l.const 0) m) (uMul (l.const 1) g)
  let w1 := uSub w (uMul eta (uAdd m1 (uMul (l.const 2) w)))
  (w1, m1)

/-- RULE 1: new weight, first and second moment. -/
def twoMoment (l : Layer) (eta : U) (t : Nat) (w m v g : U) : U × U × U :=
  let b1 := l.const 0
  let b2 := l.const 1
  let m1 := uAdd (uMul b1 m) (uMul (uSub uOne b1) g)
  let v1 := uAdd (uMul b2 v) (uMul (uSub uOne b2) (uMul g g))
  let w1 := uSub w (uMul eta (uAdd (uDiv (corr m1 b1 t) (uAdd (uSqrt (corr v1 b2 t)) (l.const 2))) (uMul (l.const 3) w)))
  (w1, m1, v1)

/-- RULE 2: new weight and momentum. -/
def signMomentum (l : Layer) (eta w m g : U) : U × U :=
  let b1 := l.const 0
  let b2 := l.const 1
  let c := uAdd (uMul b1 m) (uMul (uSub uOne b1) g)
  let w1 := uSub w (uMul eta (uAdd (uSign c) (uMul (l.const 2) w)))
  let m1 := uAdd (uMul b2 m) (uMul (uSub uOne b2) g)
  (w1, m1)

/-- RULE 3, the new factors from the old ones and the gradient rows or columns. -/
def newFactor (l : Layer) (f : U) (gs : List U) : U :=
  let q := gs.map fun g => uAdd (uMul g g) (l.const 2)
  uAdd (uMul (l.const 1) f) (uMul (uSub uOne (l.const 1)) (mean48 q))

/-- RULE 3, one element: new weight and first moment. -/
def factoredElem (l : Layer) (eta : U) (t : Nat) (w m g r1 k1 rm : U) : U × U :=
  let m1 := uAdd (uMul (l.const 0) m) (uMul (uSub uOne (l.const 0)) g)
  let vh := corr (uDiv (uMul r1 k1) rm) (l.const 1) t
  let w1 := uSub w (uMul eta (uAdd (uDiv (corr m1 (l.const 0) t) (uSqrt vh)) (uMul (l.const 3) w)))
  (w1, m1)

/-- What a block update needs: the layer, block, step, step size, seed, the planes and gradient it reads (plane 3 as `r`),
and the new residual that the compression left. -/
structure BlockIn where
  layer : Layer
  blk : Nat
  step : Nat
  eta : Code
  seed : Word
  w : List Code
  m : List Code
  v : List Code
  r : List Code
  g : List Code
  resid : List Code

/-- The rounding of a state field of plane p at logical coordinates (R279). -/
def BlockIn.rounding (x : BlockIn) (p row col : Nat) : Rounding :=
  if x.layer.stateSr then
    .sr (srBits x.seed (BitVec.ofNat 64 x.step) ((x.layer.stateTensor + p) % 2 ^ 24) row col)
  else .rne

/-- Logical coordinates of element (i, j) of block u (R267). -/
def Layer.coords (l : Layer) (u i j : Nat) : Nat × Nat := (48 * (u / l.cb) + i, 48 * (u % l.cb) + j)

/-- An element outside ROWS × COLS is padding (R268). -/
def Layer.isPadding (l : Layer) (u i j : Nat) : Bool :=
  let c := l.coords u i j
  decide (l.rows ≤ c.1) || decide (l.cols ≤ c.2)

/-- The layer has a residual plane (R268). -/
def Layer.hasResidual (l : Layer) : Bool := l.exchange == 1 || l.exchange == 2

/-- The new planes 0 to 3 of a block and the flags of its roundings. -/
structure BlockOut where
  w : List Code
  m : List Code
  v : List Code
  r : List Code
  flags : Status

/-- One element of a block: its new codes in planes 0 to 3 and the flags. A padding element is written back unchanged
(R268); a NaR in any field of the element, in g or in η makes every field NaR (R279). -/
def BlockIn.element (x : BlockIn) (r1 k1 : List U) (rm : U) (e : Nat) : (Code × Code × Code × Code) × Status :=
  let l := x.layer
  let sx := l.scaleX
  let at_ := fun (p : List Code) => p.getD e codeZero
  let i := e / 48
  let j := e % 48
  let c := l.coords x.blk i j
  if l.isPadding x.blk i j then ((at_ x.w, at_ x.m, at_ x.v, at_ x.r), 0)
  else
    let eta := uCode x.eta 0
    let w := uCode (at_ x.w) 0
    let m := uCode (at_ x.m) (-sx)
    let v := uCode (at_ x.v) (-2 * sx)
    let g := uCode (at_ x.g) (-sx)
    let bad := anyNone ([eta, w, m, g] ++ (if l.rule = 1 then [v] else []) ++ (if l.hasResidual then [uCode (at_ x.r) (-sx)] else []))
    let y : U × U × U :=
      if bad then (none, none, none)
      else match l.rule with
      | 0 => let z := momentum l eta w m g; (z.1, z.2, none)
      | 1 => twoMoment l eta x.step w m v g
      | 2 => let z := signMomentum l eta w m g; (z.1, z.2, none)
      | _ => let z := factoredElem l eta x.step w m g (r1.getD i none) (k1.getD j none) rm; (z.1, z.2, none)
    let a := uStore (x.rounding 0 c.1 c.2) y.1 0
    let b := uStore (x.rounding 1 c.1 c.2) y.2.1 sx
    let d := if l.rule = 1 then uStore (x.rounding 2 c.1 c.2) y.2.2 (2 * sx) else (at_ x.v, 0)
    ((a.1, b.1, d.1, if bad then codeNar else at_ x.resid), a.2 ||| b.2 ||| d.2)

/-- The new planes of a block (R279, R281; the factors of RULE 3 take every element of the block, log 37). -/
def BlockIn.update (x : BlockIn) : BlockOut :=
  let l := x.layer
  let sx := l.scaleX
  let g := fun e => uCode (x.g.getD e codeZero) (-sx)
  let fac := fun i => uCode (x.v.getD i codeZero) (-2 * sx)
  let r1 := (List.range 48).map fun i => if l.rule = 3 then newFactor l (fac i) ((List.range 48).map fun j => g (48 * i + j)) else none
  let k1 := (List.range 48).map fun j =>
    if l.rule = 3 then newFactor l (fac (48 + j)) ((List.range 48).map fun i => g (48 * i + j)) else none
  let rm := mean48 r1
  let elems := (List.range 2304).map (x.element r1 k1 rm)
  let rb := x.blk / l.cb
  let cb := x.blk % l.cb
  let facs :=
    (List.range 48).map (fun i => uStore (x.rounding 2 (48 * rb + i) cb) (r1.getD i none) (2 * sx)) ++
    (List.range 48).map (fun j => uStore (x.rounding 4 rb (48 * cb + j)) (k1.getD j none) (2 * sx))
  let st := Status.orAll (elems.map fun e => e.2)
  { w := elems.map fun e => e.1.1
    m := elems.map fun e => e.1.2.1
    v := if l.rule = 3 then facs.map (·.1) else elems.map fun e => e.1.2.2.1
    r := elems.map fun e => e.1.2.2.2
    flags := if l.rule = 3 then st ||| Status.orAll (facs.map (·.2)) else st }

/-! ## Compression (R282) -/

/-- One key of the top-k order: NaR first, then larger exact magnitude, then lower index. -/
def topBefore (a b : Val × Nat) : Bool :=
  match a.1, b.1 with
  | .nar, .nar => decide (a.2 < b.2)
  | .nar, .real _ => true
  | .real _, .nar => false
  | .real p, .real q => if p.abs.same q.abs then decide (a.2 < b.2) else q.abs.lt p.abs

def insertTop (x : Val × Nat) : List (Val × Nat) → List (Val × Nat)
  | [] => [x]
  | y :: rest => if topBefore x y then x :: y :: rest else y :: insertTop x rest

def insertIdx (x : Val × Nat) : List (Val × Nat) → List (Val × Nat)
  | [] => [x]
  | y :: rest => if x.2 < y.2 then x :: y :: rest else y :: insertIdx x rest

/-- The elements that top-k sends, in ascending index (R282). -/
def topElements (topk : Nat) (us : List Val) : List (Val × Nat) :=
  (((us.zip (List.range us.length)).foldl (fun acc x => insertTop x acc) []).take (min topk us.length)).foldl
    (fun acc x => insertIdx x acc) []

/-- The scale of sign mode before its rounding: the exact mean of |u| (R282). -/
def signScale (us : List Val) : Val :=
  match us.foldl (fun (a : Val) u => match a, u with
      | .real p, .real q => .real (p.add q.abs)
      | _, _ => .nar) (.real Q.zero) with
  | .real q => .real (q.div (Q.ofInt us.length))
  | .nar => .nar

/-- The payload of a compression block from its exact u, and the flags of its roundings (R78, R282). -/
def compressPayload (mode topk : Nat) (us : List Val) : List Byte × Status :=
  if mode = 1 then
    let es := (topElements topk us).map fun x => (x.2, roundT16 .rne x.1)
    (es.flatMap fun x => leBytes 2 x.1 ++ leBytes 2 x.2.1.toNat, Status.orAll (es.map fun x => x.2.2))
  else
    let s := roundT16 .rne (signScale us)
    let bits := (List.range ((us.length + 7) / 8)).map fun b =>
      BitVec.ofNat 8 ((List.range 8).foldl (fun v i =>
        match us.getD (8 * b + i) .nar with
        | .real q => if q.isNeg then v + 2 ^ i else v
        | .nar => v) 0)
    (leBytes 2 s.1.toNat ++ bits, s.2)

/-- The decompressed value of element i of a payload (R282). -/
def decompress (mode : Nat) (p : List Byte) (i : Nat) : Val :=
  if mode = 1 then
    match ((pieces 4 (p.length / 4 + 1) p).find? fun e => leAt e 0 2 % 4096 == i) with
    | some e => t16Val (BitVec.ofNat 16 (leAt e 2 2))
    | none => .real Q.zero
  else
    let s := t16Val (BitVec.ofNat 16 (leAt p 0 2))
    if leAt p (2 + i / 8) 1 / 2 ^ (i % 8) % 2 = 1 then s.neg else s

/-- Elements that a gate owns in a layer, and those of compression block c (R282). -/
def Layer.elemsOf (l : Layer) (g : Nat) : Nat := (l.owned g).length * 2304
def Layer.cblockLen (l : Layer) (g c : Nat) : Nat := min 4096 (l.elemsOf g - 4096 * c)

/-- The length a payload of a compression block must have (R283). -/
def Layer.payloadLen (l : Layer) (g c : Nat) : Nat :=
  let n := l.cblockLen g c
  if l.exchange = 1 then 4 * min l.topk n else 2 + (n + 7) / 8

def cblocksOf (i : Nat) : List Nat :=
  let lo := 2304 * i / 4096
  let hi := (2304 * i + 2303) / 4096
  (List.range (hi + 1 - lo)).map (lo + ·)

end Sys2Proof.Machine
end

