-- ==== Sys2Proof/Machine/BlvdOps.lean ====
section
/-! DEFINITION. The boulevard's nodes, gradients at the gate, compression, and the update pass (R269 to R288). -/

namespace Sys2Proof.Machine

/-! ## Nodes (R270, R271) -/

def regionNode (r : Nat) : Nat := 6720 + r
def gateNode (g : Nat) : Nat := 6804 + g

/-- The region that a quad node or region node lies in (R273). -/
def nodeRegion (n : Nat) : Nat := if n < 6720 then regionOfQuad n else n - 6720

/-- Rows a node can buffer (R270). -/
def nodeRoom (n : Nat) : Nat := if n < 6720 then 64 else 512

/-- The home region of a gate: that of the first tile of its frontage (R270). -/
def homeRegion (g : Nat) : Nat := regionOf (frontageTile g 0)

def State.layers (s : State) : List Layer :=
  match s.plan.plan with
  | some p => p.layers
  | none => []

/-- The layer of a gradient row: the lowest LAYER whose GRAD_TENSOR matches (R271). -/
def findLayer (ls : List Layer) (tensor : Nat) : Option Layer :=
  (ls.filter fun l => l.gradTensor == tensor).foldl (fun (a : Option Layer) l =>
    match a with
    | some b => if l.id < b.id then some l else some b
    | none => some l) none

/-- Block of the layer that holds a row (R267). -/
def Layer.blockAt (l : Layer) (row col0 : Nat) : Nat := row / 48 * l.cb + col0 / 48

/-- The gate that the first region node chooses (R271). -/
def chooseGate (ls : List Layer) (r : Nat) (w : WideRow) : Nat :=
  match findLayer ls w.tensor with
  | some l => l.owner (l.blockAt w.row w.col0)
  | none => r % 48

/-- The next node on the way to a gate: along the region row, then along the column, then into the gate (R271). -/
def nextNode (n g : Nat) : Nat :=
  if n < 6720 then regionNode (regionOfQuad n)
  else
    let r := n - 6720
    let h := homeRegion g
    if r = h then gateNode g
    else if r % 12 < h % 12 then regionNode (r + 1)
    else if h % 12 < r % 12 then regionNode (r - 1)
    else if r < h then regionNode (r + 12)
    else regionNode (r - 12)

def sameKey (a b : WideRow) : Bool := a.tensor == b.tensor && a.row == b.row && a.col0 == b.col0

/-- Adds wide elements one by one with the pin (R72, R73): the sums and the flags. -/
def addElems (xs ys : List Int) : List Int × Status :=
  let z := (xs.zip ys).map fun p => (⟨p.1, 0, false⟩ : AccSum).addWide p.2 0
  (z.map (·.s), Status.orAll (z.map (·.st)))

/-- Merges a row into one with the same key (R271). -/
def mergeRow (a b : WideRow) : WideRow :=
  let z := addElems a.vals b.vals
  { a with anchor := max a.anchor b.anchor, status := a.status ||| b.status ||| z.2, count := a.count + b.count, vals := z.1 }

/-- The node's buffer after a row arrives, `held` of whose entries are taken by rows on the links; none where it is refused
(R271, R272). -/
def acceptRow (n held : Nat) (buf : List WideRow) (w : WideRow) : Option (List WideRow) :=
  if buf.any fun b => sameKey b w then some (buf.map fun b => if sameKey b w then mergeRow b w else b)
  else if nodeRoom n ≤ buf.length + held then none
  else some (buf ++ [w])

/-- A node has no power: its region is dusk or dark (R273). -/
def State.nodeOff (s : State) (n : Nat) : Bool := s.isDusk (nodeRegion n) || s.isDark (nodeRegion n)

/-- A row is lost at an unpowered node (R273). -/
def State.loseRow (s : State) (r : Nat) (w : WideRow) : State :=
  let s := ({ s with upd := { s.upd with dropCount := wrap64 (s.upd.dropCount + 1), blvdDrop := true } } : State).noteSet .upd 3
  s.addError (.blvdLost r w.tensor w.row) true

/-- The rows buffered in the nodes of a region, those on their links included, are lost when it enters dusk or goes dark
(R272, R273). -/
def State.dropNodes (s : State) (r : Nat) : State :=
  let mine := fun n => decide (n < 6804) && nodeRegion n == r
  let rows := (s.blvd.nodes.filter fun p => mine p.1).flatMap (·.2) ++ (s.blvd.links.filter fun f => mine f.src).map (·.row)
  let s := { s with blvd := { s.blvd with
    nodes := s.blvd.nodes.filter fun p => !mine p.1
    links := s.blvd.links.filter fun f => !mine f.src } }
  rows.foldl (fun s w => s.loseRow r w) s

def State.nodeRows (s : State) (n : Nat) : List WideRow := Map.getD s.blvd.nodes n []
def State.setNode (s : State) (n : Nat) (l : List WideRow) : State :=
  { s with blvd := { s.blvd with nodes := if l.isEmpty then Map.erase s.blvd.nodes n else Map.set s.blvd.nodes n l } }

/-- Entries of a node's buffer that rows on its links hold until the next node accepts them (R272). -/
def State.linkHeld (s : State) (n : Nat) : Nat := (s.blvd.links.filter fun f => f.src == n).length

/-- A refused row is again the oldest of the node that it has not left; a row with its key that came meanwhile joins it
(R271, R272). -/
def State.returnRow (s : State) (n : Nat) (w : WideRow) : State :=
  let l := s.nodeRows n
  s.setNode n (((l.filter fun b => sameKey b w).foldl mergeRow w) :: l.filter fun b => !sameKey b w)

/-- Rows that a region node may accept in one cycle from its quad nodes, and from its neighbours (R270). -/
def regionRate : Nat := 4

/-- Rows that a region node has accepted in this cycle: from its quad nodes and from its neighbours. -/
def State.takenNow (s : State) (n : Nat) : Nat × Nat :=
  match Map.find? s.blvd.taken n with
  | some (c, q) => if c = s.clk.now then q else (0, 0)
  | none => (0, 0)

/-- A region node can accept no further row of that kind in this cycle (R270). -/
def State.rateFull (s : State) (n src : Nat) : Bool :=
  decide (6720 ≤ n) && decide (regionRate ≤ if src < 6720 then (s.takenNow n).1 else (s.takenNow n).2)

/-- Counts a row that a region node accepts (R270). -/
def State.noteTaken (s : State) (n src : Nat) : State :=
  if n < 6720 then s
  else
    let q := s.takenNow n
    { s with blvd := { s.blvd with
      taken := Map.set s.blvd.taken n (s.clk.now, if src < 6720 then (q.1 + 1, q.2) else (q.1, q.2 + 1)) } }

/-- Keys of the output rates: a tile's port, a link from node to node. -/
def tileKey (t : Nat) : Nat := t
def linkKey (a b : Nat) : Nat := 26880 + 6852 * a + b

def State.freeAt (s : State) (k : Nat) : Nat := Map.getD s.blvd.free k 0
def State.setFree (s : State) (k c : Nat) : State := { s with blvd := { s.blvd with free := Map.set s.blvd.free k c } }

/-! ## Slots (R274, R275) -/

def UpdUnit.slot? (u : UpdUnit) (layer blk : Nat) : Option UpdSlot := u.slots.find? fun x => x.layer == layer && x.blk == blk
def UpdUnit.setSlot (u : UpdUnit) (x : UpdSlot) : UpdUnit :=
  { u with slots := u.slots.map fun y => if y.layer = x.layer ∧ y.blk = x.blk then x else y }
def UpdSlot.fresh (layer blk : Nat) : UpdSlot := ⟨layer, blk, [], [], none, 0, [], [], [], false, false⟩

/-- Opens a slot and keeps the peak; none when all 896 are in use (R274, R288). -/
def UpdUnit.openSlot (u : UpdUnit) (layer blk : Nat) : Option UpdUnit :=
  match u.slot? layer blk with
  | some _ => some u
  | none =>
    if 896 ≤ u.slots.length then none
    else some { u with slots := u.slots ++ [UpdSlot.fresh layer blk], peakNow := max u.peakNow (u.slots.length + 1) }

def State.slotWait (s : State) : State := ({ s with upd := { s.upd with slotWait := true } } : State).noteSet .upd 5

/-- Adds a row into its slot (R271, R275). -/
def UpdSlot.addRow (x : UpdSlot) (i : Nat) (w : WideRow) : UpdSlot :=
  let old := (List.range 48).map fun j => Map.getD x.acc (48 * i + j) 0
  let z := addElems old w.vals
  { x with
    acc := ((List.range 48).zip z.1).foldl (fun m p => Map.set m (48 * i + p.1) p.2) x.acc
    counts := Map.set x.counts i (Map.getD x.counts i 0 + w.count)
    anchor := some (match x.anchor with
      | some a => max a w.anchor
      | none => w.anchor)
    status := x.status ||| w.status ||| z.2 }

/-- Every row of the block has CONTRIB contributions (R275). -/
def UpdSlot.complete (x : UpdSlot) (l : Layer) : Bool :=
  (List.range 48).all fun i => decide (l.rows ≤ (l.coords x.blk i 0).1) || Map.getD x.counts i 0 == l.contrib

/-- The rounding of a gradient element (R58, R275, R284). -/
def State.gradRounding (s : State) (l : Layer) (tensor u e : Nat) : Rounding :=
  if l.gradSr then
    let c := l.coords u (e / 48) (e % 48)
    .sr (srBits (match s.plan.plan with
      | some p => p.hdr.seed
      | none => 0) s.stepNow (tensor % 2 ^ 24) c.1 c.2)
  else .rne

/-- The reduced gradient of a final block, with its flags (R74, R81, R275). -/
def State.reduced (s : State) (l : Layer) (x : UpdSlot) : List Code × Status :=
  let a := x.anchor.getD 0 + l.scaleX
  let z := (List.range 2304).map fun e => accRound .t16 (s.gradRounding l l.gradTensor x.blk e) a (Map.getD x.acc e 0)
  (z.map (·.1), x.status ||| Status.orAll (z.map (·.2)))

/-- A discarded gradient row (R275). -/
def State.discardRow (s : State) (g cause : Nat) (w : WideRow) : State :=
  let s := ({ s with upd := { s.upd with dropCount := wrap64 (s.upd.dropCount + 1), blvdDrop := true } } : State).noteSet .upd 3
  if cause = 0 then s else s.addError (.blvdDiscard g w.tensor cause w.row) true

/-! ## Planes (R268, R276, R277) -/

/-- Where a slot keeps byte `off` of its copy of plane p. -/
def copyKey (p off : Nat) : Nat := 8192 * p + off

/-- The T16 codes of a plane as the slot holds them. -/
def UpdSlot.plane (x : UpdSlot) (l : Layer) (p : Nat) : List Code :=
  (List.range (l.planeSize p / 2)).map fun i =>
    BitVec.ofNat 16 (Map.getD x.copy (copyKey p (2 * i)) 0 + 256 * Map.getD x.copy (copyKey p (2 * i + 1)) 0xF0)

/-- The bytes of a plane that the slot holds no copy of, as transfers (R223, R276). -/
def UpdSlot.missing (x : UpdSlot) (l : Layer) (p : Nat) : List (Nat × Nat) :=
  let base := l.planeAddr x.blk p
  (cutRuns 1 (((List.range (l.planeSize p)).filter fun o => (Map.find? x.copy (copyKey p o)).isNone).map (base + ·)) 0 []).map
    fun y => (y.addr, y.len)

/-- The update unit can read and write the block's state: all of it is populated, in a stack that works (R264, R278). -/
def State.stateUsable (s : State) (g : Nat) (l : Layer) (u : Nat) : Bool :=
  l.inPopulated u && (s.gate g).stackState != .failed

/-- The unit asks for the parts of a plane that a slot holds no copy of (R276, R277). -/
def State.askPlane (s : State) (g : Nat) (l : Layer) (x : UpdSlot) (p : Nat) : State :=
  if !s.stateUsable g l x.blk then s
  else s.modUnit g fun un => { un with
    queue := un.queue ++ (x.missing l p).map fun y =>
      ⟨l.id, x.blk, p, false, y.1 - l.planeAddr x.blk p, y.1, y.2, [], s.clk.now⟩ }

/-- Some read of a block's planes that the filter picks has not arrived. -/
def State.planeOut (s : State) (g layer blk : Nat) (p : Nat → Bool) : Bool :=
  ((s.unit g).queue.any fun y => !y.write && y.layer == layer && y.blk == blk && p y.plane) ||
  (s.gate g).flights.any fun f => !f.write && (match f.owner with
    | .update a b q => a == layer && b == blk && p q
    | .ring _ _ _ => false)

/-- Bytes that a slot keeps of a read: those of an uncorrectable burst stand as 0xF000 in every element (R245, R276). -/
def UpdSlot.keep (x : UpdSlot) (p off : Nat) (bytes : List Nat) : UpdSlot :=
  { x with copy := ((List.range bytes.length).zip bytes).foldl (fun m b => Map.set m (copyKey p (off + b.1)) b.2) x.copy }

/-! ## Compression (R282, R284) -/

/-- The elements of compression block c: block and element index of each. -/
def Layer.cblockElems (l : Layer) (g c : Nat) : List (Nat × Nat) :=
  (List.range (l.cblockLen g c)).map fun i =>
    let e := 4096 * c + i
    (l.blockOf g (e / 2304), e % 2304)

/-- Reduced gradient of an element of an open slot. -/
def UpdUnit.gradAt (u : UpdUnit) (l : Layer) (b : Nat × Nat) : Code :=
  match u.slot? l.id b.1 with
  | some x => x.grad.getD b.2 codeNar
  | none => codeNar

/-- u = g + r, exactly (R282); the residual of a block whose state the unit cannot read counts as NaR (log 92). -/
def State.exactU (s : State) (g : Nat) (l : Layer) (un : UpdUnit) (b : Nat × Nat) : Val :=
  (t16Val (un.gradAt l b)).add (if !s.stateUsable g l b.1 then .nar
    else match un.slot? l.id b.1 with
      | some x => t16Val ((x.plane l 3).getD b.2 codeNar)
      | none => .nar)

def UpdUnit.isFinal (un : UpdUnit) (l : Layer) (u : Nat) : Bool := un.finals.contains (l.id, u)

/-- Compresses block c of a layer once every block it touches is final and its residuals are here: the own payload, the new residuals, the messages
(R282, R310). -/
def State.compressBlock (s : State) (g : Nat) (l : Layer) (c : Nat) : State :=
  let un := s.unit g
  let els := l.cblockElems g c
  let done := un.payloads.any fun p => p.layer == l.id && p.cblock == c && p.member == s.member
  let us := dedup (els.map (·.1))
  if done || !(us.all fun u => un.isFinal l u && !s.planeOut g l.id u (· == 3)) then s
  else
    let us := els.map (s.exactU g l un)
    let z := compressPayload l.exchange l.topk us
    let pay := z.1
    let resid := ((List.range els.length).zip (els.zip us)).map fun p =>
      let c2 := l.coords p.2.1.1 (p.2.1.2 / 48) (p.2.1.2 % 48)
      let rd : Rounding := if l.stateSr then
          .sr (srBits (match s.plan.plan with
            | some q => q.hdr.seed
            | none => 0) s.stepNow ((l.stateTensor + 3) % 2 ^ 24) c2.1 c2.2)
        else .rne
      (p.2.1, roundT16 rd (p.2.2.sub (decompress l.exchange pay p.1)))
    let un := { un with payloads := un.payloads ++ [⟨l.id, c, s.member, pay⟩] }
    let un := resid.foldl (fun un r =>
      match un.slot? l.id r.1.1 with
      | some x => un.setSlot { x with resid := Map.set x.resid r.1.2 r.2.1 }
      | none => un) un
    let s := (s.setUnit g un).addFlags (z.2 ||| Status.orAll (resid.map fun r => r.2.2))
    if pay.isEmpty ∨ !s.grouped then s
    else s.sendReduction g c s.member
      (leBytes 8 s.upd.step ++ leBytes 2 l.id ++ [BitVec.ofNat 8 g, BitVec.ofNat 8 l.exchange] ++ leBytes 4 c ++ pay)

/-- A member's payload of a compression block; another member's empty top-k payload needs no message (R282). -/
def State.payload? (s : State) (g : Nat) (l : Layer) (c m : Nat) : Option (List Byte) :=
  if l.exchange = 1 ∧ l.topk = 0 ∧ m ≠ s.member then some []
  else ((s.unit g).payloads.find? fun p => p.layer == l.id && p.cblock == c && p.member == m).map (·.bytes)

/-- Every compression block that touches a block is here from every member (R278). -/
def State.exchanged (s : State) (g : Nat) (l : Layer) (idx : Nat) : Bool :=
  (cblocksOf idx).all fun c => decide (l.cblockLen g c = 0) || s.redSet.all fun m => (s.payload? g l c m).isSome

/-- The group gradient of an element of a block (R284). -/
def State.groupGrad (s : State) (g : Nat) (l : Layer) (u e : Nat) : Code × Status :=
  let pos := 2304 * (u / 48) + e
  let c := pos / 4096
  let sum := s.redSet.foldl (fun (a : Val) m =>
    match s.payload? g l c m with
    | some p => a.add (decompress l.exchange p (pos % 4096))
    | none => .nar) (.real Q.zero)
  roundT16 (s.gradRounding l (l.gradTensor + 1) u e) sum

/-! ## Update (R276 to R281) -/

/-- A block is ready for its update (R278). -/
def State.blockReady (s : State) (g : Nat) (l : Layer) (idx : Nat) : Bool :=
  let u := l.blockOf g idx
  (s.unit g).isFinal l u && s.upd.agreed && !s.upd.refused &&
  (l.exchange == 0 || l.exchange == 3 || s.exchanged g l idx)

/-- The first stack address of a block's planes outside the populated part (R278, R445). -/
def Layer.firstOutside (l : Layer) (u : Nat) : Nat :=
  let bad := l.planes.filterMap fun q =>
    let a := l.planeAddr u q.1
    if inSlice (l.owner u) (a : Int) q.2 then none
    else some (max a (l.owner u * sliceBytes + populatedBytes))
  bad.headD 0

/-- Appends to the ready list the blocks that have become ready, in the order of the layer table and of local indices where
several do at once, and asks for the planes of each that the unit holds no copy of (R276, R277, R278). -/
def State.noteReady (s : State) (g : Nat) : State :=
  s.layers.foldl (fun s l =>
    let new := (s.unit g).slots.filter fun x =>
      x.layer == l.id && !x.asked && decide (0 < l.contrib) && s.blockReady g l (x.blk / 48)
    let blocks := (l.owned g).filter fun u => new.any fun x => x.blk == u
    blocks.foldl (fun s u =>
      match (s.unit g).slot? l.id u with
      | none => s
      | some x =>
        let s := s.modUnit g fun un => { un.setSlot { x with asked := true } with ready := un.ready ++ [(l.id, u)] }
        (l.planes.filter fun q => q.1 != 3).foldl (fun s q => s.askPlane g l x q.1) s) s) s

/-- The step agreement has been settled: blocks may have become ready at every gate (R278). -/
def State.noteAllReady (s : State) : State := (List.range nGates).foldl State.noteReady s

/-- A block's compression blocks may now be complete, and blocks ready (R278, R282). -/
def State.noteGradient (s : State) (g : Nat) (l : Layer) (blk : Nat) : State :=
  (if l.hasResidual then (cblocksOf (blk / 48)).foldl (fun s c => s.compressBlock g l c) s else s).noteReady g

/-- Updates a block from the planes that its slot holds: applies the rule, and queues the writes of every present plane
(R223, R276, R279, R281). -/
def State.updateBlock (s : State) (g : Nat) (l : Layer) (u : Nat) : State :=
  let un := s.unit g
  match un.slot? l.id u with
  | none => s
  | some x =>
    let gr : List (Code × Status) :=
      if l.hasResidual then (List.range 2304).map fun e => s.groupGrad g l u e else x.grad.map fun c => (c, 0)
    let bi : BlockIn :=
      { layer := l, blk := u, step := s.upd.step, eta := s.upd.eta
        seed := (match s.plan.plan with
          | some p => p.hdr.seed
          | none => 0)
        w := x.plane l 0, m := x.plane l 1, v := x.plane l 2, r := x.plane l 3, g := gr.map (·.1)
        resid := (List.range 2304).map fun e => Map.getD x.resid e codeNar }
    let y := bi.update
    let wr := fun (p : Nat) (cs : List Code) =>
      let bytes := bytesOf cs
      (cutContig 0 (l.planeAddr u p) bytes.length).map fun z =>
        (⟨l.id, u, p, true, z.off, z.addr, z.len, (bytes.drop z.off).take z.len, s.clk.now⟩ : UpdXfer)
    let writes := l.planes.flatMap fun q => wr q.1 (if q.1 = 0 then y.w else if q.1 = 1 then y.m else if q.1 = 2 then y.v else y.r)
    let s := s.setUnit g { (un.setSlot { x with updated := true }) with
      queue := un.queue ++ writes
      ready := un.ready.drop 1
      freeAt := s.clk.now + 36 }
    s.addFlags (y.flags ||| Status.orAll (gr.map (·.2)))

/-- A ring read of plane 0 of an owned block is captured, until the unit asks for what is missing (R276). -/
def State.captureInto (s : State) (g : Nat) (l : Layer) (u : Nat) (addr : Nat) (bytes : List (Nat × Nat)) : State :=
  let un := s.unit g
  let a0 := l.planeAddr u 0
  let mine := bytes.filter fun b => decide (a0 ≤ addr + b.1) && decide (addr + b.1 < a0 + 4608)
  let closed := (un.slot? l.id u).any fun x => x.asked || x.updated
  let writing := (s.gate g).flights.any fun f => f.write && (match f.owner with
    | .update a b _ => a == l.id && b == u
    | .ring _ _ _ => false)
  if mine.isEmpty || un.written.contains (l.id, u) || closed || writing then s
  else match un.openSlot l.id u with
  | none => s.slotWait
  | some un =>
    match un.slot? l.id u with
    | none => s
    | some x =>
      s.setUnit g (un.setSlot { x with copy := mine.foldl (fun m b => Map.set m (copyKey 0 (addr + b.1 - a0)) b.2) x.copy })

/-- The blocks of a layer that a gate owns and that lie in a range of plane 0. -/
def Layer.blocksIn (l : Layer) (g addr len : Nat) : List Nat :=
  (l.owned g).filter fun u => decide (l.planeAddr u 0 < addr + len) && decide (addr < l.planeAddr u 0 + 4608)

/-- A read of a class 0 or 2 ring passes the capture of every layer that is open (R276). -/
def State.captureRead (s : State) (g addr : Nat) (bytes : List Byte) : State :=
  let bs := (List.range bytes.length).zip (bytes.map BitVec.toNat)
  s.layers.foldl (fun s l =>
    if !s.runActive ∨ s.plan.frameInStep < l.openFrame then s
    else (l.blocksIn g addr bytes.length).foldl (fun s u => s.captureInto g l u addr bs) s) s

/-- UPDATE of R201: some block that must be written in this step has not been (R27, R277). -/
def State.updatePending (s : State) : Bool :=
  s.layers.any fun l => decide (0 < l.contrib) && (List.range nGates).any fun g =>
    (l.owned g).any fun u => !(s.unit g).written.contains (l.id, u)

end Sys2Proof.Machine
end

