-- ==== Sys2Proof/Machine/GateOps.lean ====
section
/-! DEFINITION. The stream engine of a gate: arming, windows, transfers and tags, completion records, the rim side,
host reads and ingress (R208 to R246), and the stack controller's refresh (R252 to R256). -/

namespace Sys2Proof.Machine

def Gate.ring (g : Gate) (r : Nat) : Ring := Map.getD g.rings r Ring.reset
def Gate.setRing (g : Gate) (r : Nat) (x : Ring) : Gate := { g with rings := Map.set g.rings r x }
def State.ring (s : State) (g r : Nat) : Ring := (s.gate g).ring r
def State.setRing (s : State) (g r : Nat) (x : Ring) : State := s.setGate g ((s.gate g).setRing r x)
def State.modRing (s : State) (g r : Nat) (f : Ring → Ring) : State := s.setRing g r (f (s.ring g r))

def Arming.d (a : Arming) : Desc := parseDesc a.desc
def Arming.block? (a : Arming) (j : Nat) : Option Block := a.blocks.find? fun b => b.num == j
def Arming.modBlock (a : Arming) (j : Nat) (f : Block → Block) : Arming :=
  { a with blocks := a.blocks.map fun b => if b.num = j then f b else b }
def Arming.setBlock (a : Arming) (b : Block) : Arming := a.modBlock b.num fun _ => b
def Arming.dropBlock (a : Arming) (j : Nat) : Arming := { a with blocks := a.blocks.filter fun b => b.num != j }

/-- Changes the current arming of a ring. -/
def Ring.modCurrent (x : Ring) (f : Arming → Arming) : Ring := { x with arming := x.arming.map f }

/-- Changes the walk of a ring that has a number, the current one or one that has ended (R229, R231). -/
def Ring.modWalk (x : Ring) (gen : Nat) (f : Arming → Arming) : Ring :=
  { x with
    arming := x.arming.map fun a => if a.gen = gen then f a else a
    old := x.old.map fun a => if a.gen = gen then f a else a }

/-- The walks of a ring: those that have ended and are still being written, then the current one. -/
def Ring.walks (x : Ring) : List Arming := x.old ++ x.arming.toList

/-- Frame of the arming: FRM_COUNT counted from its origin (R216). -/
def State.ringFrame (s : State) (a : Arming) : Nat := s.frm.count - a.origin

/-- A block just requested, or a class 1 slot just filled with 0x00 (R217, R220). -/
def Block.fresh (j now : Nat) : Block :=
  { num := j, bytes := [], bad := [], packed := [], reads := [], writes := [], inFlight := 0, complete := false, sent := 0,
    reqAt := now, doneAt := 0, go := false, done := false, cut := none }

/-- The block of a scheduled ring that is due in a frame of the arming (R216). -/
def Desc.blockDue (d : Desc) (f : Nat) : Option Nat :=
  if f < d.f0 ∨ d.fs = 0 ∨ (f - d.f0) % d.fs ≠ 0 ∨ d.blocks ≤ (f - d.f0) / d.fs then none else some ((f - d.f0) / d.fs)

/-- Bytes of a block that the ring delivers: all, or those of the elements before the first one outside the slice (R245). -/
def Desc.deliverLen (d : Desc) (b : Block) : Nat :=
  match b.cut with
  | some k => k * d.elemBytes
  | none => if d.endless then d.blockBytes else d.blockLen b.num

/-- Lines of an outbound block that are sent (R218, R245). -/
def Desc.sendLines (d : Desc) (b : Block) : Nat := (d.deliverLen b + 63) / 64

/-- A slot of the gate buffer is still occupied by a block of an earlier walk (R229). -/
def Ring.slotHeld (x : Ring) (d : Desc) (j : Nat) : Bool :=
  x.old.any fun a => a.blocks.any fun b => rangesMeet (d.slot j).1 (d.slot j).2 (a.d.slot b.num).1 (a.d.slot b.num).2

/-! ## Completion records (R233, R234) -/

/-- Posts a completion record to the gate's queue, or counts it lost; with IRQ the gate's vector is raised. -/
def State.postRecord (s : State) (g r status bytes seq : Nat) (irq : Bool) : State :=
  let x := s.gate g
  let s :=
    if x.cqEntries = 0 ∨ (x.cqTail + 2 ^ 32 - x.cqHead) % 2 ^ 32 = x.cqEntries then
      s.setGate g { x with cqLost := (x.cqLost + 1) % 2 ^ 64 }
    else
      let rec_ := streamRecord s.frm.count bytes s.stepNow g status r seq
      (s.setGate g { x with cqTail := (x.cqTail + 1) % 2 ^ 32 }).stackPut (x.cqBase + 32 * (x.cqTail % x.cqEntries)) rec_
  let s := s.modRing g r fun y => { y with status := status }
  if irq then s.raiseVector (gateVector g) else s

/-- FRM_COUNT of the last frame of the step under way (R26). -/
def State.stepLast (s : State) : Nat :=
  match s.plan.plan with
  | some p => s.frm.count + p.hdr.framesPerStep - 1 - s.plan.frameInStep
  | none => s.frm.count

/-- An arming has data due in the step under way: a block not yet released whose due frame lies in it (R214, R237). -/
def State.dueInStep (s : State) (a : Arming) : Bool :=
  let d := a.d
  d.scheduled && !a.finalPosted && decide (a.released < d.blocks) && decide (a.origin + d.dueFrame a.released ≤ s.stepLast)

/-- The ring, or its linked consumer, has data due in the step under way (R214, R237). -/
def State.ringMatters (s : State) (g r : Nat) : Bool :=
  s.runActive && (s.gate g).rings.any fun p =>
    p.2.state != .error && p.2.arming.any fun a => (p.1 == r || (a.d.consumes && a.d.producer == r)) && s.dueInStep a

/-- A ring enters ERROR with a status; the record of code RING_ERROR fails the step where data is due (R214, R237, R245, R445).
An outbound ring that stops for another reason than an address sends nothing more. -/
def State.ringError (s : State) (g r status : Nat) : State :=
  let x := s.ring g r
  let bytes := match x.arming with
    | some a => a.delivered
    | none => 0
  let irq := x.arming.any fun a => a.d.irq
  let matters := s.ringMatters g r
  let stop := fun (a : Arming) => { a with finalPosted := true, blocks := if a.d.outbound ∧ status ≠ 4 then [] else a.blocks }
  let s := s.setRing g r { x.modCurrent stop with state := .error, fault := none }
  (s.postRecord g r status bytes x.seq irq).addError (.ringError g r status) matters

/-- An element lies outside the slice: STRM_IDX shows it, nothing from it on is delivered, and the ring is in ERROR with status
ADDR (R245). -/
def State.addrError (s : State) (g r j elem : Nat) : State :=
  let x := s.ring g r
  if x.state = .error then s
  else
    let keep := fun (a : Arming) => { a with blocks := a.blocks.filter fun b => decide (b.num ≤ j) }
    (s.setRing g r { x.modCurrent keep with index := elem }).ringError g r 4

/-! ## Arming and ending (R228 to R232) -/

/-- What of a walk that ends is still written: blocks that are complete in the gate buffer, and writes already due (R229, R236,
R302). -/
def Arming.leftover (a : Arming) : List Block :=
  if a.d.outbound then []
  else (a.blocks.filter fun b => b.complete || !b.writes.isEmpty || b.inFlight != 0).map fun b =>
    if b.complete then { b with reads := [] }
    else { b with reads := [], complete := true, cut := some (if a.d.cls = 3 then b.sent else b.sent / a.d.elemBytes) }

/-- A walk joins the ended ones of its ring where something of it is still to be written. -/
def Ring.retire (x : Ring) (a : Arming) : Ring := if a.blocks.isEmpty then x else { x with old := x.old ++ [a] }

/-- Ends an arming by re-arm, DISARM or a stop: unsent outbound blocks are discarded, complete inbound ones are still
written, and a record with status ABORT is posted unless the final one was (R229, R233; after ERROR, log 91). -/
def State.endArming (s : State) (g r : Nat) : State :=
  let x := s.ring g r
  match x.arming with
  | none => s
  | some a =>
    let s := s.setRing g r { x.retire { a with blocks := a.leftover, finalPosted := true } with arming := none, fault := none }
    if x.state = .error ∨ (a.finalPosted ∧ !a.d.restarts) then s else s.postRecord g r 2 a.delivered a.seq a.d.irq

/-- DISARM commits (R230). -/
def State.disarmRing (s : State) (g r : Nat) : State :=
  if (s.ring g r).state = .idle then s
  else (s.endArming g r).modRing g r fun x => { x with state := .idle }

/-- A new arming takes effect with the frame of number `origin` (R228). -/
def State.armRing (s : State) (g r origin : Nat) : State :=
  let s := s.endArming g r
  let x := s.ring g r
  let a : Arming :=
    { gen := x.gen + 1, seq := (x.seq + 1) % 2 ^ 32, desc := x.desc, origin := origin, released := 0, requested := 0,
      blocks := [], delivered := 0, packPos := 0, packCarry := [], ecc := false, finalPosted := false, received := 0 }
  s.setRing g r { x with
    state := .active, seq := a.seq, gen := a.gen, arming := some a, index := 0, announced := 0, consumed := 0 }

/-- What the descriptor check needs (R214). -/
def State.descEnv (s : State) (g : Nat) : DescEnv :=
  { gate := g, frameLen := s.frm.lenNow, portUp := fun p => s.mapPortUp p
    producer := fun r =>
      let x := s.ring g r
      match x.arming with
      | some a => if x.state = .active ∧ a.d.cls = 4 ∧ a.d.ingress then some a.d.blockLines else none
      | none => none }

/-- The check of an arming that has just taken effect: a bad one leaves the ring in ERROR, an empty walk is DONE at once
(R214, R246, R263). -/
def State.checkArming (s : State) (g r : Nat) : State :=
  let x := s.ring g r
  match x.arming with
  | none => s
  | some a =>
    if descBad (s.descEnv g) a.desc ∨ s.wiping g then
      let matters := s.ringMatters g r
      let s := s.setRing g r { x with state := .error, arming := none, seq := (x.seq + 2 ^ 32 - 1) % 2 ^ 32 }
      (s.postRecord g r 3 0 x.seq a.d.irq).addError (.ringError g r 3) matters
    else if a.d.elems = 0 then
      let s := s.setRing g r { x with state := .done, arming := some { a with finalPosted := true } }
      s.postRecord g r 1 0 x.seq a.d.irq
    else s

/-- The armings of one tick are checked together: first those that name no producer, so that a consumer meets only producers
that were not refused (R214). -/
def State.checkArmings (s : State) (l : List (Nat × Nat)) : State :=
  let linked := fun (s : State) (x : Nat × Nat) => (s.ring x.1 x.2).arming.any fun a => a.d.linked
  let s1 := (l.filter fun x => !linked s x).foldl (fun s x => s.checkArming x.1 x.2) s
  (l.filter fun x => linked s x).foldl (fun s x => s.checkArming x.1 x.2) s1

/-- The walk's end: the final record, and DONE (R233). -/
def State.finishWalk (s : State) (g r : Nat) (a : Arming) : State :=
  let x := s.ring g r
  let s := s.setRing g r { x with state := .done, arming := some { a with finalPosted := true } }
  s.postRecord g r (if a.ecc then 7 else 0) a.delivered a.seq a.d.irq

/-- The oldest block of the current arming is released: the window moves, a producer's CONSUMED with a linked consumer's
release, and the last block ends the walk (R217, R220, R222, R239). -/
def State.releaseBlock (s : State) (g r : Nat) : State :=
  let x := s.ring g r
  match x.arming with
  | none => s
  | some a =>
    let d := a.d
    let j := a.released
    let a := { a.dropBlock j with
      released := j + 1
      delivered := if d.outbound then a.delivered + d.blockLen j else a.delivered }
    let stay := x.fault.isSome || x.state == .error
    let s := s.setRing g r { x with arming := some a, index := if stay then x.index else (d.blockElems (j + 1)).1 }
    let s := if d.consumes then s.modRing g d.producer fun p => { p with consumed := p.consumed + 1 } else s
    if !d.endless ∧ d.blocks ≤ j + 1 ∧ !a.finalPosted then s.finishWalk g r a else s

/-! ## Requests (R217, R222, R223, R238, R239) -/

/-- Reads of a block's walk side, and the elements before the first one outside the populated slice, where the walk leaves it
in the block (R223, R241, R245, R264). -/
def State.blockReads (s : State) (g : Nat) (d : Desc) (j : Nat) : List Xfer × Option Nat :=
  if d.cls = 4 then (cutRuns d.elemBytes ((d.blockAddrs j).map fun a => (a % 2 ^ 64).toNat) 0 [], none)
  else if (s.gate g).stackState = .failed then ([], some 0)
  else if d.comp ≠ 0 then
    let p := packedRange s.stack d j
    let k := goodPacked g s.stack d j
    (cutContig 0 (d.base + p.1) (insidePart g (d.base + p.1) p.2), if k = (d.blockElems j).2 then none else some k)
  else
    let addrs := d.blockAddrs j
    let good := goodElems g d.elemBytes addrs
    (cutRuns d.elemBytes (good.map Int.toNat) 0 [], if addrs.length ≤ good.length then none else some good.length)

/-- Where a linked consumer finds its block j: the producer's buffer, once the producer has completed it (R239). -/
def State.linkedReads (s : State) (g : Nat) (a : Arming) (j : Nat) : Option (List Xfer) :=
  let d := a.d
  let p := s.ring g d.producer
  match p.arming with
  | none => none
  | some pa =>
    let m := p.consumed + (j - a.released)
    if pa.released ≤ m then none
    else some (cutContig 0 (pa.d.destBase + m % pa.d.destBlocks * pa.d.blockBytes) (d.blockLen j))

/-- Requests block j of a ring's window, where it is the next one and its slot is free (R217, R222, R229). -/
def State.requestBlock (s : State) (g r j : Nat) : State :=
  let x := s.ring g r
  match x.arming with
  | none => s
  | some a =>
    let d := a.d
    if x.state ≠ .active ∨ a.requested ≠ j ∨ x.slotHeld d j then s
    else
      let add := fun (b : Block) => s.setRing g r { x with arming := some { a with requested := j + 1, blocks := a.blocks ++ [b] } }
      if d.consumes then
        match s.linkedReads g a j with
        | none => s
        | some xs => add { Block.fresh j s.clk.now with reads := xs }
      else
        let y := s.blockReads g d j
        let t := add { Block.fresh j s.clk.now with reads := y.1, cut := y.2 }
        match y.2 with
        | some k => t.addrError g r j ((d.blockElems j).1 + k)
        | none => t

/-- The blocks that a ring may request now: the five of its window, those that exist, and for a producer those
announced (R217, R222, R238). -/
def State.requestable (s : State) (g r : Nat) : List Nat :=
  let x := s.ring g r
  match x.arming with
  | none => []
  | some a =>
    let d := a.d
    let last := if d.endless then a.released + (x.announced + 2 ^ 32 - a.released % 2 ^ 32) % 2 ^ 32 else d.blocks
    if x.state = .active ∧ (d.outbound ∨ d.cls = 4 ∨ d.cls = 5) then
      (List.range (min (a.released + 5) last - a.requested)).map (a.requested + ·)
    else []

def State.requestRing (s : State) (g r : Nat) : State := (s.requestable g r).foldl (fun s j => s.requestBlock g r j) s

/-- A ring whose window has moved requests what it now may, and so do the consumers linked to it (R222, R236, R239). -/
def State.advanceRing (s : State) (g r : Nat) : State :=
  let linked := ((s.gate g).rings.filter fun p => p.2.arming.any fun a => a.d.consumes && a.d.producer == r).map (·.1)
  linked.foldl (fun s c => s.requestRing g c) (s.requestRing g r)

/-! ## Writes of inbound blocks (R220, R222, R241, R245) -/

/-- Where block j of a class 4 or 5 ring is written: DEST_BASE onward, round and round for a producer (R222, R238). -/
def Desc.destOf (d : Desc) (j : Nat) : Nat :=
  if d.endless then d.destBase + j % d.destBlocks * d.blockBytes else d.destBase + j * d.blockBytes

/-- What a block gives to its writes: the walk and the block as they then stand, the flags raised, and where an element lies
outside the slice the elements of the block before it and its number. -/
structure GivenBlock where
  arming : Arming
  block : Block
  flags : Status
  bad : Option (Nat × Nat)

/-- A class 4 or 5 block gives its bytes up to n to writes at its destination (R222, R223, R236, R245). -/
def destWrites (g : Nat) (a : Arming) (b : Block) (n : Nat) : GivenBlock :=
  let d := a.d
  let base := d.destOf b.num
  let ok := insidePart g base n / d.elemBytes * d.elemBytes
  let e := (d.blockElems b.num).1 + ok / d.elemBytes
  { arming := a
    block := { b with writes := b.writes ++ cutContig b.sent (base + b.sent) (ok - b.sent), sent := n }
    flags := 0
    bad := if ok < n then some (ok / d.elemBytes, if d.endless then e % d.elems else e) else none }

/-- A class 1 or 3 block gives its elements up to n to writes along its walk, or in compressed units as far as whole ones allow;
at the end of the walk all of them (R220, R223, R241, R245, R302). -/
def walkWrites (g : Nat) (a : Arming) (b : Block) (n : Nat) (last : Bool) : GivenBlock :=
  let d := a.d
  let first := (d.blockElems b.num).1
  if d.comp ≠ 0 then
    let y := compressSome d.comp last (a.packCarry ++ codesOf (b.bytes.bytes (2 * b.sent) (2 * (n - b.sent))))
    let good := goodUnits g (d.base + a.packPos) y.1
    let data := good.flatMap (·.2.1)
    let e := good.foldl (fun e u => e + u.1) (first + b.sent - a.packCarry.length)
    { arming := { a with packPos := a.packPos + data.length, packCarry := y.2 }
      block := { b with
        packed := b.packed.putBytes a.packPos data
        writes := b.writes ++ cutContig a.packPos (d.base + a.packPos) data.length
        sent := n }
      flags := Status.orAll (good.map (·.2.2))
      bad := if good.length < y.1.length then some (e - first, e) else none }
  else
    let good := goodElems g d.elemBytes ((d.blockAddrs b.num).take n)
    { arming := a
      block := { b with
        writes := b.writes ++ cutRuns d.elemBytes ((good.drop b.sent).map Int.toNat) (b.sent * d.elemBytes) []
        sent := n }
      flags := 0
      bad := if good.length < n then some (good.length, first + good.length) else none }

/-- The writes of a block that is complete in the gate buffer. -/
def blockWrites (g : Nat) (a : Arming) (b : Block) : GivenBlock :=
  let d := a.d
  if d.cls = 4 ∨ d.cls = 5 then destWrites g a b (d.deliverLen b)
  else walkWrites g a b (d.blockElems b.num).2 (decide (d.blocks ≤ b.num + 1))

/-- An inbound block is complete in the gate buffer and its writes become eligible; in a FAILED stack none does (R220, R222,
R264). -/
def State.completeInbound (s : State) (g r j : Nat) : State :=
  let x := s.ring g r
  match x.arming with
  | none => s
  | some a =>
    match a.block? j with
    | none => s
    | some b =>
      let y := if (s.gate g).stackState = .failed then ⟨a, b, 0, some (0, (a.d.blockElems j).1)⟩ else blockWrites g a b
      let b' := { y.block with
        complete := true
        doneAt := s.clk.now
        cut := match y.bad with
          | some k => some k.1
          | none => b.cut }
      let s := (s.setRing g r { x with arming := some (y.arming.setBlock b') }).addFlags y.flags
      match y.bad with
      | some k => s.addrError g r j k.2
      | none => s

/-- Some read of a block of a walk is in flight. -/
def Gate.readsOut (x : Gate) (r gen j : Nat) : Bool :=
  (x.flights.any fun f => !f.write && f.owner == .ring r gen j) ||
  x.hostFlights.any fun h => h.ring == r && h.gen == gen && h.block == j

/-- The reads of a block have all arrived and it is not yet complete. -/
def Gate.arrived (x : Gate) (r : Nat) (a : Arming) (b : Block) : Bool :=
  b.reads.isEmpty && !b.complete && !x.readsOut r a.gen b.num

/-- An outbound block whose reads have all arrived is complete, decompressed where the walk is (R217, R241). -/
def State.completeOutbound (s : State) (g r j : Nat) : State :=
  let x := s.ring g r
  match x.arming with
  | none => s
  | some a =>
    match a.block? j with
    | none => s
    | some b =>
      let d := a.d
      let b := { b with complete := true, doneAt := s.clk.now }
      if d.comp = 0 then s.setRing g r { x with arming := some (a.setBlock b) }
      else
        let y := unpackBlock d j (b.packed.bytes 0 (d.packedRoom j))
        let codes := match b.cut with
          | some k => y.1.take k
          | none => y.1
        (s.setRing g r { x with arming := some (a.setBlock { b with bytes := Memory.putBytes [] 0 (bytesOf codes), packed := [] }) }).addFlags y.2

/-- Blocks whose reads have all arrived are complete: outbound ones each by itself, those of classes 4 and 5 in walk order
(R217, R222, R235, R238). -/
def State.completeReads (s : State) (g r : Nat) : Nat → State
  | 0 => s
  | n + 1 =>
    match (s.ring g r).arming with
    | none => s
    | some a =>
      let d := a.d
      if d.outbound then
        match a.blocks.find? ((s.gate g).arrived r a) with
        | some b => (s.completeOutbound g r b.num).completeReads g r n
        | none => s
      else if d.cls = 4 ∨ d.cls = 5 then
        match a.blocks.find? fun b => !b.complete with
        | some b => if (s.gate g).arrived r a b then (s.completeInbound g r b.num).completeReads g r n else s
        | none => s
      else s

/-- The writes of an inbound block have all been accepted by the stack (R222). -/
def Block.written (b : Block) : Bool := b.complete && b.writes.isEmpty && b.inFlight == 0

/-- Counts the bytes of the blocks whose writes have all been accepted (R233). -/
def Arming.noteWritten (a : Arming) : Arming :=
  let new := a.blocks.filter fun b => b.written && !b.done
  { a with
    blocks := a.blocks.map fun b => if b.written then { b with done := true } else b
    delivered := new.foldl (fun n b => n + a.d.deliverLen b) a.delivered }

/-- Inbound blocks whose writes have all been accepted are released, oldest first (R220, R222). -/
def State.releaseWritten (s : State) (g r : Nat) : Nat → State
  | 0 => s
  | n + 1 =>
    match (s.ring g r).arming with
    | none => s
    | some a =>
      if !a.d.outbound && (a.block? a.released).any fun b => b.done && b.cut.isNone then (s.releaseBlock g r).releaseWritten g r n
      else s

/-- Blocks of ended walks whose writes have all been accepted free their slots; a walk of a REPEAT ring that ended with its step
posts its record then (R229, R231, R233). -/
def State.sweepOld (s : State) (g r : Nat) : State :=
  let x := s.ring g r
  let now := x.old.map Arming.noteWritten
  let gain := (x.old.zip now).foldl (fun n p => if x.arming.any fun a => a.seq == p.1.seq then n + (p.2.delivered - p.1.delivered) else n) 0
  let left := now.map fun a => { a with blocks := a.blocks.filter fun b => !b.done }
  let s := s.setRing g r { x.modCurrent (fun a => { a with delivered := a.delivered + gain }) with
    old := left.filter fun a => !a.blocks.isEmpty }
  (left.filter fun a => a.blocks.isEmpty && !a.finalPosted).foldl (fun s a =>
    let bytes := match x.arming with
      | some c => if c.seq = a.seq then c.delivered + gain else a.delivered
      | none => a.delivered
    s.postRecord g r (if a.ecc then 7 else 0) bytes a.seq a.d.irq) s

/-- What follows from transfers that have ended: blocks complete, blocks released, slots of ended walks free, requests
(R217, R222, R229). -/
def State.settleRing (s : State) (g r : Nat) : State :=
  let s := s.completeReads g r 6
  let s := s.modRing g r fun x => x.modCurrent fun a => if a.d.outbound then a else a.noteWritten
  ((s.releaseWritten g r 6).sweepOld g r).advanceRing g r

/-! ## The frame tick at a gate (R216 to R221, R231) -/

/-- Releases the outbound blocks of a ring that have been sent and whose due frame is not after frame f of the arming (R217). -/
def State.releaseSent (s : State) (g r f : Nat) : Nat → State
  | 0 => s
  | n + 1 =>
    match (s.ring g r).arming with
    | none => s
    | some a =>
      let d := a.d
      let sent := fun (b : Block) => b.go && b.cut.isNone && decide (d.dueFrame b.num ≤ f) && (d.cls == 0 || b.sent != 0)
      if d.outbound && (a.block? a.released).any sent then (s.releaseBlock g r).releaseSent g r f n else s

/-- The tick that ends a frame, at one ring, once FRM_COUNT has increased: the due outbound block that was sent is released,
the due class 1 block is complete (R217, R220). -/
def State.ringFrameEnd (s : State) (g r : Nat) : State :=
  match (s.ring g r).arming with
  | none => s
  | some a =>
    let d := a.d
    let f := s.ringFrame a - 1
    if d.cls = 1 then
      ((a.blocks.filter fun b => !b.complete && decide (d.dueFrame b.num ≤ f)).foldl
        (fun s b => s.completeInbound g r b.num) s).settleRing g r
    else s.releaseSent g r f 5

/-- A REPEAT ring starts again at a step boundary; a walk of the old step whose blocks are all in the gate buffer still posts
its record when they are written; an empty walk posts its record at every origin (R231, R233, R246). -/
def State.repeatRing (s : State) (g r : Nat) (origin : Nat) : State :=
  let x := s.ring g r
  match x.arming with
  | none => s
  | some a =>
    let d := a.d
    if !d.restarts ∨ x.state = .error ∨ a.origin = origin then s
    else
      let ends := !a.finalPosted && decide (a.released + (a.blocks.filter fun b => b.complete).length = d.blocks)
      let fresh := { a with
        gen := x.gen + 1
        origin := origin
        released := 0
        requested := 0
        blocks := []
        packPos := 0
        packCarry := []
        ecc := false
        finalPosted := decide (d.elems = 0)
        received := 0 }
      let s := s.setRing g r { x.retire { a with blocks := a.leftover, finalPosted := !ends } with
        arming := some fresh
        gen := x.gen + 1
        index := 0
        fault := none
        state := if d.elems = 0 then .done else .active }
      if d.elems = 0 then s.postRecord g r 1 a.delivered a.seq d.irq else s

/-- The tick that begins a frame, at one ring: the class 1 block due in it gets its zero-filled slot, and blocks of the
window are requested (R217, R220). -/
def State.ringFrameStart (s : State) (g r : Nat) : State :=
  let x := s.ring g r
  let s := match x.arming with
    | none => s
    | some a =>
      match a.d.blockDue (s.ringFrame a) with
      | some j =>
        if a.d.cls = 1 ∧ x.state = RingState.active ∧ a.requested ≤ j ∧ !x.slotHeld a.d j then
          s.setRing g r { x with arming := some { a with requested := j + 1, blocks := a.blocks ++ [Block.fresh j s.clk.now] } }
        else s
      | none => s
  (s.requestRing g r).settleRing g r

/-- An outbound ring sends in this frame: it is active, or it stopped on an address and delivers what came before (R245). -/
def Ring.sends (x : Ring) : Bool := x.state == .active || (x.state == .error && x.status == 4)

/-- Outbound blocks due in the frame that begins are sent in it where they are complete now (R218). -/
def State.markGo (s : State) (g r : Nat) : State :=
  s.modRing g r fun x => x.modCurrent fun a =>
    if a.d.outbound then
      { a with blocks := a.blocks.map fun b => if b.complete && a.d.dueFrame b.num == s.ringFrame a then { b with go := true } else b }
    else a

def State.markAllGo (s : State) : State :=
  s.gates.foldl (fun s p => p.2.rings.foldl (fun s q => s.markGo p.1 q.1) s) s

/-- The producer of a linked consumer supplies no more (R237, R239). -/
def State.producerGone (s : State) (g : Nat) (d : Desc) : Bool :=
  d.consumes && ((s.ring g d.producer).state == .error || (s.ring g d.producer).state == .idle)

/-- An outbound ring lacks block j: it is not complete, and may still come. A ring that stopped on an address delivers the blocks
that it has requested (R221, R237, R245). -/
def State.lacks (s : State) (g : Nat) (x : Ring) (a : Arming) (j : Nat) : Bool :=
  (match a.block? j with
   | some b => !b.complete && (x.state != .error || x.status == 4)
   | none => x.state != .error && decide (a.released ≤ j)) &&
  !s.producerGone g a.d

/-- GATE_DATA at a ring: an outbound block due in the next frame is not complete (R221). -/
def State.ringHoldsData (s : State) (g r : Nat) : Bool :=
  let x := s.ring g r
  x.arming.any fun a =>
    a.d.outbound && (match a.d.blockDue (s.ringFrame a + 1) with
      | some j => s.lacks g x a j
      | none => false)

/-- GATE_SPACE at a ring: a class 1 block due in the next frame finds its slot still held (R221, R229). -/
def State.ringHoldsSpace (s : State) (g r : Nat) : Bool :=
  let x := s.ring g r
  x.arming.any fun a =>
    a.d.cls == 1 && x.state == .active && (match a.d.blockDue (s.ringFrame a + 1) with
      | some j => x.slotHeld a.d j || a.blocks.any fun b => b.num % 5 == j % 5 && b.num != j
      | none => false)

/-- Block 0 of an outbound ring with F0 = 0 is not complete at its origin, so cycle 0 waits for it (R219). -/
def State.ringHoldsOrigin (s : State) (g r : Nat) : Bool :=
  let x := s.ring g r
  x.arming.any fun a =>
    a.d.outbound && a.d.f0 == 0 && decide (0 < a.d.blocks) && s.frm.count == a.origin && s.lacks g x a 0

/-! ## Transfers and tags (R223 to R227) -/

/-- A pending transfer that could issue: ring, walk, block, write or read, deadline frame, and the cycle of the block's
request. -/
structure Candidate where
  ring : Nat
  gen : Nat
  block : Nat
  write : Bool
  xfer : Xfer
  deadline : Option Nat
  reqAt : Nat
  deriving DecidableEq, Repr

/-- Tags that a ring holds now. -/
def Gate.tagsOf (x : Gate) (r : Nat) : Nat :=
  (x.flights.filter fun f => match f.owner with
    | .ring q _ _ => q == r
    | .update _ _ _ => false).length + (x.hostFlights.filter fun h => h.ring == r).length

/-- The next read of a walk, in walk order, with its deadline (R226). -/
def Arming.nextRead (r : Nat) (a : Arming) : Option Candidate :=
  (a.blocks.find? fun b => !b.reads.isEmpty).bind fun b => b.reads.head?.map fun y =>
    ⟨r, a.gen, b.num, false, y, if a.d.outbound then some (a.origin + a.d.dueFrame b.num) else none, b.reqAt⟩

/-- The next write of a walk, in walk order, with its deadline (R226). -/
def Arming.nextWrite (r : Nat) (a : Arming) : Option Candidate :=
  (a.blocks.find? fun b => !b.writes.isEmpty).bind fun b => b.writes.head?.map fun y =>
    ⟨r, a.gen, b.num, true, y, if a.d.cls = 1 then some (a.origin + a.d.dueFrame (b.num + 5)) else none, b.reqAt⟩

/-- The pending transfers of a ring that may take a tag: host reads, or transfers of the stack. -/
def ringCandidates (x : Gate) (r : Nat) (ring : Ring) (host : Bool) : List Candidate :=
  ring.walks.flatMap fun a =>
    let d := a.d
    if d.tagLimit ≠ 0 ∧ d.tagLimit ≤ x.tagsOf r then []
    else if host then (if d.cls = 4 ∧ ring.state = .active then (a.nextRead r).toList else [])
    else (if d.cls = 4 then [] else (a.nextRead r).toList) ++ (a.nextWrite r).toList

/-- One candidate goes before another: earliest deadline, unscheduled last, lower ring number, walk order (R226). -/
def Candidate.before (a b : Candidate) : Bool :=
  let later := if a.ring ≠ b.ring then decide (a.ring < b.ring)
    else if a.gen ≠ b.gen then decide (a.gen < b.gen) else decide (a.block < b.block)
  match a.deadline, b.deadline with
  | some p, some q => if p = q then later else decide (p < q)
  | some _, none => true
  | none, some _ => false
  | none, none => later

def pickFirst : List Candidate → Option Candidate
  | [] => none
  | c :: rest =>
    match pickFirst rest with
    | none => some c
    | some d => if d.before c then some d else some c

/-- Writes that are still to be issued: byte range, and the cycle in which the block they belong to was complete (R227). -/
def Gate.waitingWrites (x : Gate) : List (Nat × Nat × Nat) :=
  x.rings.flatMap fun p => p.2.walks.flatMap fun a => (a.blocks.filter fun b => b.complete).flatMap fun b =>
    b.writes.map fun y => (y.addr, y.len, b.doneAt)

/-- A read must see a write that has not issued yet: the write's block was complete when the read was requested (R227). -/
def mustWait (ws : List (Nat × Nat × Nat)) (addr len reqAt : Nat) : Bool :=
  ws.any fun w => decide (w.2.2 ≤ reqAt) && rangesMeet w.1 w.2.1 addr len

/-- The transfer of the rings that issues next, where the update unit's waiting writes are `upd` (R226, R227). -/
def Gate.nextCandidate (x : Gate) (upd : List (Nat × Nat × Nat)) : Option Candidate :=
  let ws := x.waitingWrites ++ upd
  pickFirst ((x.rings.flatMap fun p => ringCandidates x p.1 p.2 false).filter fun c =>
    c.write || !mustWait ws c.xfer.addr c.xfer.len c.reqAt)

/-- The stack time of a transfer, in wall units (R224). -/
def stackTime (len : Nat) : Nat := max len 2048 * (wallPerNs / 2000)

/-- A byte that is delivered in place of one of an uncorrectable word: 0xF000 in 16-bit elements, 0x7F in 8-bit ones (R245). -/
def markedByte (d : Desc) (i : Nat) : Byte := if d.elem = 0 then 0x7F else if i % 2 = 0 then 0x00 else 0xF0

/-- Stream bytes of a block as they are delivered to the mesh or a link: those of the elements it delivers, then 0x00 (R215,
R245). -/
def Block.deliver (b : Block) (d : Desc) (o n : Nat) : List Byte :=
  (List.range n).map fun i =>
    if d.deliverLen b ≤ o + i then 0
    else if b.bad.contains ((o + i) / 8) then markedByte d (o + i) else b.bytes.read (o + i)

/-- The data that a write of a block carries, and its uncorrectable words moved to the transfer. -/
def blockData (b : Block) (comp : Bool) (x : Xfer) : Memory × List Nat :=
  ((if comp then b.packed else b.bytes).slice x.off x.len,
   if comp then [] else (b.bad.filter fun w => decide (x.off ≤ 8 * w + 7) && decide (8 * w < x.off + x.len)).map fun w => 8 * w - x.off)

/-- Issues a stack transfer of a ring: a read takes the stack's bytes, a write changes them, in issue order (R227). -/
def State.issueRing (s : State) (g : Nat) (c : Candidate) : State :=
  let x := s.gate g
  let ring := x.ring c.ring
  match ring.walks.find? fun a => a.gen == c.gen with
  | none => s
  | some a =>
    match a.block? c.block with
    | none => s
    | some b =>
      let pop : Block → Block := fun b =>
        if c.write then { b with writes := b.writes.drop 1, inFlight := b.inFlight + 1 } else { b with reads := b.reads.drop 1 }
      let wd := blockData b (a.d.comp != 0) c.xfer
      let fl : StackFlight :=
        { owner := .ring c.ring c.gen c.block, write := c.write, off := c.xfer.off, addr := c.xfer.addr, len := c.xfer.len
          data := if c.write then wd.1 else s.stack.slice c.xfer.addr c.xfer.len
          bad := if c.write then wd.2 else s.badBursts c.xfer.addr c.xfer.len
          eof := c.xfer.eof }
      let s := s.setGate g { (x.setRing c.ring (ring.modWalk c.gen fun a => a.modBlock c.block pop)) with
        flights := x.flights ++ [fl]
        busyUntil := s.clk.wall + stackTime c.xfer.len }
      if c.write then s.stackPutMarked c.xfer.addr (fl.data.bytes 0 c.xfer.len) wd.2 else s

/-! ## Refresh (R252 to R254) -/

/-- One refresh in debt units: 3.9 µs of wall time (R252). -/
def refreshUnit : Nat := 3900 * wallPerNs

/-- The refresh debt at a wall time: it grows by elapsed time over tREFI, twice as fast when hot (R252, R253). -/
def Gate.debtAtWall (x : Gate) (wall : Nat) : Nat := x.debt + (wall - x.debtAt) * (if x.hot then 2 else 1)

def Gate.accrue (x : Gate) (wall : Nat) : Gate := { x with debt := x.debtAtWall wall, debtAt := max x.debtAt wall }

/-- The debt has reached 8, so that the gate refreshes at the next transfer boundary (R254). -/
def Gate.forced (x : Gate) (wall : Nat) : Bool := decide (8 * refreshUnit ≤ x.debtAtWall wall)

/-- Slot cycles of a frame (R253). -/
def refreshSlots (len : Nat) : List Nat :=
  let n := (len + 779) / 780
  (List.range n).map fun i => len * (2 * i + 1) / (2 * n)

/-- The gate refreshes its stack: debt falls by one, and no transfer issues for 410 ns after the transfer, or the window, in
progress (R253, R254). -/
def Gate.refresh (x : Gate) (wall : Nat) (forced : Bool) : Gate :=
  let x := x.accrue wall
  { x with
    debt := x.debt - refreshUnit
    refTaken := if forced then x.refTaken else min (x.refTaken + 1) (2 ^ 64 - 1)
    refForced := if forced then min (x.refForced + 1) (2 ^ 64 - 1) else x.refForced
    refreshUntil := max (max wall x.busyUntil) x.refreshUntil + 410 * wallPerNs }

/-- A controller can accept a transfer: its stack is ready and no compute reset discards transfers, none occupies the stack, no
refresh window is open or forced, and a tag is free (R225, R226, R253, R254, R260). -/
def State.canIssue (s : State) (g : Nat) : Bool :=
  let x := s.gate g
  s.stackNow g == .ready && !s.dawn.cmpReset && !s.dawn.modReset && decide (x.busyUntil ≤ s.clk.wall) && decide (x.refreshUntil ≤ s.clk.wall) &&
  !x.forced s.clk.wall && decide (x.flights.length + x.hostFlights.length < 1024)

end Sys2Proof.Machine
end

