-- ==== Sys2Proof/Machine/MeshOps.lean ====
section
/-! DEFINITION. The crossings, streets and avenues: slot-table entries, hops, the local port (R178 to R195). -/

namespace Sys2Proof.Machine

/-- What an entry of a slot table does to the switch state (R184); none for a reserved entry. -/
def slotEffect (b : Nat) (w : Switch) : Option Switch :=
  let d := b / 16
  let s := b % 16
  if b = 0 then some w
  else if d ≤ 12 then
    if s = 15 then some { w with conn := Map.erase w.conn d }
    else if s ≤ 12 ∧ s ≠ d then some { w with conn := Map.set w.conn d s }
    else none
  else if d = 13 then some { w with send := some s }
  else if d = 14 then some { w with recv := some s }
  else if b = 0xF0 then some { w with send := none }
  else if b = 0xF1 then some { w with recv := none }
  else if b = 0xF2 then some Switch.cleared
  else none

/-- The destinations connected to a source. -/
def Switch.dests (w : Switch) (src : Nat) : List Nat := (w.conn.filter fun p => p.2 == src).map (·.1)

/-- The entry of a tile's slot table for a cycle; an uncorrectable word reads as idle entries (R182, R191). -/
def slotByte (t : Tile) (cycle : Nat) : Nat :=
  let a := slotTableBase + cycle
  if t.stagingUe.contains (a / 8) then 0 else (t.staging.read a).toNat

/-- Two avenue hops that left in one cycle occupy a common section of one lane's track (R181). -/
def tracksMeet (port a b : Nat) : Bool :=
  if port = 6 ∨ port = 7 ∨ port = 10 ∨ port = 11 then
    tileY a == tileY b && decide (tileX a < tileX b + 8) && decide (tileX b < tileX a + 8)
  else if 4 ≤ port ∧ port ≤ 11 then
    tileX a == tileX b && decide (tileY a < tileY b + 8) && decide (tileY b < tileY a + 8)
  else false

/-- A hop through an avenue port of a tile would share a slot with a hop already placed in this cycle (R181). -/
def State.collides (s : State) (t port : Nat) : Bool :=
  s.hops.any fun h => h.1 == s.clk.now && h.2.1 == port && tracksMeet port h.2.2 t

/-- Notes a hop of this cycle; hops of earlier cycles matter no more (R181). -/
def State.noteHop (s : State) (t port : Nat) : State :=
  { s with hops := (s.hops.filter fun h => h.1 == s.clk.now) ++ [(s.clk.now, port, t)] }

/-- A segment of the mesh on which a line is lost: dead in the map, or in a region without its thoroughfare (R190, R195). -/
def State.segLost (s : State) (seg : SegKind × Nat) : Bool :=
  s.segDead seg || (List.range nRegions).any fun r => s.thoroughfareLost r && (segmentsOfRegion r).contains seg

/-- A line leaves a crossing through one destination; a port without a neighbour discards it (R179, R180, R190, R195). -/
def State.forward (s : State) (t d : Nat) (data : List Byte) : State :=
  if d = 12 then s.modTile t fun x => { x with rx := x.rx ++ [data] }
  else match rimGate t d with
  | some g => { s with rim := s.rim ++ [⟨g, t, d, s.clk.now + 4, data⟩] }
  | none =>
    match neighbour t d, segmentOf t d with
    | some u, some seg =>
      let s := s.noteHop t d
      if s.segLost seg then s
      else { s with mesh := s.mesh ++ [⟨u, oppositePort d, s.clk.now + (if d < 4 then 2 else 3), s.clk.now, data⟩] }
    | _, _ => s

/-- A crossing runs: the plan runs, the frame is not over, its thoroughfare has power and it is not isolated (R182, R188,
R189, R195). -/
def State.crossingRuns (s : State) (t : Nat) : Bool :=
  decide (t < nTiles) && s.coreRuns && s.runActive && decide (s.clk.cycle < s.frm.lenNow) && !s.frm.ended &&
  !s.thoroughfareLost (regionOf t)

/-- The tile is inside a TESTW window (R132, R188). -/
def Tile.inWindow (t : Tile) : Bool :=
  match t.wait with
  | .window started _ => started
  | _ => false

/-- The lines present at the sources of a tile in this cycle, and the other flights (R180). -/
def State.present (s : State) (t : Nat) : List Flight × List Flight :=
  s.mesh.partition fun f => f.tile == t && decide (f.due ≤ s.clk.now)

/-- The destinations of the present lines, with their data. -/
def outgoing (w : Switch) (fs : List Flight) : List (Nat × List Byte) :=
  fs.flatMap fun f => (w.dests f.port).map fun d => (d, f.data)

/-- The lines present that no destination takes (R183). -/
def untaken (w : Switch) (fs : List Flight) : Nat := (fs.filter fun f => (w.dests f.port).isEmpty).length

/-- Sends copies of the present lines; two hops in one slot are undefined behaviour (R181, R453). -/
def State.sendAll (s : State) (t : Nat) : List (Nat × List Byte) → Option State
  | [] => some s
  | (d, data) :: rest =>
    if (neighbour t d).isSome && s.collides t d then none else (s.forward t d data).sendAll t rest

/-- Outside a run's frames, past the frame's end, or inside a test window, a crossing connects nothing: the lines that
reach it are discarded and counted (R182, R183, R188). -/
def State.discardPresent (s : State) (t : Nat) : State :=
  let p := s.present t
  ({ s with mesh := p.2 } : State).addChanDrop (regionOf t) p.1.length

/-- The next address of a channel (R133). -/
def Channel.step (c : Channel) : Channel :=
  { c with addr := (c.addr + c.stride) % deckSize / 64 * 64, count := c.count - 1, line := c.line + 1 }

/-- The send lane's channel, armed for send with lines left (R185). -/
def Tile.sendChannel (t : Tile) : Option (Nat × Channel) :=
  match t.switch.send with
  | none => none
  | some c =>
    let ch := t.chanGet c
    if ch.use = .send ∧ 0 < ch.count then some (c, ch) else none

/-- The receive lane's channel, armed for receive with lines left (R186). -/
def Tile.recvChannel (t : Tile) : Option (Nat × Channel) :=
  match t.switch.recv with
  | none => none
  | some c =>
    let ch := t.chanGet c
    if (ch.use = .recvDeck ∨ ch.use = .recvWeights) ∧ 0 < ch.count then some (c, ch) else none

/-- The arbitration of this cycle has been resolved, so that the local port can make no further access in it (R86, R110). -/
def Tile.portClosed (t : Tile) (now : Nat) : Bool := t.half && t.at_ == now

/-- The send lane reads a line, whose bank is then taken, and puts it on its way to source 12, four cycles later
(R84, R185). -/
def State.localSend (s : State) (t : Nat) (x : Tile) (n : Notes) (c : Nat) (ch : Channel) : State :=
  let a := ch.addr / 64 * 64
  let x' := { x with chan := vset x.chan c ch.step, sendAt := some s.clk.now, busy := deckBank a :: x.busy }
  let s := s.putTile t x' (n.add (x.deckNotes (wrapAddrs deckSize a 64)))
  { s with mesh := s.mesh ++ [⟨t, 12, s.clk.now + 4, s.clk.now, x.deckBytesMarked a 64⟩] }

/-- The line queue's words of an entry (R83). -/
def lineWords (slot : Nat) : List Nat := (List.range 64).map (0x14000 + 64 * slot + ·)

/-- The lowest entry of the line queue that no queued line holds (log 81). -/
def Tile.freeSlot (t : Tile) : Nat := ((List.range 64).find? fun i => !t.wq.any fun q => q.slot == i).getD 0

/-- A line at destination 12 is taken by the receive lane (R186, R187, R193). -/
def Tile.receive (t : Tile) (now : Nat) (dusk : Bool) (data : List Byte) : Tile × Notes :=
  let drop : Notes := { Notes.none with chanDrop := 1 }
  if dusk ∨ t.inWindow then (t, drop)
  else match t.recvChannel with
  | none => (t, drop)
  | some (c, ch) =>
    let t' := { t with chan := vset t.chan c ch.step }
    if ch.use = .recvWeights then
      ({ t' with late := t'.late ++
          [⟨now + 1, (List.range 64).zip (data.map fun b => (b, false)) |>.map fun p =>
              ((ch.slot * 72 + ch.line) % 14976 * 64 + p.1, p.2), false⟩] }, Notes.none)
    else if 64 ≤ t.wq.length then (t', { drop with events := [.queueOverflow] })
    else
      let i := t.freeSlot
      ({ t' with
        wq := t.wq ++ [⟨ch.addr / 64 * 64, data, i⟩]
        stagingUe := ueAfterWrite t.stagingUe (lineWords i)
        stagingCe := ceAfterWrite t.stagingCe (lineWords i) }, Notes.none)

/-- The queued deck writes of one cycle: oldest first, at most two, to banks that the send read and each other leave
free (R186). Positions in the queue. -/
def pickWrites (busy : List Nat) : Nat → Nat → List QueuedLine → List Nat
  | 0, _, _ => []
  | _, _, [] => []
  | n + 1, i, q :: rest =>
    let b := deckBank q.addr
    -- a line whose bank is taken stays, and so does every younger line of that bank
    if busy.contains b then pickWrites busy (n + 1) (i + 1) rest
    else i :: pickWrites (b :: busy) n (i + 1) rest

/-- Data of a queued line as written: uncorrectable words of it carry 0xF000 in every element (R191). -/
def markWords (data : List Byte) (bad : List Nat) : List Byte :=
  ((List.range data.length).zip data).map fun p =>
    if bad.contains (p.1 / 8) then (if p.1 % 2 = 0 then 0x00 else 0xF0) else p.2

/-- The chosen lines are read from the line queue, their words checked, and written; the others stay (R90, R186, R191). -/
def Tile.drainWrites (t : Tile) (now : Nat) (picks : List Nat) : Tile × Notes :=
  let ix := (List.range t.wq.length).zip t.wq
  let chosen := (ix.filter fun p => picks.contains p.1).map (·.2)
  let t' := { t with
    wq := (ix.filter fun p => !picks.contains p.1).map (·.2)
    drainAt := some now
    busy := chosen.map (fun q => deckBank q.addr) ++ t.busy }
  let bad := fun (q : QueuedLine) => (List.range 8).filter fun w => t.stagingUe.contains (0x14000 / 8 + 8 * q.slot + w)
  (chosen.foldl (fun t q => t.deckPut q.addr (markWords q.data (bad q))) t',
    (chosen.map fun q => t.stagingNotes (lineWords q.slot)).foldl Notes.add Notes.none)

end Sys2Proof.Machine
end

