-- ==== Sys2Proof/Machine/HoldOps.lean ====
section
/-! DEFINITION. The end of a frame: hold sources, deadline misses, the passing of a cycle (R189, R201 to R206, R219, R302, R307). -/

namespace Sys2Proof.Machine

/-! ## Hold sources (R201) -/

/-- The tile has still to execute its frame wait (R25, R131, R132). -/
def Tile.owesWait (t : Tile) : Bool :=
  match t.wait with
  | .none => true
  | .sync _ => true
  | .stopped => false
  | .halted => false
  | .frames _ => false
  | .window started left => started && left == 0

/-- A working tile in a region that is not dusk owes its frame wait (R201). -/
def State.tileOwes (s : State) : Bool :=
  s.runActive && s.tiles.any fun p =>
    p.2.owesWait && !s.isDusk (regionOf p.1) && !s.isDark (regionOf p.1) && !s.map.tileDead p.1

/-- TILE: a frame wait is owed or a write queue is not empty (R201). -/
def State.holdsTile (s : State) : Bool := s.tileOwes || s.tiles.any fun p => !p.2.wq.isEmpty

/-- The rings of all gates, as gate and ring number. -/
def State.allRings (s : State) : List (Nat × Nat) := s.gates.flatMap fun p => p.2.rings.map fun q => (p.1, q.1)

def State.dataHolders (s : State) : List (Nat × Nat) := s.allRings.filter fun x => s.ringHoldsData x.1 x.2

/-- GATE_SPACE (R221). -/
def State.holdsSpace (s : State) : Bool := s.allRings.any fun x => s.ringHoldsSpace x.1 x.2

/-- Link data of a frame before the one under way is still to be written by a class 3 ring of the port (R302). -/
def State.linkWrites (s : State) (p : Nat) : Bool :=
  let late := fun (e : Option Nat) => e.any fun f => decide (f < s.group.gframe)
  s.gates.any fun g => g.2.rings.any fun r => r.2.walks.any fun a =>
    a.d.cls == 3 && a.d.linkPort == p &&
    ((a.blocks.any fun b => b.writes.any fun y => late y.eof) ||
     g.2.flights.any fun f => late f.eof && (match f.owner with
       | .ring q gen _ => q == r.1 && gen == a.gen
       | .update _ _ _ => false))

/-- LINK for a port: EOF of a frame before the one under way, or the write of the flits it counts, is missing (R302). Flits are
accepted in order, so with EOF they have all arrived (R293, log 18). -/
def State.linkHolds (s : State) (p : Nat) : Bool :=
  let x := s.port p
  s.group.formed && s.portUsed p && (x.st == .up || x.st == .recovery) &&
  (decide (x.eofIn < s.group.gframe) || (x.rxq.any fun y => decide (y.2.2.2 < s.group.gframe)) || s.linkWrites p)

def State.linkHolders (s : State) : List Nat := (List.range 16).filter s.linkHolds

/-- The frame under way ends a step (R26). -/
def State.lastFrame (s : State) : Bool :=
  s.runActive && (match s.plan.plan with
    | some p => decide (p.hdr.framesPerStep ≤ s.plan.frameInStep + 1)
    | none => false)

/-- UPDATE (R27, R277). -/
def State.holdsUpdate (s : State) : Bool := s.lastFrame && s.updatePending

/-- GROUP: the common tick is not agreed, or has not come yet (R307). -/
def State.holdsGroup (s : State) : Bool :=
  s.group.formed && (match s.group.tickAt with
    | some w => decide (s.clk.wall < w)
    | none => true)

def bit (b : Bool) (n : Nat) : Nat := if b then 2 ^ n else 0

/-- The hold sources of this module that are active, without the group's (R201). -/
def State.localHolds (s : State) : Nat :=
  bit s.holdsTile 0 + bit (!s.dataHolders.isEmpty) 1 + bit s.holdsSpace 2 + bit (!s.linkHolders.isEmpty) 3 + bit s.holdsUpdate 4

/-- A step that fails or is refused holds no tick (R449). -/
def State.failing (s : State) : Bool := s.plan.failNext || s.plan.refuseNext

/-- The spare of a formed group ticks with it whatever its own rings and ports still owe (R315, log 98). -/
def State.spareTicks (s : State) : Bool := s.isSpare && s.group.formed

/-- The active hold sources as HELD_SRC shows them (R203); while the core is stopped nothing holds a tick (R23, R357). -/
def State.holdMask (s : State) : Nat :=
  if s.failing || !s.coreRuns then 0 else (if s.spareTicks then 0 else s.localHolds) + bit s.holdsGroup 5

/-- Local ready: no source but GROUP is active, the write queue left out; a spare is ready as soon as its frame begins (R307,
R315). -/
def State.localReady (s : State) : Bool :=
  s.failing || s.isSpare ||
  (!s.tileOwes && s.dataHolders.isEmpty && !s.holdsSpace && s.linkHolders.isEmpty && !s.holdsUpdate)

/-- The cycle at which the tick is due (R201, R307). -/
def State.dueCycle (s : State) : Nat := s.frm.lenNow + (if s.group.formed then 64 else 0)

def State.tickDue (s : State) : Bool := decide (s.dueCycle ≤ s.clk.cycle)

/-- HELD_SRC (R203, R206); the wait of an origin frame is a hold by GATE_DATA (R219). -/
def State.heldSources (s : State) : Nat :=
  if s.frm.originWait then (if s.failing || !s.coreRuns then 0 else 2)
  else if s.tickDue then s.holdMask else 0

/-- FRM_STATUS.HELD (R206). -/
def State.held (s : State) : Bool := s.heldSources != 0

/-! ## The miss log (R202, R204) -/

/-- One deadline miss: logged, counted, and the first of a step under STRICT asks for a stop (R202, R204). -/
def State.addMiss (s : State) (source unit ring wait : Nat) : State :=
  let i := s.frm.missHead
  let strict := match s.plan.plan with
    | some p => s.runActive && p.hdr.strict
    | none => false
  let first := strict && !s.plan.stepMiss
  let s := { s with
    frm := { s.frm with
      missLog := Map.set s.frm.missLog i ⟨s.frm.count, source, unit, ring, wait⟩
      missHead := (i + 1) % 64
      missCount := wrap64 (s.frm.missCount + 1)
      miss := true
      strictStop := s.frm.strictStop || first
      openMiss := (s.frm.openMiss.filter fun j => j != i) ++ [i] }
    plan := if s.runActive then { s.plan with stepMiss := true, stepMisses := min (s.plan.stepMisses + 1) (2 ^ 32 - 1) } else s.plan }
  let s := s.noteSet .frm 0
  if first then s.raiseVector vecFrame else s

/-- The misses of rings at cycle FRAME_LEN of a frame (R202, R221). -/
def State.logMisses (s : State) : State := s.dataHolders.foldl (fun s x => s.addMiss 1 x.1 x.2 0) s

/-- The misses of link ports at the cycle at which the tick is due (R202, R302). -/
def State.logLinkMisses (s : State) : State := s.linkHolders.foldl (fun s p => s.addMiss 3 p 0 0) s

/-- The pair of a miss record is still active. -/
def State.missActive (s : State) (m : MissRec) : Bool :=
  if s.frm.originWait then s.ringHoldsOrigin m.unit m.ring
  else if m.source = 1 then s.ringHoldsData m.unit m.ring else s.linkHolds m.unit

/-- One stretch cycle more for the misses whose pair is active (R202). -/
def State.bumpMisses (s : State) : State :=
  let log := s.frm.openMiss.foldl (fun l i =>
    match Map.find? l i with
    | some m => if s.missActive m then Map.set l i { m with wait := min (m.wait + 1) (2 ^ 32 - 1) } else l
    | none => l) s.frm.missLog
  { s with frm := { s.frm with missLog := log } }

/-- Lines in flight at cycle FRAME_LEN are discarded and counted (R189). -/
def State.discardFlights (s : State) : State :=
  let s1 := { s with mesh := [], rim := [] }
  let s2 := s.mesh.foldl (fun s f => s.addChanDrop (regionOf f.tile) 1) s1
  let s3 := s.rim.foldl (fun s f => s.addChanDrop (regionOf f.tile) 1) s2
  s.tiles.foldl (fun s p =>
    if p.2.rx.isEmpty then s
    else (s.modTile p.1 fun t => { t with rx := [] }).addChanDrop (regionOf p.1) p.2.rx.length) s3

/-- Lines at the sources of a crossing that applies no entry in this cycle are discarded and counted (R182, R183). -/
def State.dropStrays (s : State) : State :=
  let stray := fun (f : Flight) => decide (f.due ≤ s.clk.now) && !s.crossingRuns f.tile
  if !s.coreRuns then s
  else
    (s.mesh.filter stray).foldl
      (fun s f => if s.thoroughfareLost (regionOf f.tile) then s else s.addChanDrop (regionOf f.tile) 1)
      { s with mesh := s.mesh.filter fun f => !stray f }

/-! ## Time -/

/-- The frequency code at which cycles pass: 40 while the core clock does not run (R23). -/
def State.cycleCode (s : State) : Nat := if s.clk.running then s.clk.code else 40

/-- A port in its window sends a wake every 10 ms until it is answered (R297). -/
def State.sendWakes (s : State) : State :=
  (List.range 16).foldl (fun s p =>
    let x := s.port p
    if x.st = .window ∧ x.wakeAt + wallMs 10 ≤ s.clk.wall ∧ s.clk.wall < x.windowEnd then
      (s.setPort p { x with wakeAt := s.clk.wall }).emit (.wake p)
    else s) s

/-- One core cycle passes (R8, R22): the wait of R219 keeps cycle 0; past the due cycle the tick is held, and the sources
and misses are noted. -/
def State.passCycle (s : State) : State :=
  if !s.dawn.powered then s
  else
    let s := s.dropStrays.sendWakes
    let clk := { s.clk with now := s.clk.now + 1, wall := s.clk.wall + cycleWall s.cycleCode }
    if s.frm.originWait then
      let s := s.bumpMisses
      { s with
        clk := clk
        frm := { s.frm with stretchCycles := wrap64 (s.frm.stretchCycles + 1) }
        plan := if s.runActive then { s.plan with stepStretch := wrap64 (s.plan.stepStretch + 1) } else s.plan }
    else
      let s := if s.tickDue then
          let s := s.syncTiles
          let s := (if s.frm.dueAt.isNone then s.logLinkMisses else s).bumpMisses
          { s with frm := { s.frm with
              heldMask := s.frm.heldMask ||| s.holdMask
              dueAt := match s.frm.dueAt with
                | some w => some w
                | none => some s.clk.wall } }
        else s
      { s with clk := { clk with cycle := s.clk.cycle + 1 } }

end Sys2Proof.Machine
end

