-- ==== Sys2Proof/Machine/LinkOps.lean ====
section
/-! DEFINITION. Shared operations of the link ports: a port goes down, EOF messages, handing class 2 blocks to a port
(R218, R295, R301, R302, R314). -/

namespace Sys2Proof.Machine

/-- The class 2 and 3 rings of a port whose arming runs, those included that wait for the next step (R231, R314). -/
def State.ringsOnPort (s : State) (p : Nat) : List (Nat × Nat) :=
  s.allRings.filter fun x =>
    let r := s.ring x.1 x.2
    r.arming.any fun a => (r.state == .active || (r.state == .done && a.d.restarts)) && (a.d.cls == 2 || a.d.cls == 3) && a.d.linkPort == p

/-- A port is taken down with a result: its queues and replay buffer are discarded, the link table shows width 0 at the
next tick. A port that was up breaks its rings, writes LINK_DOWN and tells the group (R300, R301, R314, R445). -/
def State.portDrop (s : State) (p : Nat) (st : PortState) (result : Nat) : State :=
  let x := s.port p
  let wasUp := x.st == .up || x.st == .recovery
  -- receive buffers of other ports that forwarded flits hold here are free again
  let held := x.fwd.filterMap TxFlit.via
  let s := held.foldl (fun s q => s.modPort q fun y => { y with freed := y.freed + 1 }) s
  let x := s.port p
  let s := s.setPort p { x with
    st := st
    result := result
    mask := 0
    width := 0
    nak := false
    replay := []
    resend := []
    freed := 0
    own := []
    fwd := []
    syncQ := []
    syncIn := none
    rxq := [] }
  let s := s.mapChange (.link p ⟨0, 0, result⟩)
  if !wasUp then s
  else
    let s := s.linkStatus 2 fun g => { g with portChange := true }
    let s := (s.ringsOnPort p).foldl (fun s x => s.ringError x.1 x.2 8) s
    let s := s.addError (.linkDown p result) true
    if s.runActive then s.floodAbort 1 else s

/-- EOF of the frame that is next to be closed on a port, once its flits are sent, or at the tick that ends a frame in
which nothing was sent (R302). -/
def Port.emitEof (member gframe : Nat) (x : Port) : Port :=
  let f := x.eofSent
  let waiting := x.own.any fun y => y.frame == some f
  if waiting || decide (gframe < f) || (x.sent == 0 && decide (gframe ≤ f)) then x
  else { x with syncQ := insertMsg ⟨6, member, x.sent, f⟩ x.syncQ, sent := 0, eofSent := f + 1 }

def Port.emitEofs (member gframe : Nat) : Nat → Port → Port
  | 0, x => x
  | n + 1, x => Port.emitEofs member gframe n (x.emitEof member gframe)

/-- Queues the EOF messages that are due on a port (R302). -/
def State.emitEofs (s : State) (p : Nat) : State :=
  let x := s.port p
  if s.group.formed && s.portUsed p && (x.st == .up || x.st == .recovery) then
    s.setPort p (x.emitEofs s.member s.group.gframe (s.group.gframe + 1 - x.eofSent))
  else s

/-- Inserts a ring by ring number, then gate (R302 item 1). -/
def insertRing (x : Nat × Nat) : List (Nat × Nat) → List (Nat × Nat)
  | [] => [x]
  | y :: rest => if x.2 < y.2 ∨ (x.2 = y.2 ∧ x.1 ≤ y.1) then x :: y :: rest else y :: insertRing x rest

/-- A class 2 ring hands its block that is due in the frame to its port, in whole lines (R215, R218, R302). -/
def State.handBlock (s : State) (g r : Nat) : State :=
  let x := s.ring g r
  match x.arming with
  | none => s
  | some a =>
    let d := a.d
    match a.blocks.find? fun b => b.go && b.sent == 0 && d.dueFrame b.num == s.ringFrame a with
    | none => s
    | some b =>
      if d.cls ≠ 2 ∨ !x.sends then s
      else
        let s := s.setRing g r { x with arming := some (a.setBlock { b with sent := d.linesOf b.num }) }
        s.queueData d.linkPort (cutFlits (s.peer d.linkPort) s.member d.lstream
          (if s.group.formed then some s.group.gframe else none) (b.deliver d 0 (64 * d.sendLines b)))

/-- Every class 2 block due in the frame that begins is handed over, in ring-number order (R302). -/
def State.handBlocks (s : State) : State :=
  (s.allRings.foldl (fun acc x => insertRing x acc) []).foldl (fun s x => s.handBlock x.1 x.2) s

end Sys2Proof.Machine
end

