-- ==== Sys2Proof/Machine/PlanOps.lean ====
section
/-! DEFINITION. The plan image and its checks, LOAD, and the start, stop and restart of a run (R124, R142 to R147, R331, R474). -/

namespace Sys2Proof.Machine

/-! ## Reading an image -/

def roundUp (n k : Nat) : Nat := (n + k - 1) / k * k

/-- All bytes of a range are 0. -/
def zeros (m : Memory) (a n : Nat) : Bool := (m.bytes a n).all fun b => b == 0

/-- The plan header at a stack address (R142). -/
def parseHeader (m : Memory) (b : Nat) : PlanHeader :=
  { strict := m.le (b + 18) 2 % 2 == 1, frameLen := m.le (b + 20) 4, framesPerStep := m.le (b + 24) 4
    stepCount := m.le (b + 32) 8, seed := BitVec.ofNat 64 (m.le (b + 40) 8), digest := m.bytes (b + 48) 48
    planId := m.bytes (b + 96) 16 }

def imageSize (m : Memory) (b : Nat) : Nat := m.le (b + 8) 8
def imageSections (m : Memory) (b : Nat) : Nat := m.le (b + 16) 2

/-- Check 1 of R474: the header and the image's place. -/
def headerOk (m : Memory) (b : Nat) : Bool :=
  let fl := m.le (b + 20) 4
  let size := imageSize m b
  m.le b 4 == 0x4E4C5046 && m.le (b + 4) 2 == 1 && m.le (b + 6) 2 == 128 && decide (imageSections m b ≤ 5) &&
  decide (m.le (b + 18) 2 < 2) && (fl == 0 || (fl % 64 == 0 && decide (1024 ≤ fl) && decide (fl ≤ 8192))) &&
  m.le (b + 24) 4 != 0 && m.le (b + 28) 4 == 0 && zeros m (b + 116) 12 &&
  decide (128 + 32 * imageSections m b + 48 ≤ size) &&
  decide (b / sliceBytes < 48) && decide (b % sliceBytes + size ≤ populatedBytes)

/-- A section table entry (R142). -/
structure Section where
  typ : Nat
  count : Nat
  off : Nat
  size : Nat

def sectionAt (m : Memory) (b i : Nat) : Section :=
  let a := b + 128 + 32 * i
  ⟨m.le a 2, m.le (a + 4) 4, m.le (a + 8) 8, m.le (a + 16) 8⟩

def imageTable (m : Memory) (b : Nat) : List Section := (List.range (imageSections m b)).map (sectionAt m b)

/-- Bytes of the entry at an address of section 1 or 2, rounded up (R143). -/
def entrySize (m : Memory) (typ a : Nat) : Nat :=
  if typ = 1 then roundUp (320 + m.le (a + 8) 4) 64 else roundUp (8 + m.le (a + 4) 4) 64

/-- The addresses of n packed entries from a to the end of a section; none where they do not fit (R474). -/
def packedAt (m : Memory) (typ finish : Nat) : Nat → Nat → Option (List Nat)
  | 0, a => if a ≤ finish then some [] else none
  | n + 1, a =>
    if finish < a + 64 then none
    else (packedAt m typ finish n (a + entrySize m typ a)).map (a :: ·)

/-- Size of an entry of sections 3 to 5 (R143). -/
def fixedSize (typ : Nat) : Nat := if typ = 3 then 128 else if typ = 4 then 48 else 64

/-- The addresses of a section's entries; none where they do not fit in SIZE. -/
def entryAddrs (m : Memory) (b : Nat) (s : Section) : Option (List Nat) :=
  if s.typ ≤ 2 then (if s.size / 64 < s.count then none else packedAt m s.typ (b + s.off + s.size) s.count (b + s.off))
  else if s.count * fixedSize s.typ ≤ s.size then some ((List.range s.count).map fun i => b + s.off + i * fixedSize s.typ)
  else none

/-- Check 2 of R474: the section table. -/
def tableOk (m : Memory) (b : Nat) : Bool :=
  let t := imageTable m b
  let n := t.length
  let ix := (List.range n).zip t
  let first := 128 + 32 * n
  let last := imageSize m b - 48
  ix.all fun p =>
    let s := p.2
    let a := b + 128 + 32 * p.1
    decide (1 ≤ s.typ) && decide (s.typ ≤ 5) && m.le (a + 2) 2 == 0 && m.le (a + 24) 8 == 0 && s.off % 64 == 0 &&
    decide (first ≤ s.off) && decide (s.off + s.size ≤ last) &&
    (ix.all fun q => p.1 == q.1 || (q.2.typ != s.typ && !rangesMeet s.off s.size q.2.off q.2.size)) &&
    (entryAddrs m b s).isSome

/-- The entries of a section type, in order; none where the image has no such section. -/
def entriesOf (m : Memory) (b typ : Nat) : List Nat :=
  match (imageTable m b).find? fun s => s.typ == typ with
  | some s => (entryAddrs m b s).getD []
  | none => []

/-- No number occurs twice. -/
def distinct (l : List Nat) : Bool := (dedup l).length == l.length

def tileEntryOk (m : Memory) (a : Nat) : Bool :=
  let code := m.le (a + 8) 4
  decide (m.le a 2 < nTiles) && m.le (a + 2) 2 == 0 && decide (m.le (a + 6) 1 < 16) && m.le (a + 7) 1 == 0 &&
  code % 8 == 0 && decide (code ≤ 65536) && (code == 0 || decide (m.le (a + 4) 2 * 8 < code)) && m.le (a + 12) 4 == 0 &&
  zeros m (a + 264) 56

def slotEntryOk (m : Memory) (a : Nat) : Bool :=
  decide (m.le a 2 < nTiles) && m.le (a + 2) 2 == 0 && decide (m.le (a + 4) 4 ≤ 8192)

def ringEntryOk (m : Memory) (a : Nat) : Bool :=
  decide (m.le a 1 < nGates) && m.le (a + 1) 1 == 0 && decide (m.le (a + 2) 2 < 1024) && decide (m.le (a + 4) 4 < 2)

/-- Regions of a mask (R143). -/
def maskRegions (v : Nat) : List Nat := (List.range nRegions).filter fun r => v / 2 ^ r % 2 == 1

def phaseEntryOk (m : Memory) (steps a : Nat) : Bool :=
  let idle := m.le (a + 8) 16
  let dusk := m.le (a + 24) 16
  decide (m.le a 4 < steps) && m.le (a + 4) 4 == 0 && decide (idle < 2 ^ 84) && decide (dusk < 2 ^ 84) &&
  dusk &&& idle == dusk && m.le (a + 40) 8 == 0

def layerEntryOk (m : Memory) (a : Nat) : Bool :=
  decide (m.le (a + 2) 1 ≤ 3) && m.le (a + 4) 1 / 4 % 4 != 3 && decide (m.le (a + 6) 2 ≤ 4096)

/-- The values ascend strictly from 0. -/
def ascends : List Nat → Bool
  | a :: b :: rest => decide (a < b) && ascends (b :: rest)
  | _ => true

/-- Check 4 of R474: the code of the first section with a bad entry; none where all are good. -/
def entriesBad (m : Memory) (b : Nat) : Option Nat :=
  let tiles := entriesOf m b 1
  let slots := entriesOf m b 2
  let rings := entriesOf m b 3
  let phases := entriesOf m b 4
  let layers := entriesOf m b 5
  let starts := phases.map fun a => m.le a 4
  if !(tiles.all (tileEntryOk m) && distinct (tiles.map fun a => m.le a 2)) then some 5
  else if !(slots.all (slotEntryOk m) && distinct (slots.map fun a => m.le a 2)) then some 6
  else if !(rings.all (ringEntryOk m) && distinct (rings.map fun a => m.le a 1 * 1024 + m.le (a + 2) 2)) then some 7
  else if !(decide (phases.length ≤ 256) && phases.all (phaseEntryOk m (parseHeader m b).framesPerStep) &&
      starts.headD 0 == 0 && ascends starts) then some 8
  else if !(decide (layers.length ≤ 4096) && layers.all (layerEntryOk m) && distinct (layers.map fun a => m.le a 2)) then some 9
  else none

/-- The code of the first check of R474 that fails; none for a good image. -/
def imageRefusal (m : Memory) (b : Nat) : Option Nat :=
  if !headerOk m b then some 2
  else if !tableOk m b then some 3
  else if sha384 (m.bytes b (imageSize m b - 48)) ≠ m.bytes (b + imageSize m b - 48) 48 then some 4
  else entriesBad m b

def parseTileImage (m : Memory) (a : Nat) : TileImage :=
  ⟨m.le (a + 4) 2, m.le (a + 6) 1, m.le (a + 8) 4, (List.range 31).map fun i => BitVec.ofNat 64 (m.le (a + 16 + 8 * i) 8)⟩

def signed8 (n : Nat) : Int := if n < 128 then n else (n : Int) - 256

def parseLayer (m : Memory) (a : Nat) : Layer :=
  let ctl := m.le (a + 4) 1
  let params := m.le (a + 16) 8
  { id := m.le a 2, rule := m.le (a + 2) 1, scaleX := signed8 (m.le (a + 3) 1), gradSr := ctl % 2 == 1,
    stateSr := ctl / 2 % 2 == 1, exchange := ctl / 4 % 4, topk := m.le (a + 6) 2, stateBase := m.le (a + 8) 8,
    openFrame := params / 2 ^ 24 % 2 ^ 32, gate0 := params / 2 ^ 16 % 256, contrib := params % 2 ^ 16,
    rows := m.le (a + 24) 4, cols := m.le (a + 28) 4, gradTensor := m.le (a + 32) 4 % 2 ^ 24,
    stateTensor := m.le (a + 36) 4 % 2 ^ 24, consts := (List.range 6).map fun i => BitVec.ofNat 16 (m.le (a + 40 + 2 * i) 2) }

/-- The plan of a good image (R143). -/
def parsePlan (m : Memory) (b : Nat) : Plan :=
  { hdr := parseHeader m b
    images := (entriesOf m b 1).foldl (fun acc a => Map.set acc (m.le a 2) (parseTileImage m a)) []
    templates := (entriesOf m b 3).map fun a => ⟨m.le a 1, m.le (a + 2) 2, m.le (a + 4) 4 % 2 == 1, m.bytes (a + 8) 120⟩
    phases := (entriesOf m b 4).map fun a => ⟨m.le a 4, maskRegions (m.le (a + 8) 16), maskRegions (m.le (a + 24) 16)⟩
    layers := (entriesOf m b 5).map (parseLayer m) }

/-! ## LOAD (R145) -/

/-- GLB_PLAN_STATUS.STATE changes: vector 3 (R328). -/
def State.setPlanState (s : State) (x : PlanState) : State :=
  if s.plan.state = x then s else ({ s with plan := { s.plan with state := x } }).raiseVector vecPlan

/-- A LOAD or START is refused with a code (R145, R146, R328). -/
def State.refusePlan (s : State) (code : Nat) : State :=
  ({ s with plan := { s.plan with refusal := code } }).raiseVector vecPlan

/-- The deck and staging SRAM of a tile, with the line queue held in it, read 0x00 (R85, R145, R390). -/
def Tile.wipe (t : Tile) : Tile :=
  { t with deck := [], staging := [], deckCe := [], deckUe := [], stagingCe := [], stagingUe := [], wq := [] }

def State.wipeTiles (s : State) : State := { s with tiles := Map.mapVals (fun _ t => t.wipe) s.tiles }

/-- The life-cycle state forbids plans (R145, R146). -/
def State.plansBarred (s : State) : Bool := s.sector.state == .transit || s.sector.state == .scrap

/-- The test engine or a life-cycle change keeps plan commands off (R410, R434, R441). -/
def State.commandsBusy (s : State) : Bool := s.tst.busy || s.ctl.change.isSome

/-- What the controller has learned is discarded (R346, R365). -/
def State.forget (s : State) : State :=
  { s with
    pwr := { s.pwr with phases := [], learned := 0 }
    regions := Map.mapVals (fun _ (x : Region) => { x with retW := none, leakSeen := none }) s.regions }

/-- The LOAD command (R145, R365, R429). -/
def State.loadCommand (s : State) : State :=
  if s.plan.state = .loading || s.plan.state = .running || s.plan.startPending || s.commandsBusy then s.refusePlan 1
  else if s.plansBarred then s.refusePlan 12
  else if s.plan.resetNeeded then s.refusePlan 13
  else
    let s := { s with plan := { s.plan with refusal := 0, plan := none } }
    s.forget.wipeTiles.setPlanState .loading

/-- Writes the program stores and slot tables of a good image (R143, R145). -/
def State.writeStores (s : State) (m : Memory) (b : Nat) : State :=
  let s := (entriesOf m b 1).foldl (fun s a =>
    s.modTile (m.le a 2) fun t => { t with staging := t.staging.putBytes 0 (m.bytes (a + 320) (m.le (a + 8) 4)) }) s
  (entriesOf m b 2).foldl (fun s a =>
    s.modTile (m.le a 2) fun t => { t with staging := t.staging.putBytes slotTableBase (m.bytes (a + 8) (m.le (a + 4) 4)) }) s

/-- Installs the ring templates: their descriptors become those of their rings (R145, R228, log 13). -/
def State.installTemplates (s : State) (p : Plan) : State :=
  p.templates.foldl (fun s t => s.setRing t.gate t.ring { s.ring t.gate t.ring with pendDesc := Shadow.clear, desc := t.desc }) s

/-- Bytes of the stacks that a LOAD reads: the image, or its header where that is bad (R428, R474). -/
def imageRead (m : Memory) (b : Nat) : Nat := if headerOk m b then imageSize m b else 128

/-- The checks of a loading image end (R145, R257, R474). -/
def State.loadComplete (s : State) (ecc : EccReport) : State :=
  let y := s.stackLoad s.plan.base (imageRead s.stack s.plan.base) ecc true
  let s := y.1
  match imageRefusal y.2 s.plan.base with
  | some code =>
    let s := { s with plan := { s.plan with refusal := code, plan := none } }
    s.setPlanState .none
  | none =>
    let p := parsePlan y.2 s.plan.base
    let s := (s.writeStores y.2 s.plan.base).installTemplates p
    ({ s with plan := { s.plan with plan := some p } }).setPlanState .loaded

/-! ## START and STOP (R146, R147, R429) -/

/-- The START command (R146, R315, R429). -/
def State.startCommand (s : State) : State :=
  if s.plan.startPending then s
  else if s.isSpare then s.refusePlan 1
  else if s.plan.state = .running || s.plan.state = .loading || s.commandsBusy then s.refusePlan 1
  else if s.plansBarred then s.refusePlan 12
  else if s.plan.state = .none then s.refusePlan 10
  else { s with plan := { s.plan with startPending := true, startAt := some s.clk.now, refusal := 0, stepsDone := 0 } }

/-- The STOP command (R147, R429). -/
def State.stopCommand (s : State) : State :=
  if s.plan.startPending then { s with plan := { s.plan with startPending := false } }
  else if s.plan.state = .running ∧ !s.plan.stopPending then
    { s with plan := { s.plan with stopPending := true, stopAt := some s.clk.now } }
  else s

/-! ## Sequencers (R124, R125) -/

/-- The restart of a sequencer with its image (R124, R200). -/
def Tile.restart (t : Tile) (img : Option TileImage) (now : Nat) : Tile :=
  match img with
  | some i =>
    { t with
      pc := i.entry
      s := Vector.ofFn fun k => if k.1 = 0 then 0 else i.regs.getD (k.1 - 1) 0
      rc := Vector.replicate 4 ⟨0, 0, 0⟩
      sDue := []
      wait := if i.codeBytes = 0 then .halted else .none
      nextIssue := now
      arrived := [] }
  | none => { t with wait := .halted, arrived := [] }

/-- Every sequencer restarts (R124), and every arrival and barrier is discarded (R200). -/
def State.restartTiles (s : State) : State :=
  match s.plan.plan with
  | none => s
  | some p =>
    let s := p.images.foldl (fun s i => s.modTile i.1 id) s
    { s with
      tiles := Map.mapVals (fun t x => x.restart (Map.find? p.images t) s.clk.now) s.tiles
      barriers := [] }

/-- Every tile halts, and its test window ends (R132, R147). -/
def State.haltTiles (s : State) : State :=
  { s with tiles := Map.mapVals (fun _ (x : Tile) => { x.leaveWindow with wait := .halted, arrived := [] }) s.tiles, barriers := [] }

/-- Every ring is disarmed (R147, R232). -/
def State.disarmAll (s : State) : State := s.allRings.foldl (fun s x => s.disarmRing x.1 x.2) s

/-! ## Step completion records (R331) -/

def stepRecord (frame : Nat) (step : Nat) (planId : List Byte) (status flags : Nat) (eta : Code) (frames stretch misses : Nat)
    (num : Status) (cause member errSeq : Nat) : List Byte :=
  leBytes 8 frame ++ leBytes 8 step ++ planId.take 16 ++ [BitVec.ofNat 8 status, BitVec.ofNat 8 flags] ++ leBytes 2 eta.toNat ++
  leBytes 4 frames ++ leBytes 8 stretch ++ leBytes 4 misses ++ [num, BitVec.ofNat 8 cause, BitVec.ofNat 8 member, 0] ++
  leBytes 8 errSeq

/-- Posts a record to the host's queue, or counts it lost; it is copied to the windows (R331). -/
def State.postStep (s : State) (r : List Byte) (ok : Bool) : State :=
  let h := s.hostRegs
  let s := { s with hostRegs := { h with lastRec := r, lastOk := if ok then r else h.lastOk } }
  if h.scqEntries = 0 || (h.scqTail + 2 ^ 32 - h.scqHead) % 2 ^ 32 == h.scqEntries || !(s.hostPort h.scqPort).canRequest then
    { s with hostRegs := { s.hostRegs with scqLost := wrap64 (h.scqLost + 1) } }
  else
    let s := s.emit (.hostWrite h.scqPort (h.scqBase + 64 * (h.scqTail % h.scqEntries)) r)
    ({ s with hostRegs := { s.hostRegs with scqTail := wrap32 (h.scqTail + 1) } }).raiseVector vecStep

/-- The record of the step that ends at this tick with a status (R331, R449, R450). -/
def State.recordStep (s : State) (status : Nat) (stop : Bool) : State :=
  let p := s.plan
  let id := match p.plan with
    | some q => q.hdr.planId
    | none => List.replicate 16 0
  let f := match s.err.firstFail with
    | some f => if status = 2 then f else (0, 0)
    | none => (0, 0)
  s.postStep
    (stepRecord s.frm.count s.upd.step id status
      (bit p.stepMiss 0 + bit stop 1 + bit (decide (0 < p.stepStretch)) 2) s.upd.eta p.stepFrames p.stepStretch p.stepMisses
      p.stepFlags f.1 s.member f.2)
    (status == 0)

/-- The run ends: every tile halts, every ring is disarmed, the state becomes STOPPED, no plan's ceiling holds (R45, R147, R449). -/
def State.endRun (s : State) : State :=
  let s := { s with
    plan := { s.plan with run := false, stopPending := false, failNext := false, refuseNext := false, ceiling := 110 }
    frm := { s.frm with strictStop := false } }
  s.haltTiles.disarmAll.setPlanState .stopped

/-- What a step collects begins anew (R331, R447). -/
def PlanCtl.freshStep (p : PlanCtl) : PlanCtl :=
  { p with frameInStep := 0, stepFrames := 0, stepStretch := 0, stepMisses := 0, stepFlags := 0, stepMiss := false }

end Sys2Proof.Machine
end

