-- ==== Sys2Proof/Machine/PowerOps.lean ====
section
/-! DEFINITION. The power controller: voltages, prediction, cap frequencies, requests, the thermal limit, dusk, Night and
stops (R338 to R362). -/

namespace Sys2Proof.Machine

/-! ## Voltage (R339 to R341) -/

/-- Measurements at a fused point i (0 for code 40, 7 for code 110), newest first (R340). -/
def State.measured (s : State) (r i : Nat) : List Nat := (Map.getD s.log.aging (8 * r + i) ([], 0)).1

/-- V_min of a region at a fused point, in mV (R340). -/
def State.vminPoint (s : State) (r i : Nat) : Nat :=
  let f := Config.fusedVolt r (40 + 10 * i)
  match s.measured r i with
  | [] => f
  | l => max ((l.take 16).foldl max 0) (f - 30)

/-- The margin at a fused point (R340). -/
def State.marginPoint (s : State) (r i : Nat) : Nat := if (s.measured r i).isEmpty then 40 else 25

/-- Linear interpolation between fused points at a code (R339). -/
def interpolate (f : Nat → Nat) (code : Nat) : Nat :=
  let i := (code - 40) / 10
  let d := (code - 40) % 10
  if d = 0 then f i else (f i * (10 - d) + f (i + 1) * d) / 10

/-- V_min of a region at a code (R339, R340). -/
def State.vmin (s : State) (r code : Nat) : Nat := interpolate (s.vminPoint r) code

/-- The margin at a code: the larger of its two points' (R340, log 12). -/
def State.margin (s : State) (r code : Nat) : Nat :=
  let i := (code - 40) / 10
  if (code - 40) % 10 = 0 then s.marginPoint r i else max (s.marginPoint r i) (s.marginPoint r (i + 1))

/-- V_set of a region at a code, within 550 and 920 mV (R339). -/
def State.vsetAt (s : State) (r code : Nat) : Nat := max 550 (min 920 (s.vmin r code + s.margin r code))

/-- The code that the rails are set for: that in force, or a higher one that is fixed (R341). -/
def State.railCode (s : State) : Nat := max s.clk.code s.clk.nextCode

/-- Rails move at a tick: up for a rise that is fixed, down after a fall, and at most 5 mV for what a measurement has lowered
(R340, R341). -/
def State.moveRails (s : State) : State :=
  { s with regions := (List.range nRegions).foldl (fun m r =>
      let x := Map.getD m r Region.reset
      Map.set m r { x with lag := x.lag - 5, vset := min 920 (s.vsetAt r s.railCode + (x.lag - 5)) }) s.regions }

/-- The codes whose voltage every region reaches within one frame (R341). -/
def State.reachable (s : State) (code : Nat) : Bool :=
  let rise := 20 * s.frm.lenNow * 100 / (s.clk.code * 1000)
  (List.range nRegions).all fun r => decide (s.vsetAt r code ≤ (s.region r).vset + rise)

/-! ## Temperatures -/

/-- T_r (R349). -/
def Region.temp (x : Region) : Int := x.temps.foldl max (x.temps.headD 0)
def State.temp (s : State) (r : Nat) : Int := (s.region r).temp

/-! ## Phases (R343) -/

/-- The phases of the plan; one with no idle region where the table is absent (R143). -/
def Plan.phaseTable (p : Plan) : List Phase := if p.phases.isEmpty then [⟨0, [], []⟩] else p.phases

/-- The number of the phase of a frame of the step. -/
def Plan.phaseAt (p : Plan) (frame : Nat) : Nat := (p.phaseTable.filter fun x => decide (x.start ≤ frame)).length - 1
def Plan.phase (p : Plan) (i : Nat) : Phase := p.phaseTable.getD i ⟨0, [], []⟩

/-- The phase in force; 0 with no run. -/
def State.phaseNow (s : State) : Nat :=
  match s.plan.plan with
  | some p => if s.runActive then p.phaseAt s.plan.frameInStep else 0
  | none => 0

/-! ## Prediction and cap frequencies (R345, R346) -/

/-- What a phase that is not measured is taken to be (R345). -/
def PhaseLearn.fresh : PhaseLearn :=
  { prev := 40, k := [], fixedW := Config.fixedPower, known := false, freq := 40, steps := 0, predict := 0, kNow := [], fixedNow := 0,
    seenNow := false }

def State.learnt (s : State) (p : Nat) : PhaseLearn := Map.getD s.pwr.phases p PhaseLearn.fresh

/-- K of a region in a phase: before the phase is measured K_max, or more where a frame has raised it (R345, R348). -/
def PhaseLearn.kOf (x : PhaseLearn) (r : Nat) : Q :=
  let k := Map.getD x.k r Q.zero
  if x.known then k else Q.max ⟨Config.kMax r, 1000000000000⟩ k

def State.leakW (s : State) (r mv : Nat) : Q := ⟨Config.leakage r (s.temp r) mv (s.region r).leakSeen, 1000⟩

/-- P_ret of a region: its power when it was last dusk (R345). -/
def State.retention (s : State) (r : Nat) : Q :=
  match (s.region r).retW with
  | some w => Q.ofInt w
  | none => ⟨Config.retentionPower r, 1000⟩

/-- The region is dusk in a phase, for the prediction (R345). -/
def State.duskIn (s : State) (p r : Nat) : Bool :=
  match s.plan.plan with
  | some q => s.runActive && (q.phase p).dusk.contains r
  | none => false

/-- predict(p, f) in W (R345). -/
def State.predict (s : State) (p f : Nat) : Q :=
  let x := s.learnt p
  let out := (List.range nRegions).foldl (fun (a : Q) r =>
    if s.isDark r then a
    else if s.duskIn p r then a.add (s.retention r)
    else
      let v := s.vsetAt r f
      (a.add ((x.kOf r).mul (Q.ofInt (f * v * v : Nat)))).add (s.leakW r v)) (Q.ofInt x.fixedW)
  (out.mul (Q.ofInt 1000)).div (Q.ofInt (max 1 (Config.efficiency out.floor.toNat)))

/-- The fields of PWR_CAP as they act (R342). -/
def PwrCap.capW (c : PwrCap) : Nat := 100 * max 120 (min 340 c.cap)
def PwrCap.tjC (c : PwrCap) : Nat := max 70 (min 100 c.tj)
def PwrCap.fixedCode (c : PwrCap) : Nat := max 40 (min 110 c.fixedFreq)

/-- predict ≤ n/100 × CAP. -/
def State.within (s : State) (p f n : Nat) : Bool := (s.predict p f).le ⟨n * s.pwr.cap.capW, 100⟩

/-- The highest code that meets 0.97 × CAP; 40 where none does (R346). -/
def State.highest (s : State) (p : Nat) : Nat :=
  ((List.range 71).filter fun i => s.within p (40 + i) 97).foldl (fun m i => max m (40 + i)) 40

/-- THROUGHPUT (R346): steps 1 to 3 search, later steps keep the code unless the prediction leaves its band. -/
def State.throughput (s : State) (p : Nat) : Nat :=
  let prev := (s.learnt p).prev
  if s.plan.runSteps < 3 ∨ !(s.learnt p).known then s.highest p
  else if !s.within p prev 97 then s.highest p
  else if prev < 110 ∧ s.within p (prev + 1) 95 then prev + 1
  else prev

def State.phaseCount (s : State) : Nat :=
  match s.plan.plan with
  | some p => if s.runActive then p.phaseTable.length else 1
  | none => 1

/-- The cap frequency of a phase by POLICY (R346). -/
def State.capFreq (s : State) (p : Nat) : Nat :=
  match s.pwr.cap.policy with
  | 1 => ((List.range s.phaseCount).map s.throughput).foldl min 110
  | 2 => min s.pwr.cap.fixedCode (s.throughput p)
  | _ => s.throughput p

/-! ## Events (R364) -/

/-- Sets a bit of PWR_EVENTS; vector 6 where it was clear. -/
def State.powerEvent (s : State) (b : Nat) : State :=
  let m : Word := BitVec.ofNat 64 (2 ^ b)
  let s := s.noteSet .pwr b
  if s.pwr.events &&& m = 0 then ({ s with pwr := { s.pwr with events := s.pwr.events ||| m } }).raiseVector vecPower else s

/-! ## Requests (R344, R347) -/

/-- The frame that the request formed at a tick is for: the next but one of those that have begun (R344). -/
def State.requestFrame (s : State) : Nat :=
  match s.plan.plan with
  | some p => (s.plan.frameInStep + 1) % p.hdr.framesPerStep
  | none => 0

/-- The module's request (R347). -/
def State.request (s : State) : Nat :=
  if s.isSpare ∧ s.grouped then 110
  else if s.pwr.night then 40
  else
    let ph := match s.plan.plan with
      | some p => if s.runActive then p.phaseAt s.requestFrame else 0
      | none => 0
    let f := min (min (s.capFreq ph) s.pwr.thermal) s.plan.ceiling
    ((List.range 71).filter fun i => decide (40 + i ≤ f) && s.reachable (40 + i)).foldl (fun m i => max m (40 + i)) 40

/-- Forms the request at a tick and, outside a formed group, fixes the next frequency (R344, R308). The first two frames
of a run keep the frequency. -/
def State.formRequest (s : State) : State :=
  let keep := s.runActive && s.plan.firstStep && s.plan.frameInStep == 0
  let q := if keep then s.clk.code else s.request
  let s := { s with pwr := { s.pwr with request := q } }
  let s := if s.group.formed then s
    else { s with clk := { s.clk with nextCode := if s.pwr.night then 40 else q }, pwr := { s.pwr with group := q } }
  let p := s.phaseNow
  let s := if s.pwr.thermal < s.capFreq p then s.powerEvent 5 else s
  if (s.predict p 40).le (Q.ofInt s.pwr.cap.capW) then s else s.powerEvent 7

/-! ## Measurement and learning (R345, R348) -/

/-- K of a region from a frame's telemetry (R345). -/
def State.kMeasured (s : State) (r watts : Nat) : Q :=
  let v := (s.region r).vset
  let k := ((Q.ofInt watts).sub (s.leakW r v)).div (Q.ofInt (s.clk.code * v * v : Nat))
  if k.isNeg then Q.zero else k

/-- The larger of a region's K values. -/
def raiseK (m : Map Q) (r : Nat) (k : Q) : Map Q :=
  match Map.find? m r with
  | some o => Map.set m r (Q.max o k)
  | none => Map.set m r k

/-- What a frame's power of a region tells: retention power of a dusk one, leakage of an idle one (R345). -/
def State.noteRegion (s : State) (r watts : Nat) : State :=
  let idle := match s.plan.plan with
    | some p => !s.runActive || (p.phase s.phaseNow).idle.contains r
    | none => true
  s.modRegion r fun x => { x with
    power := watts
    retW := if s.isDusk r then some watts else x.retW
    leakSeen := if idle && !s.isDusk r && !x.dark then some (watts, x.vset, x.temp) else x.leakSeen }

/-- The frame that ends is measured: module power, region powers, the phase's maxima, the cap (R338, R345, R348). -/
def State.measureFrame (s : State) (tel : Telemetry) (wallThen : Nat) : State :=
  let ph := s.phaseNow
  let ks : List (Nat × Q) := tel.regions.map fun x => (x.1, s.kMeasured x.1 x.2)
  let s := tel.regions.foldl (fun s x => s.noteRegion x.1 x.2) s
  let s := { s with
    pwr := { s.pwr with
      vin := tel.vin
      watts := tel.watts
      energyNum := s.pwr.energyNum + tel.watts * (s.clk.wall - wallThen) } }
  let s := if s.runActive then
      let l := s.learnt ph
      let l := { l with
        kNow := ks.foldl (fun (m : Map Q) (x : Nat × Q) => raiseK m x.1 x.2) l.kNow
        fixedNow := max l.fixedNow tel.fixed
        seenNow := true }
      { s with pwr := { s.pwr with phases := Map.set s.pwr.phases ph l } }
    else s
  if s.pwr.cap.capW < tel.watts then
    let l := s.learnt ph
    let l := if s.runActive then { l with k := ks.foldl (fun (m : Map Q) (x : Nat × Q) => raiseK m x.1 x.2) l.k } else l
    ({ s with pwr := { s.pwr with
        capExceed := wrap64 (s.pwr.capExceed + 1)
        phases := if s.runActive then Map.set s.pwr.phases ph l else s.pwr.phases } }).powerEvent 6
  else s

/-- PWR_ENERGY in mJ (R364). -/
def State.energyMj (s : State) : Nat := s.pwr.energyNum / (1000000 * wallPerNs)

/-- The cap frequencies of the step that ends, which the next one keeps unless its predictions leave the band (R346). -/
def State.keepCodes (s : State) : State :=
  { s with pwr := { s.pwr with phases := (List.range s.phaseCount).foldl (fun m p =>
      Map.set m p { (Map.getD m p PhaseLearn.fresh) with prev := s.throughput p }) s.pwr.phases } }

/-- The end of a step: each phase takes what it measured, and the cap frequencies of the next step are chosen (R345, R346). -/
def State.learnStep (s : State) : State :=
  let take := fun (_ : Nat) (l : PhaseLearn) =>
    if l.seenNow then
      { l with k := l.kNow, fixedW := l.fixedNow, known := true, steps := min (l.steps + 1) 255, kNow := [], fixedNow := 0, seenNow := false }
    else l
  let s := { s with pwr := { s.pwr with phases := Map.mapVals take s.pwr.phases, learned := min (s.pwr.learned + 1) 3 } }
  let chosen := (List.range s.phaseCount).map fun p => (p, s.capFreq p, (s.predict p (s.capFreq p)).floor.toNat)
  { s with pwr := { s.pwr with phases := chosen.foldl (fun m x =>
      Map.set m x.1 { (Map.getD m x.1 PhaseLearn.fresh) with freq := x.2.1, predict := x.2.2 }) s.pwr.phases } }

/-! ## Thermal limit (R350) -/

def State.stackHot (s : State) (limit : Int) : Bool := s.gates.any fun p => decide (limit < p.2.temp)

/-- The region with the highest T_r, the lowest number where several share it (R364). -/
def State.hottest (s : State) : Nat × Int :=
  (List.range nRegions).foldl (fun (a : Nat × Int) r => if a.2 < s.temp r then (r, s.temp r) else a) (0, s.temp 0)

/-- f_th falls or rises by one code (R350). -/
def State.thermalUpdate (s : State) : State :=
  let tj : Int := s.pwr.cap.tjC
  let hot := s.hottest
  let since : Option Nat → Nat → Bool := fun o w => match o with
    | some t => decide (t + w ≤ s.clk.wall)
    | none => true
  let p := { s.pwr with hotRegion := hot.1, hotTemp := (hot.2 % 256).toNat }
  let p :=
    if tj < hot.2 ∨ s.stackHot 95 then
      (if 40 < p.thermal && since p.lastFall (wallMs 1) then { p with thermal := p.thermal - 1, lastFall := some s.clk.wall } else p)
    else if hot.2 + 3 ≤ tj ∧ !s.stackHot 92 then
      (if p.thermal < 110 && since p.lastRise (wallMs 10) then { p with thermal := p.thermal + 1, lastRise := some s.clk.wall } else p)
    else p
  { s with pwr := p }

/-! ## Dusk (R352 to R354) -/

/-- Frames in 32 µs at 1.10 GHz (R353). -/
def State.rampFrames (s : State) : Nat := (35200 + s.frm.lenNow - 1) / s.frm.lenNow

/-- The DUSK_MASK bit of a region in a frame of the run, counted from the START tick (R353). -/
def Plan.duskBit (p : Plan) (r f : Nat) : Bool :=
  (p.hdr.stepCount == 0 || decide (f < p.hdr.stepCount * p.hdr.framesPerStep)) &&
  (p.phase (p.phaseAt (f % p.hdr.framesPerStep))).dusk.contains r

/-- A region enters dusk: rows in its nodes are lost (R273). -/
def State.enterDusk (s : State) (r : Nat) (f : Region → Region) : State :=
  let s := if s.isDusk r then s else s.dropNodes r
  s.modRegion r f

/-- A region leaves a reason of dusk; back in Day its tiles hold the state of R120. -/
def State.leaveDusk (s : State) (r : Nat) (f : Region → Region) : State :=
  let s := s.modRegion r f
  if s.isDusk r then s
  else { s with tiles := Map.mapVals (fun t x => if regionOf t = r then x.wake s.clk.now else x) s.tiles }

/-- Plan dusk of one region at the tick that begins a frame of a run (R353). -/
def State.planDuskRegion (s : State) (r : Nat) : State :=
  match s.plan.plan with
  | none => s
  | some p =>
    let f := s.plan.runSteps * p.hdr.framesPerStep + s.plan.frameInStep
    let k := s.rampFrames
    let begins := p.duskBit r f && (f == 0 || !p.duskBit r (f - 1))
    let longEnough := (List.range (k + 1)).all fun i => p.duskBit r (f + i)
    if begins && longEnough then s.enterDusk r fun x => { x with duskPlan := true, rampPlan := none }
    else if (s.region r).duskPlan && !p.duskBit r f && (s.region r).rampPlan.isNone then
      s.leaveDusk r fun x => { x with duskPlan := false }
    else s

/-- Regions in dusk at plan request start their ramp back when the run stops (R353). -/
def State.rampBack (s : State) : State :=
  { s with regions := Map.mapVals (fun _ x =>
      if x.duskPlan ∧ x.rampPlan.isNone then { x with rampPlan := some (s.frm.count + s.rampFrames) } else x) s.regions }

/-- Ramps that end at the tick that takes FRM_COUNT to a value (R353, R354). -/
def State.endRamps (s : State) (count : Nat) : State :=
  (List.range nRegions).foldl (fun s r =>
    let done := fun (o : Option Nat) => match o with
      | some c => decide (c ≤ count)
      | none => false
    let s := if done (s.region r).rampPlan then s.leaveDusk r fun x => { x with duskPlan := false, rampPlan := none } else s
    if done (s.region r).rampHeat then s.leaveDusk r fun x => { x with duskHeat := false, rampHeat := none } else s) s

/-- A region that was too hot at the last tick enters dusk at this one; the step fails where the region is not idle in the
phase that then holds, or where such a phase begins in dusk for heat (R354). -/
def State.heatEnter (s : State) (idle phaseBegins : Bool) (r : Nat) : State :=
  let x := s.region r
  if x.dark then s
  else if x.heatNext then
    let s := s.enterDusk r fun x => { x with heatNext := false, duskHeat := true, rampHeat := none }
    let s := ({ s with pwr := { s.pwr with heatDuskCount := wrap64 (s.pwr.heatDuskCount + 1) } }).powerEvent 4
    s.addError (.heatDusk r (s.temp r)) (!idle)
  else if x.duskHeat && phaseBegins && !idle then (s.addError (.heatDusk r (s.temp r)) true).powerEvent 4
  else s

/-- The conditions of dusk for heat at a tick: the ramp back starts at 95 °C or below, and a region above 105 °C at code
40 enters at the next tick (R354). -/
def State.heatWatch (s : State) (r : Nat) : State :=
  let x := s.region r
  if x.dark then s
  else if x.duskHeat then
    (if x.rampHeat.isNone ∧ x.temp ≤ 95 then s.modRegion r fun x => { x with rampHeat := some (s.frm.count + s.rampFrames) } else s)
  else if s.clk.code = 40 ∧ 105 < x.temp then s.modRegion r fun x => { x with heatNext := true }
  else s

/-! ## Night and stops (R355 to R359) -/

/-- The module enters Night: code 40 at once, NIGHT set and counted (R355, R362). -/
def State.enterNight (s : State) : State :=
  if s.pwr.night then s
  else ({ s with
    clk := { s.clk with code := 40, nextCode := 40 }
    pwr := { s.pwr with night := true, nightCount := wrap64 (s.pwr.nightCount + 1) } }).powerEvent 0

/-- A COOL_OK stop begins (R357): Night, COOL_STOP, the step fails, the spines stop, the stacks enter self refresh (`stackNow`),
the group is told. -/
def State.coolStop (s : State) : State :=
  if s.pwr.coolStop then s
  else
    let s := s.syncTiles.enterNight
    let s := ({ s with pwr := { s.pwr with coolStop := true } }).powerEvent 1
    let s := s.addError .coolStop true
    let s := if s.grouped then
        ((s.floodAbort 1).flood ⟨5, s.member, 1, s.group.gframe⟩ none).unform
      else s
    { s with
      clk := { s.clk with running := false }
      regions := Map.mapVals (fun _ x => { x with rampPlan := none, rampHeat := none }) s.regions }

/-- THERM_TRIP_N is driven and latched (R359). -/
def State.thermTrip (s : State) (k : ErrKind) : State :=
  if s.pwr.trip then s
  else
    let s := ({ s with pwr := { s.pwr with trip := true }, log := { s.log with trips := s.log.trips + 1 } }).powerEvent 2
    (s.addError k true).coolStop

/-! ## The range of a STAGE (R401) -/

/-- The input lies outside 40 to 60 V, COOL_OK is deasserted, or the module is in Night (R401). -/
def State.stageRangeBad (s : State) : Bool := decide (s.pwr.vin < 4000) || decide (6000 < s.pwr.vin) || !s.pwr.coolOk || s.pwr.night

/-- The range is checked at every frame of a STAGE: outside it the write is abandoned with REFUSED_RANGE (R401). -/
def State.watchStage (s : State) : State :=
  if s.ctl.stageBusy && !s.ctl.recovery && s.stageRangeBad then
    ({ s with ctl := { s.ctl with stageBusy := false, stageResult := 7 } } : State).raiseVector vecFirmware
  else s

end Sys2Proof.Machine
end

