-- ==== Sys2Proof/Machine/LogOps.lean ====
section
/-! DEFINITION. The service log: its summary, its lists and its address space (R413 to R415). -/

namespace Sys2Proof.Machine

/-- The summary is written: LIFE_FRAMES of the last write (R413). -/
def State.writeSummary (s : State) : State := { s with log := { s.log with lifeStored := s.lifeFrames } }

/-- Adds the growth of every stack counter to STACK_TOTALS (R258, R415, R416). -/
def State.addTotals (s : State) : State :=
  (List.range nGates).foldl (fun s g =>
    let x := s.gate g
    let a := Map.getD s.log.added g (0, 0, 0)
    let d := (x.eccCe - a.1, x.eccOdc - a.2.1, x.eccUe - a.2.2)
    if d = (0, 0, 0) then s
    else
      let t := Map.getD s.log.totals g (0, 0, 0)
      let s := { s with log := { s.log with
        totals := Map.set s.log.totals g (satAdd t.1 d.1, satAdd t.2.1 d.2.1, satAdd t.2.2 d.2.2)
        added := Map.set s.log.added g (x.eccCe, x.eccOdc, x.eccUe) } }
      s.logRecord 6 ([BitVec.ofNat 8 g] ++ leBytes 8 d.1 ++ leBytes 8 d.2.1 ++ leBytes 8 d.2.2)) s

/-! ## Reading (R415) -/

/-- An entry of the SRAM repair list (R374, R415). -/
def repairEntry (x : SramRepair) : Nat :=
  x.tile % 2 ^ 15 + x.cellMacro % 256 * 2 ^ 15 + bit x.column 23 + x.spare % 4 * 2 ^ 24 + bit x.retention 26

/-- The summary at addresses 0 to 4,095 (R415). -/
def State.logSummary (s : State) : List Byte :=
  let l := s.log
  padTo 4096 (leBytes 4 0x474F4C46 ++ leBytes 2 1 ++ leBytes 2 0 ++ leBytes 8 Config.serial.toNat ++ leBytes 8 l.lifeStored ++
    leBytes 4 l.powerCycles ++ leBytes 4 l.thermalCycles ++ l.tempFrames.flatMap (leBytes 8) ++ leBytes 4 l.trips ++
    leBytes 4 l.shorts ++ leBytes 2 s.sector.lcSeq ++ leBytes 2 l.refurbs ++ leBytes 4 l.nextSeq ++ leBytes 4 l.firstSeq ++
    leBytes 4 l.rowsUnlisted ++ l.head ++ l.base ++
    (List.range nGates).flatMap (fun g =>
      let t := Map.getD l.totals g (0, 0, 0)
      leBytes 8 t.1 ++ leBytes 8 t.2.1 ++ leBytes 8 t.2.2) ++
    (List.range 672).flatMap fun k =>
      let a := Map.getD l.aging k ([], 0)
      leBytes 2 (if a.1.isEmpty then 0 else s.vminPoint (k / 8) (k % 8)) ++ leBytes 2 a.2)

/-- A byte of the log's address space (R415). -/
def State.logByte (s : State) (a : Nat) : Byte :=
  let l := s.log
  if a < 4096 then s.logSummary.getD a 0
  else if a < 20480 then
    match l.sram[(a - 4096) / 4]? with
    | some e => BitVec.ofNat 8 (repairEntry e / 256 ^ (a % 4))
    | none => 0
  else if a < 45056 then
    match (Map.getD l.rows ((a - 20480) / 512) [])[(a - 20480) % 512 / 8]? with
    | some e => BitVec.ofNat 8 (rowEntry e / 256 ^ (a % 8))
    | none => 0
  else if a < 65536 then 0
  else (Map.getD l.records ((a - 65536) / 64 % logRoom) []).getD (a % 64) 0

/-- Bytes of the log's address space. -/
def State.logBytes (s : State) (a n : Nat) : List Byte := (List.range n).map fun i => s.logByte (a + i)

/-- TEMP_FRAMES: the bin of a temperature (R415). -/
def tempBin (t : Int) : Nat := if t < 40 then 0 else if t < 60 then 1 else if t < 80 then 2 else if t < 90 then 3 else if t < 100 then 4 else 5

/-- Counts the frame in TEMP_FRAMES and a thermal cycle that has ended (R415). -/
def State.countTemp (s : State) : State :=
  let t := s.hottest.2
  let i := tempBin t
  let l := { s.log with tempFrames := s.log.tempFrames.set i (s.log.tempFrames.getD i 0 + 1) }
  if s.pwr.hot85 ∧ t ≤ 45 then
    { s with log := { l with thermalCycles := l.thermalCycles + 1 }, pwr := { s.pwr with hot85 := false } }
  else { s with log := l, pwr := { s.pwr with hot85 := s.pwr.hot85 || decide (85 ≤ t) } }

end Sys2Proof.Machine
end

