-- ==== Sys2Proof/Machine/WipeOps.lean ====
section
/-! DEFINITION. What a compute reset stops and wipes, the end of a test slice, and a region that loses its power
(R194, R195, R260, R360, R361, R385, R387, R389, R390). -/

namespace Sys2Proof.Machine

/-! ## Test slices (R385, R387) -/

/-- The test slice on a tile ends with a result: the tile takes its reset values (R385 to R387). -/
def State.endSlice (s : State) (t result : Nat) : State :=
  let x := s.getTile t
  let s := s.setTile t { x.resetDatapath with slice := none, slices := x.slices + 1, lastSlice := s.frm.count + 1 }
  let s := s.modRegion (regionOf t) fun r => { r with sliceTile := none }
  { s with tst := { s.tst with sliceTile := t, sliceResult := result } }

/-- A slice is aborted (R387). -/
def State.abortSlice (s : State) (t : Nat) : State :=
  let s := s.endSlice t 3
  { s with tst := { s.tst with sliceAbort := wrap64 (s.tst.sliceAbort + 1) } }

/-- Every slice that runs is aborted. -/
def State.abortSlices (s : State) : State :=
  ((s.tiles.filter fun p => p.2.slice.isSome).map (·.1)).foldl State.abortSlice s

/-! ## The wipe of a compute reset (R232, R260, R365, R389, R390) -/

/-- A tile after a compute reset: the state of R119, memories wiped; what test slices have done is kept. -/
def Tile.afterReset (x : Tile) : Tile := { Tile.reset with slices := x.slices, lastSlice := x.lastSlice }

/-- A gate after a compute reset: its STRM_ and GATE_ registers at reset, the stack with its counters and what it has been
sent kept (R232, R260). -/
def Gate.afterReset (x : Gate) : Gate :=
  { x with
    strmSel := 0
    rings := []
    cqBase := 0
    cqEntries := 0
    cqBasePend := Shadow.clear
    cqEntriesPend := Shadow.clear
    cqHead := 0
    cqTail := 0
    cqLost := 0
    bufCe := 0
    bufUe := 0
    rimDrop := 0 }

/-- The frame counters are cleared (R203). -/
def Frm.clearCounters (f : Frm) : Frm := { f with stretchFrames := 0, stretchCycles := 0, missCount := 0, missHead := 0 }

/-- The wipe: rings disarmed, memories, buffers and tile state at reset, no plan, frame counters and learning cleared. -/
def State.computeWipe (s : State) : State :=
  let s := s.abortSlices.disarmAll
  let s := { s with
    tiles := Map.mapVals (fun _ (x : Tile) => x.afterReset) s.tiles
    gates := Map.mapVals (fun _ (x : Gate) => x.afterReset) s.gates
    mesh := []
    rim := []
    hops := []
    barriers := []
    blvd := Boulevard.reset
    upd := Upd.reset
    assembling := []
    reductions := []
    frm := s.frm.clearCounters }
  let s := s.forget.setPlanState .none
  { s with plan := { PlanCtl.reset with base := s.plan.base } }

/-- The compute spines stop for a reset or a life-cycle change: READY falls, the group is told; with no run the wipe
follows at once, and otherwise at the tick at which the step fails (R313, R389, R410). -/
def State.stopCompute (s : State) : State :=
  let s := s.syncTiles
  let s := { s with
    clk := { s.clk with running := false }
    dawn := { s.dawn with cmpReset := true, ready := false } }
  let s := s.addError .computeReset true
  let s := (if s.grouped then s.flood ⟨5, s.member, 1, s.group.gframe⟩ none else s).unform
  if s.runActive then s else s.computeWipe

/-! ## Short circuits (R194, R195, R273, R360, R361) -/

/-- What a dark region's tiles lose: the deck and the staging SRAM but for the slot table, which lies in the thoroughfare's
macros (R194, R360). -/
def Tile.goDark (x : Tile) : Tile :=
  { x.dropWork with
    deck := []
    deckCe := []
    deckUe := []
    staging := (x.staging.erase 0 slotTableBase).erase (slotTableBase + 8192) (stagingSize - slotTableBase - 8192)
    stagingCe := x.stagingCe.filter fun w => decide (slotTableBase ≤ 8 * w) && decide (8 * w < slotTableBase + 8192)
    stagingUe := x.stagingUe.filter fun w => decide (slotTableBase ≤ 8 * w) && decide (8 * w < slotTableBase + 8192)
    wq := [] }

/-- SHORT is counted, logged and sets its event; a LOAD needs a reset first (R360, R361, R416). -/
def State.noteShort (s : State) (r rail : Nat) : State :=
  let s := { s with
    log := { s.log with shorts := s.log.shorts + 1 }
    plan := { s.plan with resetNeeded := true } }
  (s.logRecord 8 [BitVec.ofNat 8 r, BitVec.ofNat 8 rail]).powerEvent 3

/-- A region goes dark (R360). -/
def State.darken (s : State) (r : Nat) : State :=
  let s := ((s.syncRegion r).dropNodes r).modRegion r fun x => { x with dark := true }
  let s := { s with tiles := Map.mapVals (fun t (x : Tile) => if regionOf t = r then x.goDark else x) s.tiles }
  (((s.mapChange (.flag r 0)).addError (.regionDark r) true).noteShort r 0).noteBarriers

/-- The crossings of a region stop: every line in them or on its way into the region is lost without a count, and no barrier
with a member there completes (R195; the queued writes of their local ports go with them, log 86). -/
def State.stopCrossings (s : State) (r : Nat) : State :=
  let segs := segmentsOfRegion r
  let lost := fun (f : Flight) => regionOf f.tile == r || (match segmentOf f.tile f.port with
    | some g => segs.contains g
    | none => false)
  let mine := fun (d : Nat) => match s.plan.plan with
    | some p => p.images.any fun x => regionOf x.1 == r && x.2.member d
    | none => false
  { s with
    mesh := s.mesh.filter fun f => !lost f
    rim := s.rim.filter fun f => regionOf f.tile != r
    barriers := s.barriers.filter fun p => !mine p.1
    tiles := Map.mapVals (fun t (x : Tile) => if regionOf t = r then { x with rx := [], wq := [] } else x) s.tiles }

/-- A region loses its thoroughfare: its segments are marked dead (R41, R195, R361). -/
def State.loseThoroughfare (s : State) (r : Nat) : State :=
  let s := (s.stopCrossings r).modRegion r fun x => { x with thorLost := true }
  let s := (segmentsOfRegion r).foldl (fun s g => s.mapChange (.segment (segKey g))) (s.mapChange (.flag r 1))
  (s.addError (.thoroughfareLost r) true).noteShort r 1

end Sys2Proof.Machine
end

