-- ==== Sys2Proof/Machine/BootOps.lean ====
section
/-! DEFINITION. Images and their verification, configuration records and the stored map, the boot and the configuration
read, and the state in which Dawn begins (R36, R365, R367, R388, R390, R394 to R405, R448). -/

namespace Sys2Proof.Machine

/-! ## Images (R395, R399) -/

/-- Index of an image: 0 is A, 1 is B. -/
def imageIdx (b : Bool) : Nat := if b then 1 else 0

def State.img (s : State) (b : Bool) : Image := vget s.images (imageIdx b) Image.reset
def State.setImg (s : State) (b : Bool) (x : Image) : State := { s with images := vset s.images (imageIdx b) x }
def State.modImg (s : State) (b : Bool) (f : Image → Image) : State := s.setImg b (f (s.img b))

/-- Fields of an image header (R399). -/
def imgVersion (m : Memory) : Nat := m.le 8 4
def imgSvn (m : Memory) : Nat := m.le 12 2
def imgFormat (m : Memory) : Nat := m.le 14 2
def imgMin (m : Memory) : Nat := m.le 16 2
def imgPart (m : Memory) (i : Nat) : Nat := m.le (20 + 4 * i) 4

/-- Offset of a part: the parts follow the header, each 4 KiB aligned (R399). -/
def partOff (m : Memory) (i : Nat) : Nat := (List.range i).foldl (fun o k => o + roundUp (imgPart m k) 4096) 4096

def partBytes (m : Memory) (i : Nat) : List Byte := m.bytes (partOff m i) (imgPart m i)

/-- STAGE_RESULT of a verification: 1 OK, 2 BAD_IMAGE, 3 BAD_SIGNATURE, 4 ROLLBACK (R399, R420). -/
def verifyImage (key : List Byte) (svnMin : Nat) (m : Memory) (size : Nat) : Nat :=
  let last := partOff m 2 + imgPart m 2
  if size < 4096 ∨ 48 * 2 ^ 20 < size ∨ m.le 0 4 ≠ 0x49574646 ∨ m.le 4 2 ≠ 1 ∨ size < last ∨ 64 < imgSvn m then 2
  else if !ecdsaVerify key (sha384 (m.bytes 0 176)) (m.bytes 176 96) then 3
  else if !((List.range 3).all fun i => sha384 (partBytes m i) == m.bytes (32 + 48 * i) 48) then 2
  else if imgSvn m < svnMin then 4
  else 1

/-- The ROM's verification of an image at boot: what its last check found, and the SVN against the fuses (R399). -/
def State.imageBoots (s : State) (b : Bool) : Bool := (s.img b).valid && decide (s.sector.svnMin ≤ imgSvn (s.img b).bytes)

/-! ## Configuration records (R36, R402, R405) -/

/-- A map as it is stored: the link section is never stored (R36). -/
def FloorMap.toStore (m : FloorMap) : FloorMap := { m with links := [] }

/-- The bytes of a record before its DIGEST. -/
def CfgRecord.bytes (c : CfgRecord) : List Byte :=
  leBytes 4 0x47464346 ++ leBytes 2 c.format ++ leBytes 2 0 ++ leBytes 4 40780 ++ leBytes 4 c.storeSeq ++ c.owner ++ c.map.bytes

def CfgRecord.digest (c : CfgRecord) : List Byte := sha384 c.bytes

/-- The record that an image's area gets where it had none. -/
def CfgRecord.default : CfgRecord := ⟨1, 0, ownerDefaults, FloorMap.empty⟩

/-- Changes the record of an image; an area that holds none takes the record that Dawn read. -/
def State.modCfg (s : State) (b : Bool) (f : CfgRecord → CfgRecord) : State :=
  let other := if s.ctl.cfgLost then CfgRecord.default else (s.img (!b)).cfg.getD CfgRecord.default
  s.modImg b fun x => { x with cfg := some (f (x.cfg.getD other)) }

/-- The stored map in force (R36, R405). -/
def State.storedMap (s : State) : FloorMap :=
  match (s.img s.ctl.image).cfg.or (if s.ctl.cfgLost then none else (s.img (!s.ctl.image)).cfg) with
  | some c => c.map
  | none => FloorMap.empty

/-- A map is written to the stored map of the running image, and of both during a trial (R36, R402). -/
def State.putStored (s : State) (m : FloorMap) : State :=
  let put := fun (c : CfgRecord) => { c with storeSeq := wrap32 (c.storeSeq + 1), map := m.toStore }
  let s := s.modCfg s.ctl.image put
  if s.sector.trial then s.modCfg (!s.ctl.image) put else s

/-- The live map is written to the stored map where a change of it is not there yet (R36). -/
def State.storeMap (s : State) : State :=
  if s.mapDirty.isNone then s else { s.putStored s.map with mapDirty := none }

/-- The change has stood for 1,000 frames: it is written by the end of them (R36). -/
def State.storeOld (s : State) : State :=
  match s.mapDirty with
  | some f => if f + 1000 ≤ s.frm.count then s.storeMap else s
  | none => s

/-- The record of a CFG_STORE is written, with the CONFIG record in the service log (R406, R416). -/
def State.storeOwner (s : State) : State :=
  match s.ctl.storing with
  | none => s
  | some o =>
    let s := s.modCfg s.ctl.image fun c => { c with storeSeq := wrap32 (c.storeSeq + 1), owner := o }
    let seq := match (s.img s.ctl.image).cfg with
      | some c => c.storeSeq
      | none => 0
    ({ s with ctl := { s.ctl with storing := none } } : State).logRecord 13 (leBytes 4 seq ++ [0])

/-- Pending writes of the images end before the module loses its clock or its power (R36, R388, R414). -/
def State.finishWrites (s : State) : State := s.storeOwner.storeMap

/-! ## The boot (R396, R397, R402, R403) -/

/-- FIRMWARE in the service log: event, image, version, SVN (R416). -/
def State.logFirmware (s : State) (event : Nat) (b : Bool) : State :=
  let m := (s.img b).bytes
  s.logRecord 10 ([BitVec.ofNat 8 (Config.firmwareEvent event), BitVec.ofNat 8 (imageIdx b)] ++ leBytes 4 (imgVersion m) ++ leBytes 2 (imgSvn m))

/-- Measurement i of the running firmware (R397); 2 to 6 are zeros in recovery (R404). -/
def State.measure (s : State) (i : Nat) : List Byte :=
  let m := (s.img s.ctl.image).bytes
  if i = 1 then leBytes 48 (Config.romDigest 1).toNat
  else if s.ctl.recovery then List.replicate 48 0
  else if i = 5 then sha384 (m.bytes 0 32)
  else if i = 6 then s.ctl.cfgDigest
  else sha384 (partBytes m (i - 2))

/-- C_6 (R396). -/
def State.measureChain (s : State) : List Byte :=
  (List.range 6).foldl (fun c i => sha384 (c ++ s.measure (i + 1))) (List.replicate 48 0)

/-- The image that the boot runs; none where both fail (R396, R403). A trial that fails falls back. -/
def State.selectImage (s : State) : State × Bool :=
  let trial := s.sector.activation || s.sector.trial
  let pick := s.sector.active != trial
  if s.imageBoots pick then
    ({ s with
      sector := { s.sector with active := if trial then s.sector.active else pick, trial := trial, activation := false }
      ctl := { s.ctl with image := pick } }, true)
  else if s.imageBoots (!pick) then
    let s := { s with
      sector := { s.sector with active := !pick, trial := false, activation := false }
      ctl := { s.ctl with image := !pick, fallback := s.ctl.fallback || trial }
      dawn := { s.dawn with fellBack := s.dawn.fellBack || trial } }
    (if trial then (s.noteSet .fw 5).logFirmware 5 (!pick) else s, true)
  else ({ s with ctl := { s.ctl with recovery := true } }, false)

/-! ## The configuration read (R23, R304, R342, R381, R405) -/

/-- FRAME_LEN as it acts: a multiple of 64 from 1,024 to 8,192, the nearest allowed value otherwise (R405). -/
def frameLenActs (v : Nat) : Nat := if v = 0 then 8192 else max 1024 (min 8192 ((v + 31) / 64 * 64))

/-- PWR_CAP of an owner section (R342, R405). -/
def ownerCap (o : List Byte) : PwrCap := ⟨leAt o 259 1, 100, min 3 (leAt o 258 1), leAt o 256 2⟩

/-- The link map of an owner section is in force; one that fails its checks is replaced, and every port records BAD_MAP
(R300, R304). -/
def State.installMap (s : State) (m : List Byte) : State :=
  if mapFails m then
    { s with
      group := { s.group with map := soloMap, mapPend := soloMap, badMap := true }
      ports := s.ports.map fun x => { x with result := 6 } }
  else { s with group := { s.group with map := m, mapPend := m, badMap := false } }

/-- The record that Dawn reads: the running image's, or the other image's; a trial reads the active image's record and
writes it to its own area in its own format (R402, R405, log 24). -/
def State.readRecord (s : State) : State × Option CfgRecord :=
  let run := s.ctl.image
  let usable := fun (c : CfgRecord) => decide (imgMin (s.img run).bytes ≤ c.format)
  if s.sector.trial then
    match (s.img (!run)).cfg.filter usable with
    | some c =>
      let c := { c with format := max 1 (imgFormat (s.img run).bytes) }
      (s.setImg run { s.img run with cfg := some c }, some c)
    | none => (s, none)
  else (s, (s.img run).cfg.or (s.img (!run)).cfg)

/-- The configuration read: owner section, stored map, BIST policy (R381, R405). -/
def State.readConfig (s : State) : State :=
  let y := s.readRecord
  let s := y.1
  let owner := match y.2 with
    | some c => c.owner
    | none => ownerDefaults
  let map := match y.2 with
    | some c => c.map
    | none => FloorMap.empty
  let s := { s with
    map := map.toStore
    pwr := { s.pwr with cap := ownerCap owner }
    regions := (List.range nRegions).foldl (fun m r =>
      Map.set m r { Map.getD m r Region.reset with dark := map.dark r, thorLost := map.regionFlags r / 2 % 2 == 1 }) s.regions
    dawn := { s.dawn with belowFloor := !map.meetsFloor, lenRead := some (frameLenActs (leAt owner 260 4)) }
    ctl := { s.ctl with
      cfgLost := y.2.isNone
      cfgDigest := match y.2 with
        | some c => c.digest
        | none => List.replicate 48 0
      retention := leAt owner 264 1 != 0
      sliceEn := leAt owner 265 1 != 0
      sliceGap := leAt owner 268 4 } }
  let s := s.installMap (owner.take 256)
  if s.ctl.cfgLost then s.logRecord 13 (leBytes 4 0 ++ [1]) else s

/-! ## Dawn begins (R367, R368, R388, R390, R448) -/

/-- 32 fresh random bytes (R408). -/
def State.freshNonce (s : State) : State :=
  ({ s with ctl := { s.ctl with nonce := leBytes 32 s.freeNow.toNat } }).useFree

/-- What is left of the fast lines and the trip: THERM_TRIP_N stays low where a sensor reads 100 °C or more (R359). -/
def State.linesKept (s : State) : Pwr :=
  { Pwr.reset with
    tickWall := s.pwr.tickWall
    alertHigh := s.pwr.alertHigh
    alertSince := s.pwr.alertSince
    coolOk := s.pwr.coolOk
    coolSince := s.pwr.coolSince
    trip := s.pwr.trip && (List.range nRegions).any fun r => decide (100 ≤ s.temp r) }

/-- The state at time 0 of Dawn: everything at reset but what a full reset keeps (R390). -/
def State.dawnState (s : State) (straps : Nat) (cause : Nat) : State :=
  { State.reset with
    clk := { s.clk with code := 40, nextCode := 40, running := false }
    frm := { Frm.reset with count := s.frm.count, lenConf := s.frm.lenConf, lenNow := s.frm.lenNow, ended := s.frm.ended }
    regions := Map.mapVals (fun _ (x : Region) => { Region.reset with temps := x.temps }) s.regions
    group := { Group.reset with fsyncIn := s.group.fsyncIn }
    host := s.host.map fun h => { HostPort.reset with perst := h.perst }
    hostRegs := { HostRegs.reset with straps := straps % 16, staticAddr := 0x30 + straps % 16 }
    pwr := s.linesKept
    dawn := { Dawn.reset with
      on := true
      started := s.clk.wall
      powered := true
      cmpPin := s.dawn.cmpPin
      resetCause := cause
      waveFrom := s.clk.wall + wallMs 80 }
    gates := (List.range nGates).map fun g => (g, { Gate.reset with debtAt := s.clk.wall + wallMs 1100 })
    images := s.images
    sector := s.sector
    log := { s.log with added := [] }
    free := s.free
    out := s.out
    pending := s.pending }

/-- Levels of VR_ALERT_N and COOL_OK, and a trip that is still latched, act from the start of Dawn (R355, R357, R359). -/
def State.dawnLines (s : State) : State :=
  let s := if s.pwr.alertHigh then s else s.enterNight
  if s.pwr.coolOk && !s.pwr.trip then s else s.coolStop

/-- Dawn begins, once every map change is stored: boot, configuration read and a fresh nonce; in recovery nothing else runs
(R36, R396, R404, R408, log 25). -/
def State.beginDawn (s : State) (straps cause : Nat) : State :=
  let y := ((s.settleMap.finishWrites.dawnState straps cause).freshNonce).selectImage
  if !y.2 then
    ({ y.1 with dawn := { y.1.dawn with on := false } }).logFirmware 6 y.1.ctl.image
  else
    let s := y.1.readConfig
    ({ s with ctl := { s.ctl with chain := s.measureChain } }).dawnLines

end Sys2Proof.Machine
end

