-- ==== Sys2Proof/Machine/FrameOps.lean ====
section
/-! DEFINITION. The frame tick in its parts: what the ended frame leaves, commits, the step boundary, start and failure of
a run, test slices, and the new frame (R22 to R27, R131, R146, R147, R189, R201 to R205, R287, R288, R308, R384, R447, R449). -/

namespace Sys2Proof.Machine

/-! ## The frame that ends -/

/-- The miss of a frame with the largest WAIT, the oldest first where several are equal (R203). -/
def worstMiss (log : Map MissRec) (frame : Nat) : Option MissRec :=
  log.foldl (fun (a : Option MissRec) m =>
    if m.2.frame ≠ frame then a
    else match a with
      | some b => if b.wait < m.2.wait then some m.2 else a
      | none => some m.2) none

def missUnit (o : Option MissRec) : Nat :=
  match o with
  | some m => m.unit
  | none => 0xFF

/-- Stretch and numeric flags of the ended frame reach the registers (R79, R201, R203, R331). -/
def State.closeFrame (s : State) : State :=
  let stretch := s.clk.cycle - s.dueCycle
  let frm := if stretch = 0 then s.frm else
    { s.frm with
      holdCause := s.frm.heldMask
      holdUnit := missUnit (worstMiss s.frm.missLog s.frm.count)
      holdRegion := if s.frm.heldMask % 2 = 1 then s.frm.lastWait.getD 0xFF else 0xFF
      stretchFrames := wrap64 (s.frm.stretchFrames + 1)
      stretchCycles := wrap64 (s.frm.stretchCycles + stretch) }
  let s := ((List.range 8).filter s.numNow.getLsbD).foldl (fun s b => s.noteSet .num b) s
  { s with
    frm := frm
    num := s.num ||| s.numNow
    numNow := 0
    plan := if s.runActive then { s.plan with
        stepFrames := s.plan.stepFrames + 1
        stepStretch := wrap64 (s.plan.stepStretch + stretch)
        stepFlags := s.plan.stepFlags ||| s.numNow } else s.plan }

/-- Stack temperatures of the frame reach the gates; 105 °C trips (R247, R252, R351, R359, R416). -/
def State.stackTemps (s : State) (l : List (Nat × Int)) : State :=
  let s := l.foldl (fun s x =>
    if x.1 < nGates then s.modGate x.1 fun g => { g.accrue s.clk.wall with temp := x.2, hot := decide (85 < x.2) } else s) s
  match l.find? fun x => decide (x.1 < nGates) && decide (105 ≤ x.2) with
  | some x =>
    if s.pwr.trip then s else (s.thermTrip (.thermTripStack x.1 x.2)).logRecord 7 [0xFF, BitVec.ofNat 8 x.1]
  | none => s

/-- A consumer whose producer is in ERROR or disarmed enters ERROR with status LINK; a block that it has sent in the frame that
ends is delivered (R217, R239). -/
def State.linkedFaults (s : State) : State :=
  s.allRings.foldl (fun s x =>
    let r := s.ring x.1 x.2
    match r.arming with
    | some a =>
      if s.producerGone x.1 a.d && (r.state == .active || (r.state == .done && a.d.restarts)) then
        (s.releaseSent x.1 x.2 (s.ringFrame a) 1).ringError x.1 x.2 8
      else s
    | none => s) s

/-! ## The step boundary and the run -/

def State.stepsLimit (s : State) : Bool :=
  match s.plan.plan with
  | some p => p.hdr.stepCount != 0 && decide (p.hdr.stepCount ≤ s.plan.runSteps + 1)
  | none => false

/-- The run stops at the step boundary of this tick; a STOP written in the tick's own cycle waits for the next boundary (R147,
R204, R308, R429). -/
def State.stopsHere (s : State) : Bool :=
  s.lastFrame && (s.stepsLimit ||
    (if s.group.formed then (match s.group.goMsg with
      | some m => m.stop
      | none => false)
     else s.plan.stopPending && s.plan.stopAt != some s.clk.now || s.frm.strictStop))

/-- The run goes on past this tick. -/
def State.runsOn (s : State) : Bool := s.runActive && !s.failing && !s.stopsHere

/-- The frame of the step that this tick begins. -/
def State.nextFrame (s : State) : Nat := if s.lastFrame then 0 else s.plan.frameInStep + 1

/-- The frame of the step begins a phase (R343). -/
def Plan.beginsPhase (p : Plan) (f : Nat) : Bool := p.phaseTable.any fun x => x.start == f

/-- Dusk for heat at the tick, by the phase that holds after it (R354). -/
def State.heatTick (s : State) : State :=
  let on := s.runsOn
  let f := s.nextFrame
  match s.plan.plan with
  | some p =>
    (List.range nRegions).foldl (fun s r =>
      s.heatEnter (!on || (p.phase (p.phaseAt f)).idle.contains r) (on && p.beginsPhase f) r) s
  | none => (List.range nRegions).foldl (fun s r => s.heatEnter true false r) s

/-- The step agreement is settled once the messages of every member are held (R287, R288). -/
def State.agree (s : State) : State :=
  let u := s.upd
  let others := if s.group.formed then (List.range s.members).filter fun m => m != s.member else []
  if !s.runActive || u.agreed || !(others.all fun m => u.msgs.any fun x => x.member == m) then s
  else
    let ms := u.msgs.filter fun x => others.contains x.member
    let badOk := ms.any fun x => !x.ok
    let badStep := ms.any fun x => x.step != u.step
    let s := { s with upd := { u with agreed := true, msgs := [] } }
    if u.ownOk && !badOk && !badStep then s
    else
      let s := { s with
        upd := { s.upd with refused := true, mismatch := true }
        plan := { s.plan with refuseNext := true } }
      (s.noteSet .upd 0).addError (.stepMismatch u.step (bit (!u.ownOk) 0 + bit badOk 1 + bit badStep 2)) false

/-- A step begins: UPD_STEP commits, the check and the counters, fresh slots, and the step-open message (R26, R274, R286, R287). -/
def State.openStep (s : State) (first : Bool) : State :=
  let u := s.upd
  let now := u.pend.due s.clk.now (u.step, u.eta)
  let ok := first || (List.range nGates).all fun g => now.1 == (s.unit g).counter + 1
  let fresh := fun (g : Nat) =>
    let x := s.unit g
    { x with
      counter := now.1
      slots := []
      peakNow := 0
      finals := []
      written := []
      payloads := []
      queue := []
      ready := [] }
  let s := { s with upd := { u with
    step := now.1
    eta := now.2
    pend := u.pend.left s.clk.now
    ownOk := ok
    agreed := false
    refused := false
    units := (List.range nGates).map fun g => (g, fresh g) } }
  let s := if s.group.formed then s.flood ⟨4, s.member, bit ok 0, now.1⟩ none else s
  s.agree

/-- Sequencers and what a step collects begin anew; a test window that reaches the boundary ends (R124, R132, R200, R331). -/
def State.beginStep (s : State) (first : Bool) : State :=
  let s := { s with
    tiles := Map.mapVals (fun _ (t : Tile) => t.leaveWindow) s.tiles
    plan := { s.plan.freshStep with firstStep := first }
    err := { s.err with firstFail := none } }
  (s.openStep first).restartTiles

/-- A step ends well: counts, PEAK, learning (R288, R345, R428). -/
def State.closeStep (s : State) : State :=
  let s := s.keepCodes
  let s := { s with
    plan := { s.plan with stepsDone := wrap32 (s.plan.stepsDone + 1), runSteps := s.plan.runSteps + 1 }
    upd := { s.upd with units := Map.mapVals (fun _ (x : UpdUnit) => { x with peak := x.peakNow }) s.upd.units } }
  s.learnStep

/-- Every REPEAT ring restarts at a step boundary (R231). -/
def State.repeatRings (s : State) : State := s.allRings.foldl (fun s x => s.repeatRing x.1 x.2 s.frm.count) s

/-- The frame length in force: the plan's while a run lasts, else the configured one (R146, R430). -/
def State.frameLength (s : State) : Nat :=
  match s.plan.plan with
  | some p => if s.runActive ∧ p.hdr.frameLen ≠ 0 then p.hdr.frameLen else s.frm.lenConf
  | none => s.frm.lenConf

/-- The configuration read of Dawn has completed, and its frame length is the configured one from this tick on (R23, R368). -/
def State.takeLength (s : State) : State :=
  match s.dawn.lenRead with
  | some n =>
    if s.dawn.started + wallMs 80 ≤ s.clk.wall then
      { s with frm := { s.frm with lenConf := n }, dawn := { s.dawn with lenRead := none } }
    else s
  | none => s

def State.applyLength (s : State) : State :=
  let s := s.takeLength
  { s with frm := { s.frm with lenNow := s.frameLength } }

/-- Codes of the records that come from another member, which start no ABORT of their own (R449). -/
def groupCodes : List Nat := [19, 20, 21]

/-- The step fails or is refused at this tick; a compute reset then wipes (R288, R389, R449, R450). `codes` are those of
the frame's failing records. -/
def State.failStep (s : State) (codes : List Nat) : State :=
  let refused := s.plan.refuseNext
  let s := s.recordStep (if refused then 1 else 2) true
  let s := if s.plan.failNext then ({ s with err := { s.err with stepFailed := true } } : State).noteSet .err 2 else s
  let tell := s.plan.failNext && codes.any fun c => !groupCodes.contains c
  let s := s.endRun.rampBack
  let s := (if tell then s.floodAbort 1 else s).unform
  if s.dawn.cmpReset then s.computeWipe else s

/-- The plan's frequency ceiling: the lowest FMAX of the slow tiles with a program image (R45). -/
def State.planCeiling (s : State) (p : Plan) : Nat :=
  (p.images.filter fun x => x.2.codeBytes != 0 && s.map.tileByte x.1 / 64 == 1).foldl
    (fun m x => min m (90 + s.map.tileByte x.1 % 64)) 110

/-- A START takes effect at this tick; one written in the tick's own cycle waits for the next (R146, R308, R429). -/
def State.startsHere (s : State) : Bool :=
  !s.runActive && s.plan.startPending && s.plan.startAt != some s.clk.now &&
  (if s.grouped then s.group.formed && (match s.group.goMsg with
      | some m => m.start
      | none => false)
   else true)

/-- The plan uses a tile that is dead, or one of a dark region, in the map it was compiled against (R46, R453). -/
def State.deadUse (s : State) (p : Plan) : Bool :=
  p.images.any fun x => x.2.codeBytes != 0 && (s.map.tileDead x.1 || s.map.dark (regionOf x.1))

def State.digestMatches (s : State) (p : Plan) : Bool := s.map.digest == p.hdr.digest

/-- The START at its tick: refused with MAP_MISMATCH, or the run begins; the tick is a step boundary, at which REPEAT rings start
again, and the rings whose templates say so are armed and named (R26, R45, R146, R216). Copies of ABORT and STEP_OPEN are
told apart within a run (log 93). -/
def State.startRun (s : State) : State × List (Nat × Nat) :=
  match s.plan.plan with
  | none => ({ s with plan := { s.plan with startPending := false } }, [])
  | some p =>
    let s := { s with plan := { s.plan with startPending := false } }
    if !s.digestMatches p then (((s.refusePlan 11).floodAbort 2).unform, [])
    else
      let s := { s with plan := { s.plan with
        run := true
        runSteps := 0
        mapChanged := false
        stopPending := false
        failNext := false
        refuseNext := false
        ceiling := s.planCeiling p } }
      let s := s.applyLength.repeatRings
      let s := { s with group := { s.group with seen := s.group.seen.filter fun k => k.1 != 3 && k.1 != 4 } }
      let go := p.templates.filter fun t => t.armed
      let s := go.foldl (fun s t => s.armRing t.gate t.ring s.frm.count) s
      ((s.setPlanState .running).beginStep true, go.map fun t => (t.gate, t.ring))

/-- The run at a tick: failure, step boundary, next frame of the step, or start (R26, R146, R147, R449). -/
def State.runTick (s : State) (codes : List Nat) : State × List (Nat × Nat) :=
  if s.runActive then
    if s.failing then ((s.failStep codes).applyLength, [])
    else if s.lastFrame then
      let stop := s.stopsHere
      let s := (s.recordStep 0 stop).closeStep
      if stop then (s.endRun.rampBack.applyLength, [])
      else (s.repeatRings.beginStep false, [])
    else ({ s with plan := { s.plan with frameInStep := s.plan.frameInStep + 1 } }, [])
  else if s.startsHere then s.startRun
  else (s.applyLength, [])

/-! ## Commits (R15, R24, R436) -/

/-- GATE_CQ_BASE and GATE_CQ_ENTRIES commit; a change empties the queue (R234). -/
def Gate.commitQueue (now : Nat) (x : Gate) : Gate :=
  let b := x.cqBasePend.due now x.cqBase
  let n := x.cqEntriesPend.due now x.cqEntries
  let x := if b = x.cqBase ∧ n = x.cqEntries then x else { x with cqHead := 0, cqTail := 0 }
  { x with cqBase := b, cqEntries := n, cqBasePend := x.cqBasePend.left now, cqEntriesPend := x.cqEntriesPend.left now }

/-- HOST_SCQ_BASE and HOST_SCQ_ENTRIES commit; a change empties the queue (R331). -/
def HostRegs.commitQueue (now : Nat) (h : HostRegs) : HostRegs :=
  let v := h.scqBasePend.due now (h.scqBase + h.scqPort)
  let n := h.scqEntriesPend.due now h.scqEntries
  let h := if v = h.scqBase + h.scqPort ∧ n = h.scqEntries then h else { h with scqHead := 0, scqTail := 0 }
  { h with
    scqBase := v / 64 * 64
    scqPort := v % 2
    scqEntries := n
    scqBasePend := h.scqBasePend.left now
    scqEntriesPend := h.scqEntriesPend.left now }

/-- DISABLE of a port commits (R299, R436). -/
def State.commitPort (s : State) (p : Nat) : State :=
  let x := s.port p
  let b := x.disablePend.due s.clk.now x.disable
  let s := s.setPort p { x with disable := b, disablePend := x.disablePend.left s.clk.now }
  if b ∧ !x.disable ∧ x.st ≠ .disabled then s.portDrop p .disabled 5 else s

/-- Every shadowed field but those of the rings commits; an armed link map whose group frame has come is due (R24, R305, R436). -/
def State.commitFields (s : State) : State :=
  let g := s.group
  let s := { s with
    frm := { s.frm with
      holdLimit := s.frm.holdLimitPend.due s.clk.now s.frm.holdLimit
      holdLimitPend := s.frm.holdLimitPend.left s.clk.now }
    pwr := { s.pwr with cap := s.pwr.capPend.due s.clk.now s.pwr.cap, capPend := s.pwr.capPend.left s.clk.now }
    hostRegs := s.hostRegs.commitQueue s.clk.now
    gates := Map.mapVals (fun _ (x : Gate) => x.commitQueue s.clk.now) s.gates
    group := { g with mapDue := match g.armed with
      | some m => decide (mapCommit m ≤ g.gframe + (if g.formed then 1 else 0))
      | none => false } }
  (List.range 16).foldl State.commitPort s

/-- The pending descriptors and commands of the rings commit; the rings armed are named for their check (R214, R228, R437). -/
def State.commitRings (s : State) : State × List (Nat × Nat) :=
  let kinds := (s.allRings.map fun x => (x, (s.ring x.1 x.2).pendCmd.due s.clk.now 0)).filter fun c => c.2 == 1 || c.2 == 2
  let s := s.allRings.foldl (fun s x =>
    let r := s.ring x.1 x.2
    s.setRing x.1 x.2 { r with
      desc := r.pendDesc.due s.clk.now r.desc
      pendDesc := r.pendDesc.left s.clk.now
      pendCmd := r.pendCmd.left s.clk.now }) s
  let s := kinds.foldl (fun s c =>
    if c.2 = 1 then s.armRing c.1.1 c.1.2 s.frm.count else s.disarmRing c.1.1 c.1.2) s
  (s, (kinds.filter fun c => c.2 == 1).map (·.1))

/-! ## Undefined behaviour at a tick -/

/-- The gate-buffer area of an active ring: first byte and length (R214). -/
def Desc.area (d : Desc) : Nat × Nat := (d.bufBase * 4096, (5 * d.blockLines * 64 + 4095) / 4096 * 4096)

/-- Two active rings of a gate overlap in the gate buffer (R214, R453). -/
def Gate.areasOverlap (x : Gate) : Bool :=
  let l := x.rings.filterMap fun p => match p.2.arming with
    | some a => if p.2.state = .active ∨ p.2.state = .faulted then some (p.1, a.d.area) else none
    | none => none
  l.any fun a => l.any fun b => a.1 != b.1 && rangesMeet a.2.1 a.2.2 b.2.1 b.2.2

def State.areasOverlap (s : State) : Bool := s.gates.any fun g => g.2.areasOverlap

/-! ## The frame that begins -/

/-- A tile at the tick: its crossing is cleared, frame waits and test windows advance (R131, R132, R183). -/
def Tile.frameStart (x : Tile) (now : Nat) : Tile :=
  let x := { x with switch := Switch.cleared, entryAt := none, sendAt := none, drainAt := none }
  match x.wait with
  | .frames n => if n ≤ 1 then { x with wait := .none, nextIssue := max x.nextIssue now } else { x with wait := .frames (n - 1) }
  | .window false n => { x with wait := .window true n }
  | .window true n => { x with wait := .window true (n - 1) }
  | _ => x

/-- Frames of a test slice (R384). -/
def State.sliceFrames (s : State) : Nat := (65536 + s.frm.lenNow - 1) / s.frm.lenNow

/-- The tile's window, which begins at this tick, can hold a slice (R384). -/
def State.sliceFits (s : State) (t : Nat) : Bool :=
  match (s.getTile t).wait with
  | .window true n =>
    decide (s.sliceFrames ≤ n) && s.map.usable t &&
    (match s.plan.plan with
     | some p => decide (s.plan.frameInStep + n ≤ p.hdr.framesPerStep)
     | none => false)
  | _ => false

/-- The tile of the list whose last slice is oldest, a tile never tested first (R384). -/
def State.oldestSlice (s : State) (l : List Nat) : Option Nat :=
  l.foldl (fun (a : Option Nat) t =>
    match a with
    | none => some t
    | some b => if (s.getTile t).lastSlice < (s.getTile b).lastSlice then some t else some b) none

/-- The region controller starts a test slice among the tiles that begin windows (R384). -/
def State.startSlice (s : State) (r : Nat) (begun : List Nat) : State :=
  let x := s.region r
  let gapOk := match x.lastSlice with
    | some f => decide (f + s.ctl.sliceGap ≤ s.frm.count)
    | none => true
  if !s.ctl.sliceEn || x.sliceTile.isSome || !gapOk || s.isDusk r || x.dark then s
  else
    match s.oldestSlice (begun.filter fun t => regionOf t == r && s.sliceFits t) with
    | none => s
    | some t =>
      let s := s.modTile t fun y => { y with slice := some ⟨y.slices⟩ }
      s.setRegion r { x with sliceTile := some t, lastSlice := some s.frm.count }

/-- Every tile begins the frame, and test slices start (R24, R384). -/
def State.startTiles (s : State) : State :=
  let begun := (s.tiles.filter fun p => match p.2.wait with
    | .window false _ => true
    | _ => false).map (·.1)
  let s := { s with tiles := Map.mapVals (fun _ (x : Tile) => x.frameStart s.clk.now) s.tiles }
  if !s.runActive || begun.isEmpty then s
  else (dedup (begun.map regionOf)).foldl (fun s r => s.startSlice r begun) s

/-- Some test slice still runs whose window this tick would end (R384: a slice ends within its window). -/
def State.sliceLate (s : State) : Bool :=
  s.tiles.any fun p => p.2.slice.isSome && (match p.2.wait with
    | .window true n => decide (n ≤ 1)
    | _ => false)

/-- Frames in a row near each fused point, by region (R340). -/
def Region.countNear (x : Region) (code : Nat) (day : Bool) : Region :=
  { x with near := (List.range 8).map fun i =>
      if day && decide (code ≤ 45 + 10 * i) && decide (35 + 10 * i ≤ code) then x.near.getD i 0 + 1 else 0 }

/-- A START outside a group succeeds at this tick: its first two frames keep the frequency in force (R344). -/
def State.keepsCode (s : State) : Bool :=
  s.startsHere && !s.grouped && (match s.plan.plan with
    | some p => s.digestMatches p
    | none => false)

/-- The clock at the tick: the scheduled code takes effect unless Night holds 0.40 GHz; cycle 0 (R22, R24, R355, R362). -/
def State.applyClock (s : State) : State :=
  { s with clk := { s.clk with
    code := if s.pwr.night then 40 else if s.keepsCode then s.clk.code else s.clk.nextCode
    cycle := 0 } }

/-- The tick protocol moves on: the group frame, the frequency of GO, FSYNC of a module in no group (R304, R308, R309). -/
def State.groupTick (s : State) : State :=
  let g := s.group
  if g.formed then
    let code := match g.goMsg with
      | some m => if s.pwr.night then 40 else m.freq
      | none => s.clk.code
    { s with
      clk := { s.clk with nextCode := code }
      group := { g with
        gframe := wrap64 (g.gframe + 1)
        readies := []
        sentReady := false
        goMsg := none
        tickAt := none } }
  else
    let s := { s with group := { g with sentReady := false, goMsg := none, tickAt := none } }
    if s.grouped then s
    else ({ s with group := { s.group with fsyncOut := !g.fsyncOut } }).emit (.fsync (!g.fsyncOut))

/-- Cycle 0 of a frame waits for block 0 of rings with F0 = 0: each is a miss of the frame that ended (R219). -/
def State.openOrigin (s : State) (stretched : Bool) : State :=
  let hs := s.allRings.filter fun x => s.ringHoldsOrigin x.1 x.2
  if hs.isEmpty then s
  else
    let n := s.frm.count
    let s := { s with frm := { s.frm with count := n - 1 } }
    let s := hs.foldl (fun s x => s.addMiss 1 x.1 x.2 0) s
    { s with frm := { s.frm with
        count := n
        originWait := true
        dueAt := some s.clk.wall
        holdCause := (if stretched then s.frm.holdCause else 0) ||| 2
        holdRegion := if stretched then s.frm.holdRegion else 0xFF
        holdUnit := missUnit (worstMiss s.frm.missLog (n - 1))
        stretchFrames := if stretched then s.frm.stretchFrames else wrap64 (s.frm.stretchFrames + 1) } }

/-- Night ends where its 1 ms has run; a stopped core restarts where its time has come, and a compute reset ends with
READY (R328, R356, R358, R382, R389). -/
def State.resume (s : State) : State :=
  let s := if s.pwr.nightOver then
      { s with
        pwr := { s.pwr with night := false, nightOver := false }
        dawn := { s.dawn with waveFrom := max s.dawn.waveFrom s.clk.wall } } else s
  let s := if s.pwr.restart then
      let s := { s with
        clk := { s.clk with running := s.dawn.ready, code := 40, nextCode := 40 }
        pwr := { s.pwr with restart := false, coolStop := false }
        dawn := { s.dawn with waveFrom := max s.dawn.waveFrom s.clk.wall }
        tiles := Map.mapVals (fun _ (x : Tile) => x.wake s.clk.now) s.tiles
        regions := Map.mapVals (fun _ (x : Region) => { x with duskPlan := x.duskPlan && s.runActive }) s.regions
        gates := Map.mapVals (fun _ (g : Gate) => { g with debt := 0, debtAt := max g.debtAt s.clk.wall }) s.gates }
      let s := if s.dawn.ready then s.raiseVector vecReady else s
      if s.grouped then s.flood ⟨5, s.member, 0, s.group.gframe⟩ none else s
    else s
  if s.dawn.release then
    let back := s.dawn.cmpReset
    let s := { s with
      clk := { s.clk with running := !s.pwr.coolStop, code := 40, nextCode := 40 }
      dawn := { s.dawn with release := false, cmpReset := false, ready := true } }
    let s := if back && !s.pwr.coolStop then s.raiseVector vecReady else s
    if back && s.grouped then s.flood ⟨5, s.member, 0, s.group.gframe⟩ none else s
  else s

/-- What of the tick comes before the frame count (R24, R189, R201, R338, R447). -/
def State.tickEnd (s : State) (tel : Telemetry) : State :=
  let s := (s.measureFrame tel s.pwr.tickWall).watchStage
  let s := (s.stackTemps tel.stackTemps).closeFrame
  let s := (s.endRamps (s.frm.count + 1)).heatTick
  s.linkedFaults

/-- The codes of the frame's records that fail the step. -/
def State.failCodes (s : State) : List Nat := (s.err.frame.filter fun r => r.fails).map (·.code)

/-- Region flags with *below floor* (R41). -/
def FloorMap.flagsOf (m : FloorMap) (r : Nat) : Nat := m.regionFlags r % 4 + (if m.usableIn r < 296 then 4 else 0)

/-- What differs in a later map: tile bytes, segments, and the region flags that it sets, *below floor* among them (R41, R43, R416). -/
def FloorMap.changed (old new : FloorMap) : Nat × Nat × Nat :=
  let tiles := (dedup (old.tiles.map (·.1) ++ new.tiles.map (·.1))).filter fun t => old.tileByte t != new.tileByte t
  let segs := (dedup (old.segs.map (·.1) ++ new.segs.map (·.1))).filter fun k => Map.getD old.segs k false != Map.getD new.segs k false
  let flags := (List.range nRegions).foldl (fun a r => a ||| (new.flagsOf r ^^^ (new.flagsOf r &&& old.flagsOf r))) 0
  (tiles.length, segs.length, flags)

/-- The map change of the tick with its record in the service log (R44, R416). -/
def State.mapTick (s : State) : State :=
  let l := s.mapNext
  let day := s.dawn.bistDone
  let old := s.map
  let s := s.applyMap
  if l.isEmpty || !day then s
  else
    let c := old.changed s.map
    s.logRecord 11 (leBytes 4 s.map.gen ++ leBytes 2 c.1 ++ leBytes 2 c.2.1 ++ [BitVec.ofNat 8 c.2.2])

/-- The tick's middle: commits, frequency, frame count, map, rings and the run, in the order of R24; the rings armed at
this tick are named. -/
def State.tickTurn (s : State) : State × List (Nat × Nat) :=
  let codes := s.failCodes
  let s := s.placeErrors.commitFields
  let s := s.resume.applyClock
  let s := { s with frm := { s.frm with count := wrap64 (s.frm.count + 1) } }
  let s := s.allRings.foldl (fun s x => s.ringFrameEnd x.1 x.2) s
  let c := s.commitRings
  let s := c.1.storeOld.mapTick
  let y := s.runTick codes
  let armed := c.2 ++ y.2
  (y.1.checkArmings armed, armed)

/-- STATE of a PWR_REGION entry (R364). -/
def State.regionCode (s : State) (r : Nat) : Nat :=
  let x := s.region r
  if x.dark then 4 else if s.pwr.coolStop then 5 else bit x.duskPlan 0 + bit x.duskHeat 1

/-- A PWR_REGION entry as the next tick shows it (R364, R425). -/
def State.regionEntry (s : State) (r : Nat) : List Byte :=
  let x := s.region r
  leBytes 2 x.power ++ leBytes 2 x.vset ++ leBytes 2 (s.vmin r s.clk.code) ++ (List.range 4).map (fun i => BitVec.ofInt 8 (x.temps.getD i 0)) ++
  [BitVec.ofNat 8 (s.regionCode r), BitVec.ofNat 8 (s.margin r s.clk.code), 0, 0, 0, 0]

/-- The windows that change at ticks only show what stands now (R425). -/
def State.showWindows (s : State) : State :=
  { s with
    frm := { s.frm with missShown := s.frm.missLog }
    pwr := { s.pwr with phasesShown := s.pwr.phases }
    regions := Map.mapVals (fun r (x : Region) => { x with shown := s.regionEntry r }) s.regions }

/-- The tick's end: the new frame begins (R24, R217, R218, R219, R302, R308, R340 to R354, R384, R415). -/
def State.tickBegin (s : State) (stretched : Bool) : State :=
  let s := { s with
    frm := { s.frm with ended := false, heldMask := 0, openMiss := [], lastWait := none, dueAt := none, originWait := false }
    gates := Map.mapVals (fun _ (x : Gate) => { x with frameWrites := [] }) s.gates
    pwr := { s.pwr with tickWall := s.clk.wall, phase := s.phaseNow } }
  let s := s.groupTick
  let s := s.startTiles
  let s := if s.runActive then (List.range nRegions).foldl State.planDuskRegion s else s
  let s := (List.range nRegions).foldl State.heatWatch s
  let s := { s with regions := Map.mapVals (fun r (x : Region) =>
    x.countNear s.clk.code (s.coreRuns && !s.gatedRegion r)) s.regions }
  let s := (s.allRings.foldl (fun s x => s.ringFrameStart x.1 x.2) s).openOrigin stretched
  let s := if s.frm.originWait then s else s.markAllGo.handBlocks
  let s := (List.range 16).foldl State.emitEofs s
  s.thermalUpdate.formRequest.moveRails.countTemp.showWindows

/-- The whole tick (R24). -/
def State.tick (s : State) (tel : Telemetry) : State :=
  let stretched := decide (s.dueCycle < s.clk.cycle)
  (((s.tickEnd tel).tickTurn.1).tickBegin stretched).noteBarriers

end Sys2Proof.Machine
end

