-- ==== Sys2Proof/Machine/XferOps.lean ====
section
/-! DEFINITION. Shared operations of stack and host transfers: what issues next and what its end does, page faults,
doorbells, rim lanes (R214, R218, R220, R225 to R227, R235 to R240, R245, R276, R277). -/

namespace Sys2Proof.Machine

/-! ## Stack transfers (R225 to R227, R277) -/

/-- Tags that the update unit holds (R277). -/
def Gate.updateTags (x : Gate) : Nat :=
  (x.flights.filter fun f => match f.owner with
    | .update _ _ _ => true
    | .ring _ _ _ => false).length

/-- A write overlaps one of the frame from another source (R227, R453). -/
def Gate.overlaps (x : Gate) (source addr len : Nat) : Bool :=
  x.frameWrites.any fun w => w.1 != source && rangesMeet w.2.1 w.2.2 addr len

/-- The update unit's writes that wait for the stack, as `Gate.waitingWrites` gives those of the rings (R227). -/
def UpdUnit.waitingWrites (un : UpdUnit) : List (Nat × Nat × Nat) :=
  (un.queue.filter fun y => y.write).map fun y => (y.addr, y.len, y.at_)

/-- The update unit may issue its oldest transfer: none after a step that fails, at most 256 tags (R227, R277, R449). -/
def State.updateMayIssue (s : State) (g : Nat) : Bool :=
  s.runActive && decide ((s.gate g).updateTags < 256) && (match (s.unit g).queue with
    | [] => false
    | y :: _ => y.write || !mustWait (s.gate g).waitingWrites y.addr y.len y.at_)

/-- Issues the update unit's oldest transfer; a slot is freed once its block's writes have issued (R227, R274, R277). -/
def State.issueUpdate (s : State) (g : Nat) (y : UpdXfer) (rest : List UpdXfer) : State :=
  let x := s.gate g
  let fl : StackFlight :=
    { owner := .update y.layer y.blk y.plane, write := y.write, off := y.off, addr := y.addr, len := y.len
      data := if y.write then [] else s.stack.slice y.addr y.len, bad := if y.write then [] else s.badBursts y.addr y.len, eof := none }
  let s := s.setGate g { x with
    flights := x.flights ++ [fl]
    busyUntil := s.clk.wall + stackTime y.len
    frameWrites := if y.write then x.frameWrites ++ [(1024, y.addr, y.len)] else x.frameWrites }
  let un := s.unit g
  let more := rest.any fun z => z.write && z.layer == y.layer && z.blk == y.blk
  let s := s.setUnit g { un with
    queue := rest
    slots := if y.write ∧ !more then un.slots.filter fun z => !(z.layer == y.layer && z.blk == y.blk) else un.slots }
  if y.write then s.stackPut y.addr y.data else s

/-- Issues a ring's transfer; two sources of writes to the same bytes in a frame are undefined behaviour (R227, R453). -/
def State.issueChecked (s : State) (g : Nat) (c : Candidate) : Outcome :=
  if !c.write then .next (s.issueRing g c)
  else if (s.gate g).overlaps c.ring c.xfer.addr c.xfer.len then .fault (.undefined .writeOverlap)
  else .next ((s.modGate g fun y => { y with frameWrites := y.frameWrites ++ [(c.ring, c.xfer.addr, c.xfer.len)] }).issueRing g c)

/-- Issues the update unit's oldest transfer, under the same check. -/
def State.updateChecked (s : State) (g : Nat) : Outcome :=
  match (s.unit g).queue with
  | [] => .next s
  | y :: rest =>
    if y.write && (s.gate g).overlaps 1024 y.addr y.len then .fault (.undefined .writeOverlap) else .next (s.issueUpdate g y rest)

/-- A transfer with a deadline goes before the update unit, and the update unit before the others (R226, R277). -/
def State.issueStack (s : State) (g : Nat) : Outcome :=
  match (s.gate g).nextCandidate (s.unit g).waitingWrites with
  | some c => if c.deadline.isNone && s.updateMayIssue g then s.updateChecked g else s.issueChecked g c
  | none => if s.updateMayIssue g then s.updateChecked g else .next s

/-- Words (of 8 bytes, in the block's stream) of a transfer that uncorrectable bursts or buffer words spoil (R245). -/
def spoiledWords (off addr len : Nat) (bursts words : List Nat) : List Nat :=
  dedup (((List.range len).filter fun i => bursts.contains ((addr + i) / 32) || words.contains (i / 8)).map fun i => (off + i) / 8)

/-- The checks of the gate buffer report (R245, R432, R445). -/
def State.bufferReport (s : State) (g ring addr : Nat) (e : EccReport) : State :=
  let s := s.modGate g fun x => { x with bufCe := satAdd x.bufCe e.bufCorrected, bufUe := satAdd x.bufUe e.bufHard.length }
  e.bufHard.foldl (fun s w => s.addError (.gateBufUe g ring (addr + 8 * w)) true) s

/-- What the checks of a read from the stack found: bursts that were uncorrectable before, or are now, are counted and
recorded (R245, R257). -/
def State.checkRead (s : State) (g ring : Nat) (fl : StackFlight) (e : EccReport) : State × List Nat :=
  let hard := dedup (fl.bad ++ e.hard.map (· / 32))
  (hard.foldl (fun s b => s.countHard g ring b true) (s.readReport g e), hard)

/-- The bytes of a read with 0xF000 in every 16-bit element of a spoiled word (R245). -/
def StackFlight.marked (fl : StackFlight) (spoiled : List Nat) : List Byte :=
  (List.range fl.len).map fun i =>
    if spoiled.contains ((fl.off + i) / 8) then (if (fl.addr + i) % 2 = 0 then (0x00 : Byte) else 0xF0) else fl.data.read i

/-- A read of a ring has arrived in the gate buffer: its bytes and what of them is spoiled join the block (R225, R245);
reads of classes 0 and 2 pass the capture (R276). -/
def State.readArrives (s : State) (g r gen j : Nat) (fl : StackFlight) (e : EccReport) : State :=
  let c := s.checkRead g r fl e
  let s := c.1.bufferReport g r fl.addr e
  let spoiled := spoiledWords fl.off fl.addr fl.len c.2 e.bufHard
  let x := s.ring g r
  let take := fun (a : Arming) =>
    let a := a.modBlock j fun b =>
      if a.d.comp = 0 then { b with bytes := b.bytes.putBytes fl.off (fl.data.bytes 0 fl.len), bad := b.bad ++ spoiled }
      else
        -- an element of a damaged compressed block has no codes left: the whole block is delivered as NaR (log 16)
        { b with
          packed := b.packed.putBytes fl.off (fl.data.bytes 0 fl.len)
          bad := if spoiled.isEmpty then b.bad else List.range ((a.d.blockLen j + 7) / 8) }
    { a with ecc := a.ecc || !spoiled.isEmpty }
  let outbound := x.arming.any fun a => a.gen == gen && a.d.outbound
  let s := s.setRing g r (x.modWalk gen take)
  let s := if outbound then s.captureRead g fl.addr (fl.marked spoiled) else s
  s.settleRing g r

/-- A write of a ring is accepted by the stack; spoiled words read back as uncorrectable (R225, R245). -/
def State.writeAccepted (s : State) (g r gen j : Nat) (fl : StackFlight) (e : EccReport) : State :=
  let s := s.bufferReport g r fl.addr e
  let new := dedup (e.bufHard.map fun w => (fl.addr + 8 * w) / 32)
  let s := { s with stackUe := s.stackUe ++ new.filter fun b => !s.stackUe.contains b }
  let s := s.modRing g r fun x => x.modWalk gen fun a =>
    { (a.modBlock j fun b => { b with inFlight := b.inFlight - 1 }) with ecc := a.ecc || !e.bufHard.isEmpty || !fl.bad.isEmpty }
  s.settleRing g r

/-- A write of the update unit is accepted; with its block's last one the block is written (R27, R277). -/
def State.updateAccepted (s : State) (g layer blk : Nat) : State :=
  let un := s.unit g
  let more := (un.queue.any fun w => w.write && w.layer == layer && w.blk == blk) ||
    (s.gate g).flights.any fun f => f.write && (match f.owner with
      | .update a b _ => a == layer && b == blk
      | .ring _ _ _ => false)
  if more ∨ un.written.contains (layer, blk) then s else s.setUnit g { un with written := un.written ++ [(layer, blk)] }

/-- A read of the update unit has arrived: the slot keeps its bytes; with residuals a compression block may be complete
(R245, R276, R282). -/
def State.updateRead (s : State) (g layer blk plane : Nat) (fl : StackFlight) (e : EccReport) : State :=
  let c := s.checkRead g 0xFFFF fl e
  let bytes := (fl.marked (spoiledWords fl.off fl.addr fl.len c.2 [])).map BitVec.toNat
  let s := c.1.modUnit g fun un => match un.slot? layer blk with
    | some x => un.setSlot (x.keep plane fl.off bytes)
    | none => un
  match s.layers.find? fun l => l.id == layer with
  | some l => if plane = 3 then s.noteGradient g l blk else s
  | none => s

/-- A stack transfer that has ended does its part (R225). -/
def State.endTransfer (s : State) (g : Nat) (fl : StackFlight) (e : EccReport) : State :=
  match fl.owner with
  | .ring r gen j => if fl.write then s.writeAccepted g r gen j fl e else s.readArrives g r gen j fl e
  | .update layer blk plane => if fl.write then s.updateAccepted g layer blk else s.updateRead g layer blk plane fl e

/-! ## Host reads (R235, R330) -/

def pageOf (a : Nat) : Nat := a / 4096

/-- Non-posted requests outstanding on a PCIe port. -/
def State.outstanding (s : State) (p : Nat) : Nat :=
  s.gates.foldl (fun n g => n + (g.2.hostFlights.filter fun h => h.port == p).length + (g.2.transAsked.filter fun t => t.1 == p).length) 0

/-- What a pending host read needs: the descriptor of its ring. -/
def Gate.descOf (x : Gate) (c : Candidate) : Option Desc :=
  ((x.ring c.ring).arming.filter fun a => a.gen == c.gen).map Arming.d

/-- Translation key of a host read. -/
def Desc.key (d : Desc) (addr : Nat) : Nat × Nat × Nat := (d.hostPort, d.pasid, pageOf addr)

/-- A pending host read may go on now: its port takes requests, and a translation that it needs is not awaited (R235, R321). -/
def State.hostReadReady (s : State) (g : Nat) (c : Candidate) : Bool :=
  let x := s.gate g
  match x.descOf c with
  | none => false
  | some d =>
    (s.hostPort d.hostPort).canRequest && decide (s.outstanding d.hostPort < 4096) &&
    (!d.ats || x.trans.contains (d.key c.xfer.addr) || !x.transAsked.contains (d.key c.xfer.addr))

/-- The first pending read of each ring, in walk order (R235). -/
def Gate.hostCandidates (x : Gate) : List Candidate :=
  x.rings.flatMap fun p => (pickFirst (ringCandidates x p.1 p.2 true)).toList

/-- Issues a host read, or asks for the translation that it needs (R235, R330). -/
def State.issueHost (s : State) (g : Nat) (c : Candidate) : State :=
  let x := s.gate g
  match x.descOf c with
  | none => s
  | some d =>
    if d.ats && !x.trans.contains (d.key c.xfer.addr) then
      (s.setGate g { x with transAsked := x.transAsked ++ [d.key c.xfer.addr] }).emit
        (.atsRequest d.hostPort (pageOf c.xfer.addr) d.pasid)
    else
      let n := min c.xfer.len (min 4096 (s.hostPort d.hostPort).maxRead)
      let ring := x.ring c.ring
      let pop : Block → Block := fun b =>
        { b with
          reads := if n < c.xfer.len then ⟨c.xfer.off + n, c.xfer.addr + n, c.xfer.len - n, none⟩ :: b.reads.drop 1
            else b.reads.drop 1 }
      let fl : HostFlight := ⟨c.ring, c.gen, c.block, c.xfer.off, c.xfer.addr, n, 0, s.clk.wall, d.hostPort, d.pasid, d.ats⟩
      (s.setGate g { (x.setRing c.ring (ring.modWalk c.gen fun a => a.modBlock c.block pop)) with
        hostFlights := x.hostFlights ++ [fl] }).emit (.hostRead d.hostPort c.xfer.addr n d.pasid d.ats)

/-- Some read of a port uses a translation of a page (R235). -/
def State.usesPage (s : State) (p page pasid : Nat) : Bool :=
  s.gates.any fun g => g.2.hostFlights.any fun h => h.ats && h.port == p && h.pasid == pasid && pageOf h.addr == page

/-- Invalidations whose reads have completed are answered (R235). -/
def State.settleInval (s : State) (p : Nat) : State :=
  let h := s.hostPort p
  let go := h.inval.filter fun i => !s.usesPage p i.1 i.2
  let s := s.setHost p { h with inval := h.inval.filter fun i => s.usesPage p i.1 i.2 }
  go.foldl (fun s i => s.emit (.invalidated p i.1 i.2)) s

/-- A host read that has ended frees its tag. -/
def State.endHostRead (s : State) (g : Nat) (h : HostFlight) : State :=
  (s.modGate g fun x => { x with hostFlights := x.hostFlights.filter fun y => y != h }).settleInval h.port

/-- A faulted ring's elements before the resume point are written once their reads have arrived (R236). -/
def State.partialWrite (s : State) (g r : Nat) : State :=
  let x := s.ring g r
  match x.arming with
  | none => s
  | some a =>
    match a.blocks.find? fun b => !b.complete with
    | none => s
    | some b =>
      match b.reads with
      | [] => s
      | y :: _ =>
        if x.state ≠ .faulted ∨ (s.gate g).readsOut r a.gen b.num ∨ y.off ≤ b.sent then s
        else
          let z := destWrites g a b y.off
          let s := s.setRing g r { x with arming := some (a.setBlock z.block) }
          match z.bad with
          | some k => s.addrError g r b.num k.2
          | none => s

/-- Data of a host read arrives: in the gate buffer at its place, whatever the order (R235). -/
def State.hostData (s : State) (g : Nat) (h : HostFlight) (addr : Nat) (data : List Byte) : State :=
  let got := h.got + data.length
  let s := if h.len ≤ got then s.endHostRead g h
    else s.modGate g fun x => { x with hostFlights := x.hostFlights.map fun y => if y = h then { h with got := got } else y }
  let s := s.modRing g h.ring fun x => x.modWalk h.gen fun a => a.modBlock h.block fun b =>
    { b with bytes := b.bytes.putBytes (h.off + (addr - h.addr)) data }
  (s.settleRing g h.ring).partialWrite g h.ring

/-- A host read has failed: it ends, and its ring enters ERROR with status HOST (R237). -/
def State.hostFails (s : State) (g : Nat) (h : HostFlight) : State :=
  let s := s.endHostRead g h
  let x := s.ring g h.ring
  if (x.arming.any fun a => a.gen == h.gen) && x.state != .error then s.ringError g h.ring 6 else s

/-! ## Page faults (R236, R237) -/

/-- The host read that a ring would issue next. -/
def Gate.nextHost (x : Gate) (r : Nat) : Option Candidate := pickFirst (ringCandidates x r (x.ring r) true)

/-- ATS refuses a page: the ring stops at the first element in it and a Page Request is sent (R236). -/
def State.faultPage (s : State) (g r page : Nat) : State :=
  let x := s.gate g
  let ring := x.ring r
  match x.nextHost r, ring.arming with
  | some c, some a =>
    let d := a.d
    let key := d.key c.xfer.addr
    if !d.ats ∨ key.2.2 ≠ page ∨ !x.transAsked.contains key then s
    else
      let e := (d.blockElems c.block).1 + c.xfer.off / d.elemBytes
      let e := if d.endless then e % d.elems else e
      let s := s.setGate g { (x.setRing r { ring with state := .faulted, index := e, fault := some ⟨page, e, s.clk.wall⟩ }) with
        transAsked := x.transAsked.filter fun t => t != key }
      (s.emit (.pageRequest d.hostPort page d.pasid)).partialWrite g r
  | _, _ => s

/-- A translation arrives (R235). -/
def State.translated (s : State) (g r page : Nat) : State :=
  let x := s.gate g
  match (x.ring r).arming with
  | none => s
  | some a =>
    let key := (a.d.hostPort, a.d.pasid, page)
    if !x.transAsked.contains key then s
    else s.setGate g { x with transAsked := x.transAsked.filter fun t => t != key, trans := x.trans ++ [key] }

/-! ## Doorbells (R238, R326) -/

/-- The ring is an active ingress producer; a faulted one still is (log 17). -/
def State.isProducer (s : State) (g r : Nat) : Bool :=
  let x := s.ring g r
  (x.state == .active || x.state == .faulted) && (match x.arming with
    | some a => a.d.cls == 4 && a.d.ingress
    | none => false)

/-- A count is larger than another as a serial number (R238). -/
def serialLarger (a b : Nat) : Bool :=
  let d := (a + 2 ^ 32 - b) % 2 ^ 32
  decide (1 ≤ d) && decide (d < 2 ^ 31)

/-- A count may be accepted: the stack buffer has room (R238). -/
def State.doorbellFits (s : State) (g r a : Nat) : Bool :=
  let x := s.ring g r
  match x.arming with
  | some y => decide ((a + 2 ^ 32 - x.consumed % 2 ^ 32) % 2 ^ 32 ≤ y.d.destBlocks)
  | none => false

def State.acceptDoorbell (s : State) (g r a : Nat) : State :=
  (s.setRing g r { s.ring g r with announced := a }).requestRing g r

def State.dropDoorbell (s : State) : State := { s with hostRegs := { s.hostRegs with dbDrop := wrap64 (s.hostRegs.dbDrop + 1) } }

/-- A doorbell write reaches the gate: dropped, without effect, accepted, or held (R238, R326). -/
def State.doorbell (s : State) (p g r a : Nat) : State :=
  if !s.isProducer g r then s.dropDoorbell
  else if !serialLarger a (s.ring g r).announced then s
  else if s.doorbellFits g r a then s.acceptDoorbell g r a
  else s.modHost p fun h => { h with held := some (g, r, a) }

/-! ## Rim lanes (R209, R218, R220) -/

/-- The line that a class 0 ring sends in this cycle: line number and bytes (R218). -/
def State.rimLine (s : State) (g r : Nat) : Option (Desc × Block × Nat) :=
  let x := s.ring g r
  match x.arming with
  | none => none
  | some a =>
    let d := a.d
    match a.blocks.find? fun b => b.go && d.dueFrame b.num == s.ringFrame a with
    | none => none
    | some b =>
      if d.cls = 0 ∧ x.sends then
        -- the line whose cycle it is; each line is sent once
        let k := (s.clk.cycle - d.c0) / max 1 d.cs
        if d.c0 + k * d.cs = s.clk.cycle ∧ k < d.sendLines b ∧ b.sent ≤ k then some (d, b, k) else none
      else none

/-- Two rings meet on one rim lane in one gate cycle (R214, R453). -/
def State.rimTaken (s : State) (t port : Nat) : Bool :=
  s.mesh.any fun f => f.tile == t && f.port == port && f.left == s.clk.now

/-- A line leaves a gate on a rim lane and is at the rim port's source four cycles later (R209). -/
def State.sendRim (s : State) (g r : Nat) (d : Desc) (b : Block) (k : Nat) : State :=
  let t := frontageTile g d.rimTile
  let x := s.ring g r
  let s := s.setRing g r (x.modCurrent fun a => a.setBlock { b with sent := k + 1 })
  if s.thoroughfareLost (regionOf t) then s
  else { s with mesh := s.mesh ++ [⟨t, rimCrossingPort g d.rimPort, s.clk.now + 4, s.clk.now, b.deliver d (64 * k) 64⟩] }

/-- The class 1 rings that claim a line arriving in a gate cycle: ring, block and line (R220). -/
def State.rimClaims (s : State) (g : Nat) (f : RimFlight) (cycle : Nat) : List (Nat × Nat × Nat) :=
  (s.gate g).rings.filterMap fun p =>
    match p.2.arming with
    | none => none
    | some a =>
      let d := a.d
      if d.cls = 1 ∧ p.2.state = .active ∧ frontageTile g d.rimTile = f.tile ∧ rimCrossingPort g d.rimPort = f.port then
        match a.blocks.find? fun b => !b.complete && d.dueFrame b.num == s.ringFrame a with
        | none => none
        | some b =>
          let k := (cycle - d.c0) / max 1 d.cs
          if d.c0 + k * d.cs = cycle ∧ k < d.linesOf b.num then some (p.1, b.num, k) else none
      else none

/-- Line k of a class 1 ring's block takes its place in the gate buffer (R220). -/
def State.storeRim (s : State) (g r j k : Nat) (data : List Byte) : State :=
  s.modRing g r fun x => x.modCurrent fun a => a.modBlock j fun b => { b with bytes := b.bytes.putBytes (64 * k) data }

end Sys2Proof.Machine
end

