-- ==== Sys2Proof/Machine/FlitOps.lean ====
section
/-! DEFINITION. Flits: their bytes and checks, what a port sends in a slot, what an accepted flit does, training results
(R291 to R303, R310, R311). -/

namespace Sys2Proof

open Sys2Proof.Machine


/-! ## A flit's bytes (R292) -/

/-- The header bytes that the CRC covers, and the payload. -/
def Flit.covered (f : Flit) : List Byte :=
  [BitVec.ofNat 8 f.typ, BitVec.ofNat 8 f.dest, BitVec.ofNat 8 f.src, BitVec.ofNat 8 f.credits] ++ leBytes 2 f.lstream ++
  leBytes 2 f.len ++ leBytes 2 f.seq ++ leBytes 2 f.ack ++ padTo 240 f.payload

def Flit.kind (f : Flit) : Nat := f.typ % 16
def Flit.start (f : Flit) : Bool := f.typ / 16 % 2 == 1
def Flit.stop (f : Flit) : Bool := f.typ / 32 % 2 == 1
/-- The CRC is correct and the type is one that is produced (R292). -/
def Flit.good (f : Flit) : Bool := crc32c f.covered == f.crc && decide (f.kind ≤ 2)
def Flit.seal (f : Flit) : Flit := { f with crc := crc32c f.covered }
/-- Payload bytes in use. -/
def Flit.used (f : Flit) : List Byte := padTo (min f.len 240) f.payload

/-- Message k of a sync flit (R295). -/
def Flit.msg (f : Flit) (k : Nat) : SyncMsg :=
  let o := 16 * k
  ⟨leAt f.payload o 1, leAt f.payload (o + 2) 1, leAt f.payload (o + 4) 4, leAt f.payload (o + 8) 8⟩

/-- An idle flit. -/
def Flit.idle : Flit := ⟨0, 0, 0, 0, 0, 0, 0, 0, List.replicate 240 0, 0⟩

end Sys2Proof

namespace Sys2Proof.Machine

def SyncMsg.bytes (m : SyncMsg) : List Byte :=
  [BitVec.ofNat 8 m.kind, 0, BitVec.ofNat 8 m.src, 0] ++ leBytes 4 m.arg32 ++ leBytes 8 m.arg64

/-! ## Receiving (R293, R294) -/

/-- A sequence number is acknowledged by an ACK of n. -/
def acked (n seq : Nat) : Bool := decide ((n + 4096 - seq) % 4096 < 2048)

/-- The header of a flit with a correct CRC: credits, acknowledgement, NAK (R292, R293). -/
def Port.takeHeader (x : Port) (f : Flit) : Port :=
  let replay := x.replay.filter fun y => !acked (f.ack % 4096) y.seq
  let x := { x with
    credits := min 1024 (x.credits + 4 * f.credits)
    replay := replay
    resend := x.resend.filter fun y => !acked (f.ack % 4096) y.seq }
  if f.ack / 4096 % 2 = 1 then { x with resend := replay } else x

/-- A flit arrives: with a correct CRC its header acts, and a data or sync flit is accepted where its SEQ follows; anything
else asks for a resend (R293). -/
def Port.accept (x : Port) (f : Flit) : Port × Bool :=
  if !f.good then ({ x with nak := true }, false)
  else
    let x := x.takeHeader f
    if f.kind = 0 then (x, true)
    else if f.seq % 4096 = (x.rxSeq + 1) % 4096 then ({ x with rxSeq := f.seq % 4096 }, true)
    else ({ x with nak := true }, false)

/-- One receive buffer of a port is freed (R294). -/
def State.freeBuffer (s : State) (p : Nat) : State := s.modPort p fun x => { x with freed := x.freed + 1 }

/-- LINK_RX_DROP (R296, R303). -/
def State.countRxDrop (s : State) (p : Nat) : State := s.modPort p fun x => { x with rxDrop := wrap64 (x.rxDrop + 1) }

/-- A data flit is not taken: counted, and recorded unless the module is in compute reset (R303). -/
def State.dropFlit (s : State) (p lstream src : Nat) : State :=
  let s := (s.countRxDrop p).freeBuffer p
  if s.dawn.cmpReset then s else s.addError (.linkRxDrop p lstream src) true

/-- The class 3 ring that takes the flits of a port and stream: the lowest gate and ring where several match; a ring that is DONE
still takes the padding of its last line (R215, R302). -/
def State.linkRing (s : State) (p lstream : Nat) : Option (Nat × Nat) :=
  s.allRings.find? fun x =>
    let r := s.ring x.1 x.2
    r.arming.any fun a => a.d.cls == 3 && a.d.linkPort == p && a.d.lstream == lstream &&
      (r.state == .active || (r.state == .done && decide (a.received < a.d.paddedBytes)))

/-- A class 3 block gives what it holds to writes, as `walkWrites` does; in a FAILED stack nothing (R264, R302). -/
def State.giveWrites (s : State) (g r : Nat) (a : Arming) (b : Block) (n : Nat) : State :=
  let y := if (s.gate g).stackState = .failed then ⟨a, b, 0, some (b.sent, (a.d.blockElems b.num).1 + b.sent)⟩ else walkWrites g a b n false
  let s := (s.modRing g r fun x => { x with arming := some (y.arming.setBlock y.block) }).addFlags y.flags
  match y.bad with
  | some k => s.addrError g r b.num k.2
  | none => s

/-- Bytes from a link fill the current block of a class 3 ring as far as its window allows; what is left waits, or lies past
the end of the stream (R222, R229, R302). -/
def State.fillLink (s : State) (g r : Nat) : Nat → List Byte → State × List Byte
  | 0, data => (s, data)
  | fuel + 1, data =>
    let x := s.ring g r
    match x.arming with
    | none => (s, data)
    | some a =>
      let d := a.d
      if data.isEmpty || x.state == .error || decide (d.paddedBytes ≤ a.received) then (s, data)
      else if d.streamBytes ≤ a.received then
        let n := min data.length (d.paddedBytes - a.received)
        (s.setRing g r { x with arming := some { a with received := a.received + n } }).fillLink g r fuel (data.drop n)
      else
        let j := a.received / d.blockBytes
        if a.released + 5 ≤ j ∨ ((a.block? j).isNone ∧ x.slotHeld d j) then (s, data)
        else
          let o := a.received - j * d.blockBytes
          let n := min data.length (d.blockLen j - o)
          let a := if (a.block? j).isSome then a else { a with requested := j + 1, blocks := a.blocks ++ [Block.fresh j s.clk.now] }
          let a := { (a.modBlock j fun b => { b with bytes := b.bytes.putBytes o (data.take n) }) with received := a.received + n }
          let s := s.setRing g r { x with arming := some a }
          let s := if o + n = d.blockLen j then (s.completeInbound g r j).settleRing g r else s
          s.fillLink g r fuel (data.drop n)

/-- Nothing more of a class 3 ring's stream is to come: it stopped, or all of it has been received (R303). -/
def State.linkEnded (s : State) (g r : Nat) : Bool :=
  let x := s.ring g r
  x.state == .error || x.arming.all fun a => decide (a.d.paddedBytes ≤ a.received)

/-- The writes of a class 3 ring that no EOF counts yet, in blocks and in flight, are those of a frame (R302). -/
def State.stampRing (s : State) (g r f : Nat) : State :=
  let gens := ((s.ring g r).walks.filter fun a => a.d.cls == 3).map fun a => a.gen
  let mark := fun (e : Option Nat) => if e.isNone then some f else e
  let s := s.modRing g r fun x => gens.foldl (fun x n => x.modWalk n fun a =>
    { a with blocks := a.blocks.map fun b => { b with writes := b.writes.map fun y => { y with eof := mark y.eof } } }) x
  s.modGate g fun x => { x with flights := x.flights.map fun fl => match fl.owner with
    | .ring q n _ => if q = r ∧ gens.contains n then { fl with eof := mark fl.eof } else fl
    | .update _ _ _ => fl }

/-- At EOF a class 3 ring writes the whole elements, or compressed units, that it holds of its current block (R302, log 90). -/
def State.flushRing (s : State) (g r f : Nat) : State :=
  let x := s.ring g r
  let s := match x.arming with
    | none => s
    | some a =>
      let d := a.d
      if d.cls ≠ 3 ∨ x.state ≠ RingState.active then s
      else
        let j := a.received / d.blockBytes
        match a.block? j with
        | none => s
        | some b =>
          let n := (a.received - j * d.blockBytes) / d.elemBytes
          if b.complete ∨ n ≤ b.sent then s else s.giveWrites g r a b n
  s.stampRing g r f

/-- EOF of a frame has come in on a port (R302). -/
def State.flushPort (s : State) (p f : Nat) : State :=
  (s.allRings.filter fun x => (s.ring x.1 x.2).walks.any fun a => a.d.cls == 3 && a.d.linkPort == p).foldl
    (fun s x => s.flushRing x.1 x.2 f) s

/-- Receive buffers of a port are emptied into the rings, in order; bytes of a frame whose EOF has come are written at once
(R294, R302, R303). -/
def State.drainPort (s : State) (p : Nat) : Nat → State
  | 0 => s
  | fuel + 1 =>
    let x := s.port p
    match x.rxq with
    | [] => s
    | (l, src, data, f) :: rest =>
      match s.linkRing p l with
      | none => ((s.setPort p { x with rxq := rest }).dropFlit p l src).drainPort p fuel
      | some (g, r) =>
        let y := (s.setPort p { x with rxq := rest }).fillLink g r 8 data
        let s := if f < x.eofIn then y.1.flushRing g r f else y.1
        if y.2.isEmpty then (s.freeBuffer p).drainPort p fuel
        else if s.linkEnded g r then (s.dropFlit p l src).drainPort p fuel
        else s.modPort p fun x => { x with rxq := (l, src, y.2, f) :: x.rxq }

/-- A class 3 ring whose slot is free again takes what waits in its port's receive buffers (R294). -/
def State.drainRing (s : State) (g r : Nat) : State :=
  match (s.ring g r).arming with
  | some a => if a.d.cls = 3 then s.drainPort a.d.linkPort 1025 else s
  | none => s

/-! ## Reduction messages (R283, R310, R311) -/

/-- A reduction message is discarded: counted, STALE (R283). -/
def State.staleMessage (s : State) : State :=
  ({ s with upd := { s.upd with staleCount := wrap64 (s.upd.staleCount + 1), stale := true } } : State).noteSet .upd 4

/-- In ring mode a message that came on a RING_PREV port goes on to the next member, unless that is its origin (R311). -/
def State.passOn (s : State) (p lstream src : Nat) (msg : List Byte) : State :=
  let ports := s.ringNext
  let next := s.peer (ports.headD 16)
  if mapRedMode s.group.map = 1 ∧ mapFlags s.group.map p / 4 % 2 = 1 ∧ next ≠ src then
    match ports[leAt msg 12 4 % ports.length]? with
    | some q => s.queueData q (cutFlits next src lstream none msg)
    | none => s
  else s

/-- A whole reduction message has arrived (R283, R310). -/
def State.messageArrives (s : State) (p lstream src : Nat) (msg : List Byte) : State :=
  let s := s.passOn p lstream src msg
  let g := leAt msg 10 1
  if msg.length < 16 ∨ nGates ≤ g then s.staleMessage
  else { s with reductions := s.reductions ++ [(g, src, msg)] }

/-- A flit of a reduction message joins the message that it belongs to (R310). -/
def State.reductionFlit (s : State) (p : Nat) (f : Flit) : State :=
  let mine := fun (a : Assembly) => a.port == p && a.lstream == f.lstream && a.src == f.src
  let old := if f.start then [] else match s.assembling.find? mine with
    | some a => a.data
    | none => []
  let data := old ++ f.used
  let s := ({ s with assembling := s.assembling.filter fun a => !mine a } : State).freeBuffer p
  if f.stop then s.messageArrives p f.lstream f.src data
  else { s with assembling := s.assembling ++ [⟨p, f.lstream, f.src, data⟩] }

/-! ## Forwarding and delivery (R296, R302, R303) -/

/-- A flit for another member goes to the port that the route table names, or is dropped (R296). -/
def State.forwardFlit (s : State) (p : Nat) (f : Flit) : State :=
  let q := mapRoute s.group.map f.dest
  if q < 16 ∧ f.dest < 64 ∧ ((s.port q).st = .up ∨ (s.port q).st = .recovery) then
    s.modPort q fun x => { x with fwd := x.fwd ++ [⟨f.dest, f.src, f.lstream, f.start, f.stop, f.used, none, some p⟩] }
  else (s.countRxDrop p).freeBuffer p

/-- A data flit that was accepted (R296, R302, R303, R357). -/
def State.takeData (s : State) (p : Nat) (f : Flit) : State :=
  if s.pwr.coolStop then (s.countRxDrop p).freeBuffer p
  else if f.dest ≠ s.member then s.forwardFlit p f
  else if s.dawn.cmpReset then (s.countRxDrop p).freeBuffer p
  else if 0xFFF0 ≤ f.lstream then s.reductionFlit p f
  else (s.modPort p fun x => { x with rxq := x.rxq ++ [(f.lstream, f.src, f.used, x.eofIn)] }).drainPort p 1025

/-! ## Sending (R291 to R296) -/

/-- What every flit carries beside its own fields: freed buffers in units of 4, the acknowledgement, NAK. -/
def Port.stamp (x : Port) (f : Flit) : Port × Flit :=
  let c := min 255 (x.freed / 4)
  ({ x with freed := x.freed - 4 * c, nak := false, slot := (x.slot + 1) % 32 },
   ({ f with credits := c, ack := x.rxSeq + (if x.nak then 4096 else 0) } : Flit).seal)

/-- A new flit takes the next sequence number and a place in the replay buffer. -/
def Port.number (x : Port) (f : Flit) : Port × Flit :=
  let f := { f with seq := x.txSeq }
  ({ x with txSeq := (x.txSeq + 1) % 4096, replay := x.replay ++ [f] }, f)

/-- The sync flit of the slot with up to 15 waiting messages (R295). -/
def Port.syncFlit (x : Port) : Port × Flit :=
  let ms := x.syncQ.take 15
  { x with syncQ := x.syncQ.drop 15 }.number
    { Flit.idle with typ := 2, len := 16 * ms.length, payload := padTo 240 (ms.flatMap SyncMsg.bytes) }

def TxFlit.toFlit (t : TxFlit) : Flit :=
  { Flit.idle with
    typ := 1 + (if t.start then 16 else 0) + (if t.stop then 32 else 0)
    dest := t.dest
    src := t.src
    lstream := t.lstream
    len := t.data.length
    payload := padTo 240 t.data }

/-- The next data flit: own and forwarded flits in turn where both wait (R296). -/
def Port.pickData (x : Port) : Option (Port × TxFlit) :=
  match x.own, x.fwd with
  | [], [] => none
  | t :: rest, [] => some ({ x with own := rest, fwdLast := false }, t)
  | [], t :: rest => some ({ x with fwd := rest, fwdLast := true }, t)
  | t :: own, u :: fwd =>
    if x.fwdLast then some ({ x with own := own, fwdLast := false }, t) else some ({ x with fwd := fwd, fwdLast := true }, u)

/-- The sync slot carries only a sync flit: one that is to be resent where it is its turn, else a new one; with the replay buffer
full the oldest sync flit of it again (R291, R293, log 19). -/
def Port.syncSlot (x : Port) : Port × Flit :=
  match x.resend with
  | f :: rest =>
    if f.kind = 2 then ({ x with resend := rest, replays := wrap64 (x.replays + 1) }, f)
    else if 512 ≤ x.replay.length then (x, (x.replay.find? fun y => y.kind == 2).getD Flit.idle)
    else
      let y := x.syncFlit
      ({ y.1 with resend := y.1.resend ++ [y.2] }, y.2)
  | [] =>
    if 512 ≤ x.replay.length then (x, (x.replay.find? fun y => y.kind == 2).getD Flit.idle) else x.syncFlit

/-- The flit of a port's slot: the sync slot's, or a resend in its slot class, a data flit with a credit, an idle one; with the
port and the data flit that went (R291 to R296, log 19). -/
def Port.slotFlit (x : Port) : Port × Flit × Option TxFlit :=
  if x.slot = 31 then (x.syncSlot.1, x.syncSlot.2, none)
  else
    match x.resend with
    | f :: rest =>
      if f.kind = 2 then (x, Flit.idle, none)
      else ({ x with resend := rest, replays := wrap64 (x.replays + 1) }, f, none)
    | [] =>
      if 512 ≤ x.replay.length ∨ x.credits = 0 then (x, Flit.idle, none)
      else
        match x.pickData with
        | none => (x, Flit.idle, none)
        | some (y, t) =>
          let z := { y with credits := y.credits - 1 }.number t.toFlit
          ({ z.1 with sent := z.1.sent + (if t.frame.isSome then 1 else 0) }, z.2, some t)

/-- The slot of a port during a COOL_OK stop: no new data flit leaves (R357, log 22). -/
def Port.stoppedSlot (x : Port) : Port × Flit × Option TxFlit :=
  let y := ({ x with credits := 0 } : Port).slotFlit
  ({ y.1 with credits := x.credits }, y.2.1, none)

/-- A port sends the flit of its slot (R291). -/
def State.sendSlot (s : State) (p : Nat) : State :=
  let y := if s.pwr.coolStop then (s.port p).stoppedSlot else (s.port p).slotFlit
  let z := y.1.stamp y.2.1
  let s := (s.setPort p z.1).emit (.flit p z.2)
  match y.2.2 with
  | none => s
  | some t =>
    let s := match t.via with
      | some q => s.freeBuffer q
      | none => s
    if t.frame.isSome then s.emitEofs p else s

/-! ## Training (R297 to R301) -/

/-- The lane group that a port trains on: width and mask; none where no group passes (R298). -/
def laneGroup (lanes : Nat) : Option (Nat × Nat) :=
  ([(8, 0xFF), (4, 0x0F), (4, 0xF0), (2, 0x03), (2, 0x0C), (2, 0x30), (2, 0xC0)] : List (Nat × Nat)).find? fun g =>
    lanes &&& g.2 == g.2

/-- The identity check of training fails (R299). -/
def State.identityFails (s : State) (p : Nat) (t : Training) : Bool :=
  t.group != mapGroupId s.group.map || t.member != s.peer p || t.port != mapPeerPort s.group.map p

/-- The result of training: its code, width and mask (R298 to R300). -/
def State.trainingResult (s : State) (p : Nat) (t : Training) : Nat × Nat × Nat :=
  if s.identityFails p t then (4, 0, 0)
  else
    match laneGroup t.lanes with
    | none => (3, 0, 0)
    | some (w, m) => (if w = 8 then 0 else 1, w, m)

/-- LANE record of a training (R298, R416). -/
def State.logLanes (s : State) (p : Nat) (r : Nat × Nat × Nat) (t : Training) : State :=
  s.logRecord 2 ([BitVec.ofNat 8 p, BitVec.ofNat 8 r.1, BitVec.ofNat 8 r.2.1, BitVec.ofNat 8 r.2.2] ++
    (List.range 8).flatMap fun i => leBytes 2 (t.margins.getD i 0))

/-- A window opens on a port: it sends wakes, unless it is unused or disabled (R297, R299). -/
def State.openWindow (s : State) (p finish : Nat) : State :=
  let x := s.port p
  if !s.portUsed p || x.disable then
    let code := if s.group.badMap then 6 else 5
    (s.setPort p { x with st := .disabled, result := code }).mapChange (.link p ⟨0, 0, code⟩)
  else (s.setPort p { x with st := .window, windowEnd := finish, answered := false, wakeAt := s.clk.wall }).emit (.wake p)

/-- In training the port sends its identity (R299). -/
def State.sendIdentity (s : State) (p : Nat) : State := s.emit (.identity p (mapGroupId s.group.map) s.member)

/-- A port that was up enters RECOVERY and trains again without a window (R299, R301). -/
def State.enterRecovery (s : State) (p : Nat) : State :=
  let x := s.port p
  (s.setPort p { x with st := .recovery, lostAt := s.clk.wall, oldMask := x.mask }).sendIdentity p

/-- FEC codewords that came with a flit: counted; more than 32 uncorrectable ones within 1 ms take an UP port into RECOVERY
(R293, R301). -/
def State.fecReport (s : State) (p ce ue : Nat) : State :=
  let x := s.port p
  let times := (x.ueTimes.filter fun t => decide (s.clk.wall < t + wallMs 1)) ++ List.replicate ue s.clk.wall
  let s := s.setPort p { x with fecCe := wrap64 (x.fecCe + ce), fecUe := wrap64 (x.fecUe + ue), ueTimes := times }
  if x.st = .up ∧ 32 < times.length then s.enterRecovery p else s

/-- A port is taken down and retrained in a new window of 1,100 ms (R297, R305). -/
def State.retrainPort (s : State) (p : Nat) : State :=
  (s.portDrop p .window (s.port p).result).openWindow p (s.clk.wall + wallMs 1100)

/-- A port has trained: it is UP with everything of its flit layer at the start (R291, R298). -/
def State.portUp (s : State) (p : Nat) (r : Nat × Nat × Nat) (t : Training) : State :=
  let s := s.setPort p { s.port p with
    st := .up
    result := r.1
    width := r.2.1
    mask := r.2.2
    peerMember := t.member
    peerPort := t.port
    txSeq := 0
    rxSeq := 4095
    nak := false
    replay := []
    resend := []
    credits := 1024
    freed := 0
    slot := 0
    own := []
    fwd := []
    syncQ := []
    syncIn := none
    rxq := []
    sent := 0
    eofSent := s.group.gframe
    eofIn := s.group.gframe }
  s.mapChange (.link p ⟨r.2.1, r.2.2, r.1⟩)

end Sys2Proof.Machine
end

