-- ==== Sys2Proof/Machine/Boulevard.lean ====
section
/-! DEFINITION. The commands of the boulevard and the update units: rows between nodes, rows at a gate, reduction messages,
block updates (R269 to R288). -/

namespace Sys2Proof.Machine

/-! ## Rows between nodes (R270 to R273) -/

/-- A row as it enters a region node from a quad node: the node chooses its gate (R271). -/
def State.enterRow (s : State) (src dst : Nat) (w : WideRow) : WideRow :=
  if src < 6720 ∧ 6720 ≤ dst then { w with gate := some (chooseGate s.layers (nodeRegion dst) w) } else w

/-- The gate that a row is on its way to (R271). -/
def State.rowGate (s : State) (n : Nat) (w : WideRow) : Nat := w.gate.getD (chooseGate s.layers (nodeRegion n) w)

/-- The oldest row of a tile's output queue, where it waits for the boulevard port (R269). -/
def Tile.portRow (x : Tile) : Option WideRow := x.outQ.head?.bind (·.wide)

/-- The port has taken the oldest row; the row's entry is gone unless a block status is still to be written (R103, R269). -/
def Tile.portTaken (x : Tile) : Tile :=
  match x.outQ with
  | [] => x
  | r :: rest => { x with outQ := if r.writes.isEmpty then rest else { r with wide := none } :: rest }

/-- A tile's oldest row at its quad node; the port is then busy for 8 cycles, and a refusal holds it for a cycle
(R269, R270, R272). -/
def State.tileRow (s : State) (n t : Nat) : State :=
  let y := s.tilePort t []
  match y.1.portRow with
  | none => s
  | some w =>
    match acceptRow n (s.linkHeld n) (s.nodeRows n) w with
    | some l => ((s.putTile t y.1.portTaken y.2).setFree (tileKey t) (s.clk.now + 8)).setNode n l
    | none =>
      ({ s with upd := { s.upd with stallCount := wrap64 (s.upd.stallCount + 1) } }).setFree (tileKey t) (s.clk.now + 1)

/-- Drops the oldest flight toward a node. -/
def dropFlight (dst : Nat) : List BlvdFlight → List BlvdFlight
  | [] => []
  | f :: rest => if f.dst = dst then rest else f :: dropFlight dst rest

/-- The oldest row on its way to a node arrives there: it is lost in a node without power, accepted, or refused, and is then
again the oldest row of the node that it has not left (R271 to R273). -/
def State.nodeRow (s : State) (n : Nat) (f : BlvdFlight) : State :=
  let arrived : State := { s with blvd := { s.blvd with links := dropFlight n s.blvd.links } }
  if s.nodeOff n then arrived.loseRow (nodeRegion n) f.row
  else
    match acceptRow n (s.linkHeld n) (s.nodeRows n) (s.enterRow f.src n f.row) with
    | some l => (arrived.setNode n l).noteTaken n f.src
    | none => arrived.returnRow f.src f.row

/-- A gradient row arrives at a quad node or a region node: from a tile of the quad, or from another node (R270, R271). -/
def execBoulevardRow (node : Nat) (tile : Option Nat) (s : State) : Outcome :=
  if 6804 ≤ node ∨ !s.coreRuns then .next s
  else
    match tile with
    | some t =>
      if t < nTiles ∧ quadOf t = node ∧ s.tileClocked t = true ∧ s.freeAt (tileKey t) ≤ s.clk.now then .next (s.tileRow node t)
      else .next s
    | none =>
      match s.blvd.links.find? fun f => f.dst == node with
      | some f => if s.rateFull node f.src then .next s else .next (s.nodeRow node f)
      | none => .next s

/-- Cycles for which a row occupies the link out of a node (R270). -/
def linkCycles (n : Nat) : Nat := if n < 6720 then 4 else 1

/-- A node forwards its oldest row when the link is free (R271). -/
def execBoulevardForward (node : Nat) (s : State) : Outcome :=
  match s.nodeRows node with
  | [] => .next s
  | w :: rest =>
    let dst := nextNode node (s.rowGate node w)
    let busy := s.blvd.links.any fun f => f.src == node && f.dst == dst
    if 6804 ≤ node ∨ !s.coreRuns ∨ s.nodeOff node ∨ busy ∨ s.clk.now < s.freeAt (linkKey node dst) then .next s
    else
      let s := (s.setNode node rest).setFree (linkKey node dst) (s.clk.now + linkCycles node)
      .next { s with blvd := { s.blvd with links := s.blvd.links ++ [⟨node, dst, w⟩] } }

/-! ## Rows at a gate (R274, R275) -/

/-- A block that every row has reached is rounded once and is final; under exchange 1 and 2 the unit asks for its residuals
(R275, R278, R282). -/
def State.finishBlock (s : State) (g : Nat) (l : Layer) (x : UpdSlot) : State :=
  let y := s.reduced l x
  let un := s.unit g
  let un := { (un.setSlot { x with grad := y.1 }) with finals := un.finals ++ [(l.id, x.blk)] }
  let s := (s.setUnit g un).addFlags y.2
  (if l.hasResidual then s.askPlane g l x 3 else s).noteGradient g l x.blk

/-- A row joins its slot (R271, R275). -/
def State.addGradient (s : State) (g : Nat) (l : Layer) (x : UpdSlot) (w : WideRow) : State :=
  let x := x.addRow (w.row % 48) w
  let s := s.modUnit g fun un => un.setSlot x
  if x.complete l then s.finishBlock g l x else s

/-- What becomes of a row at its gate, by the first case that applies; none where it waits for a slot (R274, R275). -/
def State.gateRow (s : State) (g : Nat) (w : WideRow) : Option State :=
  if s.layers.isEmpty then some (s.discardRow g 0 w)
  else
    match findLayer s.layers w.tensor with
    | none => some (s.discardRow g 1 w)
    | some l =>
      if w.col0 % 48 ≠ 0 then some (s.discardRow g 2 w)
      else if l.rows ≤ w.row ∨ l.cb ≤ w.col0 / 48 then some s
      else
        let u := l.blockAt w.row w.col0
        let un := s.unit g
        if un.finals.contains (l.id, u) then some (s.discardRow g 3 w)
        else
          let count := match un.slot? l.id u with
            | some x => Map.getD x.counts (w.row % 48) 0
            | none => 0
          if l.contrib < count + w.count then some (s.discardRow g 4 w)
          else
            match un.openSlot l.id u with
            | none => none
            | some un =>
              match un.slot? l.id u with
              | none => some s
              | some x => some ((s.setUnit g un).addGradient g l x w)

/-- The oldest row on its way to a gate is taken, or waits for a slot in the home region's node (R274, R275). -/
def execGradientRowAtGate (g : Nat) (s : State) : Outcome :=
  if nGates ≤ g ∨ !s.coreRuns then .next s
  else
    match s.blvd.links.find? fun f => f.dst == gateNode g with
    | none => .next s
    | some f =>
      let arrived : State := { s with blvd := { s.blvd with links := dropFlight (gateNode g) s.blvd.links } }
      match arrived.gateRow g f.row with
      | some s => .next s
      | none => .next (arrived.returnRow f.src f.row).slotWait

/-! ## Reduction messages (R282, R283) -/

/-- A reduction message is taken into the payloads of its layer, or discarded as stale (R283). -/
def State.takeReduction (s : State) (g src : Nat) (msg : List Byte) : State :=
  let c := leAt msg 12 4
  let pay := msg.drop 16
  match s.layers.find? fun l => l.id == leAt msg 8 2 with
  | none => s.staleMessage
  | some l =>
    if leAt msg 0 8 ≠ s.upd.step ∨ l.exchange = 0 ∨ l.exchange = 3 ∨ leAt msg 11 1 ≠ l.exchange ∨
        l.cblockLen g c = 0 ∨ pay.length ≠ l.payloadLen g c then s.staleMessage
    else
      let un := s.unit g
      if un.payloads.any fun p => p.layer == l.id && p.cblock == c && p.member == src then s
      else (s.setUnit g { un with payloads := un.payloads ++ [⟨l.id, c, src, pay⟩] }).noteReady g

/-- A gate takes the oldest reduction message that has arrived for it (R283). -/
def execReductionMessage (g : Nat) (s : State) : Outcome :=
  match s.reductions.find? fun m => m.1 == g with
  | none => .next s
  | some m => .next (({ s with reductions := s.reductions.erase m } : State).takeReduction g m.2.1 m.2.2)

/-! ## The update pass (R276 to R281) -/

/-- A block whose state leaves the populated part, or lies in a failed stack, is not updated (R264, R278). -/
def State.stateOutside (s : State) (g : Nat) (l : Layer) (u : Nat) : State :=
  let s := s.modUnit g fun un =>
    let un := match un.slot? l.id u with
      | some x => un.setSlot { x with updated := true }
      | none => un
    { un with ready := un.ready.drop 1 }
  s.addError (.stateRange g (l.firstOutside u) l.id) true

/-- The block that became ready first is updated, once its planes are here and the unit is free: the rule is applied, its writes
queued (R276 to R281). -/
def execBlockUpdate (g layer idx : Nat) (s : State) : Outcome :=
  match s.layers.find? fun l => l.id == layer with
  | none => .next s
  | some l =>
    let u := l.blockOf g idx
    if nGates ≤ g ∨ !s.runActive ∨ !s.coreRuns ∨ (s.unit g).ready.head? ≠ some (layer, u) then .next s
    else if !s.stateUsable g l u then .next (s.stateOutside g l u)
    else if s.clk.now < (s.unit g).freeAt ∨ s.planeOut g layer u (fun _ => true) then .next s
    else .next (s.updateBlock g l u)

end Sys2Proof.Machine
end

