-- ==== Sys2Proof/Machine/LifeOps.lean ====
section
/-! DEFINITION. Life-cycle requests: what each state permits, the checks of a request, the change and its end (R407 to
R412, R420, R421). -/

namespace Sys2Proof.Machine

/-- Codes of the states (R407). -/
def LcState.code : LcState → Nat
  | .maker => 0
  | .stock => 1
  | .owned => 2
  | .locked => 3
  | .transit => 4
  | .return_ => 5
  | .scrap => 6

/-- MAKER and RETURN, in which the TST_ block is served and refurbishment runs (R407, R433). -/
def LcState.testable (x : LcState) : Bool := x == .maker || x == .return_

/-! ## The end of a change (R410 to R412) -/

/-- The owner section of the running image's record. -/
def State.ownerSection (s : State) : List Byte := ((s.img s.ctl.image).cfg.getD CfgRecord.default).owner

/-- An owner section reset: the defaults are stored and act at once (R409). -/
def State.resetOwner (s : State) : State :=
  let s := s.modCfg s.ctl.image fun c => { c with storeSeq := wrap32 (c.storeSeq + 1), owner := ownerDefaults }
  { s with
    frm := { s.frm with lenConf := 8192 }
    dawn := { s.dawn with lenRead := none }
    group := { s.group with armed := some soloMap, mapPend := soloMap } }

/-- User registers take their reset values (R411). -/
def State.clearUser (s : State) : State :=
  let s := s.forget
  { s with
    frm := { Frm.reset with count := s.frm.count, lenConf := s.frm.lenConf, lenNow := s.frm.lenNow, ended := s.frm.ended, dueAt := s.frm.dueAt }
    regions := Map.mapVals (fun _ (x : Region) => { x with ce := 0, ue := 0, chanDrop := 0, routeDrop := 0 }) s.regions
    tst := { s.tst with sliceTile := 0, sliceResult := 0, sliceCount := 0, sliceFail := 0, sliceAbort := 0 }
    gates := Map.mapVals (fun _ (x : Gate) => x.afterReset) s.gates
    upd := Upd.reset
    host := s.host.map fun h => { h with aper := 0 }
    hostRegs := { HostRegs.reset with
      straps := s.hostRegs.straps
      staticAddr := s.hostRegs.staticAddr
      dynAddr := s.hostRegs.dynAddr
      eid := s.hostRegs.eid
      spdm := s.hostRegs.spdm }
    err := Err.reset
    num := 0
    numNow := 0
    plan := PlanCtl.reset
    pwr := { s.pwr with cap := ownerCap s.ownerSection, capPend := Shadow.clear } }

/-- A mask of stacks (R416). -/
def stackMask (l : List Nat) : Nat := (List.range nGates).foldl (fun a g => if l.contains g then a + 2 ^ g else a) 0

/-- The steps at the wipe's end: registers, owner section, sector, LC_SEQ, the record, LCS_STATUS (R410). -/
def State.finishChange (s : State) (t : Transition) (failed : List Nat) (wipeOk : Bool) : State :=
  let old := s.sector.state
  let s := if t.resetOwner then s.resetOwner else s
  let s := s.clearUser
  let seq := (s.sector.lcSeq + 1) % 65536
  let s := { s with
    sector := { s.sector with
      state := t.target
      returnTo := t.returnTo
      lcSeq := seq
      pending := none
      owner := t.owner
      refurbPassed := s.sector.refurbPassed && t.target != LcState.return_
      wipeOk := wipeOk
      changeLife := s.lifeFrames }
    ctl := { s.ctl with change := none, phase := 3, result := if failed.isEmpty then 0 else 6 } }
  let s := s.logRecord 9 ([BitVec.ofNat 8 t.op, BitVec.ofNat 8 old.code, BitVec.ofNat 8 t.target.code, if wipeOk then 1 else 0] ++
    leBytes 2 seq ++ leBytes 6 (stackMask failed))
  s.raiseVector vecFirmware

/-! ## Requests (R408, R409) -/

def reqOp (q : List Byte) : Nat := leAt q 0 1
def reqNonce (q : List Byte) : List Byte := (q.drop 8).take 32
def reqArg (q : List Byte) : List Byte := (q.drop 40).take 96
def reqSig (q : List Byte) : List Byte := (q.drop 136).take 96

/-- The states in which an operation is accepted (R409). -/
def opStates (op : Nat) : List LcState :=
  match op with
  | 1 => [.maker]
  | 2 => [.stock]
  | 3 => [.owned]
  | 4 => [.locked]
  | 5 => [.owned, .locked]
  | 6 => [.transit]
  | 7 => [.owned]
  | 8 => [.owned]
  | 9 => [.stock, .owned, .locked, .transit]
  | 10 => [.return_]
  | 11 => [.maker, .return_]
  | 12 => [.owned]
  | 13 => [.owned]
  | _ => []

/-- The keys under which a request may be signed (R409). -/
def Sector.signers (x : Sector) (op : Nat) : List (List Byte) :=
  if op = 1 ∨ op = 2 ∨ op = 10 ∨ op = 11 then [x.makerKey]
  else if op = 9 then (if x.state = .stock then [x.makerKey] else [x.owner, x.makerKey])
  else [x.owner]

/-- What an operation changes (R409). -/
def Sector.transition (x : Sector) (op : Nat) (arg : List Byte) : Transition :=
  let go := fun (target ret : LcState) (owner : List Byte) (reset : Bool) => (⟨op, target, ret, owner, reset⟩ : Transition)
  match op with
  | 1 => go .stock .maker x.owner true
  | 2 => go .owned .maker arg true
  | 3 => go .locked .maker x.owner false
  | 4 => go .owned .maker x.owner false
  | 5 => go .transit x.state x.owner false
  | 6 => go x.returnTo .maker x.owner false
  | 7 => go .owned .maker arg true
  | 8 => go .stock .maker [] true
  | 9 => go .return_ .maker [] true
  | 10 => go .stock .maker [] true
  | _ => go .scrap .maker [] true

/-- The message that a request's signature covers, digested (R408). -/
def reqDigest (q : List Byte) : List Byte := sha384 (q.take 136 ++ leBytes 8 Config.serial.toNat)

/-- The signature of a request verifies under a key of the operation (R408, R409). -/
def State.reqSigned (s : State) (q : List Byte) : Bool :=
  (s.sector.signers (reqOp q)).any fun k => ecdsaVerify k (reqDigest q) (reqSig q)

/-- RESULT of a request: 0 OK, 1 BUSY, 2 STATE, 3 AUTH, 4 UNCONFIRMED, 5 BAD_REQ, by the first check that fails (R402,
R408 to R410, R418, R421, R434, log 26). -/
def State.reqResult (s : State) (q : List Byte) : Nat :=
  let op := reqOp q
  let change := op ≤ 11
  if op = 0 ∨ 13 < op ∨ leAt q 1 7 ≠ 0 then 5
  else if reqNonce q ≠ s.ctl.nonce then 3
  else if s.ctl.stageBusy ∨ s.ctl.storing.isSome ∨ s.ctl.change.isSome ∨ s.tst.busy ∨ s.ctl.recovery ∨
      (change ∧ (s.plan.state = .loading ∨ s.plan.state = .running ∨ !s.dawn.firstReady)) then 1
  else if s.sector.trial then 4
  else if !(opStates op).contains s.sector.state ∨ (op = 10 ∧ !s.sector.refurbPassed) then 2
  else if !s.reqSigned q then 3
  else if (op = 2 ∨ op = 7) ∧ !onCurve (reqArg q) then 5
  else 0

/-- An accepted change: the pending transition is written, compute stops and wipes, every stack is wiped (R410). -/
def State.startChange (s : State) (q : List Byte) : State :=
  let t := s.sector.transition (reqOp q) (reqArg q)
  let s := s.addTotals
  let s := { s with
    sector := { s.sector with pending := some t }
    ctl := { s.ctl with change := some t, phase := 2 } }
  let s := s.stopCompute
  { s with
    stack := []
    stackUe := []
    gates := (List.range nGates).map fun g =>
      let x := s.gate g
      (g, if x.stackState = .failed then x else { x with stackState := .wipe }) }

/-- A request is submitted: the nonce is replaced; it is refused with a result, or carried out (R408 to R410). -/
def State.submit (s : State) (q : List Byte) : State :=
  let res := s.reqResult q
  let op := reqOp q
  let s := ({ s with ctl := { s.ctl with lastOp := op, result := res } } : State).freshNonce
  if res ≠ 0 then
    -- a change under way keeps its phase
    let s := if s.ctl.change.isSome then s else { s with ctl := { s.ctl with phase := 4 } }
    s.raiseVector vecFirmware
  else
    let s := { s with ctl := { s.ctl with cfgAuth := none, fwAuth := none, fwAuthStaged := false } }
    if op = 12 ∨ op = 13 then
      let d := (reqArg q).take 48
      let s := { s with ctl := { s.ctl with
        phase := 3
        cfgAuth := if op = 12 then some d else none
        fwAuth := if op = 13 then some d else none } }
      s.raiseVector vecFirmware
    else s.startChange q

end Sys2Proof.Machine
end

