-- ==== Sys2Proof/Machine/DawnOps.lean ====
section
/-! DEFINITION. What Dawn's tests find and do: repairs, dead and slow tiles, the waves, the conditions of its stages
(R369 to R382). -/

namespace Sys2Proof.Machine

/-! ## The wave order (R369) -/

/-- Ring depth of a region (R369). -/
def ringDepth (r : Nat) : Nat := min (min (r % 12) (11 - r % 12)) (min (r / 12) (6 - r / 12))

/-- The regions in wave order: by depth, then by id. -/
def waveOrder : List Nat := (List.range 4).flatMap fun d => (List.range nRegions).filter fun r => ringDepth r == d

/-- The regions of a wave. -/
def waveRegions (w : Nat) : List Nat := (waveOrder.drop (6 * w)).take 6

/-! ## Map entries of Dawn (R36, R39, R380) -/

/-- Tiles are marked dead with a cause; those that are dead already keep theirs. -/
def State.dawnDead (s : State) (ts : List Nat) (cause : Nat) : State :=
  let new := ts.filter fun t => !s.map.tileDead t
  let s := s.mapDawn (new.map fun t => .tile t (128 + cause))
  { s with dawn := { s.dawn with newDead := s.dawn.newDead + new.length } }

/-- A tile becomes slow, or slower, with an FMAX (R376). -/
def State.dawnSlow (s : State) (t code : Nat) : State :=
  let b := 64 + (code - 90)
  if s.map.tileByte t = b ∨ s.map.tileDead t then s
  else
    let s := s.mapDawn [.tile t b]
    { s with dawn := { s.dawn with newSlow := s.dawn.newSlow + 1 } }

/-! ## Bit-cell repair (R372 to R374) -/

/-- Repairs in force of a macro: the fuses', the list's and this Dawn's (R372). -/
def Log.repairs (l : Log) (t m : Nat) : List SramRepair := (l.fuses ++ l.sram).filter fun x => x.tile == t && x.cellMacro == m

/-- Failing cells (row, column) that no repair in force covers (R373). -/
def uncovered (done : List SramRepair) (cells : List (Nat × Nat)) : List (Nat × Nat) :=
  cells.filter fun c => decide (c.1 < 1024) && decide (c.2 < 576) &&
    !done.any fun x => if x.column then x.line == c.2 else x.line == c.1

/-- Distinct numbers below a bound, ascending. -/
def ascending (bound : Nat) (l : List Nat) : List Nat := (List.range bound).filter fun i => l.contains i

/-- The sets of at most two elements of an ascending list, in the order of R373. -/
def smallSets (l : List Nat) : List (List Nat) :=
  [[]] ++ l.map (fun c => [c]) ++ l.flatMap fun c => (l.filter fun d => decide (c < d)).map fun d => [c, d]

/-- Free spares of a kind, of n. -/
def freeSpares (done : List SramRepair) (column : Bool) (n : Nat) : List Nat :=
  (List.range n).filter fun i => !done.any fun x => x.column == column && x.spare == i

/-- The rows left when a set of columns is replaced. -/
def rowsLeft (cells : List (Nat × Nat)) (cols : List Nat) : List Nat :=
  ascending 1024 ((cells.filter fun c => !cols.contains c.2).map (·.1))

/-- The columns and rows that get spares; none where the macro is unrepairable (R373). -/
def chooseRepair (done : List SramRepair) (cells : List (Nat × Nat)) : Option (List Nat × List Nat) :=
  let sc := (freeSpares done true 2).length
  let sr := (freeSpares done false 4).length
  ((smallSets (ascending 576 (cells.map (·.2)))).find? fun cs => decide (cs.length ≤ sc) && decide ((rowsLeft cells cs).length ≤ sr)).map
    fun cs => (cs, rowsLeft cells cs)

/-- A repair joins the list, or kills its tile where the list is full (R374). -/
def State.addRepair (s : State) (x : SramRepair) : State :=
  let fits := s.log.sram.length < 4096
  let s := s.logRecord 4 (leBytes 4 (repairEntry x) ++ [if fits then 0 else 1])
  if fits then
    { s with
      log := { s.log with sram := s.log.sram ++ [x] }
      dawn := { s.dawn with
        newRepairs := s.dawn.newRepairs + (if x.retention then 0 else 1)
        retentionRepairs := s.dawn.retentionRepairs + (if x.retention then 1 else 0) } }
  else s.dawnDead [x.tile] 1

/-- The failing cells of one macro are repaired, or its tile dies (R373, R374). -/
def State.repairMacro (s : State) (t m : Nat) (cells : List (Nat × Nat)) (retention : Bool) : State :=
  let done := s.log.repairs t m
  let bad := uncovered done cells
  if bad.isEmpty then s
  else
    match chooseRepair done bad with
    | none => s.dawnDead [t] 1
    | some (cols, rows) =>
      let mk := fun (column : Bool) (p : Nat × Nat) => (⟨t, m, column, p.1, p.2, retention⟩ : SramRepair)
      (((freeSpares done true 2).zip cols).map (mk true) ++ ((freeSpares done false 4).zip rows).map (mk false)).foldl State.addRepair s

/-- The failing cells of a tile, macro by macro (R373). -/
def State.repairTile (s : State) (t : Nat) (cells : List BadCell) (retention : Bool) : State :=
  (ascending 144 (cells.map (·.cellMacro))).foldl (fun s m =>
    s.repairMacro t m ((cells.filter fun c => c.cellMacro == m).map fun c => (c.row, c.col)) retention) s

/-! ## The region sequence (R370 to R378) -/

/-- The frequency search of a tile (R376). -/
def State.searchTile (s : State) (t : Nat) (fails : List Nat) : State :=
  let b := s.storedMap.tileByte t
  let slow := b / 64 == 1
  let start := if slow then 90 + b % 64 else 110
  if !fails.contains 110 then s
  else
    match ((List.range (start - 89)).map fun i => start - i).find? fun c => !fails.contains c with
    | some c => if c = 110 then s else s.dawnSlow t c
    | none => s.dawnDead [t] (if slow then 3 else 1)

/-- The tests of one tile; a tile that the stored map marks dead is not tested (R370). -/
def State.testTile (s : State) (x : TileTest) : State :=
  if nTiles ≤ x.tile ∨ s.storedMap.tileDead x.tile then s
  else (s.searchTile x.tile x.failCodes).repairTile x.tile x.cells false

/-- The tiles of a quad (R34). -/
def tilesOfQuad (q : Nat) : List Nat :=
  let x := 2 * (q % 96)
  let y := 2 * (q / 96)
  [tileAt x y, tileAt (x + 1) y, tileAt x (y + 1), tileAt (x + 1) (y + 1)]

/-- A word of a region's deck wipe fails for good: the region's power-off is due (R378). -/
def State.wipeFails (s : State) (r : Nat) : State :=
  { s with dawn := { s.dawn with powerOff := s.dawn.powerOff ++ [r], wipeBad := true } }

/-- The region has finished its sequence (R378, R383). -/
def State.regionDone (s : State) (r : Nat) : State :=
  { s with dawn := { s.dawn with
      regionsDone := s.dawn.regionsDone + 1
      waveEnd := Map.set s.dawn.waveEnd r s.clk.wall
      stageEnd := s.clk.wall } }

/-- The findings of a region's sequence; SCRAP runs no BIST (R370 to R378, R407). -/
def State.testRegion (s : State) (x : RegionTest) (again : Bool) : State :=
  let r := x.region
  let s :=
    if s.sector.state = .scrap then s
    else if x.ctrlFail ∨ x.nodeFail ∨ (x.noSignature ∧ again) then s.dawnDead (tilesOfRegion r) 1
    else
      let s := s.dawnDead ((x.quadFails.filter fun q => decide (q < 6720) && regionOfQuad q == r).flatMap tilesOfQuad) 1
      (x.tiles.filter fun t => regionOf t.tile == r).foldl State.testTile s
  let s := if x.wipeFail ∧ !s.ctl.retention then s.wipeFails r else s
  s.regionDone r

/-- The findings for a region; one that is not listed passes everything. -/
def findTest (tests : List RegionTest) (r : Nat) : RegionTest :=
  match tests.find? fun x => x.region == r with
  | some x => x
  | none => ⟨r, false, false, false, [], [], false⟩

/-- One region of a wave: a dark region runs nothing (R370), one without a signature repeats later (R375). -/
def State.waveRegion (s : State) (tests : List RegionTest) (r : Nat) : State :=
  let x := findTest tests r
  if s.isDark r then s.regionDone r
  else if x.noSignature ∧ !x.ctrlFail ∧ s.sector.state ≠ .scrap then { s with dawn := { s.dawn with repeats := s.dawn.repeats ++ [r] } }
  else s.testRegion x false

/-! ## Conditions of the stages (R256, R355, R368, R391) -/

/-- Dawn is under way and its next stage may run. -/
def State.dawnGoes (s : State) : Bool := s.dawn.on && !s.pwr.coolStop && !s.dawn.modReset

/-- A stack reads READY or FAILED. -/
def Gate.settled (x : Gate) : Bool := x.stackState == .ready || x.stackState == .failed

/-- The stacks that read FAILED. -/
def State.failedStacks (s : State) : List Nat := (List.range nGates).filter fun g => (s.gate g).stackState == .failed

/-- STACKS_READY (R322). -/
def State.stacksReady (s : State) : Bool := (List.range nGates).all fun g => (s.gate g).settled

/-- TRAIN_DONE (R297, R368). -/
def State.trainDone (s : State) : Bool :=
  s.dawn.powered && !s.dawn.modReset && !s.ctl.recovery && decide (s.dawn.started + wallMs 1500 ≤ s.clk.wall)

/-- The waves and their repeats have ended. -/
def State.wavesDone (s : State) : Bool := s.dawn.nextWave == 14 && s.dawn.repeats.isEmpty

/-- The stages that the final stage waits for have ended (R368). -/
def State.stagesDone (s : State) : Bool :=
  s.wavesDone && s.dawn.interconnect && s.stacksReady && s.trainDone &&
  (!s.ctl.retention || (List.range nRegions).all fun r => s.isDark r || s.dawn.readBack.contains r)

end Sys2Proof.Machine
end

