-- ==== Sys2Proof/Machine/FwOps.lean ====
section
/-! DEFINITION. FW_CMD and TST_CMD: staging, activation, the end of a trial, stored configurations, the test engine and
refurbishment (R400 to R406, R418, R433, R434). -/

namespace Sys2Proof.Machine

/-! ## STAGE and ACTIVATE (R400 to R404) -/

/-- Why a STAGE or an ACTIVATE of an image with a header digest is refused: its STAGE_RESULT, 0 where it is not (R401,
log 26). `auth` is what FW_AUTH allows. -/
def State.stageRefusal (s : State) (auth : Bool) : Nat :=
  if s.sector.state = .locked ∨ s.sector.state = .transit ∨ s.sector.state = .scrap then 5
  else if s.sector.state = .owned ∧ !auth then 6
  else if s.sector.trial then 10
  else if s.ctl.stageBusy ∨ s.ctl.storing.isSome ∨ s.ctl.change.isSome ∨ !s.dawn.firstReady then 8
  else if s.stageRangeBad then 7
  else 0

/-- The result of a refused or failed FW_CMD (R420). -/
def State.fwResult (s : State) (code : Nat) : State := { s with ctl := { s.ctl with stageResult := code } }

/-- A STAGE reads its source: stack space, in recovery gate 0's buffer (R257, R404). -/
def State.stageSource (s : State) : State × Memory :=
  if s.ctl.recovery then (s, s.ctl.buffer.slice s.ctl.src s.ctl.size)
  else
    let y := s.stackLoad s.ctl.src s.ctl.size cleanReport true
    (y.1, y.2.slice s.ctl.src s.ctl.size)

/-- The digest that FW_AUTH names: of the 4 KiB image header (R399, R409, log 29). -/
def headerDigest (m : Memory) : List Byte := sha384 (m.bytes 0 4096)

/-- FW_CMD STAGE: the inactive image is invalid from now on and takes the source's bytes; in recovery any image is
accepted (R400, R401, R404). A refusal raises vector 4 too. -/
def State.stageCommand (s : State) : State :=
  let y := s.stageSource
  let m := y.2
  let code := if s.ctl.recovery then (if s.ctl.stageBusy then 8 else 0)
    else s.stageRefusal (!s.ctl.fwAuthStaged && s.ctl.fwAuth == some (headerDigest m))
  if code ≠ 0 then (s.fwResult code).raiseVector vecFirmware
  else
    let b := !s.ctl.image
    let s := y.1.modImg b fun x => { x with bytes := m, valid := false }
    let s := { s with ctl := { s.ctl with stageBusy := true, stageResult := 0, fwAuthStaged := s.sector.state == LcState.owned } }
    s.logFirmware 1 b

/-- Programming ends: what the read of the source reported, the verification's result, or FLASH; in recovery a good image is
written to both (R257, R400, R404). -/
def State.stageDone (s : State) (flashOk : Bool) (ecc : EccReport) : State :=
  let b := !s.ctl.image
  let s :=
    if s.ctl.recovery then s
    else
      let y := s.loadReport s.ctl.src s.ctl.size [] ecc true
      y.1.modImg b fun x => { x with bytes := (spoil x.bytes s.ctl.src s.free y.2).slice 0 s.ctl.size }
  let m := (s.img b).bytes
  let v := verifyImage s.sector.firmwareKey s.sector.svnMin m s.ctl.size
  let code := if v ≠ 1 then v else if flashOk then 1 else 9
  let s := if code ≠ 1 then s
    else
      let s := s.modImg b fun x => { x with valid := true }
      if s.ctl.recovery then s.modImg (!b) fun x => { x with bytes := m, valid := true } else s
  (({ s with ctl := { s.ctl with stageBusy := false } } : State).fwResult code).raiseVector vecFirmware

/-- FW_CMD ACTIVATE: the verified inactive image is pending (R401, R402). -/
def State.activateCommand (s : State) : State :=
  let x := s.img (!s.ctl.image)
  let code := s.stageRefusal (s.ctl.fwAuthStaged && s.ctl.fwAuth == some (headerDigest x.bytes))
  if s.ctl.recovery then s
  else if code ≠ 0 then s.fwResult code
  else if !x.valid then s.fwResult 2
  else
    let s := { s with
      sector := { s.sector with activation := true }
      ctl := { s.ctl with fwAuth := none, fwAuthStaged := false, stageResult := 1 } }
    s.logFirmware 2 (!s.ctl.image)

/-- CONFIRM: the trial image becomes active; SVN_MIN rises to its SVN (R402). -/
def State.confirmCommand (s : State) : State :=
  if !s.sector.trial || s.ctl.recovery then s
  else
    let s := { s with sector := { s.sector with
      active := s.ctl.image
      trial := false
      activation := false
      svnMin := max s.sector.svnMin (imgSvn (s.img s.ctl.image).bytes) } }
    s.logFirmware 3 s.ctl.image

/-- REVERT: the other image is active at the next Dawn (R402). -/
def State.revertCommand (s : State) : State :=
  if !s.sector.trial || s.ctl.recovery then s
  else ({ s with sector := { s.sector with active := !s.ctl.image, trial := false, activation := false } } : State).logFirmware 4 s.ctl.image

/-! ## CFG_STORE (R406) -/

/-- FW_CMD CFG_STORE: refused as a STAGE is, the range excepted; a source that is not 304 bytes is BAD_IMAGE (R406, R422). -/
def State.cfgStoreCommand (s : State) : State :=
  let y := s.stackLoad s.ctl.src 304 cleanReport true
  let o := y.2.bytes s.ctl.src 304
  let code := s.stageRefusal (s.ctl.cfgAuth == some (sha384 o))
  if s.ctl.recovery then s
  else if code ≠ 0 ∧ code ≠ 7 then s.fwResult code
  else if s.ctl.size ≠ 304 then s.fwResult 2
  else { y.1 with ctl := { s.ctl with storing := some o, stageResult := 0, cfgAuth := none } }

/-- The NVM write of a record ends, with what the read of the source reported (R257, R406, R416). -/
def State.cfgStoreDone (s : State) (flashOk : Bool) (ecc : EccReport) : State :=
  match s.ctl.storing with
  | none => s
  | some o =>
  let y := s.loadReport s.ctl.src 304 [] ecc true
  let o := (spoil (Memory.putBytes [] 0 o) s.ctl.src s.free y.2).bytes 0 304
  let s := { y.1 with ctl := { y.1.ctl with storing := some o } }
  if flashOk then s.storeOwner.fwResult 1
  else
    let seq := match (s.img s.ctl.image).cfg with
      | some c => c.storeSeq
      | none => 0
    (({ s with ctl := { s.ctl with storing := none } } : State).fwResult 9).logRecord 13 (leBytes 4 seq ++ [0])

/-- FW_CMD (R420); in recovery only STAGE acts (R404). -/
def State.fwCommand (s : State) (c : Nat) : State :=
  match c with
  | 1 => s.stageCommand
  | 2 => s.activateCommand
  | 3 => s.confirmCommand
  | 4 => s.revertCommand
  | 5 => s.cfgStoreCommand
  | _ => s

/-! ## The test engine (R433, R434) -/

/-- RUN and REFURB are refused with BUSY (R434). -/
def State.testBlocked (s : State) : Bool :=
  s.tst.busy || s.plan.state == .loading || s.plan.state == .running || s.ctl.change.isSome || s.ctl.stageBusy || s.ctl.storing.isSome

def State.testResult (s : State) (code : Nat) : State := { s with tst := { s.tst with result := code } }

/-- TST_CMD (R433, R434). -/
def State.testCommand (s : State) (c : Nat) : State :=
  match c with
  | 1 =>
    if s.testBlocked then s.testResult 4
    else if 4 ≤ s.tst.mode ∨ nTiles ≤ s.tst.tile then s.testResult 5
    else { s with tst := { s.tst with busy := true, refurb := false, abort := false, result := 0, region := regionOf s.tst.tile } }
  | 2 =>
    if s.testBlocked then s.testResult 4
    else { s with tst := { s.tst with busy := true, refurb := true, abort := false, result := 0, region := 0 } }
  | 3 => if s.tst.busy then { s with tst := { s.tst with abort := true } } else s
  | _ => s

/-- The tiles that a RUN tests (R433). -/
def Tst.targets (x : Tst) : List Nat := if x.wide then tilesOfRegion (regionOf x.tile) else [x.tile]

/-- A RUN ends: its tiles are reset and wiped; the signature of one tile's logic run (R434, log 30). -/
def State.runDone (s : State) (res : TestResult) : State :=
  let x := s.tst
  let pass := res.pass || (x.mode == 0 && !(x.seed == 0 && x.patterns == 0))
  let s := x.targets.foldl (fun s t => s.modTile t Tile.afterReset) s
  { s with tst := { x with
      busy := false
      abort := false
      result := if x.abort then 3 else if pass then 1 else 2
      signature := if !x.wide ∧ (x.mode = 0 ∨ x.mode = 3) then res.signature else 0 } }

/-- Rank of a tile byte: the higher the better (R39). -/
def tileRank (b : Nat) : Nat := if b / 64 = 0 then 111 else if b / 64 = 1 then 90 + b % 64 else 0

/-- A byte that a tile entry can have beside 0: slow with an FMAX code up to 19, dead with a cause up to 3 (R39). -/
def tileByteOk (b : Nat) : Bool := (decide (64 ≤ b) && decide (b ≤ 83)) || (decide (128 ≤ b) && decide (b ≤ 131))

/-- Entries that are better in the rebuilt map (R416, R418). -/
def improved (old new : FloorMap) : Nat :=
  (old.tiles.filter fun p => decide (tileRank p.2 < tileRank (new.tileByte p.1))).length +
  (old.segs.filter fun p => p.2 && !Map.getD new.segs p.1 false).length

/-- The entries that the deep test rebuilds: every tile byte and segment is its result; what no entry can be is none (R39, R40,
R418). -/
def rebuildOf (res : TestResult) : MapChange :=
  .rebuild
    ((res.tiles.filter fun p => decide (p.1 < nTiles) && tileByteOk p.2).foldl (fun a p => Map.set a p.1 p.2) [])
    ((res.segments.filter segmentOk).foldl (fun a p => Map.set a (32768 * p.1 + p.2) true) [])

/-- The refurbishment's record and its end (R416, R418). -/
def State.closeRefurb (s : State) (pass : Bool) (fuses rails better result : Nat) : State :=
  let s := { s with
    log := { s.log with refurbs := s.log.refurbs + 1 }
    sector := { s.sector with refurbPassed := s.sector.refurbPassed || pass }
    tst := { s.tst with busy := false, refurb := false, abort := false, result := result, signature := 0 } }
  s.logRecord 12 ([if pass then 1 else 0] ++ leBytes 2 fuses ++ [BitVec.ofNat 8 rails] ++ leBytes 2 better)

/-- A REFURB ends: the stored map is rebuilt and the live map takes the change at the next tick, repairs become fuses, rails are
closed, the record is written; one that was aborted changes nothing but its record (R44, R418, R434, log 31). -/
def State.refurbDone (s : State) (res : TestResult) : State :=
  if s.tst.abort then s.closeRefurb false 0 0 0 3
  else
    let rails := res.rails.filter fun r => decide (r < nRegions) && s.isDark r
    let l := rebuildOf res :: rails.map MapChange.relight
    let now := s.mapNext.foldl FloorMap.apply s.map
    let m := l.foldl FloorMap.apply now
    let better := improved now m
    let n := min res.fuses s.log.sram.length
    let pass := m.meetsFloor && !(List.range nGates).any fun g => (s.gate g).stackState == .failed
    let s := { s with
      mapNext := s.mapNext ++ l
      tiles := Map.mapVals (fun _ (x : Tile) => x.afterReset) s.tiles
      log := { s.log with fuses := s.log.fuses ++ s.log.sram.take n, sram := s.log.sram.drop n } }
    let s := rails.foldl (fun s r => s.modRegion r fun x => { x with dark := false }) s
    let s := s.putStored { m with gen := wrap32 (m.gen + 1), changedAt := s.lifeFrames }
    let s := { s with tst := { s.tst with region := 83 } }
    s.closeRefurb pass n rails.length better (if pass then 1 else 2)

end Sys2Proof.Machine
end

