-- ==== Sys2Proof/Machine/RegOps.lean ====
section
/-! DEFINITION. BAR0: which blocks are served, and the value of every register and window (R14, R15, R322, R423 to R440). -/

namespace Sys2Proof.Machine

/-- A field of w bits at a bit position. -/
def fieldAt (v w lo : Nat) : Nat := v % 2 ^ w * 2 ^ lo

def flagAt (b : Bool) (lo : Nat) : Nat := if b then 2 ^ lo else 0

/-! ## Blocks (R322, R404, R423, R433) -/

/-- The block of an offset is served now (R322, R404, R433). -/
def State.served (s : State) (o : Nat) : Bool :=
  if s.ctl.recovery then
    decide (o < 0x18) || (decide (0x1D0000 ≤ o) && decide (o < 0x1D0008)) || (decide (0x1E0000 ≤ o) && decide (o < 0x1E1000))
  else if 0x1C0000 ≤ o ∧ o < 0x1C1000 then s.dawn.firstReady && s.sector.state.testable
  else if o < 0x20000 ∨ (0x190000 ≤ o ∧ o < 0x200000) then true
  else s.dawn.firstReady

/-! ## GLB_ (R322, R383, R427, R428) -/

def RingState.code : RingState → Nat
  | .idle => 0
  | .active => 1
  | .faulted => 2
  | .done => 3
  | .error => 4

def PlanState.code : PlanState → Nat
  | .none => 0
  | .loading => 1
  | .loaded => 2
  | .running => 3
  | .stopped => 4

def PortState.code : PortState → Nat
  | .quiet => 0
  | .window => 1
  | .training => 2
  | .up => 3
  | .recovery => 4
  | .down => 5
  | .disabled => 6

/-- GLB_STATUS.CMP_RESET: a compute reset is in progress, or CMP_RESET_N is held before the first READY (R322, R389). -/
def State.cmpResetBit (s : State) : Bool := s.dawn.cmpReset || s.dawn.cmpPin

/-- GLB_STATUS.READY (R382). -/
def State.readyBit (s : State) : Bool := s.dawn.bistDone && s.stacksReady && s.trainDone && !s.cmpResetBit && s.dawn.firstReady

/-- GLB_STATUS (R322); 0 in recovery (R404). -/
def State.glbStatus (s : State) : Nat :=
  if s.ctl.recovery then 0
  else flagAt s.pwr.night 7 + flagAt s.pwr.coolStop 6 + flagAt s.cmpResetBit 5 + flagAt s.dawn.belowFloor 4 +
    flagAt s.trainDone 3 + flagAt s.stacksReady 2 + flagAt s.dawn.bistDone 1 + flagAt s.readyBit 0

/-- GLB_DAWN_STATUS.STAGE (R383). -/
def State.dawnStage (s : State) : Nat :=
  let d := s.dawn
  if d.bistDone then 6
  else if d.on ∧ (s.pwr.coolStop ∨ (s.pwr.night ∧ !s.wavesDone)) then 7
  else if s.clk.wall < d.started + wallMs 20 then 0
  else if s.clk.wall < d.started + wallMs 80 then 1
  else if !s.wavesDone then 2
  else if !d.interconnect then 3
  else if s.ctl.retention ∧ !(List.range nRegions).all (fun r => s.isDark r || d.readBack.contains r) then 4
  else 5

def State.dawnStatus (s : State) : Nat :=
  fieldAt (min s.dawn.newRepairs 65535) 16 48 + fieldAt s.dawn.newDead 16 32 + fieldAt s.dawn.newSlow 16 16 + fieldAt s.dawnStage 4 12 +
    fieldAt s.dawn.regionsDone 8 0

/-- GLB_PLAN_STATUS (R428). -/
def State.planStatus (s : State) : Nat :=
  fieldAt s.plan.stepsDone 32 32 + fieldAt s.plan.refusal 8 8 + flagAt s.plan.stopPending 4 + flagAt s.plan.startPending 3 +
    s.plan.state.code

/-- GLB_MAP_GEN (R37, R428). -/
def State.mapGen (s : State) : Nat := if s.dawn.firstReady then s.map.gen else 0

/-- The map window (R37). -/
def State.mapBytes (s : State) (o n : Nat) : List Byte :=
  if s.dawn.firstReady then padTo n ((s.map.bytes.drop o).take n) else List.replicate n 0

def State.readGlb (s : State) (o : Nat) : Nat :=
  if o = 0x00 then 0x1F7D * 2 ^ 32 + 0x0A01 * 2 ^ 16 + 0xA1 * 2 ^ 8 + 1
  else if o = 0x08 then Config.serial.toNat
  else if o = 0x10 then s.glbStatus
  else if o = 0x18 then s.dawnStatus
  else if o = 0x20 then s.num.toNat % 128
  else if o = 0x28 then s.mapGen
  else if o = 0x30 then s.plan.base
  else if o = 0x40 then s.planStatus
  else if 0x10000 ≤ o ∧ o < 0x10000 + 40412 then leNat (s.mapBytes (o - 0x10000) 8)
  else 0

/-! ## FRM_ and TILE_ (R202, R203, R387, R430, R431) -/

/-- FRM_STATUS (R203). -/
def State.frmStatus (s : State) : Nat :=
  let f := s.frm
  let strict := match s.plan.plan with
    | some p => s.runActive && p.hdr.strict
    | none => false
  fieldAt f.holdRegion 8 40 + fieldAt f.holdUnit 8 32 + fieldAt f.holdCause 6 16 + fieldAt s.heldSources 6 8 +
    flagAt s.held 4 + flagAt f.timeout 3 + flagAt strict 2 + flagAt f.strictStop 1 + flagAt f.miss 0

/-- A miss record's 16 bytes (R202). -/
def MissRec.bytes (m : MissRec) : List Byte :=
  leBytes 8 m.frame ++ [BitVec.ofNat 8 m.source, BitVec.ofNat 8 m.unit] ++ leBytes 2 m.ring ++ leBytes 4 m.wait

def State.readFrm (s : State) (o : Nat) : Nat :=
  let f := s.frm
  if o = 0x00 then f.count
  else if o = 0x08 then fieldAt f.lenConf 16 16 + fieldAt f.lenNow 16 0
  else if o = 0x10 then s.frmStatus
  else if o = 0x18 then f.stretchFrames
  else if o = 0x20 then f.stretchCycles
  else if o = 0x28 then f.missCount
  else if o = 0x30 then f.missHead
  else if o = 0x38 then f.holdLimitPend.get f.holdLimit
  else if 0x400 ≤ o ∧ o < 0x800 then
    match Map.find? f.missShown ((o - 0x400) / 16) with
    | some m => leAt m.bytes ((o - 0x400) % 16) 8
    | none => 0
  else 0

def State.readTileBlock (s : State) (o : Nat) : Nat :=
  if o = 0x00 then fieldAt s.tst.sliceTile 15 33 + fieldAt s.tst.sliceResult 2 0
  else if o = 0x08 then s.tst.sliceCount
  else if o = 0x10 then s.tst.sliceFail
  else if o = 0x18 then s.tst.sliceAbort
  else if 0x1000 ≤ o ∧ o < 0x1A80 then
    let x := s.syncTiles.region ((o - 0x1000) / 32)
    [x.ce, x.ue, x.chanDrop, x.routeDrop].getD ((o - 0x1000) % 32 / 8) 0
  else 0

/-! ## GATE_ and STRM_ (R228, R234, R258, R432, R437) -/

/-- STATE of GATE_STACK_STATUS (R258). -/
def State.stackCode (s : State) (g : Nat) : Nat :=
  match s.stackNow g with
  | .off => 0
  | .init => 1
  | .wipe => 2
  | .ready => 3
  | .selfRefresh => 4
  | .failed => 5

def State.stackStatus (s : State) (g : Nat) : Nat :=
  let x := s.gate g
  fieldAt (x.temp % 256).toNat 8 48 + fieldAt x.pprLeft 16 32 + fieldAt (s.listed g).length 16 16 + flagAt x.pprExhausted 4 + flagAt x.hot 3 +
    s.stackCode g

def State.readGate (s : State) (g o : Nat) : Nat :=
  let x := s.gate g
  if o = 0x00 then s.stackStatus g
  else if o = 0x08 then x.eccCe
  else if o = 0x10 then x.eccOdc
  else if o = 0x18 then x.eccUe
  else if o = 0x20 then x.eccLast % 2 ^ 48
  else if o = 0x28 then x.refTaken
  else if o = 0x30 then x.refForced
  else if o = 0x38 then x.addrErr
  else if o = 0x40 then x.cqBasePend.get x.cqBase
  else if o = 0x48 then x.cqEntriesPend.get x.cqEntries
  else if o = 0x50 then x.cqHead
  else if o = 0x58 then x.cqTail
  else if o = 0x60 then x.cqLost
  else if o = 0x68 then x.bufCe
  else if o = 0x70 then x.bufUe
  else if o = 0x78 then x.rimDrop
  else 0

/-- STRM_COUNTS of a ring (R228, R238). -/
def Ring.counts (x : Ring) : Nat :=
  match x.arming with
  | some a => (if a.d.endless then fieldAt x.announced 32 32 else 0) + fieldAt (a.released % 2 ^ 32) 32 0
  | none => 0

/-- The index vector of a ring (R212, R228). -/
def Ring.indexes (x : Ring) : List Nat :=
  match x.arming with
  | some a => indexVec a.d.sizes x.index
  | none => []

def State.readStrm (s : State) (g o : Nat) : Nat :=
  let y := s.gate g
  let x := y.ring y.strmSel
  let ix := fun i => x.indexes.getD i 0 % 2 ^ 32
  if o = 0x00 then y.strmSel
  else if o = 0x08 then x.pendCmd.get 0
  else if o = 0x10 then fieldAt x.seq 32 32 + fieldAt (y.tagsOf y.strmSel) 16 16 + fieldAt x.status 8 8 + x.state.code
  else if o = 0x18 then x.counts
  else if o = 0x20 then ix 1 * 2 ^ 32 + ix 0
  else if o = 0x28 then ix 3 * 2 ^ 32 + ix 2
  else if o = 0x30 then ix 4
  else if 0x80 ≤ o ∧ o < 0xF8 then leAt (x.pendDesc.get x.desc) (o - 0x80) 8
  else 0

/-! ## UPD_ (R286, R288) -/

def State.updStatus (s : State) : Nat :=
  let u := s.upd
  let c := (s.unit 0).counter
  fieldAt c 48 16 + flagAt ((List.range nGates).any fun g => (s.unit g).counter != c) 6 + flagAt u.slotWait 5 + flagAt u.stale 4 +
    flagAt u.blvdDrop 3 + flagAt u.agreed 2 + flagAt u.refused 1 + flagAt u.mismatch 0

/-- The word of UPD_STEP (R286). -/
def Upd.stepWord (_ : Upd) (p : Nat × Code) : Nat := p.1 * 2 ^ 16 + p.2.toNat

def State.readUpd (s : State) (o : Nat) : Nat :=
  let u := s.upd
  if o = 0x00 then u.stepWord (u.pend.get (u.step, u.eta))
  else if o = 0x08 then s.updStatus
  else if o = 0x10 then u.stallCount
  else if o = 0x18 then u.dropCount
  else if o = 0x20 then u.staleCount
  else if 0x100 ≤ o ∧ o < 0x280 then
    let x := s.unit ((o - 0x100) / 8)
    fieldAt x.peak 16 32 + fieldAt x.slots.length 16 0
  else 0

/-! ## LINK_ (R300, R304, R305) -/

/-- LINK_GROUP (R304). -/
def State.linkGroup (s : State) : Nat :=
  let m := s.group.map
  let role := if mapMembers m = 1 then 0 else if mapRole m = 1 then 3 else if s.isMaster then 1 else 2
  fieldAt (mapGroupId m) 16 48 + fieldAt (mapMember m) 6 42 + fieldAt (mapMembers m) 7 35 + fieldAt (mapMaster m) 6 29 + fieldAt role 2 27

/-- LINK_GSTATUS. -/
def State.linkGstatus (s : State) : Nat :=
  let g := s.group
  flagAt g.formed 5 + flagAt g.mapRefused 4 + flagAt g.mapCommitted 3 + flagAt g.portChange 2 + flagAt g.peerResetSeen 1 +
    flagAt g.syncLost 0

/-- LINK_STATUS of a port. -/
def Port.status (x : Port) : Nat :=
  fieldAt x.peerMember 6 50 + fieldAt x.peerPort 4 46 + flagAt x.peerReset 45 + fieldAt x.result 8 32 + fieldAt x.mask 8 24 + fieldAt x.width 8 16 + x.st.code

def State.readLink (s : State) (o : Nat) : Nat :=
  if o = 0x000 then s.linkGroup
  else if o = 0x008 then s.group.gframe
  else if o = 0x010 then s.linkGstatus
  else if 0x100 ≤ o ∧ o < 0x200 then leAt s.group.mapPend (o - 0x100) 8
  else if 0x1000 ≤ o ∧ o < 0x1400 then
    let x := s.port ((o - 0x1000) / 0x40)
    match (o - 0x1000) % 0x40 with
    | 0x00 => x.status
    | 0x08 => flagAt (x.disablePend.get x.disable) 0
    | 0x10 => x.fecCe
    | 0x18 => x.fecUe
    | 0x20 => x.replays
    | 0x28 => x.rxDrop
    | _ => 0
  else 0

/-! ## HOST_ (R324 to R331) -/

def State.readHost (s : State) (o : Nat) : Nat :=
  let h := s.hostRegs
  if o = 0x00 then (s.hostPort 0).aper
  else if o = 0x08 then (s.hostPort 1).aper
  else if o = 0x10 then h.scqBasePend.get (h.scqBase + h.scqPort)
  else if o = 0x18 then h.scqEntriesPend.get h.scqEntries
  else if o = 0x20 then h.scqHead
  else if o = 0x28 then h.scqTail
  else if o = 0x30 then h.scqLost
  else if o = 0x38 then h.dbDrop
  else if o = 0x40 then h.badAccess
  else if 0x100 ≤ o ∧ o < 0x140 then leAt h.lastRec (o - 0x100) 8
  else if 0x140 ≤ o ∧ o < 0x180 then leAt h.lastOk (o - 0x140) 8
  else 0

/-! ## PWR_ (R342, R364) -/

def PwrCap.word (c : PwrCap) : Nat := fieldAt c.tj 8 32 + fieldAt c.fixedFreq 8 24 + fieldAt c.policy 2 16 + fieldAt c.cap 16 0

/-- PWR_FREQ (R364). -/
def State.pwrFreq (s : State) : Nat :=
  fieldAt s.plan.ceiling 8 48 + fieldAt s.pwr.group 8 40 + fieldAt s.pwr.request 8 32 + fieldAt s.pwr.thermal 8 24 + fieldAt s.clk.code 8 0

def State.pwrStatus (s : State) : Nat :=
  let p := s.pwr
  fieldAt p.hotRegion 8 40 + fieldAt p.hotTemp 8 32 + fieldAt p.phase 8 24 + fieldAt p.learned 8 16 + flagAt p.trip 2 +
    flagAt (s.regions.any fun r => r.2.duskHeat) 1 + flagAt p.night 0

/-- A PWR_PHASE entry (R364). -/
def State.phaseEntry (s : State) (i : Nat) : Nat :=
  match Map.find? s.pwr.phasesShown i with
  | some l => if l.known then fieldAt l.predict 32 32 + fieldAt l.steps 8 8 + fieldAt l.freq 8 0 else 0
  | none => 0

def State.readPwr (s : State) (o : Nat) : Nat :=
  let p := s.pwr
  if o = 0x00 then (p.capPend.get p.cap).word
  else if o = 0x08 then s.pwrFreq
  else if o = 0x10 then s.pwrStatus
  else if o = 0x18 then fieldAt p.vin 16 32 + fieldAt p.watts 32 0
  else if o = 0x20 then p.events.toNat
  else if o = 0x28 then p.nightCount
  else if o = 0x30 then p.capExceed
  else if o = 0x38 then p.heatDuskCount
  else if o = 0x40 then s.energyMj % 2 ^ 64
  else if 0x1000 ≤ o ∧ o < 0x1540 then leAt (s.region ((o - 0x1000) / 16)).shown ((o - 0x1000) % 16) 8
  else if 0x2000 ≤ o ∧ o < 0x2800 then s.phaseEntry ((o - 0x2000) / 8)
  else 0

/-! ## TST_, LCS_, FW_ and ERR_ (R420, R433, R435) -/

def Tst.target (x : Tst) : Nat := fieldAt x.patterns 32 32 + fieldAt x.mode 8 16 + flagAt x.wide 15 + fieldAt x.tile 15 0

def State.readTst (s : State) (o : Nat) : Nat :=
  let x := s.tst
  if o = 0x08 then fieldAt x.region 8 24 + fieldAt x.result 8 16 + flagAt x.busy 0
  else if o = 0x10 then x.target
  else if o = 0x18 then x.seed
  else if o = 0x20 then x.signature.toNat
  else 0

/-- LCS_STATE (R420). -/
def State.lcsState (s : State) : Nat :=
  let x := s.sector
  fieldAt x.lcSeq 16 16 + fieldAt (if x.state = .transit then x.returnTo.code else 0) 4 8 + x.state.code

/-- LCS_STATUS (R420). -/
def State.lcsStatus (s : State) : Nat := fieldAt s.ctl.lastOp 8 24 + fieldAt s.ctl.result 8 8 + fieldAt s.ctl.phase 3 0

/-- The digest of the owner key; zeros without one (R397, R420). -/
def State.ownerDigest (s : State) : List Byte := if s.sector.owner.isEmpty then List.replicate 48 0 else sha384 s.sector.owner

def State.readLcs (s : State) (o : Nat) : Nat :=
  if o = 0x00 then s.lcsState
  else if o = 0x08 then s.lcsStatus
  else if o = 0x18 then s.lifeFrames
  else if o = 0x20 then s.ctl.logPage * 4096
  else if 0x40 ≤ o ∧ o < 0x60 then leAt s.ctl.nonce (o - 0x40) 8
  else if 0x60 ≤ o ∧ o < 0x90 then leAt s.ownerDigest (o - 0x60) 8
  else if 0x100 ≤ o ∧ o < 0x1E8 then leAt s.ctl.req (o - 0x100) 8
  else if 0x1000 ≤ o ∧ o < 0x2000 then leNat (s.logBytes (s.ctl.logPage * 4096 + (o - 0x1000)) 8)
  else 0

/-- FW_STATUS (R420). -/
def State.fwStatus (s : State) : Nat :=
  let c := s.ctl
  fieldAt s.sector.svnMin 8 40 + fieldAt c.stageResult 8 16 + flagAt c.recovery 7 + flagAt c.cfgLost 6 + flagAt c.fallback 5 +
    flagAt (c.stageBusy || c.storing.isSome) 4 + flagAt s.sector.activation 3 + flagAt s.sector.trial 2 +
    flagAt (s.img (!c.image)).valid 1 + flagAt c.image 0

/-- FW_VERSION_A or FW_VERSION_B (R420). -/
def State.fwVersion (s : State) (b : Bool) : Nat :=
  let x := s.img b
  fieldAt (imgSvn x.bytes) 16 32 + (if x.valid then imgVersion x.bytes else 0)

def State.readFw (s : State) (o : Nat) : Nat :=
  if o = 0x00 then s.fwStatus
  else if o = 0x10 then s.ctl.src
  else if o = 0x18 then s.ctl.size
  else if o = 0x20 then s.fwVersion false
  else if o = 0x28 then s.fwVersion true
  else 0

def State.readErr (s : State) (o : Nat) : Nat :=
  let e := s.err
  if o = 0x00 then flagAt e.stepFailed 2 + flagAt e.uncorrected 1 + flagAt e.record 0
  else if o = 0x08 then e.nextSeq
  else if 0x4000 ≤ o ∧ o < 0x8000 then leAt (Map.getD e.window ((o - 0x4000) / 64) []) ((o - 0x4000) % 64) 8
  else 0

/-! ## Reading 8 bytes (R424, R425) -/

/-- The 8 bytes at an aligned offset of BAR0; what no table names, or is not served, reads 0. -/
def State.readReg (s : State) (o : Nat) : Nat :=
  if !s.served o then 0
  else if o < 0x20000 then s.readGlb o
  else if o < 0x21000 then s.readFrm (o - 0x20000)
  else if 0x30000 ≤ o ∧ o < 0x32000 then s.readTileBlock (o - 0x30000)
  else if 0x100000 ≤ o ∧ o < 0x130000 then s.readGate ((o - 0x100000) / 0x1000) (o % 0x1000)
  else if 0x140000 ≤ o ∧ o < 0x170000 then s.readStrm ((o - 0x140000) / 0x1000) (o % 0x1000)
  else if 0x180000 ≤ o ∧ o < 0x181000 then s.readUpd (o - 0x180000)
  else if 0x190000 ≤ o ∧ o < 0x192000 then s.readLink (o - 0x190000)
  else if 0x1A0000 ≤ o ∧ o < 0x1A1000 then s.readHost (o - 0x1A0000)
  else if 0x1B0000 ≤ o ∧ o < 0x1B3000 then s.readPwr (o - 0x1B0000)
  else if 0x1C0000 ≤ o ∧ o < 0x1C1000 then s.readTst (o - 0x1C0000)
  else if 0x1D0000 ≤ o ∧ o < 0x1D2000 then s.readLcs (o - 0x1D0000)
  else if 0x1E0000 ≤ o ∧ o < 0x1E1000 then s.readFw (o - 0x1E0000)
  else if 0x1F0000 ≤ o ∧ o < 0x1F8000 then s.readErr (o - 0x1F0000)
  else 0

end Sys2Proof.Machine
end

