-- ==== Sys2Proof/Machine/HostOps.lean ====
section
/-! DEFINITION. What the host's accesses do: register writes, doorbells, the MSI-X table, the aperture, requests held
behind a doorbell, port resets (R14 to R17, R238, R320 to R331, R423 to R441). -/

namespace Sys2Proof.Machine

/-! ## A write of 4 or 8 bytes (R324) -/

/-- A 4-byte write at an offset changes its half of the 8-byte value. -/
def mergeWrite (o size v old : Nat) : Nat :=
  if size = 8 then v % 2 ^ 64
  else if o % 8 = 0 then old / 2 ^ 32 * 2 ^ 32 + v % 2 ^ 32
  else old % 2 ^ 32 + v % 2 ^ 32 * 2 ^ 32

def bitOf (v n : Nat) : Bool := v / 2 ^ n % 2 == 1

/-- Replaces bytes of a window. -/
def putAt (l : List Byte) (o : Nat) (new : List Byte) : List Byte := l.take o ++ new ++ l.drop (o + new.length)

/-- A BAR0 or BAR4 access of a wrong size or alignment (R324), or a head that would pass its tail (R440). -/
def State.badAccess (s : State) : State := { s with hostRegs := { s.hostRegs with badAccess := wrap64 (s.hostRegs.badAccess + 1) } }

/-! ## Heads of queues (R440) -/

/-- The value may become the head (R440). -/
def headOk (tail entries v : Nat) : Bool := decide ((tail + 2 ^ 32 - v % 2 ^ 32) % 2 ^ 32 ≤ entries)

def State.writeCqHead (s : State) (g v : Nat) : State :=
  let x := s.gate g
  if headOk x.cqTail x.cqEntries v then s.setGate g { x with cqHead := v % 2 ^ 32 } else s.badAccess

def State.writeScqHead (s : State) (v : Nat) : State :=
  let h := s.hostRegs
  if headOk h.scqTail h.scqEntries v then { s with hostRegs := { h with scqHead := v % 2 ^ 32 } } else s.badAccess

/-! ## Commands of registers -/

/-- GLB_PLAN_CTL (R428, R429). -/
def State.planCommand (s : State) (c : Nat) : State :=
  match c with
  | 1 => s.loadCommand
  | 2 => s.startCommand
  | 3 => s.stopCommand
  | _ => s

/-- LINK_MAP_CMD ARM (R305). -/
def State.armMap (s : State) : State :=
  if mapFails s.group.mapPend || s.plan.state == .running then s.linkStatus 4 fun g => { g with mapRefused := true }
  else { s with group := { s.group with armed := some s.group.mapPend } }

/-- LINK_CTL of a port: DISABLE is pending, RETRAIN acts at once (R297, R299). -/
def State.linkControl (s : State) (p v : Nat) (retrain : Bool) : State :=
  let s := s.modPort p fun x => { x with disablePend := x.disablePend.write s.clk.now (bitOf v 0) }
  if retrain then s.retrainPort p else s

/-! ## BAR0 (R14 to R17, R436 to R439) -/

/-- A write to GLB_: `m` merges with the old value, `c` is what is written. -/
def State.writeGlb (s : State) (b : Nat) (m : Nat → Nat) (c : Nat) : Outcome :=
  if b = 0x20 then .next { s with num := s.num &&& ~~~(BitVec.ofNat 8 (s.clearMask .num 7 c)) }
  else if b = 0x30 then
    if s.plan.state = .loading then .fault (.undefined .liveRegister)
    else .next { s with plan := { s.plan with base := m s.plan.base % 2 ^ 48 / 4096 * 4096 } }
  else if b = 0x38 then .next (s.planCommand (c % 4))
  else .next s

def State.writeFrm (s : State) (b : Nat) (m : Nat → Nat) (c : Nat) : State :=
  let f := s.frm
  if b = 0x10 then { s with frm := { f with miss := f.miss && !s.clears .frm 0 c, timeout := f.timeout && !s.clears .frm 3 c } }
  else if b = 0x38 then { s with frm := { f with holdLimitPend := f.holdLimitPend.write s.clk.now (m (f.holdLimitPend.get f.holdLimit) % 2 ^ 32) } }
  else s

def State.writeGate (s : State) (g b : Nat) (m : Nat → Nat) : State :=
  let x := s.gate g
  if b = 0x40 then s.setGate g { x with cqBasePend := x.cqBasePend.write s.clk.now (m (x.cqBasePend.get x.cqBase) % 2 ^ 48 / 32 * 32) }
  else if b = 0x48 then s.setGate g { x with cqEntriesPend := x.cqEntriesPend.write s.clk.now (m (x.cqEntriesPend.get x.cqEntries) % 2 ^ 32) }
  else if b = 0x50 then s.writeCqHead g (m x.cqHead)
  else s

/-- A write to a STRM_ page goes to the ring that STRM_SEL names (R437). -/
def State.writeStrm (s : State) (g b : Nat) (m : Nat → Nat) : State :=
  let y := s.gate g
  let x := y.ring y.strmSel
  if b = 0x00 then s.setGate g { y with strmSel := m y.strmSel % 1024 }
  else if b = 0x08 then s.setRing g y.strmSel { x with pendCmd := x.pendCmd.write s.clk.now (m (x.pendCmd.get 0) % 4) }
  else if 0x80 ≤ b ∧ b < 0xF8 then
    let d := x.pendDesc.get x.desc
    s.setRing g y.strmSel { x with
      pendDesc := x.pendDesc.write s.clk.now (putAt d (b - 0x80) (leBytes 8 (m (leAt d (b - 0x80) 8)))) }
  else s

def State.writeUpd (s : State) (b : Nat) (m : Nat → Nat) (c : Nat) : State :=
  let u := s.upd
  if b = 0x00 then
    let v := m (u.stepWord (u.pend.get (u.step, u.eta)))
    { s with upd := { u with pend := u.pend.write s.clk.now (v / 2 ^ 16 % 2 ^ 48, BitVec.ofNat 16 v) } }
  else if b = 0x08 then
    { s with upd := { u with
        mismatch := u.mismatch && !s.clears .upd 0 c
        blvdDrop := u.blvdDrop && !s.clears .upd 3 c
        stale := u.stale && !s.clears .upd 4 c
        slotWait := u.slotWait && !s.clears .upd 5 c } }
  else s

def State.writeLink (s : State) (b : Nat) (m : Nat → Nat) (c : Nat) : State :=
  let g := s.group
  if b = 0x10 then
    { s with group := { g with
        syncLost := g.syncLost && !s.clears .link 0 c
        peerResetSeen := g.peerResetSeen && !s.clears .link 1 c
        portChange := g.portChange && !s.clears .link 2 c
        mapCommitted := g.mapCommitted && !s.clears .link 3 c
        mapRefused := g.mapRefused && !s.clears .link 4 c } }
  else if b = 0x18 then (if bitOf c 0 then s.armMap else s)
  else if 0x100 ≤ b ∧ b < 0x200 then
    { s with group := { g with mapPend := putAt g.mapPend (b - 0x100) (leBytes 8 (m (leAt g.mapPend (b - 0x100) 8))) } }
  else if 0x1000 ≤ b ∧ b < 0x1400 ∧ b % 0x40 = 0x08 then
    let p := (b - 0x1000) / 0x40
    let x := s.port p
    s.linkControl p (m (flagAt (x.disablePend.get x.disable) 0)) (bitOf c 1)
  else s

def State.writeHost (s : State) (b : Nat) (m : Nat → Nat) : State :=
  let h := s.hostRegs
  if b = 0x00 then s.modHost 0 fun x => { x with aper := m x.aper % 2 ^ 48 / 2 ^ 30 * 2 ^ 30 }
  else if b = 0x08 then s.modHost 1 fun x => { x with aper := m x.aper % 2 ^ 48 / 2 ^ 30 * 2 ^ 30 }
  else if b = 0x10 then
    let v := m (h.scqBasePend.get (h.scqBase + h.scqPort))
    { s with hostRegs := { h with scqBasePend := h.scqBasePend.write s.clk.now (v / 64 * 64 + v % 2) } }
  else if b = 0x18 then { s with hostRegs := { h with scqEntriesPend := h.scqEntriesPend.write s.clk.now (m (h.scqEntriesPend.get h.scqEntries) % 2 ^ 32) } }
  else if b = 0x20 then s.writeScqHead (m h.scqHead)
  else s

/-- The fields of PWR_CAP in a written value (R342). -/
def PwrCap.ofWord (v : Nat) : PwrCap := ⟨v / 2 ^ 32 % 256, v / 2 ^ 24 % 256, v / 2 ^ 16 % 4, v % 2 ^ 16⟩

def State.writePwr (s : State) (b : Nat) (m : Nat → Nat) (c : Nat) : State :=
  let p := s.pwr
  if b = 0x00 then { s with pwr := { p with capPend := p.capPend.write s.clk.now (PwrCap.ofWord (m (p.capPend.get p.cap).word)) } }
  else if b = 0x20 then { s with pwr := { p with events := p.events &&& ~~~(BitVec.ofNat 64 (s.clearMask .pwr 8 c)) } }
  else s

def State.writeTst (s : State) (b : Nat) (m : Nat → Nat) (c : Nat) : Outcome :=
  let x := s.tst
  if b = 0x00 then .next (s.testCommand (c % 4))
  else if b = 0x10 ∨ b = 0x18 then
    if x.busy then .fault (.undefined .liveRegister)
    else if b = 0x10 then
      let v := m x.target
      .next { s with tst := { x with patterns := v / 2 ^ 32, mode := v / 2 ^ 16 % 256, wide := bitOf v 15, tile := v % 2 ^ 15 } }
    else .next { s with tst := { x with seed := m x.seed } }
  else .next s

def State.writeLcs (s : State) (b : Nat) (m : Nat → Nat) (c : Nat) : State :=
  if b = 0x10 then (if bitOf c 0 then s.submit s.ctl.req else s)
  else if b = 0x20 then { s with ctl := { s.ctl with logPage := m (s.ctl.logPage * 4096) / 4096 % 2 ^ 14 } }
  else if 0x100 ≤ b ∧ b < 0x1E8 then
    { s with ctl := { s.ctl with req := putAt s.ctl.req (b - 0x100) (leBytes 8 (m (leAt s.ctl.req (b - 0x100) 8))) } }
  else s

def State.writeFw (s : State) (b : Nat) (m : Nat → Nat) (c : Nat) : State :=
  if b = 0x00 then { s with ctl := { s.ctl with fallback := s.ctl.fallback && !s.clears .fw 5 c } }
  else if b = 0x08 then s.fwCommand (c % 8)
  else if b = 0x10 then { s with ctl := { s.ctl with src := m s.ctl.src % 2 ^ 48 / 4096 * 4096 } }
  else if b = 0x18 then { s with ctl := { s.ctl with size := m s.ctl.size % 2 ^ 32 } }
  else s

def State.writeErr (s : State) (b c : Nat) : State :=
  let e := s.err
  if b = 0x00 then
    { s with err := { e with
        record := e.record && !s.clears .err 0 c
        uncorrected := e.uncorrected && !s.clears .err 1 c
        stepFailed := e.stepFailed && !s.clears .err 2 c } }
  else s

/-- A write to BAR0 (R324, R424): a wrong size or alignment is counted; what is not served is discarded. -/
def State.writeReg (s : State) (o size v : Nat) : Outcome :=
  let b := o / 8 * 8
  let m := mergeWrite o size v
  let c := m 0
  if (size ≠ 4 ∧ size ≠ 8) ∨ o % size ≠ 0 then .next s.badAccess
  else if !s.served b then .next s
  else if b < 0x20000 then s.writeGlb b m c
  else if b < 0x21000 then .next (s.writeFrm (b - 0x20000) m c)
  else if 0x100000 ≤ b ∧ b < 0x130000 then .next (s.writeGate ((b - 0x100000) / 0x1000) (b % 0x1000) m)
  else if 0x140000 ≤ b ∧ b < 0x170000 then .next (s.writeStrm ((b - 0x140000) / 0x1000) (b % 0x1000) m)
  else if 0x180000 ≤ b ∧ b < 0x181000 then .next (s.writeUpd (b - 0x180000) m c)
  else if 0x190000 ≤ b ∧ b < 0x192000 then .next (s.writeLink (b - 0x190000) m c)
  else if 0x1A0000 ≤ b ∧ b < 0x1A1000 then .next (s.writeHost (b - 0x1A0000) m)
  else if 0x1B0000 ≤ b ∧ b < 0x1B3000 then .next (s.writePwr (b - 0x1B0000) m c)
  else if 0x1C0000 ≤ b ∧ b < 0x1C1000 then s.writeTst (b - 0x1C0000) m c
  else if 0x1D0000 ≤ b ∧ b < 0x1D2000 then .next (s.writeLcs (b - 0x1D0000) m c)
  else if 0x1E0000 ≤ b ∧ b < 0x1E1000 then .next (s.writeFw (b - 0x1E0000) m c)
  else if 0x1F0000 ≤ b ∧ b < 0x1F8000 then .next (s.writeErr (b - 0x1F0000) c)
  else .next s

/-! ## BAR4 (R326) -/

/-- A dword of the MSI-X table: only the mask bit of a vector control is kept; addresses are dword aligned. -/
def msixDword (i v : Nat) : Nat := if i % 4 = 3 then v % 2 else if i % 4 = 0 then v % 2 ^ 32 / 4 * 4 else v % 2 ^ 32

def HostPort.setDword (h : HostPort) (i v : Nat) : HostPort := { h with table := Map.set h.table i (msixDword i v) }

/-- A write to BAR4. -/
def State.writeBar4 (s : State) (port o size v : Nat) : State :=
  let v := v % 2 ^ (8 * size)
  if (size ≠ 4 ∧ size ≠ 8) ∨ o % size ≠ 0 then s.badAccess
  else if o < 0x300000 then
    let g := o / 0x10000
    let k := o % 0x10000
    if o % 8 ≠ 0 then s
    else if k < 0x2000 then s.doorbell port g (k / 8) (v % 2 ^ 32)
    else if k = 0x2000 then s.writeCqHead g (v % 2 ^ 32)
    else s
  else if o = 0x300000 then s.writeScqHead (v % 2 ^ 32)
  else if 0x380000 ≤ o ∧ o < 0x388000 then
    let i := (o - 0x380000) / 4
    let s := s.modHost port fun h => if size = 8 then (h.setDword i (v % 2 ^ 32)).setDword (i + 1) (v / 2 ^ 32) else h.setDword i v
    s.sendPending port
  else s

/-! ## Reads of BAR0 and BAR4 (R324, R326)

No row of the table carries such a read: these are the values that it returns (log 77). -/

/-- A dword of the MSI-X table; an entry is masked until written (log 11). -/
def HostPort.dword (h : HostPort) (i : Nat) : Nat := Map.getD h.table i (if i % 4 = 3 then 1 else 0)

/-- The 8 bytes at an aligned offset of BAR4 (R326). -/
def State.readBar4 (s : State) (port b : Nat) : Nat :=
  let h := s.hostPort port
  if b < 0x300000 then
    let x := s.gate (b / 0x10000)
    let k := b % 0x10000
    if k < 0x2000 then
      let r := x.ring (k / 8)
      fieldAt r.consumed 32 32 + fieldAt r.announced 32 0
    else if k = 0x2000 then fieldAt x.cqTail 32 32 + fieldAt x.cqHead 32 0
    else 0
  else if b = 0x300000 then fieldAt s.hostRegs.scqTail 32 32 + fieldAt s.hostRegs.scqHead 32 0
  else if 0x380000 ≤ b ∧ b < 0x388000 then h.dword ((b - 0x380000) / 4 + 1) * 2 ^ 32 + h.dword ((b - 0x380000) / 4)
  else if 0x388000 ≤ b ∧ b < 0x388100 then
    ((List.range 64).map fun i => flagAt (h.pba.contains (8 * (b - 0x388000) + i)) i).sum
  else 0

/-- A read of BAR0 or BAR4 of 4 or 8 bytes: its value; one of a wrong size or alignment gives 0 and is counted (R324). -/
def State.hostRead (s : State) (port bar o size : Nat) : Nat × State :=
  if (size ≠ 4 ∧ size ≠ 8) ∨ o % size ≠ 0 then (0, s.badAccess)
  else
    let v := if bar = 0 then s.readReg (o / 8 * 8) else s.readBar4 port (o / 8 * 8)
    (v / 2 ^ (8 * (o % 8)) % 2 ^ (8 * size), s)

/-! ## The aperture (R251, R263, R325, R404) -/

/-- The stack address of an aperture offset (R325). -/
def State.apertureAddr (s : State) (port off : Nat) : Nat := (s.hostPort port).aper + off

/-- A request lies in BAR2 and crosses no 4 KiB boundary (R325). -/
def apertureFits (off len : Nat) : Bool := decide (0 < len) && decide (off % 4096 + len ≤ 4096) && decide (off + len ≤ 2 ^ 33)

/-- The gate that an access outside every populated part counts at (R251). -/
def apertureGate (a : Nat) : Nat := min (ownerGate a) 47

/-- The access is outside every populated part, or in the slice of a FAILED stack (R251, R264). -/
def State.apertureVoid (s : State) (a : Nat) : Bool := !populated a || (s.gate (ownerGate a)).stackState == .failed

/-- The stack is not in use yet, or under a wipe: reads give 0x00 and writes are discarded (R263, log 32). -/
def State.apertureBlank (s : State) (a : Nat) : Bool :=
  let st := s.stackPhase (ownerGate a)
  st == .wipe || st == .off || st == .init

def State.countAddr (s : State) (a : Nat) : State := s.modGate (apertureGate a) fun x => { x with addrErr := satAdd x.addrErr 1 }

/-- Byte i of a number's little-endian form. -/
def byteOf (v i : Nat) : Byte := BitVec.ofNat 8 (v / 256 ^ i)

/-- A read of populated stack space: its bursts' report, and their bytes; those of an uncorrectable burst are free values
(R257, R445, log 33). -/
def State.apertureLoad (s : State) (port a len : Nat) (ecc : EccReport) : State :=
  let y := s.stackLoad a len ecc false
  y.1.emit (.apertureData port (y.2.bytes a len))

/-- A BAR2 read (R325); it waits while the stack is in self refresh (R357, log 34). -/
def State.apertureRead (s : State) (port off len : Nat) (ecc : EccReport) : State :=
  let a := s.apertureAddr port off
  let blank := Out.apertureData port (List.replicate len 0)
  if !apertureFits off len then s
  else if s.ctl.recovery then s.emit (if off + len ≤ 2 ^ 26 then .apertureData port (s.ctl.buffer.bytes off len) else blank)
  else if s.apertureVoid a then (s.countAddr a).emit blank
  else if s.apertureBlank a then s.emit blank
  else if s.stackNow (ownerGate a) = .selfRefresh then s
  else s.apertureLoad port a len ecc

/-- The bytes that byte enables select, with their addresses. -/
def enabled (a : Nat) (data : List (Option Byte)) : List (Nat × Byte) :=
  ((List.range data.length).zip data).filterMap fun p => p.2.map fun b => (a + p.1, b)

/-- A write with byte enables: a burst written whole is clean again (R257). -/
def State.apertureStore (s : State) (a : Nat) (data : List (Option Byte)) : State :=
  { s with
    stack := s.stack.writeList (enabled a data)
    stackUe := s.stackUe.filter fun b => !(coversBurst a data.length b && ((data.drop (32 * b - a)).take 32).all Option.isSome) }

/-- A BAR2 write (R32, R251, R263, R325, R453). -/
def State.apertureWrite (s : State) (port off : Nat) (data : List (Option Byte)) (poisoned : Bool) : Outcome :=
  let a := s.apertureAddr port off
  if !apertureFits off data.length then .next s
  else if poisoned then .next (s.emit (.poisoned port))
  else if s.ctl.recovery then
    .next (if off + data.length ≤ 2 ^ 26 then { s with ctl := { s.ctl with buffer := s.ctl.buffer.writeList (enabled off data) } } else s)
  else if s.runActive then .fault (.undefined .apertureWrite)
  else if s.apertureVoid a then .next (s.countAddr a)
  else if s.apertureBlank a || s.stackNow (ownerGate a) == .selfRefresh then .next s
  else .next (s.apertureStore a data)

/-! ## Configuration writes (R321, R329, R330) -/

def HostPort.configure (h : HostPort) : CfgOp → HostPort
  | .d3hot x => { h with d3 := x }
  | .busMaster x => { h with busMaster := x }
  | .memorySpace x => { h with memSpace := x }
  | .msix e m => { h with msixEnable := e, functionMask := m }
  | .maxRead n => if [128, 256, 512, 1024, 2048, 4096].contains n then { h with maxRead := n } else h

/-! ## Requests in order (R320, R324, R327) -/

/-- A request reaches the module's registers and stacks; memory requests need Memory Space Enable and D0 (R321). -/
def State.applyAccess (s : State) (port : Nat) (i : Instr) : Outcome :=
  let h := s.hostPort port
  let mem := fun (o : Outcome) => if h.d3 || !h.memSpace then Host.Outcome.next (s.emit (.unsupported port)) else o
  match i with
  | .registerWrite _ bar off size v =>
    mem (if bar = 0 then (if off < 2 ^ 26 then s.writeReg off size v else .next s)
         else if bar = 4 ∧ off < 2 ^ 22 then .next (s.writeBar4 port off size v)
         else .next s)
  | .apertureRead _ off len ecc => mem (.next (s.apertureRead port off len ecc))
  | .apertureWrite _ off data poisoned => mem (s.apertureWrite port off data poisoned)
  | .pcieConfigWrite _ op => .next ((s.modHost port fun h => h.configure op).sendPending port)
  | _ => .next s

/-- A request of the host on a port: it waits behind a held doorbell write, and otherwise acts (R327). -/
def State.hostAccess (s : State) (port : Nat) (i : Instr) : Outcome :=
  let h := s.hostPort port
  if 2 ≤ port ∨ !h.linkUp then .next s
  else if h.held.isSome then .next (s.setHost port { h with waiting := h.waiting ++ [i] })
  else s.applyAccess port i

/-- Requests that waited act in order, until another doorbell write is held. -/
def State.replay (port : Nat) : List Instr → State → Outcome
  | [], s => .next s
  | i :: rest, s =>
    match s.applyAccess port i with
    | .next t =>
      if (t.hostPort port).held.isSome then .next (t.modHost port fun h => { h with waiting := rest })
      else State.replay port rest t
    | o => o

/-- The held doorbell write of a port ends: its credit is released and the requests behind it act. -/
def State.releaseHeld (s : State) (port : Nat) : Outcome :=
  let l := (s.hostPort port).waiting
  State.replay port l (s.modHost port fun h => { h with held := none, waiting := [] })

/-- The host writes a register of BAR0 with one 8-byte access. -/
def State.hostWrite8 (s : State) (port o v : Nat) : Outcome := s.hostAccess port (.registerWrite port 0 o 8 v)

/-! ## Port reset (R320) -/

/-- A ring waits for a translation on the port. -/
def State.asksOn (s : State) (p g r : Nat) : Bool :=
  let x := s.gate g
  match (x.ring r).arming with
  | some a =>
    (x.ring r).state == .active && a.d.ats && a.d.hostPort == p &&
    (match x.nextHost r with
     | some c => x.transAsked.contains (a.d.key c.xfer.addr)
     | none => false)
  | none => false

/-- Outstanding requests on a port fail: the rings that they serve enter ERROR with status HOST (R320, R237). -/
def State.failRequests (s : State) (p : Nat) : State :=
  let asking := s.allRings.filter fun x => s.asksOn p x.1 x.2
  let reads := s.gates.flatMap fun x => (x.2.hostFlights.filter fun h => h.port == p).map fun h => (x.1, h)
  let s := reads.foldl (fun s x => s.hostFails x.1 x.2) s
  let s := asking.foldl (fun s x => if (s.ring x.1 x.2).state = .error then s else s.ringError x.1 x.2 6) s
  { s with gates := Map.mapVals (fun _ (x : Gate) => { x with
      trans := x.trans.filter fun t => t.1 != p
      transAsked := x.transAsked.filter fun t => t.1 != p }) s.gates }

/-- The function of a port is reset (R320): held writes, what waits, the configuration, the aperture and MSI-X. -/
def State.resetPort (s : State) (p : Nat) : State := (s.failRequests p).setHost p HostPort.reset

end Sys2Proof.Machine
end

