-- ==== Sys2Proof/Machine/Control.lean ====
section
/-! DEFINITION. The commands of plans, firmware, configuration, life cycle and the test engine (R36, R145 to R147,
R400 to R412, R418, R434, R474). -/

namespace Sys2Proof.Machine

/-! ## Plans -/

/-- LOAD (R145). -/
def execLoad (port : Nat) (s : State) : Outcome := s.hostWrite8 port 0x38 1
/-- START (R146). -/
def execStart (port : Nat) (s : State) : Outcome := s.hostWrite8 port 0x38 2
/-- STOP (R147). -/
def execStop (port : Nat) (s : State) : Outcome := s.hostWrite8 port 0x38 3

/-- The checks of a loading image end (R145, R474). -/
def execPlanLoadComplete (s : State) (ecc : EccReport := cleanReport) : Outcome :=
  .next (if s.plan.state = .loading then s.loadComplete ecc else s)

/-! ## Firmware and configuration -/

/-- A pending change of the live map is written to the stored map (R36, R402). -/
def execMapStore (s : State) : Outcome := .next (if s.dawn.powered then s.storeMap else s)

/-- FW_CMD STAGE (R400). -/
def execStage (port : Nat) (s : State) : Outcome := s.hostWrite8 port 0x1E0008 1
/-- Programming and read-back of an image end (R400, R404). -/
def execStageComplete (flashOk : Bool) (s : State) (ecc : EccReport := cleanReport) : Outcome :=
  .next (if s.ctl.stageBusy then s.stageDone flashOk ecc else s)
/-- FW_CMD ACTIVATE (R402). -/
def execActivate (port : Nat) (s : State) : Outcome := s.hostWrite8 port 0x1E0008 2
/-- FW_CMD CONFIRM (R402). -/
def execConfirm (port : Nat) (s : State) : Outcome := s.hostWrite8 port 0x1E0008 3
/-- FW_CMD REVERT (R402). -/
def execRevert (port : Nat) (s : State) : Outcome := s.hostWrite8 port 0x1E0008 4
/-- FW_CMD CFG_STORE (R406). -/
def execCfgStore (port : Nat) (s : State) : Outcome := s.hostWrite8 port 0x1E0008 5
/-- The NVM write of a record ends (R406). -/
def execCfgStoreComplete (flashOk : Bool) (s : State) (ecc : EccReport := cleanReport) : Outcome :=
  .next (s.cfgStoreDone flashOk ecc)

/-! ## Life cycle (R408, R409) -/

/-- LCS_CMD SUBMIT with a request of an operation in the LCS_REQ window. -/
def State.submitOp (s : State) (port op : Nat) : Outcome :=
  if reqOp s.ctl.req = op then s.hostWrite8 port 0x1D0010 1 else .next s

/-- FINISH. -/
def execLcFinish (port : Nat) (s : State) : Outcome := s.submitOp port 1
/-- CLAIM. -/
def execLcClaim (port : Nat) (s : State) : Outcome := s.submitOp port 2
/-- LOCK. -/
def execLcLock (port : Nat) (s : State) : Outcome := s.submitOp port 3
/-- UNLOCK. -/
def execLcUnlock (port : Nat) (s : State) : Outcome := s.submitOp port 4
/-- SHIP. -/
def execLcShip (port : Nat) (s : State) : Outcome := s.submitOp port 5
/-- RECEIVE. -/
def execLcReceive (port : Nat) (s : State) : Outcome := s.submitOp port 6
/-- TRANSFER. -/
def execLcTransfer (port : Nat) (s : State) : Outcome := s.submitOp port 7
/-- RELEASE. -/
def execLcRelease (port : Nat) (s : State) : Outcome := s.submitOp port 8
/-- RETURN. -/
def execLcReturn (port : Nat) (s : State) : Outcome := s.submitOp port 9
/-- RESTOCK. -/
def execLcRestock (port : Nat) (s : State) : Outcome := s.submitOp port 10
/-- SCRAP. -/
def execLcScrap (port : Nat) (s : State) : Outcome := s.submitOp port 11
/-- CFG_AUTH. -/
def execLcCfgAuth (port : Nat) (s : State) : Outcome := s.submitOp port 12
/-- FW_AUTH. -/
def execLcFwAuth (port : Nat) (s : State) : Outcome := s.submitOp port 13

/-- The stack wipe of a life-cycle change ends: a stack whose wipe failed loses its power for 2 s and is wiped again before the
change ends; then the change's last steps, and READY at the next tick where no compute reset holds it (R262, R264, R410,
R421). -/
def execLifecycleWipeDone (failed : List Nat) (s : State) : Outcome :=
  match s.ctl.change with
  | none => .next s
  | some t =>
    if s.pwr.coolStop || s.dawn.modReset || s.runActive then .next s
    else
      let wiped := (List.range nGates).filter fun g => (s.gate g).stackState == .wipe
      let s := wiped.foldl (fun s g => if failed.contains g then s.stackPowerOff g else s.stackUp g) s
      if s.stacksReady then
        let bad := s.failedStacks
        let s := s.finishChange t bad bad.isEmpty
        .next { s with dawn := { s.dawn with release := !s.dawn.cmpPin } }
      else .next s

/-! ## The test engine (R433, R434) -/

/-- TST_CMD RUN. -/
def execTstRun (port : Nat) (s : State) : Outcome := s.hostWrite8 port 0x1C0000 1
/-- TST_CMD REFURB. -/
def execTstRefurb (port : Nat) (s : State) : Outcome := s.hostWrite8 port 0x1C0000 2
/-- TST_CMD ABORT. -/
def execTstAbort (port : Nat) (s : State) : Outcome := s.hostWrite8 port 0x1C0000 3

/-- A RUN or a REFURB ends (R418, R434). -/
def execTestComplete (res : TestResult) (s : State) : Outcome :=
  .next (if !s.tst.busy then s else if s.tst.refurb then s.refurbDone res else s.runDone res)

end Sys2Proof.Machine
end

