-- ==== Sys2Proof/Machine/Dawn.lean ====
section
/-! DEFINITION. The commands of Dawn's stages, to READY (R259, R262 to R264, R367 to R383). -/

namespace Sys2Proof.Machine

/-- A wave of six regions ends: each begins 70 ms after the one before, after a pause at its waves' start (R369, R370, R391). -/
def execDawnWave (w : Nat) (tests : List RegionTest) (s : State) : Outcome :=
  let d := s.dawn
  if s.dawnGoes ∧ w = d.nextWave ∧ w < 14 ∧ !s.pwr.night ∧
      max (d.started + wallMs (80 + 70 * w)) d.waveFrom + wallMs 70 ≤ s.clk.wall then
    let s := (waveRegions w).foldl (fun s r => s.waveRegion tests r) s
    .next { s with dawn := { s.dawn with nextWave := w + 1, waveFrom := s.clk.wall, stageEnd := s.clk.wall } }
  else .next s

/-- A region repeats its wave after wave 13 (R375). -/
def execWaveRepeat (test : RegionTest) (s : State) : Outcome :=
  let d := s.dawn
  if s.dawnGoes ∧ d.nextWave = 14 ∧ d.repeats.contains test.region ∧ !s.pwr.night ∧ d.waveFrom + wallMs 70 ≤ s.clk.wall then
    let s := s.testRegion test true
    .next { s with dawn := { s.dawn with repeats := s.dawn.repeats.filter fun r => r != test.region } }
  else .next s

/-- The interconnect test ends: failed segments, frontage tiles and sync parts are marked; nothing of a region that has
lost its thoroughfare is tested (R379). -/
def execInterconnectTest (res : InterconnectResult) (s : State) : Outcome :=
  let d := s.dawn
  if s.dawnGoes ∧ s.wavesDone ∧ !d.interconnect ∧ d.started + wallMs 1060 ≤ s.clk.wall then
    let s :=
      if s.sector.state = .scrap then s
      else
        let segs := res.segments.filter segmentOk
        let rims := res.rims.filter fun t => decide (t < nTiles) && !s.thoroughfareLost (regionOf t)
        let syncs := res.syncs.filter fun r => decide (r < nRegions) && !s.thoroughfareLost r
        let s := s.mapDawn (segs.map fun p => .segment (32768 * p.1 + p.2))
        let s := s.mapDawn ((rims.flatMap fun t => ((List.range 12).filterMap (segmentOf t))).map fun g => .segment (segKey g))
        (s.dawnDead rims 1).dawnDead (syncs.flatMap tilesOfRegion) 1
    .next { s with dawn := { s.dawn with interconnect := true, stageEnd := s.clk.wall } }
  else .next s

/-- A region's retention read-back ends: repairs with the retention flag, boulevard links, the deck wipe (R378, R379). -/
def execRetentionReadback (r : Nat) (res : RetentionResult) (s : State) : Outcome :=
  let due : Bool := match Map.find? s.dawn.waveEnd r with
    | some w => decide (w + wallMs 1300 ≤ s.clk.wall)
    | none => false
  if s.dawnGoes ∧ s.ctl.retention ∧ !s.dawn.readBack.contains r ∧ !s.isDark r ∧ due then
    let s :=
      if s.sector.state = .scrap then s
      else
        let ts := (tilesOfRegion r).filter fun t => (res.cells.any fun c => c.1 == t) && !s.storedMap.tileDead t
        let s := ts.foldl (fun s t => s.repairTile t ((res.cells.filter fun c => c.1 == t).map (·.2)) true) s
        let others := res.links.filter fun x => decide (x < nRegions)
        if res.links.isEmpty then s else (s.dawnDead (tilesOfRegion r) 1).dawnDead (others.flatMap tilesOfRegion) 1
    let s := if res.wipeFail then s.wipeFails r else s
    .next { s with dawn := { s.dawn with readBack := s.dawn.readBack ++ [r], stageEnd := s.clk.wall } }
  else .next s

/-- The 2 s of a region's power-off, which begin with the final stage, end: its tiles are dead (R378). -/
def execRegionPowerOffExpiry (r : Nat) (s : State) : Outcome :=
  let d := s.dawn
  if s.dawnGoes ∧ d.powerOff.contains r ∧ s.stagesDone ∧
      max d.stageEnd (d.started + wallMs 1500) + wallMs 2000 ≤ s.clk.wall then
    let s := s.dawnDead (tilesOfRegion r) 1
    .next { s with dawn := { s.dawn with powerOff := s.dawn.powerOff.filter fun x => x != r } }
  else .next s

/-- Listed rows are repaired by hard repair and leave the list; those without a spare stay (R259). -/
def State.repairRows (s : State) (g : Nat) (init : StackInit) : State :=
  let l := s.listed g
  let keep := (l.filter fun e => init.noSpare.contains e.1).map fun e => (e.1, e.2.1, true)
  let s := { s with log := { s.log with rows := Map.set s.log.rows g keep } }
  let s := (l.filter fun e => !init.noSpare.contains e.1).foldl (fun s e => s.logRow g e 1) s
  let s := keep.foldl (fun s e => s.logRow g e 2) s
  s.modGate g fun x => { x with pprLeft := init.pprLeft, pprExhausted := !keep.isEmpty }

/-- A stack ends its sequence with its wipe: READY with every byte 0; one whose wipe failed loses its power for 2 s, and a second
time is FAILED (R262 to R264). -/
def execStackReady (g : Nat) (init : StackInit) (s : State) : Outcome :=
  let x := s.gate g
  if s.stacksGo ∧ g < nGates ∧ x.stackState = .off ∧ s.stackPhase g = .wipe then
    let s := if x.reinit.isSome ∨ s.sector.state = .scrap then s else s.repairRows g init
    let s := { s with dawn := { s.dawn with stageEnd := s.clk.wall } }
    if init.wipeOk then .next (s.stackUp g)
    else if x.reinit.isSome then .next (s.modGate g fun x => { x with stackState := .failed, reinit := none })
    else .next (s.stackPowerOff g)
  else .next s

/-- The 2 s without power end: the stack is initialised and wiped again, or is FAILED where it does not come up (R264, log 95). -/
def execStackPowerCycleExpiry (g : Nat) (initOk : Bool) (s : State) : Outcome :=
  match (s.gate g).powerOffUntil with
  | none => .next s
  | some w =>
    if s.stacksGo ∧ w ≤ s.clk.wall then
      if initOk then
        .next (s.modGate g fun x => { x with
          powerOffUntil := none, reinit := some s.clk.wall, debt := 0, debtAt := s.clk.wall + wallMs 140 })
      else
        .next (({ s with dawn := { s.dawn with stageEnd := s.clk.wall } } : State).modGate g fun x => { x with
          powerOffUntil := none, stackState := .failed, reinit := none })
    else .next s

/-- The final stage: the map is closed, the Dawn record written, BIST_DONE set, and a change that a power loss or a reset
interrupted is completed (R380, R412). -/
def execDawnFinalStage (s : State) : Outcome :=
  if s.dawnGoes ∧ s.stagesDone ∧ s.dawn.powerOff.isEmpty ∧ s.sector.state ≠ .scrap then
    let s := s.settleMap
    let d := s.dawn
    let failed := s.failedStacks
    let down := (List.range 16).foldl (fun a p => if s.portIsUp p then a else a + 2 ^ p) 0
    let s := { s with dawn := { d with on := false, bistDone := true, belowFloor := !s.map.meetsFloor } }
    let s := s.logRecord 1 (leBytes 2 d.newDead ++ leBytes 2 d.newSlow ++ leBytes 2 (min d.newRepairs 65535) ++
      leBytes 2 (min d.retentionRepairs 65535) ++ leBytes 6 (stackMask failed) ++ leBytes 2 down ++ leBytes 4 s.map.gen ++
      [BitVec.ofNat 8 (Config.resetCause d.resetCause)])
    match s.sector.pending with
    | some t => .next (s.finishChange t failed (failed.isEmpty && !d.wipeBad))
    | none => .next s
  else .next s

/-- READY: the three conditions hold and no compute reset does; the map is final; vector 7, and vector 4 after a fallback; the
spines start at the next tick (R37, R328, R382, R389, R403, log 94). -/
def execReadyReached (s : State) : Outcome :=
  let d := s.dawn
  if d.powered ∧ d.bistDone ∧ s.stacksReady ∧ s.trainDone ∧ !d.cmpReset ∧ !d.cmpPin ∧ !d.firstReady ∧ !d.modReset then
    let s := s.mergeMap
    let s := { s with dawn := { s.dawn with ready := true, firstReady := true, release := true } }
    let s := s.raiseVector vecReady
    .next (if d.fellBack then s.raiseVector vecFirmware else s)
  else .next s

end Sys2Proof.Machine
end

