-- ==== Sys2Proof/Machine/Operands.lean ====
section
/-! DEFINITION. How a command of a tile finds its instruction: the conditions of issue, fetch and opcode, and what follows
an issue (R91, R122, R124 to R128, R141). -/

namespace Sys2Proof.Machine

/-- The tile's compute clocks run in a frame of a run (R125, R146, R193, R219). -/
def State.tileRuns (s : State) (t : Nat) : Bool :=
  decide (t < nTiles) && s.tileClocked t && s.runActive && !s.frm.originWait

/-- Opcodes of the instruction set (R128). -/
def opcodes : List Nat :=
  [0x00, 0x01, 0x02, 0x03, 0x04, 0x05, 0x06, 0x08, 0x09, 0x0A, 0x0B, 0x0C, 0x0D, 0x0E, 0x0F, 0x10, 0x18, 0x19, 0x1A, 0x1B,
   0x1C, 0x1D, 0x20, 0x21, 0x22, 0x23, 0x24, 0x25, 0x26, 0x28, 0x29, 0x2A, 0x2B, 0x2C, 0x30, 0x31]

/-- The region of the tile that last reached its frame wait (R203). -/
def State.noteWait (s : State) (t : Nat) : State :=
  if (s.getTile t).owesWait then s else { s with frm := { s.frm with lastWait := some (regionOf t) } }

/-- What follows an issued instruction: the tile, its reports, the frame wait and the barriers. -/
def State.finishIssue (s : State) (t : Nat) (x : Tile) (n : Notes) : State := ((s.putTile t x n).noteWait t).noteBarriers

/-- Runs the instruction at a tile's PC when it has the given opcode and may issue now; otherwise nothing happens yet.
An uncorrectable program word stops the sequencer (R91); an opcode that is not listed is undefined behaviour (R141). -/
def State.runTile (s : State) (t op : Nat) (a : Access) (issue : Tile → Nat → Issue) : Outcome :=
  let y := s.tileNow t a.upsets
  let x := y.1
  if !s.tileRuns t || x.wait != .none || decide (s.clk.now < x.nextIssue) then .next s
  else
    let fetch := (List.range 8).map (8 * x.pc + ·)
    if anyBad x.stagingUe fetch then
      .next (s.finishIssue t { x with wait := .stopped } (y.2.add (x.stagingNotes fetch)))
    else
      let w := x.instrAt x.pc
      if !opcodes.contains (fld w 63 56) then .fault (.undefined .reservedEncoding)
      else if fld w 63 56 ≠ op then .next s
      else
        match issue x w with
        | .held => .next s
        | .undef u => .fault (.undefined u)
        | .done x' n => .next (s.finishIssue t x' ((y.2.add (x.stagingNotes fetch)).add n))

/-- The tile is a member of a domain (R134, R198). -/
def State.isMember (s : State) (t d : Nat) : Bool :=
  match s.image? t with
  | some i => i.member d
  | none => false

end Sys2Proof.Machine
end

