-- ==== Sys2Proof/Machine/Frame.lean ====
section
/-! DEFINITION. The commands of the frame: its end, its tick, the hold limit, the origin wait, aging, the log's summary
(R24, R189, R205, R219, R340, R413). -/

namespace Sys2Proof.Machine

/-- Cycle FRAME_LEN of the frame: lines in flight are discarded and the rings that hold the tick are missed (R189, R202). -/
def execFrameEnd (s : State) : Outcome :=
  if s.dawn.powered && !s.frm.ended && decide (s.frm.lenNow ≤ s.clk.cycle) then
    .next ({ s.discardFlights with frm := { s.discardFlights.frm with ended := true } } : State).logMisses
  else .next s

/-- An event detected in this cycle fails the step while the tick is held past its due cycle: the tick is that of the cycle
after (R206, R449). -/
def State.justFailed (s : State) : Bool :=
  decide (s.dueCycle < s.clk.cycle) && s.err.frame.any fun r => r.fails && r.cycle == s.clk.now

/-- The tick can take place but for its hold sources: power, and the time that FSYNC has fixed, or the frame's end and the due
cycle (R201, R306). -/
def State.tickReady (s : State) : Bool :=
  s.dawn.powered && !s.frm.originWait && !s.sliceLate && !s.justFailed &&
  (match s.group.tickAt with
   | some w => s.grouped && decide (w ≤ s.clk.wall)
   | none => s.frm.ended && s.tickDue)

/-- A run begins whose plan uses a dead tile, by the map that the tick leaves (R45, R46). -/
def State.startsDead (s t : State) : Bool :=
  !s.runActive && t.runActive && (match t.plan.plan with
    | some p => t.deadUse p
    | none => false)

/-- The tick takes place, unless it meets undefined behaviour; lines in flight are discarded first where the frame's end has
not come (R24, R46, R189, R214, R306). -/
def State.tickOutcome (s : State) (tel : Telemetry) : Outcome :=
  let t := (if s.frm.ended then s else s.discardFlights).tick tel
  if s.startsDead t then .fault (.undefined .deadTile)
  else if t.areasOverlap then .fault (.undefined .bufferOverlap)
  else .next t

/-- The frame tick, once no hold source is active (R24, R201). -/
def execFrameTick (tel : Telemetry) (s : State) : Outcome :=
  let z := s.syncTiles
  if z.tickReady && z.holdMask == 0 then z.tickOutcome tel else .next s

/-- The hold limit in µs as it acts (R205). -/
def Frm.limitUs (f : Frm) : Nat := max 20000 f.holdLimit

/-- The tick has been held for the limit (R205). -/
def State.timedOut (s : State) : Bool :=
  (s.tickReady || s.frm.originWait) && s.heldSources != 0 && s.frm.holdLimit != 0 &&
  (match s.frm.dueAt with
   | some w => decide (w + wallUs s.frm.limitUs ≤ s.clk.wall)
   | none => false)

/-- Cycle 0 of an origin frame begins (R219). -/
def State.releaseOrigin (s : State) : State :=
  let s := { s with frm := { s.frm with
    originWait := false
    dueAt := none
    openMiss := []
    holdUnit := missUnit (worstMiss s.frm.missLog (s.frm.count - 1)) } }
  (List.range 16).foldl State.emitEofs s.markAllGo.handBlocks

/-- The hold limit ends the hold: HOLD_TIMEOUT, a record, the tick, and the step fails at it (R205, R449). -/
def execHoldTimeout (tel : Telemetry) (s : State) : Outcome :=
  let z := s.syncTiles
  if z.timedOut then
    let y := (({ z with frm := { z.frm with timeout := true } } : State).noteSet .frm 3).addError (.holdTimeout z.heldSources z.frm.holdLimit) true
    if z.frm.originWait then .next y.releaseOrigin else y.tickOutcome tel
  else .next s

/-- Cycle 0 of an origin frame begins once block 0 of every ring that it waited for is complete, or once an event fails the
step or stops the core (R206, R219). -/
def execOriginFrameRelease (s : State) : Outcome :=
  if s.frm.originWait && (s.failing || !s.coreRuns || !(s.allRings.any fun x => s.ringHoldsOrigin x.1 x.2)) then
    .next s.releaseOrigin
  else .next s

/-- A new measurement of a region at a fused point (R340, R416). -/
def execAgingMeasurement (r point mv : Nat) (s : State) : Outcome :=
  let x := s.region r
  if r < nRegions ∧ point < 8 ∧ 65536 ≤ x.near.getD point 0 then
    let a := Map.getD s.log.aging (8 * r + point) ([], 0)
    let old := s.vsetAt r s.railCode
    let s := { s with log := { s.log with aging := Map.set s.log.aging (8 * r + point) ((mv :: a.1).take 16, min (a.2 + 1) 65535) } }
    let s := s.setRegion r { x with near := x.near.set point 0, lag := x.lag + (old - s.vsetAt r s.railCode) }
    .next (s.logRecord 3 ([BitVec.ofNat 8 r, BitVec.ofNat 8 point] ++ leBytes 2 mv ++ leBytes 2 (Config.fusedVolt r (40 + 10 * point))))
  else .next s

/-- The summary of the service log is written every 2^24 frames (R413). -/
def execLogSummaryWrite (s : State) : Outcome :=
  if s.log.lifeStored + 2 ^ 24 ≤ s.lifeFrames then .next s.writeSummary else .next s

end Sys2Proof.Machine
end

