-- ==== Sys2Proof/Machine/MsgOps.lean ====
section
/-! DEFINITION. What the sync messages, FSYNC and a link-map commit do (R295, R302, R305 to R309, R313). -/

namespace Sys2Proof.Machine

/-- Takes message k of a sync flit where it has the kind: the first one brings the flit's header and is taken only with an
accepted flit, the others follow in order (R293, R295). -/
def State.takeSync (s : State) (p : Nat) (f : Flit) (k kind : Nat) : State × Option SyncMsg :=
  let x := s.port p
  if x.st ≠ .up then (s, none)
  else if k = 0 then
    if !f.good then (s.setPort p { x with nak := true }, none)
    else if f.kind = 2 ∧ 16 ≤ f.len ∧ (f.msg 0).kind = kind then
      let y := x.accept f
      if y.2 then (s.setPort p { y.1 with syncIn := some (f, 1) }, some (f.msg 0)) else (s.setPort p y.1, none)
    else (s, none)
  else if x.syncIn = some (f, k) ∧ 16 * (k + 1) ≤ f.len ∧ (f.msg k).kind = kind then
    (s.setPort p { x with syncIn := some (f, k + 1) }, some (f.msg k))
  else (s, none)

/-- A flooded message acts once: it goes on, unless it is this member's own or a copy (R295). -/
def State.floodIn (s : State) (p : Nat) (m : SyncMsg) : Option State :=
  if m.src = s.member ∨ s.group.seen.contains m.key then none else some (s.flood m (some p))

/-! ## READY and GO (R307 to R309) -/

/-- STOP of a READY (R308). -/
def State.wantsStop (s : State) : Bool := s.runActive && (s.plan.stopPending || s.frm.strictStop || s.plan.mapChanged)

/-- START_ARMED of a READY (R308, R315). -/
def State.startArmed (s : State) : Bool :=
  !s.isSpare && s.plan.startPending && (match s.plan.plan with
    | some p => s.digestMatches p
    | none => false)

/-- Every sync child has reached ready, the module itself has, and it takes part in the common tick (R307, R313). -/
def State.subtreeReady (s : State) : Bool :=
  s.grouped && s.coreRuns && !s.dawn.cmpReset && s.group.inReset.isEmpty && s.group.tickAt.isNone &&
  (s.syncPorts.all s.portIsUp) && (s.syncChildren.all fun p => s.group.readies.any fun r => r.port == p) && s.localReady

/-- The lowest request, STOP and START_ARMED of the subtree (R307). -/
def State.subtree (s : State) : Nat × Bool × Bool :=
  s.group.readies.foldl (fun a r => (min a.1 r.freq, a.2.1 || r.stop, a.2.2 && r.armed))
    (s.pwr.request, s.wantsStop, s.startArmed)

def packArg (freq : Nat) (b16 b17 : Bool) : Nat := freq % 65536 + bit b16 16 + bit b17 17

/-- A READY from a sync child; one for another group frame is SYNC_LOST (R307, R309). -/
def State.readyArrives (s : State) (p : Nat) (m : SyncMsg) : State :=
  if !s.syncChildren.contains p then s
  else if s.group.formed ∧ m.arg64 ≠ s.group.gframe then s.detectSyncLost
  else
    let r : ReadyMsg := ⟨p, m.arg32 % 65536, m.arg32 / 2 ^ 16 % 2 == 1, m.arg32 / 2 ^ 17 % 2 == 1⟩
    { s with group := { s.group with readies := (s.group.readies.filter fun x => x.port != p) ++ [r] } }

/-- The group forms here: its frame counter stands, and EOF counting begins with it (R302, R309, log 20). -/
def State.formGroup (s : State) (adopt : Bool) : State :=
  let v := s.group.gframe
  { s with
    group := { s.group with formed := true, adopt := adopt, goNext := if adopt then v else v + 1 }
    ports := s.ports.map fun x => { x with sent := 0, eofSent := v, eofIn := v } }

/-- FSYNC_OUT toggles (R306). -/
def State.toggleFsync (s : State) : State :=
  ({ s with group := { s.group with fsyncOut := !s.group.fsyncOut } }).emit (.fsync (!s.group.fsyncOut))

/-- FSYNC_DELAY in wall units. -/
def State.fsyncDelay (s : State) : Nat := mapDelay s.group.map * wallPerNs

/-- The master toggles FSYNC_OUT and fixes its tick (R306, R307). -/
def State.masterToggle (s : State) : State :=
  let s := if s.group.formed then s else s.formGroup false
  ({ s with group := { s.group with tickAt := some (s.clk.wall + s.fsyncDelay) } }).toggleFsync

/-- GO goes down the tree, and the master keeps it (R307, R308). -/
def State.sendGo (s : State) : State :=
  let t := s.subtree
  let start := !s.runActive && t.2.2
  let s := s.syncChildren.foldl (fun s p => s.sendMsg p ⟨2, s.member, packArg t.1 t.2.1 start, s.group.gframe⟩) s
  { s with
    group := { s.group with goMsg := some ⟨t.1, t.2.1, start, s.clk.wall⟩ }
    pwr := { s.pwr with group := t.1 } }

/-- GO has left every sync child's port and is acknowledged (R308). -/
def State.goDelivered (s : State) : Bool :=
  s.syncChildren.all fun p =>
    let x := s.port p
    !(x.syncQ.any fun m => m.kind == 2) &&
    !(x.replay.any fun f => f.kind == 2 && (List.range (f.len / 16)).any fun k => (f.msg k).kind == 2)

/-- The cycle from which the master may toggle FSYNC_OUT (R307). -/
def State.releaseCycle (s : State) : Nat :=
  if s.group.formed then s.frm.lenNow + 64 - mapDelay s.group.map * s.clk.code / 100 else 0

/-- The tick that is agreed is a step boundary, or starts a run (R308). -/
def State.boundaryTick (s : State) : Bool := s.lastFrame || (!s.runActive && s.subtree.2.2)

/-- A GO from the parent (R308, R309). -/
def State.goArrives (s : State) (p : Nat) (m : SyncMsg) : State :=
  let g := s.group
  let go : GoMsg := ⟨m.arg32 % 65536, m.arg32 / 2 ^ 16 % 2 == 1, m.arg32 / 2 ^ 17 % 2 == 1, s.clk.wall⟩
  let on := fun (s : State) => s.syncChildren.foldl (fun s q => s.sendMsg q m) s
  let keep := fun (s : State) => { s with pwr := { s.pwr with group := go.freq } }
  if p ≠ mapParent g.map then s
  else if !g.formed then
    if g.sentReady then keep (on { s with group := { g with goMsg := some go, gframe := m.arg64 } }) else s
  else if g.adopt then
    -- the first GO of a group that has just formed gives the group frame; its tick may have passed
    let v := if g.tickAt.isSome then m.arg64 else m.arg64 + 1
    let ports := s.ports.map fun x => { x with eofSent := m.arg64, eofIn := if x.eofIn = m.arg64 + 1 then x.eofIn else m.arg64 }
    let s := { s with ports := ports, group := { g with adopt := false, gframe := v, goNext := m.arg64 + 1 } }
    let s := if g.tickAt.isSome then { s with group := { s.group with goMsg := some go } }
      else { s with clk := { s.clk with nextCode := go.freq } }
    keep (on ((List.range 16).foldl State.emitEofs s))
  else if m.arg64 = g.gframe ∧ g.goMsg.isNone then
    keep (on { s with group := { g with goMsg := some go, goNext := m.arg64 + 1 } })
  else if m.arg64 + 1 = g.gframe ∧ g.goNext = m.arg64 then
    keep (on { s with clk := { s.clk with nextCode := go.freq }, group := { g with goNext := m.arg64 + 1 } })
  else s.detectSyncLost

/-! ## Flooded messages and EOF -/

/-- ABORT from another member (R295, R309, R445, R449). -/
def State.abortArrives (s : State) (p : Nat) (m : SyncMsg) : State :=
  match s.floodIn p m with
  | none => s
  | some s =>
    let cause := m.arg32 % 256
    let running := s.runActive
    let s := s.addError (.groupAbort p cause m.src) true
    let s := if cause = 3 then s.linkStatus 0 fun g => { g with syncLost := true } else s
    if cause = 3 ∨ !running then s.unform else s

/-- STEP_OPEN from another member (R287). -/
def State.stepOpenArrives (s : State) (p : Nat) (m : SyncMsg) : State :=
  match s.floodIn p m with
  | none => s
  | some s =>
    let msgs := (s.upd.msgs.filter fun x => x.member != m.src) ++ [⟨m.src, m.arg64, m.arg32 % 2 == 1⟩]
    ({ s with upd := { s.upd with msgs := msgs } }).agree.noteAllReady

/-- RESET_STATE from another member (R313, R445). -/
def State.resetStateArrives (s : State) (p : Nat) (m : SyncMsg) : State :=
  match s.floodIn p m with
  | none => s
  | some s =>
    let down := m.arg32 % 2 == 1
    let s := { s with
      ports := s.ports.map fun x => if x.peerMember = m.src ∧ (x.st = .up ∨ x.st = .recovery) then { x with peerReset := down } else x
      group := { s.group with inReset := (s.group.inReset.filter fun x => x != m.src) ++ (if down then [m.src] else []) } }
    if down then
      ((s.addError (.peerReset p m.src) true).linkStatus 1 fun g => { g with peerResetSeen := true }).unform
    else s

/-- EOF from the neighbour: class 3 rings write what they hold (R302). -/
def State.eofArrives (s : State) (p : Nat) (m : SyncMsg) : State :=
  (s.flushPort p m.arg64).modPort p fun x => { x with eofIn := max x.eofIn (m.arg64 + 1) }

/-! ## The link map (R305) -/

/-- The armed map takes effect: changed ports retrain, the group forms anew (R305, log 21). -/
def State.commitMap (s : State) (m : List Byte) : State :=
  let changed := (List.range 16).filter fun p => mapEntry s.group.map p != mapEntry m p
  let s := { s with group := { s.group with map := m, armed := none, mapDue := false, badMap := false } }
  let s := changed.foldl State.retrainPort s
  (s.linkStatus 3 fun g => { g with mapCommitted := true }).unform

end Sys2Proof.Machine
end

