-- ==== Sys2Proof/Machine/Group.lean ====
section
/-! DEFINITION. The commands of the group: sync messages, the common tick, FSYNC, the commit of a link map (R295, R302,
R305 to R309, R313). -/

namespace Sys2Proof.Machine

/-- What a message does once its flit is accepted. -/
def State.onSync (s : State) (p : Nat) (f : Flit) (k kind : Nat) (act : State → SyncMsg → State) : Outcome :=
  let y := s.takeSync p f k kind
  match y.2 with
  | none => .next y.1
  | some m => .next (act y.1 m)

/-- READY (R307). -/
def execReady (p : Nat) (f : Flit) (k : Nat) (s : State) : Outcome := s.onSync p f k 1 fun s m => s.readyArrives p m
/-- GO (R308). -/
def execGo (p : Nat) (f : Flit) (k : Nat) (s : State) : Outcome := s.onSync p f k 2 fun s m => s.goArrives p m
/-- ABORT (R295). -/
def execAbort (p : Nat) (f : Flit) (k : Nat) (s : State) : Outcome := s.onSync p f k 3 fun s m => s.abortArrives p m
/-- STEP_OPEN (R287). -/
def execStepOpen (p : Nat) (f : Flit) (k : Nat) (s : State) : Outcome := s.onSync p f k 4 fun s m => s.stepOpenArrives p m
/-- RESET_STATE (R313). -/
def execResetState (p : Nat) (f : Flit) (k : Nat) (s : State) : Outcome := s.onSync p f k 5 fun s m => s.resetStateArrives p m
/-- EOF (R302). -/
def execEof (p : Nat) (f : Flit) (k : Nat) (s : State) : Outcome := s.onSync p f k 6 fun s m => s.eofArrives p m

/-- A member sends READY up the tree once it and its subtree have reached ready (R307). -/
def execSendReady (s : State) : Outcome :=
  if s.subtreeReady && !s.isMaster && !s.group.sentReady then
    let t := s.subtree
    .next ({ s with group := { s.group with sentReady := true } }.sendMsg (mapParent s.group.map)
      ⟨1, s.member, packArg t.1 t.2.1 t.2.2, s.group.gframe⟩)
  else .next s

/-- The master releases the common tick: FSYNC_OUT toggles, then GO follows; at a step boundary GO goes first and FSYNC_OUT
toggles once it has arrived (R307, R308). -/
def execMasterTickRelease (s : State) : Outcome :=
  if s.subtreeReady && s.isMaster then
    if s.boundaryTick then
      (match s.group.goMsg with
       | none => .next s.sendGo
       | some _ => if s.goDelivered && decide (s.releaseCycle ≤ s.clk.cycle) then .next s.masterToggle else .next s)
    else if s.releaseCycle ≤ s.clk.cycle then .next s.masterToggle.sendGo
    else .next s
  else .next s

/-- A transition of FSYNC_IN: a follower echoes it and ticks FSYNC_DELAY later; before its READY it is SYNC_LOST; an
unformed follower that has sent READY forms (R306, R309). -/
def execFsyncTransition (s : State) : Outcome :=
  let s := { s with group := { s.group with fsyncIn := !s.group.fsyncIn } }
  if !s.grouped || s.isMaster then .next s
  else
    let s := s.toggleFsync
    let tick := some (s.clk.wall + s.fsyncDelay)
    if s.group.formed then
      (if s.group.sentReady then .next { s with group := { s.group with tickAt := tick } } else .next s.detectSyncLost)
    else if s.group.sentReady then
      .next { s.formGroup s.group.goMsg.isNone with group := { (s.formGroup s.group.goMsg.isNone).group with tickAt := tick } }
    else .next s

/-- No transition comes within 10 µs of GO (R309). -/
def execSyncLostTimeout (s : State) : Outcome :=
  match s.group.goMsg with
  | some m =>
    if s.group.formed && !s.isMaster && s.group.tickAt.isNone && decide (m.at_ + wallUs 10 ≤ s.clk.wall) then .next s.detectSyncLost
    else .next s
  | none => .next s

/-- The armed link map commits at the tick whose group frame it names (R305). -/
def execLinkMapCommit (s : State) : Outcome :=
  match s.group.armed with
  | some m => if s.group.mapDue then .next (s.commitMap m) else .next s
  | none => .next s

end Sys2Proof.Machine
end

