-- ==== Sys2Proof/Machine/Host.lean ====
section
/-! DEFINITION. The commands that reach the module over PCIe: rings, doorbells, the aperture, link control, port resets,
configuration and register writes (R228, R230, R238, R286, R297, R305, R319 to R331, R440). -/

namespace Sys2Proof.Machine

/-! ## Rings and doorbells -/

/-- STRM_CMD = 1 for the ring that STRM_SEL names (R228, R437). -/
def execArm (port g : Nat) (s : State) : Outcome :=
  if g < nGates then s.hostWrite8 port (0x140008 + g * 0x1000) 1 else .next s

/-- STRM_CMD = 2 (R230). -/
def execDisarm (port g : Nat) (s : State) : Outcome :=
  if g < nGates then s.hostWrite8 port (0x140008 + g * 0x1000) 2 else .next s

/-- A write to an ingress doorbell (R238, R326). -/
def execIngressDoorbell (port g r count : Nat) (s : State) : Outcome :=
  if g < nGates ∧ r < 1024 then s.hostAccess port (.registerWrite port 4 (g * 0x10000 + 8 * r) 8 count) else .next s

/-- A held doorbell write whose ring is gone is discarded; one that now has room is accepted, with its vector; the
requests behind it then act (R238, R326, R328). -/
def execDoorbellAccept (port : Nat) (s : State) : Outcome :=
  match (s.hostPort port).held with
  | none => .next s
  | some (g, r, n) =>
    if 2 ≤ port then .next s
    else if !s.isProducer g r then s.dropDoorbell.releaseHeld port
    else if !serialLarger n (s.ring g r).announced then s.releaseHeld port
    else if s.doorbellFits g r n then ((s.acceptDoorbell g r n).raiseVector (ingressVector g)).releaseHeld port
    else .next s

/-- A write to GATE_CQ_HEAD (R440). -/
def execCqHeadWrite (port g value : Nat) (s : State) : Outcome :=
  if g < nGates then s.hostWrite8 port (0x100050 + g * 0x1000) value else .next s

/-- A write to HOST_SCQ_HEAD (R440). -/
def execScqHeadWrite (port value : Nat) (s : State) : Outcome := s.hostWrite8 port 0x1A0020 value

/-! ## The aperture -/

/-- A BAR2 read (R325). -/
def execApertureRead (port off len : Nat) (ecc : EccReport) (s : State) : Outcome :=
  s.hostAccess port (.apertureRead port off len ecc)

/-- A BAR2 write (R325). -/
def execApertureWrite (port off : Nat) (data : List (Option Byte)) (poisoned : Bool) (s : State) : Outcome :=
  s.hostAccess port (.apertureWrite port off data poisoned)

/-! ## Link control -/

/-- RETRAIN in LINK_CTL, DISABLE as it is (R297). -/
def execRetrain (port p : Nat) (s : State) : Outcome :=
  let x := s.port p
  if p < 16 then s.hostWrite8 port (0x191008 + p * 0x40) (2 + flagAt (x.disablePend.get x.disable) 0) else .next s

/-- DISABLE in LINK_CTL (R299). -/
def execDisable (port p : Nat) (s : State) : Outcome :=
  if p < 16 then s.hostWrite8 port (0x191008 + p * 0x40) 1 else .next s

/-- ARM in LINK_MAP_CMD (R305). -/
def execLinkMapArm (port : Nat) (s : State) : Outcome := s.hostWrite8 port 0x190018 1

/-! ## Ports -/

/-- PERST_N, a Hot Reset or link loss (R320). -/
def execPciePortReset (port : Nat) (s : State) : Outcome := .next (if port < 2 then s.resetPort port else s)

/-- PERST_N rises and the link trains (R319). -/
def execPciePortResetRelease (port : Nat) (s : State) : Outcome :=
  if port < 2 then .next (s.modHost port fun h => { h with perst := false, linkUp := h.linkUp || (s.dawn.powered && !s.dawn.modReset) })
  else .next s

/-- A configuration write (R321, R329, R330). -/
def execPcieConfigWrite (port : Nat) (op : CfgOp) (s : State) : Outcome := s.hostAccess port (.pcieConfigWrite port op)

/-- A vector is unmasked in the MSI-X table, or the function in MSI-X control (R329). -/
def execMsixUnmask (port : Nat) (vec : Option Nat) (s : State) : Outcome :=
  match vec with
  | some v => if v < 2048 then s.hostAccess port (.registerWrite port 4 (0x38000C + 16 * v) 4 0) else .next s
  | none => s.hostAccess port (.pcieConfigWrite port (.msix (s.hostPort port).msixEnable false))

/-! ## Registers -/

/-- A write to BAR0 or BAR4 (R14, R324, R424). -/
def execRegisterWrite (port bar off size value : Nat) (s : State) : Outcome :=
  s.hostAccess port (.registerWrite port bar off size value)

/-- A write to UPD_STEP (R286). -/
def execUpdStepWrite (port off size value : Nat) (s : State) : Outcome :=
  if off < 8 then s.hostAccess port (.registerWrite port 0 (0x180000 + off) size value) else .next s

end Sys2Proof.Machine
end

