-- ==== Sys2Proof/Machine/Links.lean ====
section
/-! DEFINITION. The commands of the link ports: windows, training, recovery, flits in and out (R290 to R303). -/

namespace Sys2Proof.Machine

/-- The window of Dawn opens 400 ms after power good (R297). -/
def execTrainingWindowOpen (p : Nat) (s : State) : Outcome :=
  if p < 16 ∧ s.dawn.powered ∧ s.dawn.on ∧ (s.port p).st = .quiet ∧ s.dawn.started + wallMs 400 ≤ s.clk.wall then
    .next (s.openWindow p (s.dawn.started + wallMs 1500))
  else .next s

/-- A window closes on a port that is not UP (R297, R300). -/
def execTrainingWindowClose (p : Nat) (s : State) : Outcome :=
  let x := s.port p
  if (x.st = .window ∨ x.st = .training) ∧ x.windowEnd ≤ s.clk.wall then
    .next (s.portDrop p .down (if x.answered then 8 else 2))
  else .next s

/-- A wake arrives and is answered, within a window in training too; a port that is DOWN as LOST listens as well (R297). -/
def execLinkWake (p : Nat) (s : State) : Outcome :=
  let x := s.port p
  if x.st = .window ∧ s.clk.wall < x.windowEnd then
    .next (((s.setPort p { x with st := .training, answered := true }).emit (.wake p)).sendIdentity p)
  else if x.st = .training ∧ s.clk.wall < x.windowEnd then .next (s.emit (.wake p))
  else if x.st = .down ∧ x.result = 7 then
    .next (((s.setPort p { x with st := .training, answered := true, windowEnd := s.clk.wall + wallMs 1100 }).emit (.wake p)).sendIdentity p)
  else .next s

/-- Training ends: UP on the widest passing group, or down with a code; after the window's end it is abandoned (R297 to R300). -/
def execLinkTrainingComplete (p : Nat) (res : Training) (s : State) : Outcome :=
  if (s.port p).st ≠ .training then .next s
  else if (s.port p).windowEnd ≤ s.clk.wall then .next (s.portDrop p .down 8)
  else
    let r := s.trainingResult p res
    let s := s.logLanes p r res
    if r.2.1 = 0 then .next (s.portDrop p .down r.1) else .next (s.portUp p r res)

/-- An UP port loses lock (R301). -/
def execLinkLossOfLock (p : Nat) (s : State) : Outcome :=
  if (s.port p).st = .up then .next (s.enterRecovery p) else .next s

/-- Training in RECOVERY ends: with success the unacknowledged flits are sent again, else RECOVERY goes on until its 100 ms have
passed (R301). -/
def execRecoveryComplete (p : Nat) (res : Training) (s : State) : Outcome :=
  let x := s.port p
  if x.st ≠ .recovery ∨ x.lostAt + wallMs 100 ≤ s.clk.wall then .next s
  else
    let r := s.trainingResult p res
    let s := s.logLanes p r res
    if r.2.1 = 0 then .next s
    else
      let s := s.setPort p { x with st := .up, result := r.1, width := r.2.1, mask := r.2.2, resend := x.replay, slot := 0 }
      if r.2.2 = x.oldMask then .next (s.mapChange .generation)
      else .next ((s.mapChange (.link p ⟨r.2.1, r.2.2, r.1⟩)).linkStatus 2 fun g => { g with portChange := true })

/-- 100 ms pass without recovery: DOWN with result LOST (R301, R314). -/
def execRecoveryTimeout (p : Nat) (s : State) : Outcome :=
  let x := s.port p
  if x.st = .recovery ∧ x.lostAt + wallMs 100 ≤ s.clk.wall then .next (s.portDrop p .down 7) else .next s

/-- A port sends the flit of its next slot (R291 to R296). -/
def execFlitSlotSend (p : Nat) (s : State) : Outcome :=
  if (s.port p).st = .up then .next (s.sendSlot p) else .next s

/-- A data flit arrives with what FEC reports (R293, R296, R302, R303). A damaged flit of any kind only asks for a resend. -/
def execDataFlitReceive (p : Nat) (f : Flit) (s : State) (ce : Nat := 0) (ue : Nat := 0) : Outcome :=
  let s := s.fecReport p ce ue
  if (s.port p).st ≠ .up ∨ (f.good ∧ f.kind ≠ 1) then .next s
  else
    let y := (s.port p).accept f
    let s := s.setPort p y.1
    .next (if y.2 then s.takeData p f else s)

/-- An idle flit, or a sync flit without a message, arrives with what FEC reports: only its header acts (R291, R293, R295). -/
def execIdleFlitReceive (p : Nat) (f : Flit) (s : State) (ce : Nat := 0) (ue : Nat := 0) : Outcome :=
  let s := s.fecReport p ce ue
  if (s.port p).st ≠ .up ∨ !(f.kind = 0 ∨ (f.kind = 2 ∧ f.len = 0)) then .next s
  else .next (s.setPort p ((s.port p).accept f).1)

end Sys2Proof.Machine
end

