-- ==== Sys2Proof/Machine/Mesh.lean ====
section
/-! DEFINITION. The commands of a crossing and its local port (R178 to R195). -/

namespace Sys2Proof.Machine

/-- The crossing applies the entry of its cycle and forwards the lines present; outside a run's frames, past the frame's end
and in a test window it discards them (R182 to R184, R188). -/
def execSlotEntry (t : Nat) (upsets : List Upset) (s : State) : Outcome :=
  if s.frm.originWait || s.thoroughfareLost (regionOf t) then .next s
  else if !s.crossingRuns t || (s.getTile t).inWindow then .next (s.discardPresent t)
  else if (s.getTile t).entryAt = some s.clk.now then .next s
  else
    let y := s.tilePort t upsets
    let x := y.1
    let a := slotTableBase + s.clk.cycle
    match slotEffect (slotByte x s.clk.cycle) x.switch with
    | none => .fault (.undefined .reservedSlotEntry)
    | some w =>
      let p := s.present t
      let s := s.putTile t { x with switch := w, entryAt := some s.clk.now } (y.2.add (x.stagingNotes [a]))
      let s := ({ s with mesh := p.2 } : State).addChanDrop (regionOf t) (untaken w p.1)
      match s.sendAll t (outgoing w p.1) with
      | none => .fault (.undefined .slotCollision)
      | some s => .next s

/-- The send lane reads its channel's line, before every other access of the cycle (R86, R185); the local port of a dusk
region's tile moves nothing (R193). -/
def execLocalSend (t : Nat) (upsets : List Upset) (s : State) : Outcome :=
  let y := s.tilePort t upsets
  let x := y.1
  if !s.crossingRuns t || s.frm.originWait || s.gatedRegion (regionOf t) || x.inWindow then .next s
  else if x.portClosed s.clk.now || x.sendAt == some s.clk.now || x.drainAt == some s.clk.now then .next s
  else
    match x.sendChannel with
    | none => .next s
    | some (c, ch) => .next (s.localSend t x y.2 c ch)

/-- A line at destination 12 is taken, queued or discarded (R186, R187). -/
def execLineReceive (t : Nat) (s : State) : Outcome :=
  let y := s.tilePort t []
  match y.1.rx with
  | [] => .next s
  | data :: rest =>
    let z := ({ y.1 with rx := rest }).receive s.clk.now (s.gatedRegion (regionOf t)) data
    .next (s.putTile t z.1 (y.2.add z.2))

/-- Up to two queued lines are written to the deck once in a cycle, after the send lane's read and before every other
access (R86, R186); uncorrectable words of the line queue are recorded (R191). -/
def execQueuedDeckWrite (t : Nat) (upsets : List Upset) (s : State) : Outcome :=
  let y := s.tilePort t upsets
  let picks := pickWrites y.1.busy 2 0 y.1.wq
  if picks.isEmpty || !s.coreRuns || s.isDark (regionOf t) || s.thoroughfareLost (regionOf t) then .next s
  else if y.1.portClosed s.clk.now || y.1.drainAt == some s.clk.now then .next s
  else
    let z := y.1.drainWrites s.clk.now picks
    .next (s.putTile t z.1 (y.2.add z.2))

end Sys2Proof.Machine
end

