-- ==== Sys2Proof/Machine/Power.lean ====
section
/-! DEFINITION. The commands of the power input, the fast lines, the sensors and the e-fuses (R349 to R362, R414, R463). -/

namespace Sys2Proof.Machine

/-! ## VR_ALERT_N (R355, R356) -/

/-- VR_ALERT_N falls: Night (R355). -/
def execVrAlertFall (s : State) : Outcome :=
  if !s.pwr.alertHigh then .next s
  else
    let s := { s with pwr := { s.pwr with alertHigh := false, nightOver := false } }
    .next (if s.dawn.powered then s.enterNight else s)

/-- VR_ALERT_N rises and its 1 ms begins (R356). -/
def execVrAlertRise (s : State) : Outcome :=
  if s.pwr.alertHigh then .next s
  else .next { s with pwr := { s.pwr with alertHigh := true, alertSince := s.clk.wall } }

/-- VR_ALERT_N has been high for 1 ms: the next tick ends Night, but not during a COOL_OK stop (R356, R357). -/
def execNightEnd (s : State) : Outcome :=
  let p := s.pwr
  if p.night ∧ p.alertHigh ∧ !p.coolStop ∧ p.alertSince + wallMs 1 ≤ s.clk.wall then
    .next { s with pwr := { p with nightOver := true } }
  else .next s

/-! ## COOL_OK and THERM_TRIP_N (R349, R351, R357 to R359) -/

/-- COOL_OK is deasserted (R357). -/
def execCoolOkDeassert (s : State) : Outcome :=
  let s := { s with pwr := { s.pwr with coolOk := false, restart := false } }
  .next (if s.dawn.powered then s.coolStop else s)

/-- COOL_OK is asserted and its 100 ms begin (R358). -/
def execCoolOkAssert (s : State) : Outcome :=
  if s.pwr.coolOk then .next s
  else .next { s with pwr := { s.pwr with coolOk := true, coolSince := s.clk.wall } }

/-- COOL_OK has been asserted for 100 ms: the next tick restarts the module, unless THERM_TRIP_N holds the stop
(R358, R359). -/
def execCoolOkRestart (s : State) : Outcome :=
  let p := s.pwr
  if p.coolStop ∧ p.coolOk ∧ !p.trip ∧ p.coolSince + wallMs 100 ≤ s.clk.wall then
    .next { s with pwr := { p with restart := true } }
  else .next s

/-- A region's sensors convert; a conversion that reaches 115 °C trips (R349, R351, R359, R416). -/
def execSensorConversion (r : Nat) (temps : List Int) (s : State) : Outcome :=
  if nRegions ≤ r ∨ !s.dawn.powered ∨ temps.length ≠ 4 then .next s
  else
    let s := s.modRegion r fun x => { x with temps := temps }
    let t := s.temp r
    if 115 ≤ t ∧ !s.pwr.trip then
      .next ((s.thermTrip (.thermTripSensor r t)).logRecord 7 [BitVec.ofNat 8 r, BitVec.ofInt 8 t])
    else .next s

/-! ## Input voltage (R413, R414, R463) -/

/-- The power-down: pending writes of the map, stack totals and summary; then everything volatile is lost (R36, R258,
R414). Lines from outside, the time, and what has left the module stay. -/
def State.powerDown (s : State) : State :=
  let s := (s.settleMap.finishWrites.addTotals).writeSummary
  { State.reset with
    clk := { Clock.reset with now := s.clk.now, wall := s.clk.wall }
    images := s.images
    sector := s.sector
    log := { s.log with added := [] }
    pwr := { Pwr.reset with
      alertHigh := s.pwr.alertHigh
      alertSince := s.pwr.alertSince
      coolOk := s.pwr.coolOk
      coolSince := s.pwr.coolSince }
    group := { Group.reset with fsyncIn := s.group.fsyncIn }
    dawn := { Dawn.reset with cmpPin := s.dawn.cmpPin }
    host := s.host.map fun h => { HostPort.reset with perst := h.perst }
    free := s.free
    out := s.out
    pending := s.pending }

/-- Below 38 V for 20 µs: the power-down (R463). -/
def execInputUndervoltage (s : State) : Outcome := .next (if s.dawn.powered then s.powerDown else s)

/-- Above 62 V for 10 µs: the power-down (R463). -/
def execInputOvervoltage (s : State) : Outcome := .next (if s.dawn.powered then s.powerDown else s)

/-! ## E-fuses (R360, R361) -/

/-- A region's compute e-fuse opens (R360). -/
def execComputeEfuseOpen (r : Nat) (s : State) : Outcome :=
  if nRegions ≤ r ∨ !s.dawn.powered ∨ s.isDark r then .next s else .next (s.darken r)

/-- A region's thoroughfare e-fuse opens (R361). -/
def execThoroughfareEfuseOpen (r : Nat) (s : State) : Outcome :=
  if nRegions ≤ r ∨ !s.dawn.powered ∨ s.thoroughfareLost r then .next s else .next (s.loseThoroughfare r)

end Sys2Proof.Machine
end

