-- ==== Sys2Proof/Machine/Reset.lean ====
section
/-! DEFINITION. Power good, the full and the compute reset, the trial watchdog (R367, R388, R389, R393, R403). -/

namespace Sys2Proof.Machine

/-- Power good: FRM_COUNT is 0, LIFE_BASE is the summary's, and Dawn begins (R23, R367, R413, R415). -/
def execPowerGood (straps : Nat) (s : State) : Outcome :=
  if s.dawn.powered then .next s
  else
    let s := { s with
      frm := Frm.reset
      log := { s.log with lifeBase := s.log.lifeStored, powerCycles := wrap32 (s.log.powerCycles + 1) } }
    .next (s.beginDawn straps 0)

/-- What a full reset does at its assertion (R388): spines stop, links quiet, PCIe and I3C silent, the running step fails,
pending writes finish, the stack counters are added to the log. -/
def State.fullReset (s : State) (cause : Nat) : State :=
  let s := s.finishWrites.addTotals.abortSlices.unform
  { s with
    clk := { s.clk with running := false }
    plan := { s.plan with failNext := s.plan.failNext || s.runActive }
    ports := Vector.replicate 16 Port.reset
    host := s.host.map fun h => { HostPort.reset with perst := h.perst }
    hostRegs := { s.hostRegs with dynAddr := none }
    ctl := { s.ctl with stageBusy := false }
    dawn := { s.dawn with on := false, ready := false, release := false, modReset := true, resetCause := cause } }

/-- MOD_RESET_N falls (R388). -/
def execModResetAssert (s : State) : Outcome :=
  if !s.dawn.powered || s.dawn.modReset then .next s else .next (s.fullReset 1)

/-- MOD_RESET_N rises: Dawn begins again (R388). -/
def execModResetDeassert (straps : Nat) (s : State) : Outcome :=
  if s.dawn.powered && s.dawn.modReset then .next (s.beginDawn straps s.dawn.resetCause) else .next s

/-- The lockstep cores disagree: a full reset with the cause LOCKSTEP, and Dawn (R393, log 27). -/
def execLockstepMismatch (s : State) : Outcome :=
  if !s.dawn.powered || s.dawn.modReset then .next s
  else .next ((s.fullReset 2).beginDawn s.hostRegs.straps 2)

/-- CMP_RESET_N falls: after READY the compute reset begins; before it READY is only held (R389). -/
def execCmpResetAssert (s : State) : Outcome :=
  let s := { s with dawn := { s.dawn with cmpPin := true } }
  .next (if s.dawn.firstReady && !s.dawn.cmpReset && !s.dawn.modReset then s.stopCompute else s)

/-- CMP_RESET_N is high and the wipe has ended: the next tick starts the spines; a life-cycle change that is under way
keeps them stopped (R389, R421). -/
def execCmpResetRelease (s : State) : Outcome :=
  if s.dawn.cmpReset && s.runActive then .next s
  else .next { s with dawn := { s.dawn with cmpPin := false, release := s.dawn.release || (s.dawn.cmpReset && s.ctl.change.isNone) } }

/-- The stack counters, which only a full reset clears (R258). -/
def Gate.withCounters (x old : Gate) : Gate :=
  { x with
    eccCe := old.eccCe
    eccOdc := old.eccOdc
    eccUe := old.eccUe
    eccLast := old.eccLast
    refTaken := old.refTaken
    refForced := old.refForced
    addrErr := old.addrErr }

/-- A trial image has not reached READY 5 s after its Dawn began: Dawn restarts on the other image (R403). -/
def execTrialWatchdog (s : State) : Outcome :=
  let d := s.dawn
  if d.powered ∧ !d.modReset ∧ !s.ctl.recovery ∧ s.sector.trial ∧ !d.firstReady ∧ d.started + wallMs 5000 ≤ s.clk.wall then
    let old := s
    let s := s.settleMap.finishWrites
    let s := { s with sector := { s.sector with trial := false, activation := false } }
    let s := s.beginDawn s.hostRegs.straps d.resetCause
    let s := { s with
      host := old.host
      gates := Map.mapVals (fun g (x : Gate) => x.withCounters (old.gate g)) s.gates
      log := { s.log with added := old.log.added }
      ctl := { s.ctl with fallback := true }
      dawn := { s.dawn with fellBack := true } }
    .next ((s.noteSet .fw 5).logFirmware 5 s.ctl.image)
  else .next s

end Sys2Proof.Machine
end

