-- ==== Sys2Proof/Machine/Rings.lean ====
section
/-! DEFINITION. The commands of the gates that the surroundings or the clock bring about: stack transfers, rim lanes, host
reads, page faults, refresh (R218 to R254). The host's writes are in Host.lean. -/

namespace Sys2Proof.Machine

/-- The pending transfer with the earliest deadline issues, or a host read (R226, R235). -/
def execStackTransferIssue (g : Nat) (host : Bool) (s : State) : Outcome :=
  if nGates ≤ g then .next s
  else if host then
    if !s.dawn.cmpReset ∧ (s.gate g).flights.length + (s.gate g).hostFlights.length < 1024 then
      match (s.gate g).hostCandidates.find? (s.hostReadReady g) with
      | some c => .next (s.issueHost g c)
      | none => .next s
    else .next s
  else if s.canIssue g then s.issueStack g
  else .next s

/-- A transfer in flight ends and frees its tag (R225, R245, R257). -/
def execStackTransferComplete (g idx : Nat) (ecc : EccReport) (s : State) : Outcome :=
  match (s.gate g).flights[idx]? with
  | none => .next s
  | some fl =>
    let s := s.modGate g fun x => { x with flights := x.flights.eraseIdx idx }
    .next (match fl.owner with
      | .ring r _ _ => (s.endTransfer g fl ecc).drainRing g r
      | .update _ _ _ => s.endTransfer g fl ecc)

/-- A class 0 ring sends the line whose gate cycle it is (R218). -/
def execRimLineSend (g r bufCe : Nat) (s : State) : Outcome :=
  if !s.coreRuns || s.frm.originWait then .next s
  else
    match s.rimLine g r with
    | none => .next s
    | some (d, b, k) =>
      if s.rimTaken (frontageTile g d.rimTile) (rimCrossingPort g d.rimPort) then .fault (.undefined .rimCollision)
      else .next ((s.modGate g fun x => { x with bufCe := satAdd x.bufCe bufCe }).sendRim g r d b k)

/-- The oldest line that has arrived at a gate is stored by the class 1 ring that claims it, or counted (R220, R432). -/
def execRimLineReceive (g : Nat) (s : State) : Outcome :=
  match s.rim.find? fun f => f.gate == g && decide (f.due ≤ s.clk.now) with
  | none => .next s
  | some f =>
    let claims := s.rimClaims g f (s.clk.cycle - (s.clk.now - f.due))
    let s := { s with rim := s.rim.erase f }
    match claims with
    | [] => .next (s.modGate g fun x => { x with rimDrop := satAdd x.rimDrop 1 })
    | [(r, j, k)] =>
      .next (s.storeRim g r j k f.data)
    | _ => .fault (.undefined .rimCollision)

/-- A completion of a class 4 read (R235). -/
def execHostReadCompletion (g r addr : Nat) (data : List Byte) (s : State) : Outcome :=
  match (s.gate g).hostFlights.find? fun h => h.ring == r && decide (h.addr ≤ addr) && decide (addr + data.length ≤ h.addr + h.len) with
  | none => .next s
  | some h => .next (s.hostData g h addr data)

/-- A class 4 read receives Unsupported Request, Completer Abort or poisoned data (R237). -/
def execHostReadError (g r : Nat) (s : State) : Outcome :=
  match (s.gate g).hostFlights.find? fun h => h.ring == r with
  | none => .next s
  | some h => .next (s.hostFails g h)

/-- A read has had no completion for 40 ms (R330). -/
def execCompletionTimeout (g r : Nat) (s : State) : Outcome :=
  match (s.gate g).hostFlights.find? fun h => h.ring == r && decide (h.since + wallMs 40 ≤ s.clk.wall) with
  | none => .next s
  | some h => .next (s.hostFails g h)

/-- ATS reports a page not present (R236). -/
def execPageFault (g r page : Nat) (s : State) : Outcome := .next (s.faultPage g r page)

/-- The answer to a translation request: the translation, or the page fault of R236 (R235). -/
def execAtsTranslationCompletion (g r page : Nat) (granted : Bool) (s : State) : Outcome :=
  .next (if granted then s.translated g r page else s.faultPage g r page)

/-- A Page Request Group Response: on Success the page is translated again, unless another ring has asked already, and the ring
resumes; otherwise the ring enters ERROR with status FAULT (R235, R236, R237). -/
def execPageRequestResponse (g r : Nat) (success : Bool) (s : State) : Outcome :=
  let x := s.ring g r
  match x.state, x.fault, x.arming with
  | .faulted, some f, some a =>
    if success then
      let key := (a.d.hostPort, a.d.pasid, f.page)
      let y := (s.gate g).setRing r { x with state := .active, fault := none }
      if y.trans.contains key ∨ y.transAsked.contains key then .next (s.setGate g y)
      else .next ((s.setGate g { y with transAsked := y.transAsked ++ [key] }).emit (.atsRequest a.d.hostPort f.page a.d.pasid))
    else .next (s.ringError g r 5)
  | _, _, _ => .next s

/-- 10 ms pass without a response to the Page Request (R237). -/
def execFaultTimeout (g r : Nat) (s : State) : Outcome :=
  match (s.ring g r).state, (s.ring g r).fault with
  | .faulted, some f => if f.since + wallMs 10 ≤ s.clk.wall then .next (s.ringError g r 5) else .next s
  | _, _ => .next s

/-- An ATS invalidation: the translation is used no more, and the answer waits for the reads that use it (R235). -/
def execAtsInvalidation (port page pasid : Nat) (s : State) : Outcome :=
  if 2 ≤ port then .next s
  else
    let s := { s with gates := Map.mapVals (fun _ (g : Gate) => { g with trans := g.trans.filter fun t => t != (port, pasid, page) }) s.gates }
    .next ((s.modHost port fun h => { h with inval := h.inval ++ [(page, pasid)] }).settleInval port)

/-- The stack is under refresh: in use or under a wipe (R256, R263). -/
def State.refreshes (s : State) (g : Nat) : Bool := s.stackNow g == .ready || s.stackNow g == .wipe

/-- The frame is stretched: its tick, or cycle 0 of it, is held (R254). -/
def State.stretched (s : State) : Bool := s.frm.originWait || decide (s.dueCycle < s.clk.cycle)

/-- A refresh may begin in this cycle: at the start cycle of a slot, once; in a stretch cycle with no transfer and no refresh in
progress (R253, R254). -/
def State.slotNow (s : State) (g : Nat) : Bool :=
  let x := s.gate g
  if s.stretched then decide (x.busyUntil ≤ s.clk.wall) && decide (x.refreshUntil ≤ s.clk.wall)
  else (refreshSlots s.frm.lenNow).contains s.clk.cycle && x.slotAt != some s.clk.now

/-- A gate with a debt of 1 or more takes a refresh window (R253, R254). -/
def execRefreshSlot (g : Nat) (s : State) : Outcome :=
  let x := s.gate g
  if g < nGates ∧ s.refreshes g ∧ s.slotNow g ∧ refreshUnit ≤ x.debtAtWall s.clk.wall then
    .next (s.setGate g { x.refresh s.clk.wall false with slotAt := some s.clk.now })
  else .next s

/-- A debt of 8 forces a refresh at the next transfer boundary (R254). -/
def execForcedRefresh (g : Nat) (s : State) : Outcome :=
  let x := s.gate g
  if g < nGates ∧ s.refreshes g ∧ x.forced s.clk.wall ∧ x.refreshUntil ≤ s.clk.wall ∧ x.busyUntil ≤ s.clk.wall then
    .next (s.setGate g (x.refresh s.clk.wall true))
  else .next s

end Sys2Proof.Machine
end

