-- ==== Sys2Proof/Machine/Sideband.lean ====
section
/-! DEFINITION. The I3C sideband: addresses, MCTP control, management, life-cycle and firmware commands (R332 to R334,
R419). -/

namespace Sys2Proof.Machine

/-- The sideband answers: from 50 ms after the start of Dawn, not while MOD_RESET_N is asserted (R332). -/
def State.sidebandUp (s : State) : Bool :=
  s.dawn.powered && !s.dawn.modReset && decide (s.dawn.started + wallMs 50 ≤ s.clk.wall)

/-- A command over the sideband acts where the target answers. -/
def State.onSideband (s : State) (f : State → State) : Outcome := .next (if s.sidebandUp then f s else s)

/-- A response of the management type (R334). -/
def State.respond (s : State) (code : Nat) (data : List Byte) : State := s.emit (.response code data)

/-! ## Addresses (R332) -/

/-- SETDASA gives the target, found by its static address, a dynamic address. -/
def execSetdasa (addr : Nat) (s : State) : Outcome :=
  s.onSideband fun s => ({ s with hostRegs := { s.hostRegs with dynAddr := some (addr % 128) } } : State).emit (.i3cAddress (addr % 128))

/-- ENTDAA gives a target without a dynamic address one. -/
def execEntdaa (addr : Nat) (s : State) : Outcome :=
  s.onSideband fun s =>
    if s.hostRegs.dynAddr.isSome then s
    else ({ s with hostRegs := { s.hostRegs with dynAddr := some (addr % 128) } } : State).emit (.i3cAddress (addr % 128))

/-! ## MCTP control (R333, log 35) -/

/-- Set Endpoint ID; the null and the broadcast id are invalid. -/
def execSetEndpointId (eid : Nat) (s : State) : Outcome :=
  s.onSideband fun s =>
    if eid = 0 ∨ 255 ≤ eid then s.emit (.mctp [2])
    else ({ s with hostRegs := { s.hostRegs with eid := eid } } : State).emit (.mctp [0, 0, BitVec.ofNat 8 eid, 0])

/-- Get Endpoint ID. -/
def execGetEndpointId (s : State) : Outcome := s.onSideband fun s => s.emit (.mctp [0, BitVec.ofNat 8 s.hostRegs.eid, 0, 0])

/-- Get MCTP Version Support. -/
def execGetMctpVersionSupport (s : State) : Outcome := s.onSideband fun s => s.emit (.mctp ([0] ++ Config.mctpVersions))

/-- Get Message Type Support: control, SPDM, vendor defined. -/
def execGetMessageTypeSupport (s : State) : Outcome := s.onSideband fun s => s.emit (.mctp [0, 3, 0x00, 0x05, 0x7E])

/-! ## Management commands (R334) -/

/-- GET_STATUS. -/
def execGetStatus (s : State) : Outcome :=
  s.onSideband fun s =>
    s.respond 0 (leBytes 8 s.glbStatus ++ leBytes 8 s.planStatus ++ leBytes 8 s.frm.count ++ leBytes 8 s.linkGstatus)

/-- A range of 1 to 1,024 bytes lies within a size (R334). -/
def rangeOk (off len size : Nat) : Bool := decide (1 ≤ len) && decide (len ≤ 1024) && decide (off + len ≤ size)

/-- READ_MAP. -/
def execReadMap (off len : Nat) (s : State) : Outcome :=
  s.onSideband fun s =>
    if rangeOk off len 40412 then s.respond 0 (leBytes 4 s.mapGen ++ s.mapBytes off len) else s.respond 2 []

/-- Bytes of the log's address space (R415). -/
def logSpace : Nat := 65536 + 64 * logRoom

/-- READ_LOG. -/
def execReadLog (off len : Nat) (s : State) : Outcome :=
  s.onSideband fun s => if rangeOk off len logSpace then s.respond 0 (s.logBytes off len) else s.respond 2 []

/-- READ_REG. -/
def execReadReg (off : Nat) (s : State) : Outcome :=
  s.onSideband fun s => if off % 8 = 0 ∧ off < 2 ^ 26 then s.respond 0 (leBytes 8 (s.readReg off)) else s.respond 2 []

/-- READ_LAST_STEP. -/
def execReadLastStep (s : State) : Outcome :=
  s.onSideband fun s => s.respond 0 (s.hostRegs.lastRec ++ s.hostRegs.lastOk)

/-! ## Life cycle and firmware (R419) -/

/-- GET_NONCE. -/
def execGetNonce (s : State) : Outcome := s.onSideband fun s => s.respond 0 s.ctl.nonce

/-- LC_REQUEST: a request of 232 bytes is carried out as if submitted through LCS_CMD. -/
def execLcRequest (req : List Byte) (s : State) : Outcome :=
  s.onSideband fun s => if req.length = 232 then (s.respond 0 []).submit req else s.respond 2 []

/-- LC_STATUS. -/
def execLcStatus (s : State) : Outcome := s.onSideband fun s => s.respond 0 (leBytes 8 s.lcsState ++ leBytes 8 s.lcsStatus)

/-- FW_STATUS. -/
def execFwStatusQuery (s : State) : Outcome :=
  s.onSideband fun s => s.respond 0 (leBytes 8 s.fwStatus ++ leBytes 8 (s.fwVersion false) ++ leBytes 8 (s.fwVersion true))

/-- FW_CONTROL: 3 CONFIRM or 4 REVERT. -/
def execFwControl (op : Nat) (s : State) : Outcome :=
  s.onSideband fun s => if op = 3 ∨ op = 4 then (s.respond 0 []).fwCommand op else s.respond 2 []

end Sys2Proof.Machine
end

