-- ==== Sys2Proof/Machine/Slices.lean ====
section
/-! DEFINITION. The commands of test slices (R384 to R387). -/

namespace Sys2Proof.Machine

/-- The macro that the slice under way marches through, of the deck or the staging SRAM (R385). -/
def sliceMacro (n : Nat) (deck : Bool) : Nat := if deck then n % 128 else 128 + n % 16

/-- A word of the march with one failing bit: it is restored, and its row is listed for repair while a spare row and room
in the list remain (R374, R386). The row within the macro is a free value (log 28). -/
def State.listSliceRow (s : State) (t : Nat) (u : Upset) : State :=
  let m := sliceMacro (s.getTile t).slices u.deck
  let s := s.modTile t fun x =>
    if u.deck then { x with deckCe := x.deckCe.filter fun w => w != u.word }
    else { x with stagingCe := x.stagingCe.filter fun w => w != u.word }
  match freeSpares (s.log.repairs t m) false 4 with
  | [] => s
  | sp :: _ =>
    if 4096 ≤ s.log.sram.length then s
    else
      ({ s with log := { s.log with sram := s.log.sram ++ [⟨t, m, false, sp, s.freeNow.toNat % 1024, false⟩] } } : State).useFree

/-- A test slice completes: it passes, or the tile dies with cause 2 and the step fails (R386). -/
def execTestSliceEnd (t : Nat) (mismatch : Bool) (upsets : List Upset) (s : State) : Outcome :=
  if (s.getTile t).slice.isNone || !s.coreRuns then .next s
  else
    let s := (upsets.filter fun u => !u.hard).foldl (fun s u => s.listSliceRow t u) s
    let s := s.modTile t fun x => x.upsetAll (upsets.filter fun u => u.hard)
    if mismatch || upsets.any fun u => u.hard then
      let s := (s.endSlice t 2).mapChange (.tile t 130)
      let s := s.addError (.sliceFail (regionOf t) t) true
      .next { s with tst := { s.tst with sliceFail := wrap64 (s.tst.sliceFail + 1) } }
    else
      let s := s.endSlice t 1
      .next { s with tst := { s.tst with sliceCount := wrap64 (s.tst.sliceCount + 1) } }

/-- A running slice is aborted once its run has ended, its spines have stopped or its region has left Day (R387). -/
def execTestSliceAbort (t : Nat) (s : State) : Outcome :=
  let r := regionOf t
  if (s.getTile t).slice.isSome && (!s.runActive || !s.coreRuns || s.isDusk r || s.isDark r) then .next (s.abortSlice t)
  else .next s

end Sys2Proof.Machine
end

