-- ==== Sys2Proof/Machine/Spdm.lean ====
section
/-! DEFINITION. SPDM on its three transports, and DOE Discovery: transports 0 and 1 are the mailboxes of the PCIe ports, 2
is MCTP on I3C (R318, R335, R396 to R398). The codes of responses and errors are DMTF's (log 36). -/

namespace Sys2Proof.Machine

/-- A transport reaches the module. -/
def State.transportUp (s : State) (tr : Nat) : Bool :=
  if tr = 2 then s.sidebandUp else decide (tr < 2) && (s.hostPort tr).linkUp

def State.spdmState (s : State) (tr : Nat) : SpdmState := vget s.hostRegs.spdm tr .start
def State.setSpdm (s : State) (tr : Nat) (x : SpdmState) : State :=
  { s with hostRegs := { s.hostRegs with spdm := vset s.hostRegs.spdm tr x } }

/-- The response to a request that the connection does not allow yet, and to one that is invalid. -/
def State.spdmUnexpected (s : State) (tr : Nat) : State := s.emit (.spdm tr 0x7F [0x04])
def State.spdmInvalid (s : State) (tr : Nat) : State := s.emit (.spdm tr 0x7F [0x01])

/-- A request on a transport that reaches the module. -/
def State.onSpdm (s : State) (tr : Nat) (f : State → State) : Outcome := .next (if s.transportUp tr then f s else s)

/-- A request that needs a negotiated connection. -/
def State.onNegotiated (s : State) (tr : Nat) (f : State → State) : Outcome :=
  s.onSpdm tr fun s => if s.spdmState tr = .negotiated then f s else s.spdmUnexpected tr

/-- GET_VERSION: 1.2 only; the connection begins anew. -/
def execGetVersion (tr : Nat) (s : State) : Outcome :=
  s.onSpdm tr fun s => (s.setSpdm tr .version).emit (.spdm tr 0x04 [0x12])

/-- GET_CAPABILITIES: CERT_CAP, CHAL_CAP, MEAS_CAP with signature. -/
def execGetCapabilities (tr : Nat) (s : State) : Outcome :=
  s.onSpdm tr fun s =>
    if s.spdmState tr = .start then s.spdmUnexpected tr
    else (s.setSpdm tr .capabilities).emit (.spdm tr 0x61 (leBytes 4 0x16))

/-- NEGOTIATE_ALGORITHMS: ECDSA P-384, SHA-384 for both hashes. -/
def execNegotiateAlgorithms (tr : Nat) (s : State) : Outcome :=
  s.onSpdm tr fun s =>
    if s.spdmState tr = .capabilities then
      (s.setSpdm tr .negotiated).emit (.spdm tr 0x63 (leBytes 4 0x80 ++ leBytes 4 0x02 ++ leBytes 4 0x04))
    else s.spdmUnexpected tr

/-- GET_DIGESTS: the digest of the chain in slot 0. -/
def execGetDigests (tr : Nat) (s : State) : Outcome :=
  s.onNegotiated tr fun s => s.emit (.spdm tr 0x01 (sha384 Config.certChain))

/-- GET_CERTIFICATE: a portion of the chain in slot 0. -/
def execGetCertificate (tr off len : Nat) (s : State) : Outcome :=
  s.onNegotiated tr fun s =>
    if Config.certChain.length ≤ off then s.spdmInvalid tr else s.emit (.spdm tr 0x02 ((Config.certChain.drop off).take len))

/-- What the device key signs: the requester's nonce, the contents and the responder's nonce (R398). -/
def State.signed (s : State) (nonce body : List Byte) : List Byte :=
  let own := leBytes 32 s.freeNow.toNat
  body ++ own ++ Config.deviceSign (nonce ++ body ++ own)

/-- CHALLENGE: the chain's digest, signed over the requester's nonce. -/
def execChallenge (tr : Nat) (nonce : List Byte) (s : State) : Outcome :=
  s.onNegotiated tr fun s => (s.emit (.spdm tr 0x03 (s.signed nonce (sha384 Config.certChain)))).useFree

/-- Measurement 7 (R397). -/
def State.deviceMode (s : State) : List Byte :=
  let x := s.sector
  [BitVec.ofNat 8 x.state.code, BitVec.ofNat 8 (if x.state = .transit then x.returnTo.code else 0), if x.trial then 1 else 0,
   if x.wipeOk then 1 else 0] ++ leBytes 2 x.lcSeq ++ [0, 0] ++ leBytes 8 x.changeLife ++ s.ownerDigest

/-- A measurement by index; none for an index that the table does not hold (R397, R404). -/
def State.measurement? (s : State) (i : Nat) : Option (List Byte) :=
  if 1 ≤ i ∧ i ≤ 6 then some (s.measure i)
  else if i = 7 then some s.deviceMode
  else if i = 8 then some s.log.head
  else if i = 9 then some (if s.dawn.firstReady then s.map.digest else List.replicate 48 0)
  else if i = 16 then some s.ctl.chain
  else none

/-- A block of the response: index, length, value. -/
def State.measurementBlock (s : State) (i : Nat) : List Byte :=
  match s.measurement? i with
  | some d => [BitVec.ofNat 8 i] ++ leBytes 2 d.length ++ d
  | none => []

/-- The indexes of the measurements (R397). -/
def measurementIndexes : List Nat := [1, 2, 3, 4, 5, 6, 7, 8, 9, 16]

/-- GET_MEASUREMENTS: one index, or 0xFF for all, signed over the requester's nonce. -/
def execGetMeasurements (tr index : Nat) (nonce : List Byte) (s : State) : Outcome :=
  s.onNegotiated tr fun s =>
    if index = 0xFF then
      (s.emit (.spdm tr 0x60 (s.signed nonce ([10] ++ measurementIndexes.flatMap s.measurementBlock)))).useFree
    else if (s.measurement? index).isSome then
      (s.emit (.spdm tr 0x60 (s.signed nonce ([1] ++ s.measurementBlock index)))).useFree
    else s.spdmInvalid tr

/-- DOE Discovery: entry 0 is DOE Discovery itself, entry 1 is CMA/SPDM (R318, log 36). -/
def execDoeDiscovery (port index : Nat) (s : State) : Outcome :=
  if port < 2 ∧ (s.hostPort port).linkUp then
    .next (s.emit (.doe port (if index = 0 then [0x01, 0x00, 0x00, 0x01] else if index = 1 then [0x01, 0x00, 0x01, 0x00]
      else [0xFF, 0xFF, 0x00, 0x00])))
  else .next s

end Sys2Proof.Machine
end

