-- ==== Sys2Proof/Machine/ScalarOps.lean ====
section
/-! DEFINITION. Control and scalar instructions, channels and fences of a tile program (R124 to R134, R138, R140). -/

namespace Sys2Proof.Machine

/-- A format S word with no field: every bit below the opcode is reserved (R128, R129). -/
def noFields (w : Nat) : Bool := fld w 55 0 == 0

/-- HALT waits for the conditions of R118; the tile then issues nothing more until the next step boundary (R126). -/
def issueHalt (x : TileCtx) (t : Tile) (w : Nat) : Issue :=
  if !noFields w then .undef .reservedEncoding
  else if !t.fenceHolds x.now then .held
  else if 8191 ≤ t.pc then .undef .leftProgramStore
  else .done { t with wait := .halted } Notes.none

def issueNop (x : TileCtx) (t : Tile) (w : Nat) : Issue :=
  if !noFields w then .undef .reservedEncoding else t.fin x.now 1 Notes.none

def issueGfence (x : TileCtx) (t : Tile) (w : Nat) : Issue :=
  if !noFields w then .undef .reservedEncoding
  else if !t.gridIdle x.now then .held
  else t.fin x.now 1 Notes.none

/-- FWAIT: a full tile fence, and with COUNT above 0 a wait of COUNT ticks (R131). -/
def issueFwait (x : TileCtx) (t : Tile) (w : Nat) : Issue :=
  if fld w 55 16 ≠ 0 then .undef .reservedEncoding
  else if !t.fenceHolds x.now then .held
  else if fld w 15 0 = 0 then t.fin x.now 1 Notes.none
  else ({ t with wait := .frames (fld w 15 0) }).fin x.now 1 Notes.none

/-- TESTW: a test window of COUNT frames from the next tick on (R132). -/
def issueTestw (x : TileCtx) (t : Tile) (w : Nat) : Issue :=
  if fld w 55 7 ≠ 0 ∨ 64 < fld w 6 0 then .undef .reservedEncoding
  else if fld w 6 0 = 0 then t.fin x.now 1 Notes.none
  else if !t.fenceHolds x.now then .held
  else ({ t with wait := .window false (fld w 6 0) }).fin x.now 1 Notes.none

/-- SYNC at a tile that is a member of the domains given (R134). A non-member's arrival is ignored. -/
def issueSync (x : TileCtx) (t : Tile) (w : Nat) (isMember : Nat → Bool) : Issue :=
  let d := fld w 53 52
  let arrive := fld w 0 0 == 1
  let wait := fld w 1 1 == 1
  if fld w 55 54 ≠ 0 ∨ fld w 51 2 ≠ 0 then .undef .reservedEncoding
  else if arrive ∧ t.arrived.contains d then .held
  else
    let t := if arrive ∧ isMember d then { t with arrived := t.arrived ++ [d] } else t
    if wait ∧ t.arrived.contains d then ({ t with wait := .sync d }).fin x.now 1 Notes.none
    else t.fin x.now 1 Notes.none

/-- CWAIT holds until every channel of its mask has count 0 (R127). -/
def issueCwait (x : TileCtx) (t : Tile) (w : Nat) : Issue :=
  if fld w 55 16 ≠ 0 then .undef .reservedEncoding
  else if (List.range 16).any fun c => w / 2 ^ c % 2 == 1 && (t.chanGet c).count != 0 then .held
  else t.fin x.now 1 Notes.none

def issueSli (x : TileCtx) (t : Tile) (w : Nat) : Issue :=
  let rd := fld w 51 47
  if fld w 55 52 ≠ 0 ∨ fld w 46 32 ≠ 0 then .undef .reservedEncoding
  else if !t.sReady [rd] then .held
  else (t.pushS ⟨x.now + 1, rd, (BitVec.ofNat 32 (fld w 31 0)).signExtend 64⟩).fin x.now 1 Notes.none

def issueSlih (x : TileCtx) (t : Tile) (w : Nat) : Issue :=
  let rd := fld w 51 47
  if fld w 55 52 ≠ 0 ∨ fld w 46 32 ≠ 0 then .undef .reservedEncoding
  else if !t.sReady [rd] then .held
  else
    let lo := (t.sGet rd).toNat % 2 ^ 32
    (t.pushS ⟨x.now + 1, rd, BitVec.ofNat 64 (fld w 31 0 * 2 ^ 32 + lo)⟩).fin x.now 1 Notes.none

/-- The operations of SALU (R129); none for a reserved SUB. -/
def salu (sub : Nat) (a b : Word) : Option Word :=
  match sub with
  | 0 => some (a + b)
  | 1 => some (a - b)
  | 2 => some (a &&& b)
  | 3 => some (a ||| b)
  | 4 => some (a ^^^ b)
  | 5 => some (a <<< (b.toNat % 64))
  | 6 => some (a >>> (b.toNat % 64))
  | 7 => some (a.sshiftRight (b.toNat % 64))
  | 8 => some (a * b)
  | 9 => some (if a.slt b then a else b)
  | 10 => some (if a.slt b then b else a)
  | _ => none

def issueSalu (x : TileCtx) (t : Tile) (w : Nat) : Issue :=
  let sub := fld w 55 52
  let rd := fld w 51 47
  let ra := fld w 46 42
  let rb := fld w 41 37
  let imm := fld w 36 36 == 1
  if fld w 35 32 ≠ 0 ∨ (imm ∧ rb ≠ 0) ∨ (!imm ∧ fld w 31 0 ≠ 0) then .undef .reservedEncoding
  else
    match salu sub (t.sGet ra) (if imm then (BitVec.ofNat 32 (fld w 31 0)).signExtend 64 else t.sGet rb) with
    | none => .undef .reservedEncoding
    | some r =>
      if !t.sReady (if imm then [rd, ra] else [rd, ra, rb]) then .held
      else (t.pushS ⟨x.now + (if sub = 8 then 3 else 1), rd, r⟩).fin x.now 1 Notes.none

/-- The special registers of SMOVS (R126). -/
def special (x : TileCtx) (t : Tile) (id : Nat) : Option Word :=
  match id with
  | 0 => some (BitVec.ofNat 64 x.id)
  | 1 => some (BitVec.ofNat 64 (tileX x.id))
  | 2 => some (BitVec.ofNat 64 (tileY x.id))
  | 3 => some (BitVec.ofNat 64 (regionOf x.id))
  | 4 => some x.step
  | 5 => some (BitVec.ofNat 64 x.frameInStep)
  | 6 => some (BitVec.ofNat 64 x.cycle)
  | 7 => some (BitVec.ofNat 64 x.frmCount)
  | 8 => some x.seed
  | 9 => some (BitVec.ofNat 64 ((List.range 16).foldl (fun m c => if (t.chanGet c).count = 0 then m else m + 2 ^ c) 0))
  | 10 => some (BitVec.ofNat 64 ((List.range 4).foldl (fun m d => if t.arrived.contains d then m + 2 ^ d else m) 0))
  | 11 => some (if t.gridIdle x.now then 0 else 1)
  | _ => none

def issueSmovs (x : TileCtx) (t : Tile) (w : Nat) : Issue :=
  let rd := fld w 51 47
  if fld w 55 52 ≠ 0 ∨ fld w 46 8 ≠ 0 then .undef .reservedEncoding
  else
    match special x t (fld w 7 0) with
    | none => .undef .reservedEncoding
    | some v => if !t.sReady [rd] then .held else (t.pushS ⟨x.now + 1, rd, v⟩).fin x.now 1 Notes.none

/-- The conditions of BR (R129); none for a reserved SUB. -/
def branchTaken (sub : Nat) (a b : Word) : Option Bool :=
  match sub with
  | 0 => some true
  | 1 => some (a == b)
  | 2 => some (a != b)
  | 3 => some (a.slt b)
  | 4 => some (!a.slt b)
  | 5 => some (a.ult b)
  | 6 => some (!a.ult b)
  | _ => none

/-- Ends a branch: taken, the next issue is two cycles later at the target (R127). -/
def finBranch (x : TileCtx) (t : Tile) (taken : Bool) (target : Nat) : Issue :=
  if taken then .done { t with pc := target, nextIssue := x.now + 2 } Notes.none else t.fin x.now 1 Notes.none

def issueBr (x : TileCtx) (t : Tile) (w : Nat) : Issue :=
  let ra := fld w 46 42
  let rb := fld w 41 37
  if fld w 51 47 ≠ 0 ∨ fld w 36 32 ≠ 0 ∨ fld w 31 13 ≠ 0 then .undef .reservedEncoding
  else
    match branchTaken (fld w 55 52) (t.sGet ra) (t.sGet rb) with
    | none => .undef .reservedEncoding
    | some taken => if !t.sReady [ra, rb] then .held else finBranch x t taken (fld w 12 0)

def issueDbnz (x : TileCtx) (t : Tile) (w : Nat) : Issue :=
  let rd := fld w 51 47
  if fld w 55 52 ≠ 0 ∨ fld w 46 32 ≠ 0 ∨ fld w 31 13 ≠ 0 then .undef .reservedEncoding
  else if !t.sReady [rd] then .held
  else
    let v := t.sGet rd - 1
    let t' := t.pushS ⟨x.now + 1, rd, v⟩
    -- S0 reads as 0 after the ignored write (R123)
    finBranch x t' (if rd = 0 then false else v != 0) (fld w 12 0)

def issueSetrc (x : TileCtx) (t : Tile) (w : Nat) : Issue :=
  let ra := fld w 46 42
  let rb := fld w 41 37
  if fld w 55 54 ≠ 0 ∨ fld w 51 47 ≠ 0 ∨ fld w 36 32 ≠ 0 ∨ fld w 31 24 ≠ 0 then .undef .reservedEncoding
  else if !t.sReady [ra, rb] then .held
  else
    let c : RndCtx := ⟨fld w 23 0, (t.sGet ra).toNat % 2 ^ 40, (t.sGet rb).toNat % 2 ^ 32⟩
    ({ t with rc := vset t.rc (fld w 53 52) c }).fin x.now 1 Notes.none

/-- The deck address of LDS and STS (R130). -/
def scalarAddr (t : Tile) (ra imm : Nat) : Nat := deckAddr (t.sGet ra) (signed 32 imm) / 8 * 8

/-- LDS reads its line one cycle after issue or later, and the register is due five cycles after that (R89, R110, R127). -/
def issueLds (x : TileCtx) (t : Tile) (w : Nat) : Issue :=
  let rd := fld w 51 47
  let ra := fld w 46 42
  if fld w 55 52 ≠ 0 ∨ fld w 41 32 ≠ 0 then .undef .reservedEncoding
  else if !t.sReady [rd, ra] then .held
  else
    let u := VecUse.lds rd (scalarAddr t ra (fld w 31 0))
    ({ t with vq := t.vq ++ [(⟨oneStep u.addrs, u, [], []⟩ : VecAcc)] } : Tile).fin x.now 1 Notes.none

/-- STS writes its line one cycle after issue or later (R89, R110, R127). -/
def issueSts (x : TileCtx) (t : Tile) (w : Nat) : Issue :=
  let rs := fld w 51 47
  let ra := fld w 46 42
  if fld w 55 52 ≠ 0 ∨ fld w 41 32 ≠ 0 then .undef .reservedEncoding
  else if !t.sReady [rs, ra] then .held
  else
    let u := VecUse.store ((wrapAddrs deckSize (scalarAddr t ra (fld w 31 0)) 8).zip (leBytes 8 (t.sGet rs).toNat))
    ({ t with vq := t.vq ++ [(⟨oneStep u.addrs, u, [], []⟩ : VecAcc)] } : Tile).fin x.now 1 Notes.none

/-- A new arming of a channel, seen by slots two cycles later (R127, R133). -/
def armChannel (x : TileCtx) (t : Tile) (c : Nat) (val : Channel) : Tile :=
  { t with chanDue := insertDue ChanWrite.due ⟨x.now + 2, c, val⟩ t.chanDue }

def issueCsend (x : TileCtx) (t : Tile) (w : Nat) : Issue :=
  let rb := fld w 50 46
  if fld w 16 16 ≠ 0 then .undef .reservedEncoding
  else if !t.sReady [rb] then .held
  else
    (armChannel x t (fld w 55 52)
      { use := .send, addr := (t.sGet rb).toNat % deckSize, stride := fld w 32 17, count := fld w 15 0, slot := 0, line := 0 }).fin
      x.now 1 Notes.none

def issueCrecv (x : TileCtx) (t : Tile) (w : Nat) : Issue :=
  let rb := fld w 50 46
  let rs := fld w 45 41
  let slot := fld w 40 33
  let toW := fld w 51 51 == 1
  if fld w 16 16 ≠ 0 ∨ (toW ∧ 208 ≤ slot) then .undef .reservedEncoding
  else if !t.sReady (if toW then [rs] else [rb]) then .held
  else
    let ch : Channel :=
      if toW then { use := .recvWeights, addr := 0, stride := 0, count := fld w 15 0
                    slot := (slot + (t.sGet rs).toNat) % 208, line := 0 }
      else { use := .recvDeck, addr := (t.sGet rb).toNat % deckSize, stride := fld w 32 17, count := fld w 15 0, slot := 0, line := 0 }
    (armChannel x t (fld w 55 52) ch).fin x.now 1 Notes.none

end Sys2Proof.Machine
end

