-- ==== Sys2Proof/Machine/VectorOps.lean ====
section
/-! DEFINITION. The vector row of a tile: arithmetic, comparison, integer, moves, conversion, functions, reductions,
loads and stores, index unit (R109 to R117, R138). -/

namespace Sys2Proof.Machine

/-- The fields of a format V word (R128). -/
structure VFields where
  op : Nat
  fmt : Nat
  sr : Bool
  mask : Word
  vd : Nat
  va : Nat
  vb : Nat
  vc : Nat
  sh : Nat
  rc : Nat
  rs : Nat
  imm : Nat

def vFields (t : Tile) (w : Nat) : VFields :=
  { op := fld w 55 52, fmt := fld w 51 49, sr := fld w 48 48 == 1, mask := t.kGet (fld w 47 45), vd := fld w 44 40
    va := fld w 39 35, vb := fld w 34 30, vc := fld w 29 25, sh := fld w 24 23, rc := fld w 22 21, rs := fld w 20 16
    imm := fld w 15 0 }

/-- A word of 64 bits from a predicate on lanes. -/
def bitsOf (f : Nat → Bool) : Word := (List.range 64).foldl (fun w l => if f l then w ||| (1 <<< l) else w) 0

/-- T16 or BF16, the formats of arithmetic, comparison and functions (R110). -/
def arithFmt : Nat → Option Fmt
  | 0 => some .t16
  | 1 => some .bf16
  | _ => none

/-- The shared operand in place of a register: its value, and the deck addresses it reads (R112). -/
def sharedOperand (t : Tile) (v : VFields) : Option (Code × List Nat) :=
  if v.sh = 1 then some ((t.sGet v.rs).setWidth 16, [])
  else if v.sh = 2 then
    let a := deckAddr (t.sGet v.rs) (signed 16 v.imm) / 2 * 2
    some (t.deckCode a, wrapAddrs deckSize a 2)
  else none

/-- The second source of an operation by lane: a register, or the shared operand in every lane. -/
def sourceB (t : Tile) (v : VFields) (reg : Nat) : Nat → Code :=
  match sharedOperand t v with
  | some (c, _) => fun _ => c
  | none => fun l => laneAt (t.vGet reg) l

/-- Latency added by a deck operand, the notes of its read, and the bank that the read takes (R112). -/
def sharedCost (t : Tile) (v : VFields) : Nat × Notes :=
  match sharedOperand t v with
  | some (_, a :: rest) => (4, t.deckNotes (a :: rest))
  | _ => (0, Notes.none)

/-- The bank of a deck operand (R112). -/
def sharedBank (t : Tile) (v : VFields) : List Nat :=
  match sharedOperand t v with
  | some (_, a :: _) => [deckBank a]
  | _ => []

/-- A shared operand holds issue: its register is not ready, or its read does not win the bank in this cycle (R110, R112,
R127). -/
def sharedHeld (t : Tile) (v : VFields) : Bool :=
  (v.sh != 0 && !t.sReady [v.rs]) || (sharedBank t v).any fun b => t.busy.contains b

/-- The bank of the operand is taken for the cycle (R86). -/
def Tile.takeShared (t : Tile) (v : VFields) : Tile := { t with busy := sharedBank t v ++ t.busy }

/-- Exact comparison in the order of R55: by value, NaR lowest. -/
def valLt : Val → Val → Bool
  | .nar, .real _ => true
  | .nar, .nar => false
  | .real _, .nar => false
  | .real a, .real b => a.lt b

def valEq : Val → Val → Bool
  | .nar, .nar => true
  | .real a, .real b => a.same b
  | _, _ => false

/-- The exact result of an OP of VARITH (R77, R138). -/
def arithVal (op : Nat) (a b c : Val) : Option Val :=
  match op with
  | 0 => some (a.add b)
  | 1 => some (a.sub b)
  | 2 => some (a.mul b)
  | 3 => some ((a.mul b).add c)
  | 4 => some (if valLt b a then b else a)
  | 5 => some (if valLt a b then b else a)
  | 6 => some a.neg
  | 7 => some (match a with
      | .nar => .nar
      | .real q => .real q.abs)
  | _ => none

/-- A vector result is due after its latency; the flags of the lanes it writes go to GLB_NUM_STATUS (R79, R110). -/
def finVector (x : TileCtx) (t : Tile) (cycles due vd : Nat) (mask : Word) (l : Lanes) (n : Notes) : Issue :=
  (t.pushV ⟨x.now + due, vd, mask, l⟩).fin x.now cycles n

def issueVarith (x : TileCtx) (t : Tile) (w : Nat) : Issue :=
  let v := vFields t w
  match arithFmt v.fmt with
  | none => .undef .reservedEncoding
  | some f =>
    if v.sh = 3 ∨ 8 ≤ v.op then .undef .reservedEncoding
    else if sharedHeld t v then .held
    else
      let b := sourceB t v v.vb
      let r := fun l => f.round (x.rounding t v.sr v.rc l)
        ((arithVal v.op (f.val (laneAt (t.vGet v.va) l)) (f.val (b l)) (f.val (laneAt (t.vGet v.vc) l))).getD .nar)
      let cost := sharedCost t v
      finVector x (t.takeShared v) 1 (4 + cost.1) v.vd v.mask (lanesOf fun l => (r l).1)
        (cost.2.add (Notes.ofFlags (laneFlags v.mask fun l => (r l).2)))

/-- A comparison into a mask register is due after its latency (R109, R110). -/
def finMask (x : TileCtx) (t : Tile) (due kd : Nat) (mask bits : Word) (n : Notes) : Issue :=
  (t.pushK ⟨x.now + due, kd, mask, bits⟩).fin x.now 1 n

def issueVcmp (x : TileCtx) (t : Tile) (w : Nat) : Issue :=
  let v := vFields t w
  match arithFmt v.fmt with
  | none => .undef .reservedEncoding
  | some f =>
    if v.sh = 3 ∨ 3 ≤ v.op then .undef .reservedEncoding
    else if sharedHeld t v then .held
    else
      let b := sourceB t v v.vb
      let cmp := fun l =>
        let p := f.val (laneAt (t.vGet v.va) l)
        let q := f.val (b l)
        if v.op = 0 then valEq p q else if v.op = 1 then valLt p q else !valLt q p
      let cost := sharedCost t v
      finMask x (t.takeShared v) (3 + cost.1) (v.vd % 8) v.mask (bitsOf cmp) cost.2

/-- An OP of VINT on raw lanes (R138). -/
def intLane (op : Nat) (a b : Code) : Code :=
  match op with
  | 0 => a + b
  | 1 => a - b
  | 2 => a <<< (b.toNat % 16)
  | 3 => a >>> (b.toNat % 16)
  | 4 => a &&& b
  | _ => a ||| b

def issueVint (x : TileCtx) (t : Tile) (w : Nat) : Issue :=
  let v := vFields t w
  if v.sh = 3 ∨ 8 ≤ v.op then .undef .reservedEncoding
  else if sharedHeld t v then .held
  else
    let a := fun l => laneAt (t.vGet v.va) l
    let b := sourceB t v v.vb
    let cost := sharedCost t v
    if v.op = 6 then finMask x (t.takeShared v) (2 + cost.1) (v.vd % 8) v.mask (bitsOf fun l => decide (a l < b l)) cost.2
    else if v.op = 7 then finMask x (t.takeShared v) (2 + cost.1) (v.vd % 8) v.mask (bitsOf fun l => a l == b l) cost.2
    else finVector x (t.takeShared v) 1 (2 + cost.1) v.vd v.mask (lanesOf fun l => intLane v.op (a l) (b l)) cost.2

/-- A scalar result of VMOVE is due after its latency; an earlier write of the register holds issue (R127). -/
def finScalar (x : TileCtx) (t : Tile) (due rd : Nat) (val : Word) (cycles : Nat) (n : Notes) : Issue :=
  (t.pushS ⟨x.now + due, rd, val⟩).fin x.now cycles n

def issueVmove (x : TileCtx) (t : Tile) (w : Nat) : Issue :=
  let v := vFields t w
  if v.sh ≠ 0 then .undef .reservedEncoding
  else
    let a := t.vGet v.va
    let k := v.imm % 64
    match v.op with
    | 0 =>
      let b := t.vGet v.vb
      finVector x t 1 2 v.vd (BitVec.allOnes 64) (lanesOf fun l => if maskBit v.mask l then laneAt a l else laneAt b l) Notes.none
    | 1 => finVector x t 1 2 v.vd v.mask (lanesOf fun l => laneAt a ((l + k) % 64)) Notes.none
    | 2 => finVector x t 1 2 v.vd v.mask (lanesOf fun _ => laneAt a k) Notes.none
    | 3 => finVector x t 1 2 v.vd v.mask (lanesOf fun _ => BitVec.ofNat 16 v.imm) Notes.none
    | 4 => if !t.sReady [v.rs] then .held else finScalar x t 2 v.rs ((laneAt a k).setWidth 64) 1 Notes.none
    | 5 => if !t.sReady [v.rs] then .held else finScalar x t 2 v.rs (t.kGet (v.va % 8)) 1 Notes.none
    | 6 => if !t.sReady [v.rs] then .held else finMask x t 2 (v.vd % 8) v.mask (t.sGet v.rs) Notes.none
    | _ => .undef .reservedEncoding

def issueVcvt (x : TileCtx) (t : Tile) (w : Nat) : Issue :=
  let v := vFields t w
  match Fmt.ofCode v.fmt with
  | none => .undef .reservedEncoding
  | some f =>
    if v.sh ≠ 0 ∨ 2 ≤ v.op ∨ v.fmt = 0 ∨ 4 ≤ v.fmt then .undef .reservedEncoding
    else
      let r := fun l =>
        let c := laneAt (t.vGet v.va) l
        let rd := x.rounding t v.sr v.rc l
        if v.op = 0 then toT16 rd f c else f.round rd (t16Val c)
      finVector x t 1 4 v.vd v.mask (lanesOf fun l => (r l).1) (Notes.ofFlags (laneFlags v.mask fun l => (r l).2))

/-- VFUNC; `free` supplies the one value of a lane that the evaluation leaves open (log 9). -/
def issueVfunc (x : TileCtx) (t : Tile) (w : Nat) (free : Nat → Code) : Issue :=
  let v := vFields t w
  match arithFmt v.fmt, Fn.ofCode v.op with
  | some f, some fn =>
    if v.sh = 3 then .undef .reservedEncoding
    else if sharedHeld t v ∨ x.now < t.funcFree then .held
    else
      let a := sourceB t v v.va
      let r := fun l => (fnValue f (x.rounding t v.sr v.rc l) fn (f.val (a l))).getD (free l, 0)
      let cost := sharedCost t v
      finVector x { (t.takeShared v) with funcFree := x.now + 4 } 4 (12 + cost.1) v.vd v.mask (lanesOf fun l => (r l).1)
        (cost.2.add (Notes.ofFlags (laneFlags v.mask fun l => (r l).2)))
  | _, _ => .undef .reservedEncoding

/-- One level of the reduction tree (R115). -/
def treeLevel (comb : Option Val → Option Val → Option Val) : List (Option Val) → List (Option Val)
  | a :: b :: rest => comb a b :: treeLevel comb rest
  | l => l

/-- One level of the sum's tree: each addition rounds by RNE and sets its flags (R57, R115). -/
def sumLevel (f : Fmt) : List Val → List Val × Status
  | p :: q :: rest =>
    let r := f.round .rne (p.add q)
    let y := sumLevel f rest
    (f.val r.1 :: y.1, r.2 ||| y.2)
  | l => (l, 0)

/-- Levels of the sum's tree with the flags of their additions (R115). -/
def sumLevels (f : Fmt) : Nat → List Val → List Val × Status
  | 0, l => (l, 0)
  | n + 1, l =>
    let y := sumLevel f l
    let z := sumLevels f n y.1
    (z.1, y.2 ||| z.2)

def treeMax (a b : Option Val) : Option Val :=
  match a, b with
  | some p, some q => some (if valLt p q then q else p)
  | some p, none => some p
  | none, q => q

def treeMin (a b : Option Val) : Option Val :=
  match a, b with
  | some p, some q => some (if valLt q p then q else p)
  | some p, none => some p
  | none, q => q

/-- The value at the root of a maximum or minimum over 64 lanes (R115). -/
def treeRoot (comb : Option Val → Option Val → Option Val) (l : List (Option Val)) : Option Val :=
  (treeLevel comb (treeLevel comb (treeLevel comb (treeLevel comb (treeLevel comb (treeLevel comb l)))))).headD none

def issueVred (x : TileCtx) (t : Tile) (w : Nat) : Issue :=
  let v := vFields t w
  match arithFmt v.fmt with
  | none => .undef .reservedEncoding
  | some f =>
    if v.sh ≠ 0 ∨ 3 ≤ v.op then .undef .reservedEncoding
    else
      let src := t.vGet v.va
      let lane := fun (l : Nat) => if maskBit v.mask l then some (f.val (laneAt src l)) else none
      let ops := (List.range 64).map lane
      let res := match v.op with
        | 0 =>
          let y := sumLevels f 5 (ops.map fun (o : Option Val) => o.getD (.real Q.zero))
          let r := f.round (x.rounding t v.sr v.rc 0) ((y.1.headD .nar).add (y.1.getD 1 .nar))
          -- with no active lane the sum is 0x7000 in either format (R115, R121)
          if v.mask = 0 then (codeZero, 0) else (r.1, y.2 ||| r.2)
        | 1 => f.round .rne ((treeRoot treeMax ops).getD .nar)
        | _ => f.round .rne ((treeRoot treeMin ops).getD .nar)
      finVector x t 2 16 v.vd (BitVec.allOnes 64) (lanesOf fun l => if l = 0 then res.1 else codeZero) (Notes.ofFlags res.2)

/-! ## Loads and stores (R110, R113, R114, R138) -/

/-- The stored code of a lane (R138): 16-bit formats raw, 8-bit formats by R66. -/
def storeLane (f : Fmt) (r : Rounding) (c : Code) : Code × Status := if f.bytes = 2 then (c, 0) else f.round r (t16Val c)

/-- Element l of a contiguous access (R138). -/
def contigAddr (t : Tile) (v : VFields) (f : Fmt) (l : Nat) : Nat :=
  let a := deckAddr (t.sGet v.rs) (signed 16 v.imm)
  ((if f.bytes = 2 then a / 2 * 2 else a) + l * f.bytes) % deckSize

/-- Lane l's address of an indexed access (R113). -/
def indexAddr (t : Tile) (v : VFields) (l : Nat) : Nat :=
  ((t.sGet v.rs).toNat + (laneAt (t.vGet v.va) l).toNat * 2 ^ (v.imm % 8)) % deckSize

/-- The deck addresses of the active lanes. -/
def activeAddrs (v : VFields) (f : Fmt) (addr : Nat → Nat) : List Nat :=
  (List.range 64).flatMap fun l => if maskBit v.mask l then wrapAddrs deckSize (addr l) f.bytes else []

/-- An instruction whose accesses begin in the next cycle (R110). -/
def finAccess (x : TileCtx) (t : Tile) (cycles : Nat) (steps : List (List Nat)) (u : VecUse) (n : Notes) : Issue :=
  ({ t with vq := t.vq ++ [(⟨steps, u, [], []⟩ : VecAcc)] } : Tile).fin x.now cycles n

def loadUse (v : VFields) (f : Fmt) (addr : Nat → Nat) : VecUse := .load f v.vd v.mask ((List.range 64).map addr)

def issueVld (x : TileCtx) (t : Tile) (w : Nat) : Issue :=
  let v := vFields t w
  match Fmt.ofCode v.fmt with
  | none => .undef .reservedEncoding
  | some f =>
    if v.sh ≠ 0 ∨ v.op ≠ 0 ∨ 4 ≤ v.fmt then .undef .reservedEncoding
    else if !t.sReady [v.rs] then .held
    else finAccess x t 1 (oneStep (activeAddrs v f (contigAddr t v f))) (loadUse v f (contigAddr t v f)) Notes.none

def issueVgather (x : TileCtx) (t : Tile) (w : Nat) : Issue :=
  let v := vFields t w
  match Fmt.ofCode v.fmt with
  | none => .undef .reservedEncoding
  | some f =>
    if v.sh ≠ 0 ∨ v.op ≠ 0 ∨ 4 ≤ v.fmt ∨ 8 ≤ v.imm then .undef .reservedEncoding
    else if !t.sReady [v.rs] then .held
    else
      let addrs := activeAddrs v f (indexAddr t v)
      finAccess x t (indexCycles addrs) (indexSteps addrs) (loadUse v f (indexAddr t v)) Notes.none

/-- The bytes an active lane stores: lanes in ascending order, so that the highest lane's bytes stand (R114). -/
def laneBytes (v : VFields) (f : Fmt) (addr : Nat → Nat) (r : Nat → Code) : List (Nat × Byte) :=
  (List.range 64).flatMap fun l =>
    if maskBit v.mask l then (wrapAddrs deckSize (addr l) f.bytes).zip (leBytes f.bytes (r l).toNat) else []

def issueVst (x : TileCtx) (t : Tile) (w : Nat) : Issue :=
  let v := vFields t w
  match Fmt.ofCode v.fmt with
  | none => .undef .reservedEncoding
  | some f =>
    if v.sh ≠ 0 ∨ v.op ≠ 0 ∨ 4 ≤ v.fmt then .undef .reservedEncoding
    else if !t.sReady [v.rs] then .held
    else
      let r := fun l => storeLane f (x.rounding t v.sr v.rc l) (laneAt (t.vGet v.vb) l)
      finAccess x t 1 (oneStep (activeAddrs v f (contigAddr t v f))) (.store (laneBytes v f (contigAddr t v f) fun l => (r l).1))
        (Notes.ofFlags (laneFlags v.mask fun l => (r l).2))

def issueVscatter (x : TileCtx) (t : Tile) (w : Nat) : Issue :=
  let v := vFields t w
  match Fmt.ofCode v.fmt with
  | none => .undef .reservedEncoding
  | some f =>
    if v.sh ≠ 0 ∨ v.op ≠ 0 ∨ 4 ≤ v.fmt ∨ 8 ≤ v.imm then .undef .reservedEncoding
    else if !t.sReady [v.rs] then .held
    else
      let addrs := activeAddrs v f (indexAddr t v)
      let r := fun l => storeLane f (x.rounding t v.sr v.rc l) (laneAt (t.vGet v.vb) l)
      finAccess x t (indexCycles addrs) (indexSteps addrs) (.store (laneBytes v f (indexAddr t v) fun l => (r l).1))
        (Notes.ofFlags (laneFlags v.mask fun l => (r l).2))

/-- The active lanes of a scatter-add: address, addend, and the rounding of the element its index names (R114, R138). -/
def addUse (x : TileCtx) (t : Tile) (v : VFields) (f : Fmt) : VecUse :=
  .scadd f ((List.range 64).filterMap fun l =>
    if maskBit v.mask l then
      some (indexAddr t v l, laneAt (t.vGet v.vb) l, x.rounding t v.sr v.rc (laneAt (t.vGet v.va) l).toNat)
    else none)

/-- VSCADD: n cycles of reads and then n of writes (R114; log 83). -/
def issueVscadd (x : TileCtx) (t : Tile) (w : Nat) : Issue :=
  let v := vFields t w
  match arithFmt v.fmt with
  | none => .undef .reservedEncoding
  | some f =>
    if v.sh ≠ 0 ∨ v.op ≠ 0 ∨ 8 ≤ v.imm then .undef .reservedEncoding
    else if !t.sReady [v.rs] then .held
    else
      let addrs := activeAddrs v f (indexAddr t v)
      finAccess x t (2 * indexCycles addrs) (indexSteps addrs) (addUse x t v f) Notes.none

end Sys2Proof.Machine
end

