-- ==== Sys2Proof/Machine/Tile.lean ====
section
/-! DEFINITION. The commands of tile programs: control, scalar, grid, copy engine, vector row and channels (04 to 07). -/

namespace Sys2Proof.Machine

/-! ## Control (R126, R131, R132, R134) -/

/-- HALT (R126). -/
def execHalt (t : Nat) (a : Access) (s : State) : Outcome := s.runTile t 0x00 a (issueHalt (s.ctx t))
/-- NOP (R128). -/
def execNop (t : Nat) (a : Access) (s : State) : Outcome := s.runTile t 0x01 a (issueNop (s.ctx t))
/-- FWAIT (R131). -/
def execFwait (t : Nat) (a : Access) (s : State) : Outcome := s.runTile t 0x02 a (issueFwait (s.ctx t))
/-- TESTW (R132). -/
def execTestw (t : Nat) (a : Access) (s : State) : Outcome := s.runTile t 0x03 a (issueTestw (s.ctx t))
/-- SYNC (R134). -/
def execSync (t : Nat) (a : Access) (s : State) : Outcome :=
  s.runTile t 0x04 a fun x w => issueSync (s.ctx t) x w (s.isMember t)
/-- GFENCE (R108). -/
def execGfence (t : Nat) (a : Access) (s : State) : Outcome := s.runTile t 0x05 a (issueGfence (s.ctx t))
/-- CWAIT (R127). -/
def execCwait (t : Nat) (a : Access) (s : State) : Outcome := s.runTile t 0x06 a (issueCwait (s.ctx t))

/-- The end of a test window: planes, accumulators, vector and mask registers and pending status take their reset
values, and issue resumes (R132). -/
def execTestWindowEnd (t : Nat) (s : State) : Outcome :=
  if (s.getTile t).wait = .window true 0 ∧ (s.getTile t).slice = none then
    .next (s.setTile t { (s.getTile t).resetDatapath with wait := .none, nextIssue := s.clk.now })
  else .next s

/-! ## Scalar unit (R128 to R130) -/

/-- SLI (R128). -/
def execSli (t : Nat) (a : Access) (s : State) : Outcome := s.runTile t 0x08 a (issueSli (s.ctx t))
/-- SLIH (R128). -/
def execSlih (t : Nat) (a : Access) (s : State) : Outcome := s.runTile t 0x09 a (issueSlih (s.ctx t))
/-- SALU (R129). -/
def execSalu (t : Nat) (a : Access) (s : State) : Outcome := s.runTile t 0x0A a (issueSalu (s.ctx t))
/-- SMOVS (R126). -/
def execSmovs (t : Nat) (a : Access) (s : State) : Outcome := s.runTile t 0x0B a (issueSmovs (s.ctx t))
/-- BR (R129). -/
def execBr (t : Nat) (a : Access) (s : State) : Outcome := s.runTile t 0x0C a (issueBr (s.ctx t))
/-- DBNZ (R128). -/
def execDbnz (t : Nat) (a : Access) (s : State) : Outcome := s.runTile t 0x0D a (issueDbnz (s.ctx t))
/-- SETRC (R130). -/
def execSetrc (t : Nat) (a : Access) (s : State) : Outcome := s.runTile t 0x0E a (issueSetrc (s.ctx t))
/-- LDS (R130). -/
def execLds (t : Nat) (a : Access) (s : State) : Outcome := s.runTile t 0x0F a (issueLds (s.ctx t))
/-- STS (R130). -/
def execSts (t : Nat) (a : Access) (s : State) : Outcome := s.runTile t 0x10 a (issueSts (s.ctx t))

/-! ## Grid and copy engine (R92 to R108, R135 to R137) -/

/-- LOADW (R93, R135). -/
def execLoadw (t : Nat) (a : Access) (s : State) : Outcome := s.runTile t 0x18 a (issueLoadw (s.ctx t))

/-- The tile's engines run up to this cycle: what they do on the way, each at its own cycle, is what the grid's commands
stand for (log 84). -/
def State.runEngines (s : State) (t : Nat) (upsets : List Upset) : Outcome :=
  if decide (t < nTiles) && s.tileClocked t then
    let y := s.tileNow t upsets
    .next (s.putTile t y.1 y.2)
  else .next s

/-- A queued LOADW begins at its cycle L (R94). -/
def execLoadwStart (t : Nat) (upsets : List Upset) (s : State) : Outcome := s.runEngines t upsets

/-- WFILL (R95). -/
def execWfill (t : Nat) (a : Access) (s : State) : Outcome := s.runTile t 0x19 a (issueWfill (s.ctx t))
/-- STREAM (R96, R136). -/
def execStream (t : Nat) (a : Access) (s : State) : Outcome := s.runTile t 0x1A a (issueStream (s.ctx t))

/-- A queued STREAM begins at its cycle B (R99). -/
def execStreamStart (t : Nat) (upsets : List Upset) (s : State) : Outcome := s.runEngines t upsets

/-- A row leaves the grid at its cycle, or the grid stalls (R99 to R106, R159). -/
def execGridRowOutput (t : Nat) (deck staging : List Upset) (s : State) : Outcome := s.runEngines t (deck ++ staging)

/-- The route summary is written in the cycles after the last placement (R162, R164). -/
def execRouteSummaryWrite (t : Nat) (s : State) (upsets : List Upset := []) : Outcome := s.runEngines t upsets

/-- DRAIN (R104, R136). -/
def execDrain (t : Nat) (a : Access) (s : State) : Outcome := s.runTile t 0x1B a (issueDrain (s.ctx t))
/-- DFILL (R137). -/
def execDfill (t : Nat) (a : Access) (s : State) : Outcome := s.runTile t 0x1C a (issueDfill (s.ctx t))
/-- DCOPY (R137). -/
def execDcopy (t : Nat) (a : Access) (s : State) : Outcome := s.runTile t 0x1D a (issueDcopy (s.ctx t))

/-! ## Vector row (R109 to R117, R138) -/

/-- VARITH (R110, R138). -/
def execVarith (t : Nat) (a : Access) (s : State) : Outcome := s.runTile t 0x20 a (issueVarith (s.ctx t))
/-- VCMP (R138). -/
def execVcmp (t : Nat) (a : Access) (s : State) : Outcome := s.runTile t 0x21 a (issueVcmp (s.ctx t))
/-- VINT (R138). -/
def execVint (t : Nat) (a : Access) (s : State) : Outcome := s.runTile t 0x22 a (issueVint (s.ctx t))
/-- VMOVE (R138). -/
def execVmove (t : Nat) (a : Access) (s : State) : Outcome := s.runTile t 0x23 a (issueVmove (s.ctx t))
/-- VCVT (R138). -/
def execVcvt (t : Nat) (a : Access) (s : State) : Outcome := s.runTile t 0x24 a (issueVcvt (s.ctx t))

/-- VFUNC (R116): a free value stands in where the evaluation finds no code (log 9). -/
def execVfunc (t : Nat) (a : Access) (s : State) : Outcome :=
  s.useFree.runTile t 0x25 a fun x w => issueVfunc (s.ctx t) x w (Config.functionCode s.free)

/-- VRED (R115). -/
def execVred (t : Nat) (a : Access) (s : State) : Outcome := s.runTile t 0x26 a (issueVred (s.ctx t))
/-- VLD (R138). -/
def execVld (t : Nat) (a : Access) (s : State) : Outcome := s.runTile t 0x28 a (issueVld (s.ctx t))
/-- VST (R138). -/
def execVst (t : Nat) (a : Access) (s : State) : Outcome := s.runTile t 0x29 a (issueVst (s.ctx t))
/-- VGATHER (R113). -/
def execVgather (t : Nat) (a : Access) (s : State) : Outcome := s.runTile t 0x2A a (issueVgather (s.ctx t))
/-- VSCATTER (R114). -/
def execVscatter (t : Nat) (a : Access) (s : State) : Outcome := s.runTile t 0x2B a (issueVscatter (s.ctx t))
/-- VSCADD (R114). -/
def execVscadd (t : Nat) (a : Access) (s : State) : Outcome := s.runTile t 0x2C a (issueVscadd (s.ctx t))

/-! ## Channels (R133) -/

/-- CSEND (R133). -/
def execCsend (t : Nat) (a : Access) (s : State) : Outcome := s.runTile t 0x30 a (issueCsend (s.ctx t))
/-- CRECV (R133). -/
def execCrecv (t : Nat) (a : Access) (s : State) : Outcome := s.runTile t 0x31 a (issueCrecv (s.ctx t))

/-- The barrier of a domain completes 400 cycles after its last arrival, at every member (R198, R134). -/
def execBarrierComplete (d : Nat) (s : State) : Outcome :=
  match Map.find? s.barriers d with
  | none => .next s
  | some c =>
    if s.clk.now < c + 400 then .next s
    else
      let go := fun (_ : Nat) (x : Tile) =>
        if x.arrived.contains d then
          { x with
            arrived := x.arrived.filter fun e => e != d
            nextIssue := if x.wait = .sync d then max x.nextIssue s.clk.now else x.nextIssue
            wait := if x.wait = .sync d then .none else x.wait }
        else x
      .next ({ s with barriers := Map.erase s.barriers d, tiles := Map.mapVals go s.tiles } : State).noteBarriers

end Sys2Proof.Machine
end

