-- ==== Sys2Proof/Machine/Dispatch.lean ====
section
/-! DEFINITION. One arm for each command: its meaning, called once (R4, R453). -/

namespace Sys2Proof.Machine

/-- The effect of a command on everything but the queue. -/
def exec (i : Instr) (s : State) : Host.Outcome State Fault Refusal :=
  match i with
  | .powerGood straps => Sys2Proof.Machine.execPowerGood straps s
  | .dawnWave w tests => Sys2Proof.Machine.execDawnWave w tests s
  | .waveRepeat test => Sys2Proof.Machine.execWaveRepeat test s
  | .interconnectTest res => Sys2Proof.Machine.execInterconnectTest res s
  | .retentionReadback r res => Sys2Proof.Machine.execRetentionReadback r res s
  | .regionPowerOffExpiry r => Sys2Proof.Machine.execRegionPowerOffExpiry r s
  | .stackReady g init => Sys2Proof.Machine.execStackReady g init s
  | .stackPowerCycleExpiry g initOk => Sys2Proof.Machine.execStackPowerCycleExpiry g initOk s
  | .dawnFinalStage => Sys2Proof.Machine.execDawnFinalStage s
  | .readyReached => Sys2Proof.Machine.execReadyReached s
  | .trialWatchdog => Sys2Proof.Machine.execTrialWatchdog s
  | .lockstepMismatch => Sys2Proof.Machine.execLockstepMismatch s
  | .modResetAssert => Sys2Proof.Machine.execModResetAssert s
  | .modResetDeassert straps => Sys2Proof.Machine.execModResetDeassert straps s
  | .cmpResetAssert => Sys2Proof.Machine.execCmpResetAssert s
  | .cmpResetRelease => Sys2Proof.Machine.execCmpResetRelease s
  | .vrAlertFall => Sys2Proof.Machine.execVrAlertFall s
  | .nightEnd => Sys2Proof.Machine.execNightEnd s
  | .coolOkDeassert => Sys2Proof.Machine.execCoolOkDeassert s
  | .coolOkRestart => Sys2Proof.Machine.execCoolOkRestart s
  | .sensorConversion r temps => Sys2Proof.Machine.execSensorConversion r temps s
  | .inputUndervoltage => Sys2Proof.Machine.execInputUndervoltage s
  | .inputOvervoltage => Sys2Proof.Machine.execInputOvervoltage s
  | .computeEfuseOpen r => Sys2Proof.Machine.execComputeEfuseOpen r s
  | .thoroughfareEfuseOpen r => Sys2Proof.Machine.execThoroughfareEfuseOpen r s
  | .frameEnd => Sys2Proof.Machine.execFrameEnd s
  | .frameTick tel => Sys2Proof.Machine.execFrameTick tel s
  | .agingMeasurement r point mv => Sys2Proof.Machine.execAgingMeasurement r point mv s
  | .logSummaryWrite => Sys2Proof.Machine.execLogSummaryWrite s
  | .mapStore => Sys2Proof.Machine.execMapStore s
  | .holdTimeout tel => Sys2Proof.Machine.execHoldTimeout tel s
  | .originFrameRelease => Sys2Proof.Machine.execOriginFrameRelease s
  | .barrierComplete d => Sys2Proof.Machine.execBarrierComplete d s
  | .halt t a => Sys2Proof.Machine.execHalt t a s
  | .nop t a => Sys2Proof.Machine.execNop t a s
  | .fwait t a => Sys2Proof.Machine.execFwait t a s
  | .testw t a => Sys2Proof.Machine.execTestw t a s
  | .testWindowEnd t => Sys2Proof.Machine.execTestWindowEnd t s
  | .sync t a => Sys2Proof.Machine.execSync t a s
  | .gfence t a => Sys2Proof.Machine.execGfence t a s
  | .cwait t a => Sys2Proof.Machine.execCwait t a s
  | .sli t a => Sys2Proof.Machine.execSli t a s
  | .slih t a => Sys2Proof.Machine.execSlih t a s
  | .salu t a => Sys2Proof.Machine.execSalu t a s
  | .smovs t a => Sys2Proof.Machine.execSmovs t a s
  | .br t a => Sys2Proof.Machine.execBr t a s
  | .dbnz t a => Sys2Proof.Machine.execDbnz t a s
  | .setrc t a => Sys2Proof.Machine.execSetrc t a s
  | .lds t a => Sys2Proof.Machine.execLds t a s
  | .sts t a => Sys2Proof.Machine.execSts t a s
  | .loadw t a => Sys2Proof.Machine.execLoadw t a s
  | .loadwStart t upsets => Sys2Proof.Machine.execLoadwStart t upsets s
  | .wfill t a => Sys2Proof.Machine.execWfill t a s
  | .stream t a => Sys2Proof.Machine.execStream t a s
  | .streamStart t upsets => Sys2Proof.Machine.execStreamStart t upsets s
  | .gridRowOutput t deck staging => Sys2Proof.Machine.execGridRowOutput t deck staging s
  | .routeSummaryWrite t upsets => Sys2Proof.Machine.execRouteSummaryWrite t s upsets
  | .drain t a => Sys2Proof.Machine.execDrain t a s
  | .dfill t a => Sys2Proof.Machine.execDfill t a s
  | .dcopy t a => Sys2Proof.Machine.execDcopy t a s
  | .varith t a => Sys2Proof.Machine.execVarith t a s
  | .vcmp t a => Sys2Proof.Machine.execVcmp t a s
  | .vint t a => Sys2Proof.Machine.execVint t a s
  | .vmove t a => Sys2Proof.Machine.execVmove t a s
  | .vcvt t a => Sys2Proof.Machine.execVcvt t a s
  | .vfunc t a => Sys2Proof.Machine.execVfunc t a s
  | .vred t a => Sys2Proof.Machine.execVred t a s
  | .vld t a => Sys2Proof.Machine.execVld t a s
  | .vst t a => Sys2Proof.Machine.execVst t a s
  | .vgather t a => Sys2Proof.Machine.execVgather t a s
  | .vscatter t a => Sys2Proof.Machine.execVscatter t a s
  | .vscadd t a => Sys2Proof.Machine.execVscadd t a s
  | .csend t a => Sys2Proof.Machine.execCsend t a s
  | .crecv t a => Sys2Proof.Machine.execCrecv t a s
  | .slotEntry t upsets => Sys2Proof.Machine.execSlotEntry t upsets s
  | .localSend t upsets => Sys2Proof.Machine.execLocalSend t upsets s
  | .lineReceive t => Sys2Proof.Machine.execLineReceive t s
  | .queuedDeckWrite t upsets => Sys2Proof.Machine.execQueuedDeckWrite t upsets s
  | .testSliceEnd t mismatch upsets => Sys2Proof.Machine.execTestSliceEnd t mismatch upsets s
  | .testSliceAbort t => Sys2Proof.Machine.execTestSliceAbort t s
  | .arm port g => Sys2Proof.Machine.execArm port g s
  | .disarm port g => Sys2Proof.Machine.execDisarm port g s
  | .stackTransferIssue g host => Sys2Proof.Machine.execStackTransferIssue g host s
  | .stackTransferComplete g idx ecc => Sys2Proof.Machine.execStackTransferComplete g idx ecc s
  | .rimLineSend g r bufCe => Sys2Proof.Machine.execRimLineSend g r bufCe s
  | .rimLineReceive g => Sys2Proof.Machine.execRimLineReceive g s
  | .hostReadCompletion g r addr data => Sys2Proof.Machine.execHostReadCompletion g r addr data s
  | .hostReadError g r => Sys2Proof.Machine.execHostReadError g r s
  | .completionTimeout g r => Sys2Proof.Machine.execCompletionTimeout g r s
  | .pageFault g r page => Sys2Proof.Machine.execPageFault g r page s
  | .pageRequestResponse g r success => Sys2Proof.Machine.execPageRequestResponse g r success s
  | .faultTimeout g r => Sys2Proof.Machine.execFaultTimeout g r s
  | .atsInvalidation port page pasid => Sys2Proof.Machine.execAtsInvalidation port page pasid s
  | .ingressDoorbell port g r count => Sys2Proof.Machine.execIngressDoorbell port g r count s
  | .doorbellAccept port => Sys2Proof.Machine.execDoorbellAccept port s
  | .cqHeadWrite port g value => Sys2Proof.Machine.execCqHeadWrite port g value s
  | .scqHeadWrite port value => Sys2Proof.Machine.execScqHeadWrite port value s
  | .refreshSlot g => Sys2Proof.Machine.execRefreshSlot g s
  | .forcedRefresh g => Sys2Proof.Machine.execForcedRefresh g s
  | .apertureRead port off len ecc => Sys2Proof.Machine.execApertureRead port off len ecc s
  | .apertureWrite port off data poisoned => Sys2Proof.Machine.execApertureWrite port off data poisoned s
  | .boulevardRow node tile => Sys2Proof.Machine.execBoulevardRow node tile s
  | .boulevardForward node => Sys2Proof.Machine.execBoulevardForward node s
  | .gradientRowAtGate g => Sys2Proof.Machine.execGradientRowAtGate g s
  | .reductionMessage g => Sys2Proof.Machine.execReductionMessage g s
  | .blockUpdate g layer idx => Sys2Proof.Machine.execBlockUpdate g layer idx s
  | .trainingWindowOpen p => Sys2Proof.Machine.execTrainingWindowOpen p s
  | .trainingWindowClose p => Sys2Proof.Machine.execTrainingWindowClose p s
  | .linkWake p => Sys2Proof.Machine.execLinkWake p s
  | .linkTrainingComplete p res => Sys2Proof.Machine.execLinkTrainingComplete p res s
  | .linkLossOfLock p => Sys2Proof.Machine.execLinkLossOfLock p s
  | .recoveryComplete p res => Sys2Proof.Machine.execRecoveryComplete p res s
  | .recoveryTimeout p => Sys2Proof.Machine.execRecoveryTimeout p s
  | .flitSlotSend p => Sys2Proof.Machine.execFlitSlotSend p s
  | .dataFlitReceive p f ce ue => Sys2Proof.Machine.execDataFlitReceive p f s ce ue
  | .ready p f k => Sys2Proof.Machine.execReady p f k s
  | .sendReady => Sys2Proof.Machine.execSendReady s
  | .masterTickRelease => Sys2Proof.Machine.execMasterTickRelease s
  | .go p f k => Sys2Proof.Machine.execGo p f k s
  | .abort p f k => Sys2Proof.Machine.execAbort p f k s
  | .stepOpen p f k => Sys2Proof.Machine.execStepOpen p f k s
  | .resetState p f k => Sys2Proof.Machine.execResetState p f k s
  | .eof p f k => Sys2Proof.Machine.execEof p f k s
  | .fsyncTransition => Sys2Proof.Machine.execFsyncTransition s
  | .syncLostTimeout => Sys2Proof.Machine.execSyncLostTimeout s
  | .retrain port p => Sys2Proof.Machine.execRetrain port p s
  | .disable port p => Sys2Proof.Machine.execDisable port p s
  | .linkMapArm port => Sys2Proof.Machine.execLinkMapArm port s
  | .linkMapCommit => Sys2Proof.Machine.execLinkMapCommit s
  | .pciePortReset port => Sys2Proof.Machine.execPciePortReset port s
  | .pciePortResetRelease port => Sys2Proof.Machine.execPciePortResetRelease port s
  | .pcieConfigWrite port op => Sys2Proof.Machine.execPcieConfigWrite port op s
  | .msixUnmask port vec => Sys2Proof.Machine.execMsixUnmask port vec s
  | .registerWrite port bar off size value => Sys2Proof.Machine.execRegisterWrite port bar off size value s
  | .updStepWrite port off size value => Sys2Proof.Machine.execUpdStepWrite port off size value s
  | .load port => Sys2Proof.Machine.execLoad port s
  | .planLoadComplete ecc => Sys2Proof.Machine.execPlanLoadComplete s ecc
  | .start port => Sys2Proof.Machine.execStart port s
  | .stop port => Sys2Proof.Machine.execStop port s
  | .stage port => Sys2Proof.Machine.execStage port s
  | .stageComplete flashOk ecc => Sys2Proof.Machine.execStageComplete flashOk s ecc
  | .activate port => Sys2Proof.Machine.execActivate port s
  | .confirm port => Sys2Proof.Machine.execConfirm port s
  | .revert port => Sys2Proof.Machine.execRevert port s
  | .cfgStore port => Sys2Proof.Machine.execCfgStore port s
  | .lcFinish port => Sys2Proof.Machine.execLcFinish port s
  | .lcClaim port => Sys2Proof.Machine.execLcClaim port s
  | .lcLock port => Sys2Proof.Machine.execLcLock port s
  | .lcUnlock port => Sys2Proof.Machine.execLcUnlock port s
  | .lcShip port => Sys2Proof.Machine.execLcShip port s
  | .lcReceive port => Sys2Proof.Machine.execLcReceive port s
  | .lcTransfer port => Sys2Proof.Machine.execLcTransfer port s
  | .lcRelease port => Sys2Proof.Machine.execLcRelease port s
  | .lcReturn port => Sys2Proof.Machine.execLcReturn port s
  | .lcRestock port => Sys2Proof.Machine.execLcRestock port s
  | .lcScrap port => Sys2Proof.Machine.execLcScrap port s
  | .lcCfgAuth port => Sys2Proof.Machine.execLcCfgAuth port s
  | .lcFwAuth port => Sys2Proof.Machine.execLcFwAuth port s
  | .lifecycleWipeDone failed => Sys2Proof.Machine.execLifecycleWipeDone failed s
  | .tstRun port => Sys2Proof.Machine.execTstRun port s
  | .tstRefurb port => Sys2Proof.Machine.execTstRefurb port s
  | .tstAbort port => Sys2Proof.Machine.execTstAbort port s
  | .testComplete res => Sys2Proof.Machine.execTestComplete res s
  | .setdasa addr => Sys2Proof.Machine.execSetdasa addr s
  | .entdaa addr => Sys2Proof.Machine.execEntdaa addr s
  | .setEndpointId eid => Sys2Proof.Machine.execSetEndpointId eid s
  | .getEndpointId => Sys2Proof.Machine.execGetEndpointId s
  | .getMctpVersionSupport => Sys2Proof.Machine.execGetMctpVersionSupport s
  | .getMessageTypeSupport => Sys2Proof.Machine.execGetMessageTypeSupport s
  | .getStatus => Sys2Proof.Machine.execGetStatus s
  | .readMap off len => Sys2Proof.Machine.execReadMap off len s
  | .readLog off len => Sys2Proof.Machine.execReadLog off len s
  | .readReg off => Sys2Proof.Machine.execReadReg off s
  | .readLastStep => Sys2Proof.Machine.execReadLastStep s
  | .getNonce => Sys2Proof.Machine.execGetNonce s
  | .lcRequest req => Sys2Proof.Machine.execLcRequest req s
  | .lcStatus => Sys2Proof.Machine.execLcStatus s
  | .fwStatusQuery => Sys2Proof.Machine.execFwStatusQuery s
  | .fwControl op => Sys2Proof.Machine.execFwControl op s
  | .getVersion tr => Sys2Proof.Machine.execGetVersion tr s
  | .getCapabilities tr => Sys2Proof.Machine.execGetCapabilities tr s
  | .negotiateAlgorithms tr => Sys2Proof.Machine.execNegotiateAlgorithms tr s
  | .getDigests tr => Sys2Proof.Machine.execGetDigests tr s
  | .getCertificate tr off len => Sys2Proof.Machine.execGetCertificate tr off len s
  | .challenge tr nonce => Sys2Proof.Machine.execChallenge tr nonce s
  | .getMeasurements tr index nonce => Sys2Proof.Machine.execGetMeasurements tr index nonce s
  | .atsTranslationCompletion g r page granted => Sys2Proof.Machine.execAtsTranslationCompletion g r page granted s
  | .cfgStoreComplete flashOk ecc => Sys2Proof.Machine.execCfgStoreComplete flashOk s ecc
  | .vrAlertRise => Sys2Proof.Machine.execVrAlertRise s
  | .coolOkAssert => Sys2Proof.Machine.execCoolOkAssert s
  | .idleFlitReceive p f ce ue => Sys2Proof.Machine.execIdleFlitReceive p f s ce ue
  | .doeDiscovery port index => Sys2Proof.Machine.execDoeDiscovery port index s

end Sys2Proof.Machine
end

