-- ==== Sys2Proof/WellFormed.lean ====
section
/-! DEFINITION. Which operand values of a command name something that the module has. A command that is not well formed has
no effect of its own or names nothing, as its meaning says. -/

namespace Sys2Proof

/-- What an operand of a command numbers (R5, R6, R34, R35, R42, R90, R143, R208, R270, R295, R323, R332, R339, R369). -/
inductive UnitKind where
  | tile
  | region
  | gate
  | ring
  | link
  | host
  | domain
  | node
  | transport
  | wave
  | point
  | message
  | straps
  | pasid
  | layer
  | address
  deriving DecidableEq, Repr

/-- How many there are: tiles, regions, gates, rings of a gate, link ports, PCIe ports, barrier domains, boulevard nodes
below the gates, SPDM transports, waves of Dawn, fused points, messages of a sync flit, strap values, PASIDs, layer ids,
I3C addresses. -/
def UnitKind.count : UnitKind → Nat
  | .tile => 26880
  | .region => 84
  | .gate => 48
  | .ring => 1024
  | .link => 16
  | .host => 2
  | .domain => 4
  | .node => 6804
  | .transport => 3
  | .wave => 14
  | .point => 8
  | .message => 15
  | .straps => 16
  | .pasid => 1048576
  | .layer => 65536
  | .address => 128

/-- The units that the operands of a command name. -/
def Instr.units : Instr → List (UnitKind × Nat)
  | .powerGood straps => [(.straps, straps)]
  | .dawnWave w _ => [(.wave, w)]
  | .waveRepeat test => [(.region, test.region)]
  | .interconnectTest _ => []
  | .retentionReadback r _ => [(.region, r)]
  | .regionPowerOffExpiry r => [(.region, r)]
  | .stackReady g _ => [(.gate, g)]
  | .stackPowerCycleExpiry g _ => [(.gate, g)]
  | .dawnFinalStage => []
  | .readyReached => []
  | .trialWatchdog => []
  | .lockstepMismatch => []
  | .modResetAssert => []
  | .modResetDeassert straps => [(.straps, straps)]
  | .cmpResetAssert => []
  | .cmpResetRelease => []
  | .vrAlertFall => []
  | .nightEnd => []
  | .coolOkDeassert => []
  | .coolOkRestart => []
  | .sensorConversion r _ => [(.region, r)]
  | .inputUndervoltage => []
  | .inputOvervoltage => []
  | .computeEfuseOpen r => [(.region, r)]
  | .thoroughfareEfuseOpen r => [(.region, r)]
  | .frameEnd => []
  | .frameTick _ => []
  | .agingMeasurement r point _ => [(.region, r), (.point, point)]
  | .logSummaryWrite => []
  | .mapStore => []
  | .holdTimeout _ => []
  | .originFrameRelease => []
  | .barrierComplete d => [(.domain, d)]
  | .halt t _ => [(.tile, t)]
  | .nop t _ => [(.tile, t)]
  | .fwait t _ => [(.tile, t)]
  | .testw t _ => [(.tile, t)]
  | .testWindowEnd t => [(.tile, t)]
  | .sync t _ => [(.tile, t)]
  | .gfence t _ => [(.tile, t)]
  | .cwait t _ => [(.tile, t)]
  | .sli t _ => [(.tile, t)]
  | .slih t _ => [(.tile, t)]
  | .salu t _ => [(.tile, t)]
  | .smovs t _ => [(.tile, t)]
  | .br t _ => [(.tile, t)]
  | .dbnz t _ => [(.tile, t)]
  | .setrc t _ => [(.tile, t)]
  | .lds t _ => [(.tile, t)]
  | .sts t _ => [(.tile, t)]
  | .loadw t _ => [(.tile, t)]
  | .loadwStart t _ => [(.tile, t)]
  | .wfill t _ => [(.tile, t)]
  | .stream t _ => [(.tile, t)]
  | .streamStart t _ => [(.tile, t)]
  | .gridRowOutput t _ _ => [(.tile, t)]
  | .routeSummaryWrite t _ => [(.tile, t)]
  | .drain t _ => [(.tile, t)]
  | .dfill t _ => [(.tile, t)]
  | .dcopy t _ => [(.tile, t)]
  | .varith t _ => [(.tile, t)]
  | .vcmp t _ => [(.tile, t)]
  | .vint t _ => [(.tile, t)]
  | .vmove t _ => [(.tile, t)]
  | .vcvt t _ => [(.tile, t)]
  | .vfunc t _ => [(.tile, t)]
  | .vred t _ => [(.tile, t)]
  | .vld t _ => [(.tile, t)]
  | .vst t _ => [(.tile, t)]
  | .vgather t _ => [(.tile, t)]
  | .vscatter t _ => [(.tile, t)]
  | .vscadd t _ => [(.tile, t)]
  | .csend t _ => [(.tile, t)]
  | .crecv t _ => [(.tile, t)]
  | .slotEntry t _ => [(.tile, t)]
  | .localSend t _ => [(.tile, t)]
  | .lineReceive t => [(.tile, t)]
  | .queuedDeckWrite t _ => [(.tile, t)]
  | .testSliceEnd t _ _ => [(.tile, t)]
  | .testSliceAbort t => [(.tile, t)]
  | .arm port g => [(.host, port), (.gate, g)]
  | .disarm port g => [(.host, port), (.gate, g)]
  | .stackTransferIssue g _ => [(.gate, g)]
  | .stackTransferComplete g _ _ => [(.gate, g)]
  | .rimLineSend g r _ => [(.gate, g), (.ring, r)]
  | .rimLineReceive g => [(.gate, g)]
  | .hostReadCompletion g r _ _ => [(.gate, g), (.ring, r)]
  | .hostReadError g r => [(.gate, g), (.ring, r)]
  | .completionTimeout g r => [(.gate, g), (.ring, r)]
  | .pageFault g r _ => [(.gate, g), (.ring, r)]
  | .pageRequestResponse g r _ => [(.gate, g), (.ring, r)]
  | .faultTimeout g r => [(.gate, g), (.ring, r)]
  | .atsInvalidation port _ pasid => [(.host, port), (.pasid, pasid)]
  | .ingressDoorbell port g r _ => [(.host, port), (.gate, g), (.ring, r)]
  | .doorbellAccept port => [(.host, port)]
  | .cqHeadWrite port g _ => [(.host, port), (.gate, g)]
  | .scqHeadWrite port _ => [(.host, port)]
  | .refreshSlot g => [(.gate, g)]
  | .forcedRefresh g => [(.gate, g)]
  | .apertureRead port _ _ _ => [(.host, port)]
  | .apertureWrite port _ _ _ => [(.host, port)]
  | .boulevardRow node tile => (.node, node) :: (tile.toList.map fun t => (.tile, t))
  | .boulevardForward node => [(.node, node)]
  | .gradientRowAtGate g => [(.gate, g)]
  | .reductionMessage g => [(.gate, g)]
  | .blockUpdate g layer _ => [(.gate, g), (.layer, layer)]
  | .trainingWindowOpen p => [(.link, p)]
  | .trainingWindowClose p => [(.link, p)]
  | .linkWake p => [(.link, p)]
  | .linkTrainingComplete p _ => [(.link, p)]
  | .linkLossOfLock p => [(.link, p)]
  | .recoveryComplete p _ => [(.link, p)]
  | .recoveryTimeout p => [(.link, p)]
  | .flitSlotSend p => [(.link, p)]
  | .dataFlitReceive p _ _ _ => [(.link, p)]
  | .ready p _ k => [(.link, p), (.message, k)]
  | .sendReady => []
  | .masterTickRelease => []
  | .go p _ k => [(.link, p), (.message, k)]
  | .abort p _ k => [(.link, p), (.message, k)]
  | .stepOpen p _ k => [(.link, p), (.message, k)]
  | .resetState p _ k => [(.link, p), (.message, k)]
  | .eof p _ k => [(.link, p), (.message, k)]
  | .fsyncTransition => []
  | .syncLostTimeout => []
  | .retrain port p => [(.host, port), (.link, p)]
  | .disable port p => [(.host, port), (.link, p)]
  | .linkMapArm port => [(.host, port)]
  | .linkMapCommit => []
  | .pciePortReset port => [(.host, port)]
  | .pciePortResetRelease port => [(.host, port)]
  | .pcieConfigWrite port _ => [(.host, port)]
  | .msixUnmask port _ => [(.host, port)]
  | .registerWrite port _ _ _ _ => [(.host, port)]
  | .updStepWrite port _ _ _ => [(.host, port)]
  | .load port => [(.host, port)]
  | .planLoadComplete _ => []
  | .start port => [(.host, port)]
  | .stop port => [(.host, port)]
  | .stage port => [(.host, port)]
  | .stageComplete _ _ => []
  | .activate port => [(.host, port)]
  | .confirm port => [(.host, port)]
  | .revert port => [(.host, port)]
  | .cfgStore port => [(.host, port)]
  | .lcFinish port => [(.host, port)]
  | .lcClaim port => [(.host, port)]
  | .lcLock port => [(.host, port)]
  | .lcUnlock port => [(.host, port)]
  | .lcShip port => [(.host, port)]
  | .lcReceive port => [(.host, port)]
  | .lcTransfer port => [(.host, port)]
  | .lcRelease port => [(.host, port)]
  | .lcReturn port => [(.host, port)]
  | .lcRestock port => [(.host, port)]
  | .lcScrap port => [(.host, port)]
  | .lcCfgAuth port => [(.host, port)]
  | .lcFwAuth port => [(.host, port)]
  | .lifecycleWipeDone _ => []
  | .tstRun port => [(.host, port)]
  | .tstRefurb port => [(.host, port)]
  | .tstAbort port => [(.host, port)]
  | .testComplete _ => []
  | .setdasa addr => [(.address, addr)]
  | .entdaa addr => [(.address, addr)]
  | .setEndpointId _ => []
  | .getEndpointId => []
  | .getMctpVersionSupport => []
  | .getMessageTypeSupport => []
  | .getStatus => []
  | .readMap _ _ => []
  | .readLog _ _ => []
  | .readReg _ => []
  | .readLastStep => []
  | .getNonce => []
  | .lcRequest _ => []
  | .lcStatus => []
  | .fwStatusQuery => []
  | .fwControl _ => []
  | .getVersion tr => [(.transport, tr)]
  | .getCapabilities tr => [(.transport, tr)]
  | .negotiateAlgorithms tr => [(.transport, tr)]
  | .getDigests tr => [(.transport, tr)]
  | .getCertificate tr _ _ => [(.transport, tr)]
  | .challenge tr _ => [(.transport, tr)]
  | .getMeasurements tr _ _ => [(.transport, tr)]
  | .atsTranslationCompletion g r _ _ => [(.gate, g), (.ring, r)]
  | .cfgStoreComplete _ _ => []
  | .vrAlertRise => []
  | .coolOkAssert => []
  | .idleFlitReceive p _ _ _ => [(.link, p)]
  | .doeDiscovery port _ => [(.host, port)]

/-- Bounds on operands that are no unit numbers: a register offset within its BAR, a request within the aperture's page,
a life-cycle request of 232 bytes, a flit's payload (R292, R323, R325, R408). -/
def Instr.inBounds : Instr → Bool
  | .registerWrite _ bar off _ _ => (bar == 0 && decide (off < 67108864)) || (bar == 4 && decide (off < 4194304))
  | .updStepWrite _ off _ _ => decide (off < 8)
  | .apertureRead _ off len _ => decide (0 < len) && decide (off % 4096 + len ≤ 4096)
  | .apertureWrite _ off data _ => !data.isEmpty && decide (off % 4096 + data.length ≤ 4096)
  | .lcRequest req => req.length == 232
  | .dataFlitReceive _ f _ _ => f.payload.length == 240
  | .sensorConversion _ temps => temps.length == 4
  | .challenge _ nonce => nonce.length == 32
  | .getMeasurements _ _ nonce => nonce.length == 32
  | _ => true

/-- A command whose operands name what the module has. -/
def Instr.wf (i : Instr) : Bool := (i.units.all fun u => decide (u.2 < u.1.count)) && i.inBounds

end Sys2Proof
end

