-- ==== Sys2Proof/Safety.lean ====
section
/-! DEFINITION. What the statements speak of: when Dawn has just begun, when an instruction of a tile may issue, what it may
store to, and the invariants. -/

namespace Sys2Proof.Machine

/-- Dawn has just begun at a wall time, with straps and a cause (R367, R390): nothing volatile is left. -/
structure DawnBegun (t : State) (wall straps cause : Nat) : Prop where
  powered : t.dawn.powered = true
  started : t.dawn.started = wall
  straps : t.hostRegs.straps = straps
  cause : t.dawn.resetCause = cause
  notReady : t.dawn.ready = false ∧ t.dawn.bistDone = false ∧ t.dawn.firstReady = false
  tiles : t.tiles = []
  gates : ∀ g, (t.gate g).rings = [] ∧ (t.gate g).flights = [] ∧ (t.gate g).stackState = .off ∧ (t.gate g).powerOffUntil = none
  stack : t.stack = []
  plan : t.plan.plan = none ∧ t.plan.state = .none
  spines : t.clk.running = false

/-! ## Instructions of a tile -/

/-- The tile, opcode and access of a command that is an instruction of a tile program (R128). -/
def tileOp : Instr → Option (Nat × Nat × Access)
  | .halt t a => some (t, 0x00, a)
  | .nop t a => some (t, 0x01, a)
  | .fwait t a => some (t, 0x02, a)
  | .testw t a => some (t, 0x03, a)
  | .sync t a => some (t, 0x04, a)
  | .gfence t a => some (t, 0x05, a)
  | .cwait t a => some (t, 0x06, a)
  | .sli t a => some (t, 0x08, a)
  | .slih t a => some (t, 0x09, a)
  | .salu t a => some (t, 0x0A, a)
  | .smovs t a => some (t, 0x0B, a)
  | .br t a => some (t, 0x0C, a)
  | .dbnz t a => some (t, 0x0D, a)
  | .setrc t a => some (t, 0x0E, a)
  | .lds t a => some (t, 0x0F, a)
  | .sts t a => some (t, 0x10, a)
  | .loadw t a => some (t, 0x18, a)
  | .wfill t a => some (t, 0x19, a)
  | .stream t a => some (t, 0x1A, a)
  | .drain t a => some (t, 0x1B, a)
  | .dfill t a => some (t, 0x1C, a)
  | .dcopy t a => some (t, 0x1D, a)
  | .varith t a => some (t, 0x20, a)
  | .vcmp t a => some (t, 0x21, a)
  | .vint t a => some (t, 0x22, a)
  | .vmove t a => some (t, 0x23, a)
  | .vcvt t a => some (t, 0x24, a)
  | .vfunc t a => some (t, 0x25, a)
  | .vred t a => some (t, 0x26, a)
  | .vld t a => some (t, 0x28, a)
  | .vst t a => some (t, 0x29, a)
  | .vgather t a => some (t, 0x2A, a)
  | .vscatter t a => some (t, 0x2B, a)
  | .vscadd t a => some (t, 0x2C, a)
  | .csend t a => some (t, 0x30, a)
  | .crecv t a => some (t, 0x31, a)
  | _ => none

/-- The byte addresses of the instruction word at an index of the program store (R122). -/
def fetchAddrs (pc : Nat) : List Nat := (List.range 8).map (8 * pc + ·)

/-- Tile t, as it stands in this cycle (x), has the instruction word w with this opcode before it: its sequencer runs, waits
for nothing, may issue, and the word can be read (R91, R122, R125, R127). -/
structure Fetched (s : State) (t op : Nat) (a : Access) (x : Tile) (w : Nat) : Prop where
  tile : x = (s.tileNow t a.upsets).1
  word : w = x.instrAt x.pc
  runs : s.tileRuns t = true
  free : x.wait = .none
  due : x.nextIssue ≤ s.clk.now
  readable : anyBad x.stagingUe (fetchAddrs x.pc) = false
  opcode : fld w 63 56 = op

/-- And the word is not the last of the program store, where only a branch may stand (R122). -/
structure Issuing (s : State) (t op : Nat) (a : Access) (x : Tile) (w : Nat) : Prop extends Fetched s t op a x w where
  room : x.pc < 8191

/-- The state after tile t has issued: the tile, and what the issue reported. -/
def State.issued (s : State) (t : Nat) (a : Access) (x' : Tile) (n : Notes) : State :=
  s.finishIssue t x' (((s.tileNow t a.upsets).2.add
    ((s.tileNow t a.upsets).1.stagingNotes (fetchAddrs (s.tileNow t a.upsets).1.pc))).add n)

/-- The tile goes on to the next instruction after some cycles of issue (R122, R127). -/
def Tile.goesOn (x : Tile) (s : State) (cycles : Nat) : Tile := { x with pc := x.pc + 1, nextIssue := s.clk.now + cycles }

/-- The deck addresses that an access of the vector row still has to write (R110, R114). -/
def VecUse.stores : VecUse → List Nat
  | .store bs => bs.map (·.1 % deckSize)
  | .scadd f ls => (VecUse.scadd f ls).addrs
  | _ => []

/-- The deck addresses that a storing instruction of a tile writes in the cycles of its accesses (R84, R114, R130, R137, R138);
an instruction that stores nothing in the deck has none. -/
def deckStores (c : Instr) (x : Tile) (w : Nat) : List Nat :=
  match c with
  | .sts _ _ => wrapAddrs deckSize (scalarAddr x (fld w 46 42) (fld w 31 0)) 8
  | .dfill _ _ => wrapAddrs deckSize ((x.sGet (fld w 55 51)).toNat % deckSize / 2 * 2) (fld w 23 0 / 2 * 2)
  | .dcopy _ _ => wrapAddrs deckSize ((x.sGet (fld w 55 51)).toNat % deckSize) (fld w 23 0)
  | .vst _ _ =>
    match Fmt.ofCode (fld w 51 49) with
    | some f => activeAddrs (vFields x w) f (contigAddr x (vFields x w) f)
    | none => []
  | .vscatter _ _ | .vscadd _ _ =>
    match Fmt.ofCode (fld w 51 49) with
    | some f => activeAddrs (vFields x w) f (indexAddr x (vFields x w))
    | none => []
  | _ => []

/-- The staging addresses that WFILL writes: ROWS × ROWBYTES bytes of the weight buffer from its slot, which wrap from the
last slot to the first (R95). -/
def weightStores (x : Tile) (w : Nat) : List Nat :=
  (List.range (fld w 39 33 * fld w 32 26)).map fun i =>
    weightBase + ((fld w 7 0 + (x.sGet (fld w 44 40)).toNat) % 208 * slotBytes + i) % weightBytes

/-! ## The host's ports -/

/-- Requests of the host reach the registers and stacks at once through a PCIe port: its link is up, it holds no doorbell
write, and it takes memory requests in D0 (R321, R327). -/
structure PortOpen (s : State) (port : Nat) : Prop where
  bound : port < 2
  up : (s.hostPort port).linkUp = true
  free : (s.hostPort port).held = none
  awake : (s.hostPort port).d3 = false
  memory : (s.hostPort port).memSpace = true

/-! ## Messages of the group -/

/-- Message m, message k of sync flit f, arrives on port p with a kind: the port is UP, the flit is whole and follows in
sequence where the message is its first, and the messages before it have been taken where it is a later one (R293, R295). -/
structure Arrives (s : State) (p : Nat) (f : Flit) (k kind : Nat) (m : SyncMsg) : Prop where
  up : (s.port p).st = .up
  msg : m = f.msg k
  kindOf : m.kind = kind
  room : 16 * (k + 1) ≤ f.len
  order : (k = 0 ∧ f.good = true ∧ f.kind = 2 ∧ f.seq % 4096 = ((s.port p).rxSeq + 1) % 4096) ∨
    (0 < k ∧ (s.port p).syncIn = some (f, k))

/-- The commands of the life-cycle operations, with their codes (R409). -/
def lcOps (port : Nat) : List (Instr × Nat) :=
  [(.lcFinish port, 1), (.lcClaim port, 2), (.lcLock port, 3), (.lcUnlock port, 4), (.lcShip port, 5), (.lcReceive port, 6),
   (.lcTransfer port, 7), (.lcRelease port, 8), (.lcReturn port, 9), (.lcRestock port, 10), (.lcScrap port, 11),
   (.lcCfgAuth port, 12), (.lcFwAuth port, 13)]

/-! ## Invariants -/

/-- The stacks and the deck and staging SRAM of every tile are in their canonical form: addresses strictly rising, no byte 0x00
listed. -/
def State.memoriesCanonical (s : State) : Prop :=
  s.stack.wf = true ∧ ∀ x ∈ s.tiles, x.2.deck.wf = true ∧ x.2.staging.wf = true

/-- The module is scrapped: no change is under way or pending (R407, R409). -/
def State.scrapped (s : State) : Prop :=
  s.sector.state = .scrap ∧ s.ctl.change = none ∧ s.sector.pending = none

end Sys2Proof.Machine
end

