-- ==== Sys2Proof/Certificates/Slice0/Obligations.lean ====
section
/-! DEFINITION. The statements about the model, for the provers. -/

open Sys2Proof Sys2Proof.Machine

/-! ## Dawn (R367 to R383) -/

/-- Waves advance in order, each 70 ms (R369, R370), and a second missing signature kills the region's tiles (R375). -/
def Obligations.DawnWavesAdvance : Prop :=
  (∀ (w : Nat) (tests : List RegionTest) (s : State),
    s.dawnGoes = true → w = s.dawn.nextWave → w < 14 → s.pwr.night = false →
    max (s.dawn.started + wallMs (80 + 70 * w)) s.dawn.waveFrom + wallMs 70 ≤ s.clk.wall →
    ∃ t, exec (.dawnWave w tests) s = .next t ∧ t.dawn.nextWave = w + 1 ∧ t.dawn.waveFrom = s.clk.wall ∧
      t.stack = s.stack ∧
      (tests = [] → t.map = s.map ∧ t.dawn.regionsDone = s.dawn.regionsDone + 6)) ∧
  (∀ (x : RegionTest) (s : State),
    s.dawnGoes = true → s.dawn.nextWave = 14 → x.region ∈ s.dawn.repeats → s.pwr.night = false →
    s.dawn.waveFrom + wallMs 70 ≤ s.clk.wall →
    ∃ t, exec (.waveRepeat x) s = .next t ∧ x.region ∉ t.dawn.repeats ∧ t.stack = s.stack ∧
      (x.noSignature = true → s.sector.state ≠ .scrap → ∀ k ∈ tilesOfRegion x.region, t.map.tileDead k = true))

/-- What the stages after the waves record (R40, R378, R379). -/
def Obligations.DawnStageEventsRecord : Prop :=
  (∀ (res : InterconnectResult) (s : State),
    s.dawnGoes = true → s.wavesDone = true → s.dawn.interconnect = false → s.dawn.started + wallMs 1060 ≤ s.clk.wall →
    ∃ t, exec (.interconnectTest res) s = .next t ∧ t.dawn.interconnect = true ∧ t.stack = s.stack ∧
      (s.sector.state ≠ .scrap → ∀ p ∈ res.segments,
        p.1 = 0 ∧ p.2 < 26740 ∨ p.1 = 1 ∧ p.2 < 26688 ∨ p.1 = 2 ∧ p.2 < 25760 ∨ p.1 = 3 ∧ p.2 < 25344 →
        Map.find? t.map.segs (32768 * p.1 + p.2) = some true) ∧
      (res.rims = [] → ∀ k, (∀ p ∈ res.segments, segmentOk p = true → k ≠ 32768 * p.1 + p.2) →
        Map.find? t.map.segs k = Map.find? s.map.segs k)) ∧
  (∀ (r w : Nat) (res : RetentionResult) (s : State),
    s.dawnGoes = true → s.ctl.retention = true → r ∉ s.dawn.readBack → s.isDark r = false →
    Map.find? s.dawn.waveEnd r = some w → w + wallMs 1300 ≤ s.clk.wall →
    ∃ t, exec (.retentionReadback r res) s = .next t ∧ r ∈ t.dawn.readBack ∧ t.stack = s.stack ∧
      (res.links ≠ [] → s.sector.state ≠ .scrap → ∀ k ∈ tilesOfRegion r, t.map.tileDead k = true) ∧
      (res.wipeFail = true → r ∈ t.dawn.powerOff)) ∧
  (∀ (r : Nat) (s : State),
    s.dawnGoes = true → r ∈ s.dawn.powerOff → s.stagesDone = true →
    max s.dawn.stageEnd (s.dawn.started + wallMs 1500) + wallMs 2000 ≤ s.clk.wall →
    ∃ t, exec (.regionPowerOffExpiry r) s = .next t ∧ r ∉ t.dawn.powerOff ∧ t.stack = s.stack ∧
      ∀ k ∈ tilesOfRegion r, t.map.tileDead k = true)

/-- A stack's wipe ends: READY, or 2 s without power and a second sequence, or FAILED (R262 to R264). -/
def Obligations.StackSequenceEnds : Prop :=
  (∀ (g : Nat) (init : StackInit) (s : State),
    s.stacksGo = true → g < nGates → (s.gate g).stackState = .off → s.stackPhase g = .wipe →
    ∃ t, exec (.stackReady g init) s = .next t ∧ (∀ k, k ≠ g → t.gate k = s.gate k) ∧
      (init.wipeOk = true → (t.gate g).stackState = .ready ∧ (t.gate g).reinit = none ∧
        ∀ a, ownerGate a = g → t.stack.read a = 0 ∧ a / 32 ∉ t.stackUe) ∧
      (init.wipeOk = false → (s.gate g).reinit = none →
        (t.gate g).stackState = .off ∧ (t.gate g).powerOffUntil = some (s.clk.wall + wallMs 2000)) ∧
      (init.wipeOk = false → (s.gate g).reinit ≠ none → (t.gate g).stackState = .failed) ∧
      (s.stack.wf = true → ∀ a, ownerGate a ≠ g → t.stack.read a = s.stack.read a)) ∧
  (∀ (g : Nat) (init : StackInit) (s : State), s.stackPhase g ≠ .wipe → exec (.stackReady g init) s = .next s) ∧
  (∀ (g w : Nat) (s : State),
    (s.gate g).powerOffUntil = some w → s.stacksGo = true → w ≤ s.clk.wall →
    (∃ t, exec (.stackPowerCycleExpiry g false) s = .next t ∧ (t.gate g).stackState = .failed ∧ (t.gate g).powerOffUntil = none ∧
      t.stack = s.stack ∧ ∀ k, k ≠ g → t.gate k = s.gate k) ∧
    ∃ t, exec (.stackPowerCycleExpiry g true) s = .next t ∧ t.stack = s.stack ∧ (∀ k, k ≠ g → t.gate k = s.gate k) ∧
      (t.gate g).powerOffUntil = none ∧ (t.gate g).reinit = some s.clk.wall ∧ (t.gate g).debt = 0 ∧
      ((s.gate g).stackState = .off → ∀ n, ({ t with clk := { t.clk with wall := s.clk.wall + n } } : State).stackPhase g =
        if n < wallMs 20 then .off else if n < wallMs 140 then .init else .wipe)) ∧
  (∀ (g w : Nat) (ok : Bool) (s : State), (s.gate g).powerOffUntil = some w → s.clk.wall < w →
    exec (.stackPowerCycleExpiry g ok) s = .next s)

/-- The end of Dawn (R380) and READY, at which the map is final (R37, R382). -/
def Obligations.DawnEndsAndReadyRises : Prop :=
  (∀ s : State,
    s.dawnGoes = true → s.stagesDone = true → s.dawn.powerOff = [] → s.sector.state ≠ .scrap → s.dawn.bistDone = false →
    ∃ t, exec .dawnFinalStage s = .next t ∧ t.dawn.bistDone = true ∧ t.dawn.on = false ∧ t.stack = s.stack ∧ t.mapNext = [] ∧
      t.map.gen = if s.dawn.added || s.map.gains s.mapNext then wrap32 (s.map.gen + 1) else s.map.gen) ∧
  (∀ s : State,
    s.dawn.powered = true → s.dawn.modReset = false → s.dawn.firstReady = false →
    (s.dawn.bistDone = true → s.stacksReady = true → s.trainDone = true → s.dawn.cmpReset = false → s.dawn.cmpPin = false →
      ∃ t, exec .readyReached s = .next t ∧ t.dawn.ready = true ∧ t.dawn.firstReady = true ∧ t.dawn.release = true ∧
        t.stack = s.stack ∧ t.tiles = s.tiles ∧ t.mapNext = [] ∧
        (s.mapNext = [] → t.map = s.map) ∧ (s.mapNext ≠ [] → t.map.gen = wrap32 (s.map.gen + 1))) ∧
    (s.dawn.bistDone = false ∨ s.stacksReady = false ∨ s.trainDone = false ∨ s.dawn.cmpReset = true ∨ s.dawn.cmpPin = true →
      exec .readyReached s = .next s))

/-! ## Power good and the resets (R23, R367, R388 to R390, R393, R403) -/

/-- The state before power good (R23, R119, R428, R435). -/
def Obligations.ResetStateIsUnpowered : Prop :=
  State.reset.dawn.powered = false ∧ State.reset.pending = [] ∧ State.reset.frm.count = 0 ∧ State.reset.stack = [] ∧
  State.reset.tiles = [] ∧ State.reset.gates = [] ∧ State.reset.plan.state = .none ∧ State.reset.err.frame = [] ∧
  State.reset.err.nextSeq = 1 ∧ State.reset.num = 0 ∧
  (∀ p < 16, (State.reset.port p).st = .quiet ∧ (State.reset.port p).credits = 1024 ∧ (State.reset.port p).rxSeq = 4095) ∧
  (∀ p < 2, (State.reset.hostPort p).linkUp = false ∧ (State.reset.hostPort p).canRequest = false) ∧
  (∀ t r l, r < 32 → l < 64 → laneAt ((State.reset.getTile t).vGet r) l = 0x7000) ∧
  (∀ t k, (State.reset.getTile t).kGet k = BitVec.allOnes 64) ∧
  (∀ t i, (State.reset.getTile t).sGet i = 0) ∧
  (∀ t c, ((State.reset.getTile t).chanGet c).count = 0) ∧
  (∀ t, (State.reset.getTile t).pc = 0 ∧ (State.reset.getTile t).wait = .halted) ∧ State.reset.memoriesCanonical

/-- Dawn begins (R23, R367, R388, R390, R393). -/
def Obligations.PowerGoodAndFullResetBeginDawn : Prop :=
  (∀ (straps : Nat) (s : State), s.dawn.powered = false →
    ∃ t, exec (.powerGood straps) s = .next t ∧ DawnBegun t s.clk.wall (straps % 16) 0 ∧ t.frm.count = 0 ∧
      t.log.powerCycles = wrap32 (s.log.powerCycles + 1) ∧ t.log.lifeBase = s.log.lifeStored) ∧
  (∀ (straps : Nat) (s : State), s.dawn.powered = true →
    exec (.powerGood straps) s = .next s) ∧
  (∀ (straps : Nat) (s : State), s.dawn.powered = true → s.dawn.modReset = true →
    ∃ t, exec (.modResetDeassert straps) s = .next t ∧ DawnBegun t s.clk.wall (straps % 16) s.dawn.resetCause ∧
      t.frm.count = s.frm.count) ∧
  (∀ s : State, s.dawn.powered = true → s.dawn.modReset = false →
    ∃ t, exec .lockstepMismatch s = .next t ∧ DawnBegun t s.clk.wall (s.hostRegs.straps % 16) 2 ∧ t.frm.count = s.frm.count)

/-- The reset lines (R388, R389). -/
def Obligations.ResetLinesStopTheModule : Prop :=
  (∀ s : State, s.dawn.powered = true → s.dawn.modReset = false →
    ∃ t, exec .modResetAssert s = .next t ∧ t.dawn.modReset = true ∧ t.dawn.ready = false ∧ t.clk.running = false ∧
      t.dawn.resetCause = 1 ∧ t.hostRegs.dynAddr = none ∧ (s.runActive = true → t.plan.failNext = true) ∧
      (∀ p < 16, t.port p = Port.reset) ∧ t.stack = s.stack) ∧
  (∀ s : State, s.dawn.firstReady = true → s.dawn.cmpReset = false → s.dawn.modReset = false →
    ∃ t, exec .cmpResetAssert s = .next t ∧ t.dawn.cmpPin = true ∧ t.dawn.cmpReset = true ∧ t.dawn.ready = false ∧
      t.clk.running = false ∧ (s.runActive = true → t.stack = s.stack) ∧ (s.runActive = false → ∀ g, (t.gate g).rings = [])) ∧
  (∀ s : State, s.dawn.firstReady = false →
    exec .cmpResetAssert s = .next { s with dawn := { s.dawn with cmpPin := true } }) ∧
  (∀ s : State, s.runActive = false → s.dawn.cmpReset = true → s.ctl.change = none →
    ∃ t, exec .cmpResetRelease s = .next t ∧ t.dawn.cmpPin = false ∧ t.dawn.release = true ∧
      t = { s with dawn := t.dawn }) ∧
  (∀ s : State, s.runActive = true → s.dawn.cmpReset = true → exec .cmpResetRelease s = .next s)

/-- The ROM watchdog of a trial boot, which no full reset clears the stack counters for (R258, R403). -/
def Obligations.TrialWatchdogFallsBack : Prop :=
  ∀ s : State, s.dawn.powered = true → s.dawn.modReset = false → s.ctl.recovery = false → s.sector.trial = true →
    s.dawn.firstReady = false →
    (s.dawn.started + wallMs 5000 ≤ s.clk.wall →
      ∃ t, exec .trialWatchdog s = .next t ∧ t.sector.trial = false ∧ t.sector.activation = false ∧
        t.ctl.fallback = true ∧ DawnBegun t s.clk.wall (s.hostRegs.straps % 16) s.dawn.resetCause ∧ t.frm.count = s.frm.count ∧
        ∀ g < nGates, (t.gate g).eccCe = (s.gate g).eccCe ∧ (t.gate g).eccUe = (s.gate g).eccUe ∧
          (t.gate g).refTaken = (s.gate g).refTaken ∧ (t.gate g).addrErr = (s.gate g).addrErr) ∧
    (s.clk.wall < s.dawn.started + wallMs 5000 → exec .trialWatchdog s = .next s)

/-! ## The power input, the fast lines, sensors and e-fuses (R349 to R362, R463) -/

/-- Night (R355, R356). -/
def Obligations.VrAlertEntersAndLeavesNight : Prop :=
  (∀ s : State, s.pwr.alertHigh = true → s.dawn.powered = true → s.pwr.night = false →
    ∃ t, exec .vrAlertFall s = .next t ∧ t.pwr.alertHigh = false ∧ t.pwr.night = true ∧ t.clk.code = 40 ∧
      t.clk.nextCode = 40 ∧ t.pwr.nightCount = wrap64 (s.pwr.nightCount + 1) ∧ t.pwr.events &&& 1 = 1 ∧
      t.stack = s.stack ∧ t.tiles = s.tiles ∧ t.gates = s.gates ∧ t.frm = s.frm) ∧
  (∀ s : State, s.pwr.alertHigh = true → s.pwr.night = true →
    ∃ t, exec .vrAlertFall s = .next t ∧ t.pwr.alertHigh = false ∧ t.pwr.nightOver = false ∧ t = { s with pwr := t.pwr }) ∧
  (∀ s : State, s.pwr.alertHigh = false →
    exec .vrAlertRise s = .next { s with pwr := { s.pwr with alertHigh := true, alertSince := s.clk.wall } }) ∧
  (∀ s : State, s.pwr.night = true → s.pwr.alertHigh = true → s.pwr.coolStop = false →
    (s.pwr.alertSince + wallMs 1 ≤ s.clk.wall → exec .nightEnd s = .next { s with pwr := { s.pwr with nightOver := true } }) ∧
    (s.clk.wall < s.pwr.alertSince + wallMs 1 → exec .nightEnd s = .next s))

/-- The COOL_OK stop and the restart (R256 to R258, R357, R358). -/
def Obligations.CoolOkStopsAndRestarts : Prop :=
  (∀ s : State, s.dawn.powered = true → s.pwr.coolStop = false →
    ∃ t, exec .coolOkDeassert s = .next t ∧ t.pwr.coolOk = false ∧ t.pwr.coolStop = true ∧ t.pwr.night = true ∧
      (s.pwr.night = false → t.clk.code = 40) ∧ t.clk.running = false ∧ (s.runActive = true → t.plan.failNext = true) ∧
      (∀ g, t.stackNow g = if s.stackPhase g = .off ∨ s.stackPhase g = .failed then s.stackPhase g else .selfRefresh) ∧
      t.stack = s.stack ∧ t.gates = s.gates ∧ t.frm = s.frm ∧
      t.tiles = ({ s with pwr := { s.pwr with coolOk := false, restart := false } } : State).syncTiles.tiles) ∧
  (∀ s : State, s.pwr.coolOk = false →
    exec .coolOkAssert s = .next { s with pwr := { s.pwr with coolOk := true, coolSince := s.clk.wall } }) ∧
  (∀ s : State, s.pwr.coolStop = true → s.pwr.coolOk = true → s.pwr.trip = false →
    (s.pwr.coolSince + wallMs 100 ≤ s.clk.wall →
      exec .coolOkRestart s = .next { s with pwr := { s.pwr with restart := true } }) ∧
    (s.clk.wall < s.pwr.coolSince + wallMs 100 → exec .coolOkRestart s = .next s))

/-- Sensors (R349, R359). -/
def Obligations.SensorConversionUpdatesTemperature : Prop :=
  ∀ (r : Nat) (a b c d : Int) (s : State), r < nRegions → s.dawn.powered = true →
    ∃ t, exec (.sensorConversion r [a, b, c, d]) s = .next t ∧ t.stack = s.stack ∧
      (max (max a b) (max c d) < 115 → t.temp r = max (max a b) (max c d) ∧ (∀ k, k ≠ r → t.region k = s.region k) ∧
        t = { s with regions := t.regions }) ∧
      (115 ≤ max (max a b) (max c d) → s.pwr.trip = false → t.pwr.trip = true ∧ t.pwr.coolStop = true ∧
        t.log.trips = s.log.trips + 1)

/-- The power-down (R36, R413, R414, R463). -/
def Obligations.InputVoltageOutOfRangePowersDown : Prop :=
  ∀ (c : Instr) (s : State), c = .inputUndervoltage ∨ c = .inputOvervoltage → s.dawn.powered = true →
    ∃ t, exec c s = .next t ∧ t.dawn.powered = false ∧ t.tiles = [] ∧ t.gates = [] ∧ t.stack = [] ∧ t.plan = PlanCtl.reset ∧
      (∀ p < 16, t.port p = Port.reset) ∧ t.sector = s.sector ∧ t.log.lifeStored = s.lifeFrames ∧
      (s.settleMap.mapDirty = none → s.ctl.storing = none → t.images = s.images) ∧
      (s.settleMap.mapDirty ≠ none → (t.img s.ctl.image).cfg.map (·.map) = some s.settleMap.map.toStore) ∧
      (s.mapNext ≠ [] → s.dawn.bistDone = true → s.mapNext.any MapChange.stored = true → s.settleMap.mapDirty ≠ none)

/-- Short circuits (R41, R194, R195, R360, R361). -/
def Obligations.EfuseOpenDarkensTheRegion : Prop :=
  (∀ (r : Nat) (s : State), r < nRegions → s.dawn.powered = true → s.isDark r = false →
    ∃ t, exec (.computeEfuseOpen r) s = .next t ∧ t.isDark r = true ∧ (∀ k, k ≠ r → t.region k = s.region k) ∧
      (∀ k a, regionOf k = r → (t.getTile k).deck.read a = 0) ∧ (∀ k, regionOf k ≠ r → t.getTile k = s.getTile k) ∧
      t.plan.resetNeeded = true ∧ t.log.shorts = s.log.shorts + 1 ∧ t.pwr.events &&& 8 = 8 ∧ .flag r 0 ∈ t.mapNext ∧
      (s.runActive = true → t.plan.failNext = true) ∧ t.stack = s.stack) ∧
  (∀ (r : Nat) (s : State), r < nRegions → s.dawn.powered = true → s.thoroughfareLost r = false →
    ∃ t, exec (.thoroughfareEfuseOpen r) s = .next t ∧ t.thoroughfareLost r = true ∧
      (∀ k, k ≠ r → t.region k = s.region k) ∧ t.plan.resetNeeded = true ∧ t.log.shorts = s.log.shorts + 1 ∧
      (s.runActive = true → t.plan.failNext = true) ∧ .flag r 1 ∈ t.mapNext ∧
      (∀ k, regionOf k ≠ r → t.getTile k = s.getTile k) ∧
      (∀ k, regionOf k = r → t.getTile k = { s.getTile k with rx := [], wq := [] }) ∧
      (∀ f ∈ t.mesh, regionOf f.tile ≠ r) ∧ t.stack = s.stack)

/-! ## Commands, time and the frame (R8, R22 to R24, R189, R201 to R206, R219, R340, R413) -/

/-- Commands are taken first in, first out; an idle module lets a cycle pass (log 1). -/
def Obligations.StepRunsFrontCommand : Prop :=
  (∀ (c : Instr) (rest : List Instr) (s : State), step { s with pending := c :: rest } = exec c { s with pending := rest }) ∧
  (∀ s : State, s.pending = [] → ∃ t, step s = .next t ∧ t.pending = []) ∧
  (∀ s : State, s.pending = [] → s.dawn.powered = false → step s = .next s)

/-- Time (R8, R22, R23, R182, R201, R203, R219). -/
def Obligations.CyclesPassAndTheTickFallsDue : Prop :=
  ∀ s z : State, s.pending = [] → s.dawn.powered = true → z = s.dropStrays.sendWakes →
    ∃ t, step s = .next t ∧ t.clk.now = s.clk.now + 1 ∧
      t.clk.wall = s.clk.wall + cycleWall (if s.clk.running then s.clk.code else 40) ∧
      t.clk.code = s.clk.code ∧ t.gates = s.gates ∧ t.stack = s.stack ∧ t.map = s.map ∧ t.frm.count = s.frm.count ∧
      (s.clk.running = true → ∀ f ∈ s.mesh, f.due ≤ s.clk.now → s.crossingRuns f.tile = false → f ∉ t.mesh) ∧
      (s.frm.originWait = false → t.clk.cycle = s.clk.cycle + 1) ∧
      (s.frm.originWait = true → t.clk.cycle = s.clk.cycle ∧ t.frm.stretchCycles = wrap64 (s.frm.stretchCycles + 1)) ∧
      (s.frm.originWait = false → s.dueCycle ≤ s.clk.cycle →
        t.tiles = z.syncTiles.tiles ∧ t.frm.heldMask = s.frm.heldMask ||| z.syncTiles.holdMask ∧
        t.frm.dueAt = some (s.frm.dueAt.getD s.clk.wall)) ∧
      (s.frm.originWait = true ∨ s.clk.cycle < s.dueCycle → t.tiles = s.tiles) ∧
      (s.frm.originWait = false → s.clk.cycle < s.dueCycle → t.frm = s.frm)

/-- The end of the frame (R189). -/
def Obligations.FrameEndDiscardsLinesInFlight : Prop :=
  ∀ s : State, s.dawn.powered = true → s.frm.ended = false →
    (s.clk.cycle < s.frm.lenNow → exec .frameEnd s = .next s) ∧
    (s.frm.lenNow ≤ s.clk.cycle →
      ∃ t, exec .frameEnd s = .next t ∧ t.frm.ended = true ∧ t.mesh = [] ∧ t.rim = [] ∧ t.stack = s.stack ∧
        (∀ k, (t.getTile k).rx = [] ∧ (t.getTile k).deck = (s.getTile k).deck ∧ (t.getTile k).chan = (s.getTile k).chan) ∧
        ((∀ p ∈ s.tiles, p.2.rx = []) → ∀ r,
          (t.region r).chanDrop =
            (if (s.mesh.filter fun f => regionOf f.tile == r).length + (s.rim.filter fun f => regionOf f.tile == r).length = 0
              then (s.region r).chanDrop
              else satAdd (s.region r).chanDrop
                ((s.mesh.filter fun f => regionOf f.tile == r).length + (s.rim.filter fun f => regionOf f.tile == r).length))))

/-- The tick (R15, R24, R44, R79, R201, R206, R436). -/
def Obligations.TickAdvancesTheFrame : Prop :=
  (∀ (tel : Telemetry) (s z b : State), z = s.syncTiles → b = (if z.frm.ended then z else z.discardFlights) →
    z.tickReady = true → z.holdMask = 0 → z.startsDead (b.tick tel) = false → (b.tick tel).areasOverlap = false →
    ∃ t, exec (.frameTick tel) s = .next t ∧ t.frm.count = wrap64 (s.frm.count + 1) ∧ t.clk.cycle = 0 ∧
      t.frm.ended = false ∧ t.num = z.num ||| z.numNow ∧
      t.pwr.cap = s.pwr.capPend.due s.clk.now s.pwr.cap ∧ t.pwr.capPend = s.pwr.capPend.left s.clk.now ∧
      t.frm.holdLimit = s.frm.holdLimitPend.due s.clk.now s.frm.holdLimit ∧
      (s.mapNext ≠ [] → s.dawn.bistDone = true → t.map.gen = wrap32 (s.map.gen + 1))) ∧
  (∀ (tel : Telemetry) (s : State), s.syncTiles.tickReady = false ∨ s.syncTiles.holdMask ≠ 0 →
    exec (.frameTick tel) s = .next s)

/-- The hold limit (R205, R219, R449). -/
def Obligations.HoldLimitEndsTheHold : Prop :=
  (∀ (tel : Telemetry) (s z y b : State), z = s.syncTiles → z.timedOut = true → s.frm.originWait = false → s.startsHere = false →
    y = (({ z with frm := { z.frm with timeout := true } } : State).noteSet .frm 3).addError
      (.holdTimeout z.heldSources z.frm.holdLimit) true →
    b = (if y.frm.ended then y else y.discardFlights) → (b.tick tel).areasOverlap = false →
    ∃ t, exec (.holdTimeout tel) s = .next t ∧ t.frm.timeout = true ∧ t.frm.count = wrap64 (s.frm.count + 1) ∧
      (s.runActive = true → t.runActive = false)) ∧
  (∀ (tel : Telemetry) (s : State), s.syncTiles.timedOut = true → s.frm.originWait = true →
    ∃ t, exec (.holdTimeout tel) s = .next t ∧ t.frm.timeout = true ∧ t.frm.originWait = false ∧ t.frm.count = s.frm.count ∧
      (s.runActive = true → t.plan.failNext = true)) ∧
  (∀ (tel : Telemetry) (s : State), s.frm.holdLimit = 0 → exec (.holdTimeout tel) s = .next s)

/-- R206, R219, R340, R413 and R36. -/
def Obligations.OriginWaitAndLifetimeRecords : Prop :=
  (∀ s : State, s.frm.originWait = true →
    s.failing = true ∨ s.clk.running = false ∨ (∀ x ∈ s.allRings, s.ringHoldsOrigin x.1 x.2 = false) →
    ∃ t, exec .originFrameRelease s = .next t ∧ t.frm.originWait = false ∧ t.frm.count = s.frm.count ∧ t.stack = s.stack) ∧
  (∀ (r point mv : Nat) (s : State), r < nRegions → point < 8 → 65536 ≤ (s.region r).near.getD point 0 →
    ∃ t, exec (.agingMeasurement r point mv) s = .next t ∧ (t.region r).near.getD point 0 = 0 ∧
      (t.measured r point).head? = some mv ∧ (t.measured r point).length ≤ 16 ∧
      (Map.getD t.log.aging (8 * r + point) ([], 0)).2 = min ((Map.getD s.log.aging (8 * r + point) ([], 0)).2 + 1) 65535 ∧
      (∀ k, k ≠ r → t.region k = s.region k) ∧ t.stack = s.stack) ∧
  (∀ s : State,
    (s.log.lifeStored + 2 ^ 24 ≤ s.lifeFrames →
      exec .logSummaryWrite s = .next { s with log := { s.log with lifeStored := s.lifeFrames } }) ∧
    (s.lifeFrames < s.log.lifeStored + 2 ^ 24 → exec .logSummaryWrite s = .next s)) ∧
  (∀ s : State, s.dawn.powered = true → s.mapDirty ≠ none →
    ∃ t, exec .mapStore s = .next t ∧ t.mapDirty = none ∧ t.map = s.map ∧ t.sector = s.sector ∧ t.stack = s.stack ∧
      (t.img s.ctl.image).cfg.map (·.map) = some s.map.toStore)

/-! ## Tile programs (R90, R91, R119 to R141) -/

/-- When an instruction does not issue (R91, R122, R125, R127, R141, R453). -/
def Obligations.TileInstructionsWaitOrStop : Prop :=
  (∀ (c : Instr) (t op : Nat) (a : Access) (s : State), tileOp c = some (t, op, a) →
    (s.tileRuns t = false ∨ (s.tileNow t a.upsets).1.wait ≠ .none ∨ s.clk.now < (s.tileNow t a.upsets).1.nextIssue →
      ∃ u, exec c s = .next u ∧ u = { s with free := u.free }) ∧
    (∀ x w op', Fetched s t op' a x w → op' ∈ opcodes → op' ≠ op → ∃ u, exec c s = .next u ∧ u = { s with free := u.free }) ∧
    (∀ x w op', Fetched s t op' a x w → op' ∉ opcodes → exec c s = .fault (.undefined .reservedEncoding)) ∧
    (s.tileRuns t = true → (s.tileNow t a.upsets).1.wait = .none → (s.tileNow t a.upsets).1.nextIssue ≤ s.clk.now →
      anyBad (s.tileNow t a.upsets).1.stagingUe (fetchAddrs (s.tileNow t a.upsets).1.pc) = true →
      ∃ u, exec c s = .next u ∧ (u.getTile t).wait = .stopped ∧ (u.getTile t).pc = (s.tileNow t a.upsets).1.pc)) ∧
  (∀ s t a x w, Fetched s t 0x01 a x w → fld w 55 0 = 0 → x.pc = 8191 →
    exec (.nop t a) s = .fault (.undefined .leftProgramStore)) ∧
  (∀ s t a x w, Fetched s t 0x00 a x w → fld w 55 0 = 0 → x.pc = 8191 → x.fenceHolds s.clk.now = true →
    exec (.halt t a) s = .fault (.undefined .leftProgramStore))

/-- The frame of the tile instructions. -/
def Obligations.TileInstructionsChangeOnlyTheirTile : Prop :=
  ∀ (c : Instr) (t op : Nat) (a : Access) (s u : State), tileOp c = some (t, op, a) → exec c s = .next u →
    (∀ k, k ≠ t → u.getTile k = s.getTile k) ∧
    (∀ r, r ≠ regionOf t → u.region r = s.region r) ∧
    u.region (regionOf t) = { s.region (regionOf t) with
      ce := (u.region (regionOf t)).ce, ue := (u.region (regionOf t)).ue
      chanDrop := (u.region (regionOf t)).chanDrop, routeDrop := (u.region (regionOf t)).routeDrop } ∧
    u = { s with
      tiles := u.tiles, regions := u.regions, barriers := u.barriers, numNow := u.numNow, free := u.free
      err := { s.err with frame := u.err.frame }
      plan := { s.plan with failNext := u.plan.failNext }
      frm := { s.frm with lastWait := u.frm.lastWait } }

/-- What `State.issued` holds, which the statements about single instructions speak of. -/
def Obligations.IssuedTileIsStored : Prop :=
  ∀ (s : State) (t : Nat) (a : Access) (x' : Tile) (n : Notes),
    (s.issued t a x' n).getTile t = x' ∧
    (∀ k, k ≠ t → (s.issued t a x' n).getTile k = s.getTile k) ∧
    (s.issued t a x' n).stack = s.stack ∧
    ((s.tileNow t a.upsets).2 = Notes.none → (s.tileNow t a.upsets).1.stagingCe = [] → (s.tileNow t a.upsets).1.stagingUe = [] →
      ((s.issued t a x' n).region (regionOf t)).ce = satAdd (s.region (regionOf t)).ce n.ce ∧
      ((s.issued t a x' n).region (regionOf t)).ue = satAdd (s.region (regionOf t)).ue n.ue ∧
      ((s.issued t a x' n).region (regionOf t)).routeDrop = satAdd (s.region (regionOf t)).routeDrop n.routeDrop ∧
      (s.issued t a x' n).numNow = s.numNow ||| n.flags.visible)

/-- Control instructions (R108, R118, R126, R127, R131, R132, R134). -/
def Obligations.ControlInstructionsComplete : Prop :=
  (∀ s t a x w, Issuing s t 0x01 a x w → fld w 55 0 = 0 → exec (.nop t a) s = .next (s.issued t a (x.goesOn s 1) Notes.none)) ∧
  (∀ s t a x w, Issuing s t 0x00 a x w → fld w 55 0 = 0 →
    (x.fenceHolds s.clk.now = true → exec (.halt t a) s = .next (s.issued t a { x with wait := .halted } Notes.none)) ∧
    (x.fenceHolds s.clk.now = false → exec (.halt t a) s = .next s)) ∧
  (∀ s t a x w, Issuing s t 0x05 a x w → fld w 55 0 = 0 →
    (x.gridIdle s.clk.now = true → exec (.gfence t a) s = .next (s.issued t a (x.goesOn s 1) Notes.none)) ∧
    (x.gridIdle s.clk.now = false → exec (.gfence t a) s = .next s)) ∧
  (∀ s t a x w, Issuing s t 0x02 a x w → fld w 55 16 = 0 →
    (x.fenceHolds s.clk.now = true → exec (.fwait t a) s = .next (s.issued t a
      (({ x with wait := if fld w 15 0 = 0 then .none else .frames (fld w 15 0) } : Tile).goesOn s 1) Notes.none)) ∧
    (x.fenceHolds s.clk.now = false → exec (.fwait t a) s = .next s)) ∧
  (∀ s t a x w, Issuing s t 0x03 a x w → fld w 55 7 = 0 →
    (fld w 6 0 = 0 → exec (.testw t a) s = .next (s.issued t a (x.goesOn s 1) Notes.none)) ∧
    (1 ≤ fld w 6 0 → fld w 6 0 ≤ 64 → x.fenceHolds s.clk.now = true → exec (.testw t a) s = .next (s.issued t a
      (({ x with wait := .window false (fld w 6 0) } : Tile).goesOn s 1) Notes.none)) ∧
    (1 ≤ fld w 6 0 → fld w 6 0 ≤ 64 → x.fenceHolds s.clk.now = false → exec (.testw t a) s = .next s)) ∧
  (∀ s t a x w, Issuing s t 0x06 a x w → fld w 55 16 = 0 →
    ((∀ c, c < 16 → w / 2 ^ c % 2 = 1 → (x.chanGet c).count = 0) →
      exec (.cwait t a) s = .next (s.issued t a (x.goesOn s 1) Notes.none)) ∧
    ((∃ c, c < 16 ∧ w / 2 ^ c % 2 = 1 ∧ (x.chanGet c).count ≠ 0) → exec (.cwait t a) s = .next s)) ∧
  (∀ s t a x w d, Issuing s t 0x04 a x w → fld w 55 54 = 0 → fld w 51 2 = 0 → d = fld w 53 52 →
    (fld w 0 0 = 1 → d ∈ x.arrived → exec (.sync t a) s = .next s) ∧
    (fld w 0 0 = 1 → d ∉ x.arrived → s.isMember t d = true → exec (.sync t a) s = .next (s.issued t a
      (({ x with arrived := x.arrived ++ [d], wait := if fld w 1 1 = 1 then .sync d else .none } : Tile).goesOn s 1) Notes.none)) ∧
    (fld w 0 0 = 1 → d ∉ x.arrived → s.isMember t d = false →
      exec (.sync t a) s = .next (s.issued t a (x.goesOn s 1) Notes.none)) ∧
    (fld w 0 0 = 0 → exec (.sync t a) s = .next (s.issued t a
      (({ x with wait := if fld w 1 1 = 1 ∧ d ∈ x.arrived then .sync d else .none } : Tile).goesOn s 1) Notes.none)))

/-- Scalar results (R126 to R129). -/
def Obligations.ScalarInstructionsComplete : Prop :=
  (∀ s t a x w, Issuing s t 0x08 a x w → fld w 55 52 = 0 → fld w 46 32 = 0 → x.sReady [fld w 51 47] = true →
    exec (.sli t a) s = .next (s.issued t a
      ((x.pushS ⟨s.clk.now + 1, fld w 51 47, (BitVec.ofNat 32 (fld w 31 0)).signExtend 64⟩).goesOn s 1) Notes.none)) ∧
  (∀ s t a x w, Issuing s t 0x09 a x w → fld w 55 52 = 0 → fld w 46 32 = 0 → x.sReady [fld w 51 47] = true →
    exec (.slih t a) s = .next (s.issued t a
      ((x.pushS ⟨s.clk.now + 1, fld w 51 47, BitVec.ofNat 64 (fld w 31 0 * 2 ^ 32 + (x.sGet (fld w 51 47)).toNat % 2 ^ 32)⟩).goesOn s 1)
      Notes.none)) ∧
  (∀ s t a x w (p q v : Word), Issuing s t 0x0A a x w → fld w 35 32 = 0 → p = x.sGet (fld w 46 42) →
    (fld w 36 36 = 1 ∧ fld w 41 37 = 0 ∧ q = (BitVec.ofNat 32 (fld w 31 0)).signExtend 64 ∧
        x.sReady [fld w 51 47, fld w 46 42] = true ∨
      fld w 36 36 = 0 ∧ fld w 31 0 = 0 ∧ q = x.sGet (fld w 41 37) ∧ x.sReady [fld w 51 47, fld w 46 42, fld w 41 37] = true) →
    (fld w 55 52 = 0 ∧ v = p + q ∨ fld w 55 52 = 1 ∧ v = p - q ∨ fld w 55 52 = 2 ∧ v = p &&& q ∨ fld w 55 52 = 3 ∧ v = p ||| q ∨
      fld w 55 52 = 4 ∧ v = p ^^^ q ∨ fld w 55 52 = 5 ∧ v = p <<< (q.toNat % 64) ∨ fld w 55 52 = 6 ∧ v = p >>> (q.toNat % 64) ∨
      fld w 55 52 = 7 ∧ v = p.sshiftRight (q.toNat % 64) ∨ fld w 55 52 = 8 ∧ v = p * q ∨
      fld w 55 52 = 9 ∧ v = (if p.toInt < q.toInt then p else q) ∨ fld w 55 52 = 10 ∧ v = (if p.toInt < q.toInt then q else p)) →
    exec (.salu t a) s = .next (s.issued t a
      ((x.pushS ⟨s.clk.now + (if fld w 55 52 = 8 then 3 else 1), fld w 51 47, v⟩).goesOn s 1) Notes.none)) ∧
  (∀ s t a x w (v : Word), Issuing s t 0x0B a x w → fld w 55 52 = 0 → fld w 46 8 = 0 → x.sReady [fld w 51 47] = true →
    special (s.ctx t) x (fld w 7 0) = some v →
    exec (.smovs t a) s = .next (s.issued t a ((x.pushS ⟨s.clk.now + 1, fld w 51 47, v⟩).goesOn s 1) Notes.none))

/-- Branches (R122, R123, R127 to R129). -/
def Obligations.BranchesComplete : Prop :=
  (∀ s t a x w (p q : Word) (c : Prop), Fetched s t 0x0C a x w → fld w 51 47 = 0 → fld w 36 32 = 0 → fld w 31 13 = 0 →
    p = x.sGet (fld w 46 42) → q = x.sGet (fld w 41 37) → x.sReady [fld w 46 42, fld w 41 37] = true →
    (fld w 55 52 = 0 ∧ (c ↔ True) ∨ fld w 55 52 = 1 ∧ (c ↔ p = q) ∨ fld w 55 52 = 2 ∧ (c ↔ p ≠ q) ∨
      fld w 55 52 = 3 ∧ (c ↔ p.toInt < q.toInt) ∨ fld w 55 52 = 4 ∧ (c ↔ q.toInt ≤ p.toInt) ∨
      fld w 55 52 = 5 ∧ (c ↔ p.toNat < q.toNat) ∨ fld w 55 52 = 6 ∧ (c ↔ q.toNat ≤ p.toNat)) →
    (c → exec (.br t a) s = .next (s.issued t a { x with pc := fld w 12 0, nextIssue := s.clk.now + 2 } Notes.none)) ∧
    (¬c → x.pc < 8191 → exec (.br t a) s = .next (s.issued t a (x.goesOn s 1) Notes.none)) ∧
    (¬c → 8191 ≤ x.pc → exec (.br t a) s = .fault (.undefined .leftProgramStore))) ∧
  (∀ s t a x w (v : Word), Fetched s t 0x0D a x w → fld w 55 52 = 0 → fld w 46 32 = 0 → fld w 31 13 = 0 →
    x.sReady [fld w 51 47] = true → v = x.sGet (fld w 51 47) - 1 →
    (fld w 51 47 ≠ 0 → v ≠ 0 → exec (.dbnz t a) s = .next (s.issued t a
      { (x.pushS ⟨s.clk.now + 1, fld w 51 47, v⟩) with pc := fld w 12 0, nextIssue := s.clk.now + 2 } Notes.none)) ∧
    (fld w 51 47 = 0 ∨ v = 0 → x.pc < 8191 → exec (.dbnz t a) s = .next (s.issued t a
      ((x.pushS ⟨s.clk.now + 1, fld w 51 47, v⟩).goesOn s 1) Notes.none)))

/-- SETRC, LDS and STS, and the cycle in which the deck is read or written (R86, R87, R89, R110, R130). -/
def Obligations.ContextAndScalarMemoryComplete : Prop :=
  (∀ s t a x w (c : RndCtx), Issuing s t 0x0E a x w → fld w 55 54 = 0 → fld w 51 47 = 0 → fld w 36 32 = 0 → fld w 31 24 = 0 →
    x.sReady [fld w 46 42, fld w 41 37] = true →
    c = ⟨fld w 23 0, (x.sGet (fld w 46 42)).toNat % 2 ^ 40, (x.sGet (fld w 41 37)).toNat % 2 ^ 32⟩ →
    exec (.setrc t a) s = .next (s.issued t a (({ x with rc := vset x.rc (fld w 53 52) c } : Tile).goesOn s 1) Notes.none)) ∧
  (∀ s t a x w A, Issuing s t 0x0F a x w → fld w 55 52 = 0 → fld w 41 32 = 0 → x.sReady [fld w 51 47, fld w 46 42] = true →
    A = scalarAddr x (fld w 46 42) (fld w 31 0) →
    A % 8 = 0 ∧ A + 8 ≤ deckSize ∧
    exec (.lds t a) s = .next (s.issued t a
      (({ x with vq := x.vq ++ [⟨[[A / 64]], .lds (fld w 51 47) A, [], []⟩] } : Tile).goesOn s 1) Notes.none)) ∧
  (∀ (y : Tile) (c rd A : Nat) (rest : List VecAcc), A % 8 = 0 → A + 8 ≤ deckSize → y.vq = ⟨[[A / 64]], .lds rd A, [], []⟩ :: rest →
    (deckBank A ∉ y.busy →
      (y.vecCycle c).1 = ({ y with vq := rest, busy := deckBank A :: y.busy } : Tile).pushS
        ⟨c + 5, rd, BitVec.ofNat 64 (leNat (y.deckBytesMarked A 8))⟩) ∧
    (deckBank A ∈ y.busy → (y.vecCycle c).1 = { y with nextIssue := y.nextIssue + 1 })) ∧
  (∀ s t a x w A, Issuing s t 0x10 a x w → fld w 55 52 = 0 → fld w 41 32 = 0 → x.sReady [fld w 51 47, fld w 46 42] = true →
    A = scalarAddr x (fld w 46 42) (fld w 31 0) →
    exec (.sts t a) s = .next (s.issued t a
      (({ x with vq := x.vq ++ [⟨[[A / 64]], .store ((wrapAddrs deckSize A 8).zip (leBytes 8 (x.sGet (fld w 51 47)).toNat)), [], []⟩] }
        : Tile).goesOn s 1) Notes.none)) ∧
  (∀ (y : Tile) (c A v : Nat) (rest : List VecAcc), A % 8 = 0 → A + 8 ≤ deckSize → y.deck.wf = true → deckBank A ∉ y.busy →
    y.vq = ⟨[[A / 64]], .store ((wrapAddrs deckSize A 8).zip (leBytes 8 v)), [], []⟩ :: rest →
    (y.vecCycle c).1.vq = rest ∧ (y.vecCycle c).1.storeDone = c + 1 ∧
    (∀ i, i < 8 → (y.vecCycle c).1.deck.read (A + i) = BitVec.ofNat 8 (v / 256 ^ i)) ∧
    (∀ b, b < A ∨ A + 8 ≤ b → (y.vecCycle c).1.deck.read b = y.deck.read b) ∧
    A / 8 ∉ (y.vecCycle c).1.deckUe ∧ A / 8 ∉ (y.vecCycle c).1.deckCe)

/-- Issue of the grid instructions (R93, R96, R97, R104, R105, R135, R136). -/
def Obligations.GridInstructionsQueue : Prop :=
  (∀ s t a x w f, Issuing s t 0x18 a x w → Fmt.ofCode (fld w 54 52) = some f → fld w 54 52 < 4 → fld w 9 8 = 0 → fld w 7 0 < 208 →
    (fld w 51 51 = 1 → 2 ≤ fld w 54 52) → x.sReady [fld w 44 40] = true →
    (x.loadQ.length < 4 → exec (.loadw t a) s = .next (s.issued t a (({ x with
      loadQ := x.loadQ ++
        [{ issue := x.gridNow s.clk.now, plane := fld w 55 55, slot := (fld w 7 0 + (x.sGet (fld w 44 40)).toNat) % 208
           fmt := f, w8 := fld w 51 51 == 1, transpose := fld w 50 50 == 1 }]
      wide0 := if fld w 55 55 = 0 then fld w 51 51 == 1 else x.wide0
      wide1 := if fld w 55 55 = 0 then x.wide1 else fld w 51 51 == 1 } : Tile).goesOn s 1) Notes.none)) ∧
    (4 ≤ x.loadQ.length → exec (.loadw t a) s = .next s)) ∧
  (∀ s t a x w m f op R, Issuing s t 0x1A a x w → GridMode.ofCode (fld w 51 50) = some m → Fmt.ofCode (fld w 54 52) = some f →
    fld w 26 26 = 0 → fld w 54 52 < 4 → R = (List.range 64).map (fld w 25 16 * 64 + ·) → anyBad x.stagingUe R = false →
    parseRecord (s.ctx t) x w false m (fld w 15 0) f = some op → x.sReady [fld w 41 37, fld w 36 32, fld w 31 27] = true →
    (x.streamQ.length < 4 → exec (.stream t a) s = .next (s.issued t a
      ((if fld w 15 0 = 0 then x
        else { x with streamQ := x.streamQ ++ [op], feedQ := x.feedQ ++ [⟨op, 0, none⟩] } : Tile).goesOn s 1) (x.stagingNotes R))) ∧
    (4 ≤ x.streamQ.length → exec (.stream t a) s = .next s) ∧
    op.issue = x.gridNow s.clk.now ∧ op.issueAt = s.clk.now ∧ op.pendIssue = x.pending ∧
    op.w8 = (if fld w 55 55 = 0 then x.wide0 else x.wide1) ∧
    op.plane = fld w 55 55 ∧ op.entry = fld w 48 42 ∧ op.rows = fld w 15 0 ∧ op.accIn = (fld w 49 49 == 1) ∧ op.drain = false ∧
    op.anchor = signed 16 (x.staging.le (fld w 25 16 * 64 + 20) 2) ∧ -512 ≤ op.anchor ∧ op.anchor ≤ 511 ∧
    op.inBase = (x.staging.le (fld w 25 16 * 64) 4 + (x.sGet (fld w 41 37)).toNat) % deckSize ∧
    op.outBase = (x.staging.le (fld w 25 16 * 64 + 8) 4 + (x.sGet (fld w 36 32)).toNat) % deckSize) ∧
  (∀ s t a x w m op R, Issuing s t 0x1B a x w → GridMode.ofCode (fld w 51 50) = some m → m ≠ .keep → fld w 26 26 = 0 →
    fld w 15 8 = 0 → fld w 7 0 ≤ 128 → R = (List.range 64).map (fld w 25 16 * 64 + ·) → anyBad x.stagingUe R = false →
    parseRecord (s.ctx t) x w true m (fld w 7 0) .t16 = some op → x.sReady [fld w 36 32, fld w 31 27] = true →
    (x.streamQ.length < 4 → exec (.drain t a) s = .next (s.issued t a
      (({ x with streamQ := if fld w 7 0 = 0 then x.streamQ else x.streamQ ++ [op] } : Tile).goesOn s 1) (x.stagingNotes R))) ∧
    (4 ≤ x.streamQ.length → exec (.drain t a) s = .next s) ∧
    op.entry = fld w 48 42 ∧ op.rows = fld w 7 0 ∧ op.drain = true ∧
    op.outBase = (x.staging.le (fld w 25 16 * 64 + 8) 4 + (x.sGet (fld w 36 32)).toNat) % deckSize)

/-- The copy engine, which begins four cycles after the issue and takes 128 bytes in a cycle (R95, R127, R137). -/
def Obligations.CopyEngineInstructionsComplete : Prop :=
  (∀ s t a x w, Issuing s t 0x19 a x w → fld w 39 33 ≤ 96 → fld w 32 26 ≤ 96 → fld w 7 0 < 208 → fld w 9 8 = 0 →
    x.sReady [fld w 49 45, fld w 44 40] = true →
    (x.copyIdle = true → 0 < fld w 39 33 → 0 < fld w 32 26 →
      exec (.wfill t a) s = .next (s.issued t a ((x.startCopy (s.ctx t)
        (.wfill ((fld w 7 0 + (x.sGet (fld w 44 40)).toNat) % 208 * slotBytes) (fld w 25 10) (fld w 32 26))
        ((x.sGet (fld w 49 45)).toNat % deckSize) 0 (fld w 39 33 * fld w 32 26)).goesOn s 1) Notes.none)) ∧
    (x.copyIdle = true → fld w 39 33 = 0 ∨ fld w 32 26 = 0 →
      exec (.wfill t a) s = .next (s.issued t a (x.goesOn s 1) Notes.none)) ∧
    (x.copyIdle = false → exec (.wfill t a) s = .next s)) ∧
  (∀ s t a x w, Issuing s t 0x1C a x w → fld w 23 0 ≤ deckSize → fld w 29 24 = 0 → x.sReady [fld w 55 51] = true →
    (x.copyIdle = true → 2 ≤ fld w 23 0 →
      exec (.dfill t a) s = .next (s.issued t a ((x.startCopy (s.ctx t) (.dfill (fld w 45 30)) 0
        ((x.sGet (fld w 55 51)).toNat % deckSize / 2 * 2) (fld w 23 0 / 2 * 2)).goesOn s 1) Notes.none)) ∧
    (x.copyIdle = true → fld w 23 0 < 2 → exec (.dfill t a) s = .next (s.issued t a (x.goesOn s 1) Notes.none)) ∧
    (x.copyIdle = false → exec (.dfill t a) s = .next s)) ∧
  (∀ s t a x w, Issuing s t 0x1D a x w → fld w 23 0 ≤ deckSize → fld w 29 24 = 0 → x.sReady [fld w 50 46, fld w 55 51] = true →
    (x.copyIdle = true → 0 < fld w 23 0 →
      exec (.dcopy t a) s = .next (s.issued t a ((x.startCopy (s.ctx t) .dcopy ((x.sGet (fld w 50 46)).toNat % deckSize)
        ((x.sGet (fld w 55 51)).toNat % deckSize) (fld w 23 0)).goesOn s 1) Notes.none)) ∧
    (x.copyIdle = true → fld w 23 0 = 0 → exec (.dcopy t a) s = .next (s.issued t a (x.goesOn s 1) Notes.none)) ∧
    (x.copyIdle = false → exec (.dcopy t a) s = .next s)) ∧
  (∀ (y : Tile) (c : Nat) (j : CopyJob), y.copy = some j → c < j.start → (y.copyCycle c).1 = y) ∧
  (∀ (y : Tile) (c pat dst bytes : Nat) (x : TileCtx), y.deck.wf = true → y.busy = [] → x.now + 4 ≤ c → dst % 2 = 0 →
    dst < deckSize → bytes % 2 = 0 → 0 < bytes → bytes ≤ 128 →
    (((y.startCopy x (.dfill pat) 0 dst bytes).copyCycle c).1.copy = none ∧
      (∀ i, i < bytes → ((y.startCopy x (.dfill pat) 0 dst bytes).copyCycle c).1.deck.read ((dst + i) % deckSize) =
        BitVec.ofNat 8 (if i % 2 = 0 then pat else pat / 256)) ∧
      ∀ b, b ∉ wrapAddrs deckSize dst bytes →
        ((y.startCopy x (.dfill pat) 0 dst bytes).copyCycle c).1.deck.read b = y.deck.read b))

/-- Lane by lane instructions (R109, R110, R112, R138). -/
def Obligations.VectorLaneInstructionsComplete : Prop :=
  (∀ s t a x w v f, Issuing s t 0x20 a x w → v = vFields x w → arithFmt v.fmt = some f → v.sh < 3 → v.op < 8 →
    (sharedHeld x v = true → exec (.varith t a) s = .next s) ∧
    (sharedHeld x v = false →
      ∃ (r : Nat → Code × Status) (n : Notes),
        (∀ l e, l < 64 → arithVal v.op (f.val (laneAt (x.vGet v.va) l)) (f.val (sourceB x v v.vb l)) (f.val (laneAt (x.vGet v.vc) l)) = some e →
          r l = f.round ((s.ctx t).rounding x v.sr v.rc l) e) ∧
        (v.sh ≠ 2 → n = Notes.ofFlags (laneFlags v.mask fun l => (r l).2)) ∧
        exec (.varith t a) s = .next (s.issued t a
          (((x.takeShared v).pushV ⟨s.clk.now + (if v.sh = 2 then 8 else 4), v.vd, v.mask, lanesOf fun l => (r l).1⟩).goesOn s 1) n))) ∧
  (∀ s t a x w v f, Issuing s t 0x21 a x w → v = vFields x w → arithFmt v.fmt = some f → v.sh < 3 → v.op < 3 →
    sharedHeld x v = false →
    ∃ (b : Word) (n : Notes), (v.sh ≠ 2 → n = Notes.none) ∧
      (∀ l, l < 64 → b.getLsbD l = (let p := f.val (laneAt (x.vGet v.va) l); let q := f.val (sourceB x v v.vb l)
        if v.op = 0 then valEq p q else if v.op = 1 then valLt p q else !valLt q p)) ∧
      exec (.vcmp t a) s = .next (s.issued t a
        (((x.takeShared v).pushK ⟨s.clk.now + (if v.sh = 2 then 7 else 3), v.vd % 8, v.mask, b⟩).goesOn s 1) n)) ∧
  (∀ s t a x w v, Issuing s t 0x22 a x w → v = vFields x w → v.sh < 3 → v.op < 6 → sharedHeld x v = false →
    ∃ n : Notes, (v.sh ≠ 2 → n = Notes.none) ∧ exec (.vint t a) s = .next (s.issued t a
      (((x.takeShared v).pushV ⟨s.clk.now + (if v.sh = 2 then 6 else 2), v.vd, v.mask,
        lanesOf fun l => intLane v.op (laneAt (x.vGet v.va) l) (sourceB x v v.vb l)⟩).goesOn s 1) n)) ∧
  (∀ s t a x w v, Issuing s t 0x22 a x w → v = vFields x w → v.sh < 3 → v.op = 6 ∨ v.op = 7 → sharedHeld x v = false →
    ∃ (b : Word) (n : Notes), (v.sh ≠ 2 → n = Notes.none) ∧
      (∀ l, l < 64 → b.getLsbD l = (if v.op = 6 then decide ((laneAt (x.vGet v.va) l).toNat < (sourceB x v v.vb l).toNat)
        else laneAt (x.vGet v.va) l == sourceB x v v.vb l)) ∧
      exec (.vint t a) s = .next (s.issued t a
        (((x.takeShared v).pushK ⟨s.clk.now + (if v.sh = 2 then 6 else 2), v.vd % 8, v.mask, b⟩).goesOn s 1) n)) ∧
  (∀ s t a x w v (lanes : Nat → Code) (m : Word), Issuing s t 0x23 a x w → v = vFields x w → v.sh = 0 →
    (v.op = 0 ∧ m = BitVec.allOnes 64 ∧
        lanes = (fun l => if maskBit v.mask l then laneAt (x.vGet v.va) l else laneAt (x.vGet v.vb) l) ∨
      v.op = 1 ∧ m = v.mask ∧ lanes = (fun l => laneAt (x.vGet v.va) ((l + v.imm % 64) % 64)) ∨
      v.op = 2 ∧ m = v.mask ∧ lanes = (fun _ => laneAt (x.vGet v.va) (v.imm % 64)) ∨
      v.op = 3 ∧ m = v.mask ∧ lanes = fun _ => BitVec.ofNat 16 v.imm) →
    exec (.vmove t a) s = .next (s.issued t a ((x.pushV ⟨s.clk.now + 2, v.vd, m, lanesOf lanes⟩).goesOn s 1) Notes.none)) ∧
  (∀ s t a x w v, Issuing s t 0x23 a x w → v = vFields x w → v.sh = 0 → x.sReady [v.rs] = true →
    (v.op = 4 → exec (.vmove t a) s = .next (s.issued t a
      ((x.pushS ⟨s.clk.now + 2, v.rs, (laneAt (x.vGet v.va) (v.imm % 64)).setWidth 64⟩).goesOn s 1) Notes.none)) ∧
    (v.op = 5 → exec (.vmove t a) s = .next (s.issued t a
      ((x.pushS ⟨s.clk.now + 2, v.rs, x.kGet (v.va % 8)⟩).goesOn s 1) Notes.none)) ∧
    (v.op = 6 → exec (.vmove t a) s = .next (s.issued t a
      ((x.pushK ⟨s.clk.now + 2, v.vd % 8, v.mask, x.sGet v.rs⟩).goesOn s 1) Notes.none))) ∧
  (∀ s t a x w v f (r : Nat → Code × Status), Issuing s t 0x24 a x w → v = vFields x w → Fmt.ofCode v.fmt = some f → 1 ≤ v.fmt →
    v.fmt < 4 → v.sh = 0 → v.op < 2 →
    (∀ l, r l = if v.op = 0 then toT16 ((s.ctx t).rounding x v.sr v.rc l) f (laneAt (x.vGet v.va) l)
      else f.round ((s.ctx t).rounding x v.sr v.rc l) (t16Val (laneAt (x.vGet v.va) l))) →
    exec (.vcvt t a) s = .next (s.issued t a
      ((x.pushV ⟨s.clk.now + 4, v.vd, v.mask, lanesOf fun l => (r l).1⟩).goesOn s 1)
      (Notes.ofFlags (laneFlags v.mask fun l => (r l).2))))

/-- VFUNC and VRED (R110, R115, R116, R121). -/
def Obligations.FunctionsAndReductionsComplete : Prop :=
  (∀ s t a x w v f fn, Issuing s t 0x25 a x w → v = vFields x w → arithFmt v.fmt = some f → Fn.ofCode v.op = some fn → v.sh < 3 →
    (sharedHeld x v = false → x.funcFree ≤ s.clk.now →
      ∃ (r : Nat → Code × Status) (n : Notes),
        (∀ l y, l < 64 → fnValue f ((s.ctx t).rounding x v.sr v.rc l) fn (f.val (sourceB x v v.va l)) = some y → r l = y) ∧
        exec (.vfunc t a) s = .next (s.useFree.issued t a
          ((({ (x.takeShared v) with funcFree := s.clk.now + 4 } : Tile).pushV
            ⟨s.clk.now + (if v.sh = 2 then 16 else 12), v.vd, v.mask, lanesOf fun l => (r l).1⟩).goesOn s 4) n)) ∧
    (sharedHeld x v = true ∨ s.clk.now < x.funcFree → exec (.vfunc t a) s = .next s.useFree)) ∧
  (∀ s t a x w v f, Issuing s t 0x26 a x w → v = vFields x w → arithFmt v.fmt = some f → v.sh = 0 → v.op < 3 →
    ∃ (c : Code) (n : Notes),
      (v.op = 0 → v.mask = 0 → c = 0x7000) ∧
      (v.op ≠ 0 → v.mask = 0 → c = (f.round .rne .nar).1) ∧
      (v.op = 1 → ∀ l, l < 64 → v.mask = 1 <<< l → c = (f.round .rne (f.val (laneAt (x.vGet v.va) l))).1) ∧
      exec (.vred t a) s = .next (s.issued t a
        ((x.pushV ⟨s.clk.now + 16, v.vd, BitVec.allOnes 64, lanesOf fun l => if l = 0 then c else 0x7000⟩).goesOn s 2) n))

/-- Loads and stores of the vector row, and the cycle in which the deck is read or written (R87, R89, R110, R113, R114, R138). -/
def Obligations.VectorMemoryInstructionsComplete : Prop :=
  (∀ s t a x w v f, Issuing s t 0x28 a x w → v = vFields x w → Fmt.ofCode v.fmt = some f → v.fmt < 4 → v.sh = 0 → v.op = 0 →
    x.sReady [v.rs] = true →
    exec (.vld t a) s = .next (s.issued t a (({ x with vq := x.vq ++ [⟨[linesOf (activeAddrs v f (contigAddr x v f))],
      .load f v.vd v.mask ((List.range 64).map (contigAddr x v f)), [], []⟩] } : Tile).goesOn s 1) Notes.none)) ∧
  (∀ s t a x w v f A, Issuing s t 0x2A a x w → v = vFields x w → Fmt.ofCode v.fmt = some f → v.fmt < 4 → v.sh = 0 → v.op = 0 →
    v.imm < 8 → x.sReady [v.rs] = true → A = activeAddrs v f (indexAddr x v) →
    exec (.vgather t a) s = .next (s.issued t a (({ x with vq := x.vq ++ [⟨indexSteps A,
      .load f v.vd v.mask ((List.range 64).map (indexAddr x v)), [], []⟩] } : Tile).goesOn s (indexCycles A)) Notes.none)) ∧
  (∀ s t a x w v f (r : Nat → Code × Status), Issuing s t 0x29 a x w → v = vFields x w → Fmt.ofCode v.fmt = some f → v.fmt < 4 →
    v.sh = 0 → v.op = 0 → x.sReady [v.rs] = true →
    (∀ l, r l = if f.bytes = 2 then (laneAt (x.vGet v.vb) l, 0)
      else f.round ((s.ctx t).rounding x v.sr v.rc l) (t16Val (laneAt (x.vGet v.vb) l))) →
    exec (.vst t a) s = .next (s.issued t a (({ x with vq := x.vq ++ [⟨[linesOf (activeAddrs v f (contigAddr x v f))],
      .store (laneBytes v f (contigAddr x v f) fun l => (r l).1), [], []⟩] } : Tile).goesOn s 1)
      (Notes.ofFlags (laneFlags v.mask fun l => (r l).2)))) ∧
  (∀ s t a x w v f A (r : Nat → Code × Status), Issuing s t 0x2B a x w → v = vFields x w → Fmt.ofCode v.fmt = some f → v.fmt < 4 →
    v.sh = 0 → v.op = 0 → v.imm < 8 → x.sReady [v.rs] = true → A = activeAddrs v f (indexAddr x v) →
    (∀ l, r l = if f.bytes = 2 then (laneAt (x.vGet v.vb) l, 0)
      else f.round ((s.ctx t).rounding x v.sr v.rc l) (t16Val (laneAt (x.vGet v.vb) l))) →
    exec (.vscatter t a) s = .next (s.issued t a (({ x with vq := x.vq ++ [⟨indexSteps A,
      .store (laneBytes v f (indexAddr x v) fun l => (r l).1), [], []⟩] } : Tile).goesOn s (indexCycles A))
      (Notes.ofFlags (laneFlags v.mask fun l => (r l).2)))) ∧
  (∀ s t a x w v f A, Issuing s t 0x2C a x w → v = vFields x w → arithFmt v.fmt = some f → v.sh = 0 → v.op = 0 → v.imm < 8 →
    x.sReady [v.rs] = true → A = activeAddrs v f (indexAddr x v) →
    exec (.vscadd t a) s = .next (s.issued t a (({ x with vq := x.vq ++ [⟨indexSteps A, addUse (s.ctx t) x v f, [], []⟩] }
      : Tile).goesOn s (2 * indexCycles A)) Notes.none)) ∧
  (∀ (y : Tile) (c reg : Nat) (f : Fmt) (m : Word) (as lines : List Nat) (rest : List VecAcc), as.length = 64 →
    lines = linesOf (VecUse.load f reg m as).addrs → y.vq = ⟨[lines], .load f reg m as, [], []⟩ :: rest →
    (serveLines y.busy lines).2.1 = [] →
    ∃ lanes, (y.vecCycle c).1.vDue = insertDue VWrite.due ⟨c + 5, reg, m, lanes⟩ y.vDue ∧ (y.vecCycle c).1.vq = rest ∧
      (y.vecCycle c).1.deck = y.deck ∧
      ∀ l, l < 64 → maskBit m l = true → laneAt lanes l = (loadLane f (y.deckElem f (as.getD l 0))).1) ∧
  (∀ (y : Tile) (c : Nat) (bs : List (Nat × Byte)) (lines : List Nat) (rest : List VecAcc), lines = linesOf (bs.map (·.1)) →
    y.vq = ⟨[lines], .store bs, [], []⟩ :: rest → y.deck.wf = true → (∀ p ∈ bs, p.1 < deckSize) → (bs.map (·.1)).Nodup →
    (serveLines y.busy lines).2.1 = [] →
    (y.vecCycle c).1.vq = rest ∧ (y.vecCycle c).1.storeDone = c + 1 ∧ (∀ p ∈ bs, (y.vecCycle c).1.deck.read p.1 = p.2) ∧
      ∀ b, b ∉ bs.map (·.1) → (y.vecCycle c).1.deck.read b = y.deck.read b) ∧
  (∀ (y : Tile) (c : Nat) (acc : VecAcc) (rest : List VecAcc), y.vq = acc :: rest →
    (serveLines y.busy (acc.steps.headD [])).2.1 ≠ [] →
    ∃ acc', (y.vecCycle c).1.vq = acc' :: rest ∧ acc'.use = acc.use ∧
      acc'.steps = (serveLines y.busy (acc.steps.headD [])).2.1 :: acc.steps.tail ∧ (y.vecCycle c).1.nextIssue = y.nextIssue + 1)

/-- The memory frame of the tile instructions: at issue nothing is stored, and the accesses that issue leaves to later cycles
store to the addresses of `deckStores` and `weightStores` alone (R84, R95, R110, R114, R130, R137, R138). -/
def Obligations.TileStoresOnlyWhereTheyStore : Prop :=
  (∀ (c : Instr) (t op : Nat) (a : Access) (s u : State) (x : Tile) (w : Nat), tileOp c = some (t, op, a) →
    x = (s.tileNow t a.upsets).1 → w = x.instrAt x.pc → exec c s = .next u →
    u.getTile t = s.getTile t ∨
    (u.getTile t).deck = x.deck ∧ (u.getTile t).staging = x.staging ∧ (u.getTile t).late = x.late ∧ (u.getTile t).outQ = x.outQ ∧
      (∀ acc ∈ (u.getTile t).vq, acc ∈ x.vq ∨ ∀ b ∈ acc.use.stores, b ∈ deckStores c x w) ∧
      (∀ j, (u.getTile t).copy = some j → x.copy = some j ∨ ∀ i, i < j.bytes →
        (match j.kind with
         | .wfill off _ _ => weightBase + (off + i) % weightBytes ∈ weightStores x w
         | _ => j.dstAddr i ∈ deckStores c x w))) ∧
  (∀ (y : Tile) (c b : Nat), y.deck.wf = true → b < deckSize → (∀ acc ∈ y.vq, b ∉ acc.use.stores) →
    (y.vecCycle c).1.deck.read b = y.deck.read b ∧ ∀ acc ∈ (y.vecCycle c).1.vq, b ∉ acc.use.stores) ∧
  (∀ (y : Tile) (c b : Nat), y.deck.wf = true → b < deckSize → (∀ j, y.copy = some j → ∀ i, i < j.bytes → b ≠ j.dstAddr i) →
    (y.copyCycle c).1.deck.read b = y.deck.read b) ∧
  (∀ (y : Tile) (c : Nat), (y.feedCycle c).1.deck = y.deck) ∧
  (∀ (y : Tile) (b : Nat), y.deck.wf = true → b < deckSize →
    (∀ r ∈ y.outQ, ∀ p ∈ r.writes, b ∉ wrapAddrs deckSize p.addr p.data.length) → (y.outCycle).1.deck.read b = y.deck.read b)

/-- Channels (R133). -/
def Obligations.ChannelInstructionsArm : Prop :=
  (∀ s t a x w, Issuing s t 0x30 a x w → fld w 16 16 = 0 → x.sReady [fld w 50 46] = true →
    exec (.csend t a) s = .next (s.issued t a
      (({ x with chanDue := insertDue ChanWrite.due ⟨s.clk.now + 2, fld w 55 52,
        ⟨.send, (x.sGet (fld w 50 46)).toNat % deckSize, fld w 32 17, fld w 15 0, 0, 0⟩⟩ x.chanDue } : Tile).goesOn s 1) Notes.none)) ∧
  (∀ s t a x w, Issuing s t 0x31 a x w → fld w 16 16 = 0 → fld w 51 51 = 0 → x.sReady [fld w 50 46] = true →
    exec (.crecv t a) s = .next (s.issued t a
      (({ x with chanDue := insertDue ChanWrite.due ⟨s.clk.now + 2, fld w 55 52,
        ⟨.recvDeck, (x.sGet (fld w 50 46)).toNat % deckSize, fld w 32 17, fld w 15 0, 0, 0⟩⟩ x.chanDue } : Tile).goesOn s 1) Notes.none)) ∧
  (∀ s t a x w, Issuing s t 0x31 a x w → fld w 16 16 = 0 → fld w 51 51 = 1 → fld w 40 33 < 208 → x.sReady [fld w 45 41] = true →
    exec (.crecv t a) s = .next (s.issued t a
      (({ x with chanDue := insertDue ChanWrite.due ⟨s.clk.now + 2, fld w 55 52,
        ⟨.recvWeights, 0, 0, fld w 15 0, (fld w 40 33 + (x.sGet (fld w 45 41)).toNat) % 208, 0⟩⟩ x.chanDue } : Tile).goesOn s 1)
      Notes.none))

/-! ## The grid's events, the crossings and test slices (R94 to R106, R132, R134, R162, R178 to R198, R384 to R387) -/

/-- LOADW_START, STREAM_START, GRID_ROW_OUTPUT and ROUTE_SUMMARY_WRITE: the tile's engines run up to the cycle, and in each
cycle the grid does what its queues hold (R86, R94, R97, R99, R100, R104, R106, R162, R164; log 84). -/
def Obligations.GridEventsProceed : Prop :=
  (∀ (c : Instr) (s : State) (t : Nat) (ups deck staging : List Upset), t < nTiles → s.tileClocked t = true → ups = deck ++ staging →
    c ∈ [.loadwStart t ups, .streamStart t ups, .gridRowOutput t deck staging, .routeSummaryWrite t ups] →
    ∃ u, exec c s = .next u ∧ u.getTile t = (s.tileNow t ups).1 ∧ (∀ k, k ≠ t → u.getTile k = s.getTile k) ∧ u.stack = s.stack ∧
      u.mesh = s.mesh ∧ (∀ r, r ≠ regionOf t → u.region r = s.region r)) ∧
  (∀ (c : Instr) (s : State) (t : Nat) (ups deck staging : List Upset), s.tileClocked t = false →
    c ∈ [.loadwStart t ups, .streamStart t ups, .gridRowOutput t deck staging, .routeSummaryWrite t ups] → exec c s = .next s) ∧
  (∀ (x : Tile) (g : Nat) (op : LoadOp) (rest : List LoadOp), x.loadQ = op :: rest →
    (op.issue ≤ g → x.loadNext ≤ g →
      ∃ ld older, (x.loadBegin g).loadQ = rest ∧ (x.loadBegin g).loadNext = max op.issue x.loadNext + 48 ∧
        (x.loadBegin g).plane op.plane = ld :: older ∧ ld.start = max op.issue x.loadNext ∧ ld.slot = op.slot ∧ ld.fmt = op.fmt ∧
        ld.w8 = op.w8 ∧ ld.transpose = op.transpose ∧ ld.cols = [] ∧ (x.loadBegin g).deck = x.deck) ∧
    (g < op.issue ∨ g < x.loadNext → x.loadBegin g = x)) ∧
  (∀ (x : Tile) (g : Nat) (ld : PlaneLoad), x.plane0 = [ld] → x.plane1 = [] → ld.cols.length < 48 →
    (ld.start + 2 + ld.cols.length ≤ g → ∃ col, (x.columnsCycle g).1.plane0 = [{ ld with cols := ld.cols ++ [col] }] ∧
      ∀ i, i < 48 → ∃ pe, col[i]? = some pe ∧
        pe.codes = (peOffsets ld i ld.cols.length).map fun o => BitVec.ofNat 16 (x.staging.le (ld.base + o) ld.fmt.bytes)) ∧
    (g < ld.start + 2 + ld.cols.length → (x.columnsCycle g).1.plane0 = [ld])) ∧
  (∀ (x : Tile) (op : GridOp) (rest : List GridOp) (g : Nat), x.streamQ = op :: rest → op.drain = false → op.issue + 8 ≤ g →
    x.zNext ≤ g → x.qNext ≤ g →
    ∃ act, (x.streamBegin g).streamQ = rest ∧ (x.streamBegin g).active = x.active ++ [act] ∧ act.op = op ∧ act.start = g ∧
      act.done = 0 ∧ (op.sparse.route = false → act.pace = 1 ∧ (x.streamBegin g).zNext = g + (op.rows - 1) + 1)) ∧
  (∀ (k : TileCtx) (x : Tile) (c : Nat),
    (((x.loadBegin (x.gridNow c)).streamBegin (x.gridNow c)).drainBegin (x.gridNow c)).stalled (x.gridNow c) c = true →
    (x.gridCycle k c).1 = { x with stalls := x.stalls + 1 }) ∧
  (∀ (k : TileCtx) (x : Tile) (g : Nat) (act : GridActive) (f : RowFetch) (rest : List GridActive) (more : List RowFetch),
    x.active = act :: rest → x.rows = f :: more → act.op.drain = false → rowDue act g = true →
    (act.op.rows ≤ act.done + 1 → (x.rowOutput k g).active = rest) ∧
    (act.done + 1 < act.op.rows →
      ∃ act', (x.rowOutput k g).active = act' :: rest ∧ act'.op = act.op ∧ act'.start = act.start ∧ act'.done = act.done + 1) ∧
    (x.rowOutput k g).rows = more ∧
    (act.op.mode = .keep → (x.rowOutput k g).outQ = x.outQ ∧ ∀ j, j < 48 →
      (x.rowOutput k g).accAt (entryOf act.op act.done) j =
        ((accStage { x with rows := more } act.op act.done (rowSums { x with rows := more } k.id act f)).getD j ⟨0, 0, false⟩).s) ∧
    (act.op.mode ≠ .keep → act.op.sparse.route = false → ∃ row, (x.rowOutput k g).outQ = x.outQ ++ [row] ∧ row.counts = true)) ∧
  (∀ (x : Tile) (sp : SparseBlock) (start line g n : Nat) (rest : List RouteItem), x.places = .summary sp start line :: rest →
    (g < start → (x.placeCycle n g).1 = x) ∧
    (start ≤ g → (x.placeCycle n g).1.places = rest ∧ (x.placeCycle n g).1.fill = x.fill ∧
      ∀ p, (outPieces sp.sumBase (x.summaryBytes n sp))[line]? = some p → x.outQ = [] →
        (x.placeCycle n g).1.outQ = [⟨false, none, [p]⟩]))

/-- TEST_WINDOW_END and BARRIER_COMPLETE (R132, R134, R198). -/
def Obligations.WindowsAndBarriersComplete : Prop :=
  (∀ (s : State) (t : Nat) (x : Tile), x = s.getTile t → x.wait = .window true 0 → x.slice = none →
    ∃ y, exec (.testWindowEnd t) s = .next (s.setTile t y) ∧ y.wait = .none ∧ y.nextIssue = s.clk.now ∧
      y.plane0 = [] ∧ y.plane1 = [] ∧ y.acc = [] ∧ y.pending = 0 ∧ (∀ r l, r < 32 → l < 64 → laneAt (y.vGet r) l = 0x7000) ∧
      (∀ k, y.kGet k = BitVec.allOnes 64) ∧ y.pc = x.pc ∧ y.s = x.s ∧ y.rc = x.rc ∧ y.chan = x.chan ∧ y.deck = x.deck ∧
      y.staging = x.staging) ∧
  (∀ (s : State) (d c : Nat), Map.find? s.barriers d = some c →
    (s.clk.now < c + 400 → exec (.barrierComplete d) s = .next s) ∧
    (c + 400 ≤ s.clk.now →
      ∃ u, exec (.barrierComplete d) s = .next u ∧ u.stack = s.stack ∧ u.regions = s.regions ∧
        (∀ t, d ∉ (u.getTile t).arrived) ∧
        (∀ t, (s.getTile t).wait = .sync d → d ∈ (s.getTile t).arrived → (u.getTile t).wait = .none) ∧
        (∀ t, (u.getTile t).deck = (s.getTile t).deck ∧ (u.getTile t).s = (s.getTile t).s ∧ (u.getTile t).pc = (s.getTile t).pc)))

/-- SLOT_ENTRY (R179 to R184, R188, R190, R195, R453). -/
def Obligations.SlotEntriesActOnTheSwitch : Prop :=
  (∀ (s : State) (t : Nat) (ups : List Upset), s.frm.originWait = true ∨ s.thoroughfareLost (regionOf t) = true →
    exec (.slotEntry t ups) s = .next s) ∧
  (∀ (s : State) (t : Nat) (ups : List Upset), s.frm.originWait = false → s.thoroughfareLost (regionOf t) = false →
    s.crossingRuns t = false ∨ (s.getTile t).inWindow = true →
    ∃ u, exec (.slotEntry t ups) s = .next u ∧ u.mesh = (s.present t).2 ∧ u.tiles = s.tiles ∧
      ((s.present t).1 = [] → u.regions = s.regions) ∧
      ((s.present t).1 ≠ [] →
        (u.region (regionOf t)).chanDrop = satAdd (s.region (regionOf t)).chanDrop (s.present t).1.length)) ∧
  (∀ (s : State) (t : Nat) (ups : List Upset) (x : Tile) (b : Nat), s.crossingRuns t = true → s.frm.originWait = false →
    x = (s.tilePort t ups).1 → (s.getTile t).inWindow = false → (s.getTile t).entryAt ≠ some s.clk.now →
    (s.present t).1 = [] → b = slotByte x s.clk.cycle →
    (∀ w : Switch,
      (b = 0 ∧ w = x.switch ∨
        (∃ d c, b = 16 * d + c ∧ b ≠ 0 ∧ d ≤ 12 ∧ c ≤ 12 ∧ c ≠ d ∧ w = { x.switch with conn := Map.set x.switch.conn d c }) ∨
        (∃ d, b = 16 * d + 15 ∧ d ≤ 12 ∧ w = { x.switch with conn := Map.erase x.switch.conn d }) ∨
        (∃ c, b = 16 * 13 + c ∧ c ≤ 15 ∧ w = { x.switch with send := some c }) ∨
        (∃ c, b = 16 * 14 + c ∧ c ≤ 15 ∧ w = { x.switch with recv := some c }) ∨
        b = 0xF0 ∧ w = { x.switch with send := none } ∨ b = 0xF1 ∧ w = { x.switch with recv := none } ∨
        b = 0xF2 ∧ w = ⟨[], none, none⟩) →
      ∃ u, exec (.slotEntry t ups) s = .next u ∧ u.getTile t = { x with switch := w, entryAt := some s.clk.now } ∧
        (∀ k, k ≠ t → u.getTile k = s.getTile k) ∧ u.stack = s.stack) ∧
    ((∃ d c, b = 16 * d + c ∧ c ≤ 15 ∧ (d ≤ 12 ∧ (c = 13 ∨ c = 14) ∨ d ≤ 12 ∧ c = d ∧ b ≠ 0 ∨ d = 15 ∧ 3 ≤ c)) →
      exec (.slotEntry t ups) s = .fault (.undefined .reservedSlotEntry))) ∧
  (∀ (s : State) (t d : Nat) (x : Tile) (f : Flight) (rest : List Flight) (w : Switch), s.crossingRuns t = true →
    s.frm.originWait = false → x = (s.tilePort t []).1 → (s.getTile t).inWindow = false → (s.getTile t).entryAt ≠ some s.clk.now →
    s.present t = ([f], rest) → slotEffect (slotByte x s.clk.cycle) x.switch = some w → w.dests f.port = [d] →
    (d = 12 → ∃ u, exec (.slotEntry t []) s = .next u ∧ (u.getTile t).rx = x.rx ++ [f.data] ∧ u.mesh = rest) ∧
    (∀ g, d ≠ 12 → rimGate t d = some g → neighbour t d = none → ∃ u, exec (.slotEntry t []) s = .next u ∧ u.mesh = rest ∧
      u.rim = s.rim ++ [⟨g, t, d, s.clk.now + 4, f.data⟩]) ∧
    (rimGate t d = none → d ≠ 12 → neighbour t d = none → ∃ u, exec (.slotEntry t []) s = .next u ∧ u.mesh = rest ∧ u.rim = s.rim) ∧
    (∀ n seg, d ≠ 12 → rimGate t d = none → neighbour t d = some n → segmentOf t d = some seg →
      (s.collides t d = true → exec (.slotEntry t []) s = .fault (.undefined .slotCollision)) ∧
      (s.collides t d = false → s.segLost seg = true → ∃ u, exec (.slotEntry t []) s = .next u ∧ u.mesh = rest) ∧
      (s.collides t d = false → s.segLost seg = false → ∃ u, exec (.slotEntry t []) s = .next u ∧
        u.mesh = rest ++ [⟨n, oppositePort d, s.clk.now + (if d < 4 then 2 else 3), s.clk.now, f.data⟩])))

/-- LOCAL_SEND, LINE_RECEIVE and QUEUED_DECK_WRITE (R86, R133, R185 to R187, R193). -/
def Obligations.LocalPortMovesLines : Prop :=
  (∀ (s : State) (t : Nat) (ups : List Upset) (x : Tile) (c : Nat) (ch : Channel), s.crossingRuns t = true →
    s.frm.originWait = false → s.gatedRegion (regionOf t) = false → x = (s.tilePort t ups).1 →
    x.inWindow = false → x.portClosed s.clk.now = false → x.sendAt ≠ some s.clk.now → x.drainAt ≠ some s.clk.now →
    x.switch.send = some c → c < 16 → ch = x.chanGet c → ch.use = .send → 0 < ch.count →
    ∃ u, exec (.localSend t ups) s = .next u ∧
      (u.getTile t).chanGet c = { ch with addr := (ch.addr + ch.stride) % deckSize / 64 * 64, count := ch.count - 1, line := ch.line + 1 } ∧
      u.mesh = s.mesh ++ [⟨t, 12, s.clk.now + 4, s.clk.now, x.deckBytesMarked (ch.addr / 64 * 64) 64⟩] ∧
      (u.getTile t).sendAt = some s.clk.now ∧ (u.getTile t).deck = x.deck ∧ u.stack = s.stack) ∧
  (∀ (s : State) (t : Nat) (x : Tile) (data : List Byte) (rest : List (List Byte)), x = (s.tilePort t []).1 → x.rx = data :: rest →
    ∃ u, exec (.lineReceive t) s = .next u ∧ (u.getTile t).rx = rest ∧ (u.getTile t).deck = x.deck ∧ u.stack = s.stack ∧
      (s.gatedRegion (regionOf t) = true ∨ x.inWindow = true ∨ x.switch.recv = none →
        (u.getTile t).wq = x.wq ∧ (u.getTile t).staging = x.staging ∧
        ((s.tilePort t []).2.chanDrop = 0 → (u.region (regionOf t)).chanDrop = satAdd (s.region (regionOf t)).chanDrop 1)) ∧
      (∀ c, s.gatedRegion (regionOf t) = false → x.inWindow = false → x.switch.recv = some c → c < 16 →
        (x.chanGet c).use = .recvDeck → 0 < (x.chanGet c).count → x.wq.length < 64 →
        (u.getTile t).wq = x.wq ++ [⟨(x.chanGet c).addr / 64 * 64, data, x.freeSlot⟩] ∧
        ((u.getTile t).chanGet c).count = (x.chanGet c).count - 1)) ∧
  (∀ (s : State) (t : Nat) (ups : List Upset) (x : Tile) (q : QueuedLine), x = (s.tilePort t ups).1 →
    q ∈ x.wq → deckBank q.addr ∉ x.busy → s.coreRuns = true → s.isDark (regionOf t) = false →
    s.thoroughfareLost (regionOf t) = false → x.portClosed s.clk.now = false →
    (x.drainAt ≠ some s.clk.now →
      ∃ u, exec (.queuedDeckWrite t ups) s = .next u ∧ (u.getTile t).wq.length < x.wq.length ∧
        x.wq.length ≤ (u.getTile t).wq.length + 2 ∧ (u.getTile t).staging = x.staging ∧
        (u.getTile t).drainAt = some s.clk.now ∧ (∀ k, k ≠ t → u.getTile k = s.getTile k) ∧ u.stack = s.stack) ∧
    (x.drainAt = some s.clk.now → exec (.queuedDeckWrite t ups) s = .next s))

/-- TEST_SLICE_END and TEST_SLICE_ABORT (R385 to R387). -/
def Obligations.TestSlicesEnd : Prop :=
  (∀ (s : State) (t : Nat) (bad : Bool), (s.getTile t).slice ≠ none → s.coreRuns = true →
    ∃ u, exec (.testSliceEnd t bad []) s = .next u ∧ (u.getTile t).slice = none ∧ (u.getTile t).plane0 = [] ∧
      (u.getTile t).acc = [] ∧ (u.getTile t).deck = (s.getTile t).deck ∧ u.tst.sliceTile = t ∧ u.stack = s.stack ∧
      (bad = false → u.tst.sliceResult = 1 ∧ u.tst.sliceCount = wrap64 (s.tst.sliceCount + 1) ∧ u.mapNext = s.mapNext) ∧
      (bad = true → u.tst.sliceResult = 2 ∧ u.tst.sliceFail = wrap64 (s.tst.sliceFail + 1) ∧
        u.mapNext = s.mapNext ++ [.tile t 130] ∧ (s.runActive = true → u.plan.failNext = true))) ∧
  (∀ (s : State) (t : Nat), (s.getTile t).slice ≠ none →
    s.runActive = false ∨ s.coreRuns = false ∨ s.isDusk (regionOf t) = true ∨ s.isDark (regionOf t) = true →
    ∃ u, exec (.testSliceAbort t) s = .next u ∧ (u.getTile t).slice = none ∧ (u.getTile t).plane0 = [] ∧
      (u.getTile t).deck = (s.getTile t).deck ∧ u.tst.sliceTile = t ∧ u.tst.sliceResult = 3 ∧
      u.tst.sliceAbort = wrap64 (s.tst.sliceAbort + 1) ∧ u.stack = s.stack)

/-! ## Stacks, rings, host reads, doorbells, rim lanes (R209 to R227, R235 to R239, R245, R252 to R254, R330) -/

/-- Stack time (R224): the wall time of the end, and that no other transfer issues before it. -/
def Obligations.StackTransfersOccupyTheStack : Prop :=
  (∀ (s : State) (g : Nat) (c : Candidate), g < nGates → s.canIssue g = true →
    (s.gate g).nextCandidate (s.unit g).waitingWrites = some c → (c.deadline.isNone && s.updateMayIssue g) = false →
    (∃ a b, (((s.gate g).ring c.ring).walks.find? fun x => x.gen == c.gen) = some a ∧ a.block? c.block = some b) →
    (c.write = true → (s.gate g).overlaps c.ring c.xfer.addr c.xfer.len = false) →
    ∃ t, exec (.stackTransferIssue g false) s = .next t ∧
      2000 * ((t.gate g).busyUntil - s.clk.wall) = max c.xfer.len 2048 * wallPerNs ∧
      (c.xfer.len ≤ 2048 → 1000 * ((t.gate g).busyUntil - s.clk.wall) = 1024 * wallPerNs) ∧
      (∀ u : State, u.gate g = t.gate g → u.clk.wall < (t.gate g).busyUntil → u.canIssue g = false)) ∧
  (∀ (s : State) (g : Nat) (y : UpdXfer) (rest : List UpdXfer), g < nGates → s.canIssue g = true → s.updateMayIssue g = true →
    (∀ c, (s.gate g).nextCandidate (s.unit g).waitingWrites = some c → c.deadline = none) → (s.unit g).queue = y :: rest →
    (y.write = true → (s.gate g).overlaps 1024 y.addr y.len = false) →
    ∃ t, exec (.stackTransferIssue g false) s = .next t ∧
      2000 * ((t.gate g).busyUntil - s.clk.wall) = max y.len 2048 * wallPerNs ∧
      (∀ u : State, u.gate g = t.gate g → u.clk.wall < (t.gate g).busyUntil → u.canIssue g = false))

/-- STACK_TRANSFER_ISSUE: which transfer goes next and what its issue does, the reads that wait for a write ahead of them, and
host reads (R225 to R227, R235, R277, R330). -/
def Obligations.StackTransfersIssueInOrder : Prop :=
  (∀ (s : State) (g : Nat), s.canIssue g = false → exec (.stackTransferIssue g false) s = .next s) ∧
  (∀ (x : Gate) (ws : List (Nat × Nat × Nat)) (c : Candidate), x.nextCandidate ws = some c →
    (∀ r a d, Map.find? x.rings r = some a → d ∈ ringCandidates x r a false →
      (d.write = true ∨ mustWait (x.waitingWrites ++ ws) d.xfer.addr d.xfer.len d.reqAt = false) → d.before c = false) ∧
    (c.write = false → mustWait (x.waitingWrites ++ ws) c.xfer.addr c.xfer.len c.reqAt = false)) ∧
  (∀ (s : State) (g : Nat) (c : Candidate) (a : Arming) (b : Block), g < nGates → s.canIssue g = true →
    (s.gate g).nextCandidate (s.unit g).waitingWrites = some c → (c.deadline.isNone && s.updateMayIssue g) = false →
    (((s.gate g).ring c.ring).walks.find? fun x => x.gen == c.gen) = some a → a.block? c.block = some b →
    (c.write = false →
      ∃ t, exec (.stackTransferIssue g false) s = .next t ∧ t.stack = s.stack ∧
        (t.gate g).flights = (s.gate g).flights ++ [⟨.ring c.ring c.gen c.block, false, c.xfer.off, c.xfer.addr, c.xfer.len,
          s.stack.slice c.xfer.addr c.xfer.len, s.badBursts c.xfer.addr c.xfer.len, c.xfer.eof⟩] ∧
        (∀ k, k ≠ g → t.gate k = s.gate k) ∧ t = { s with gates := t.gates }) ∧
    (c.write = true → (s.gate g).overlaps c.ring c.xfer.addr c.xfer.len = true →
      exec (.stackTransferIssue g false) s = .fault (.undefined .writeOverlap)) ∧
    (c.write = true → (s.gate g).overlaps c.ring c.xfer.addr c.xfer.len = false → s.stack.wf = true →
      ∃ t, exec (.stackTransferIssue g false) s = .next t ∧
        (∀ i, i < c.xfer.len → populated (c.xfer.addr + i) = true →
          t.stack.read (c.xfer.addr + i) = (blockData b (a.d.comp != 0) c.xfer).1.read i) ∧
        (∀ x, x < c.xfer.addr ∨ c.xfer.addr + c.xfer.len ≤ x ∨ populated x = false → t.stack.read x = s.stack.read x) ∧
        (∀ k, k ≠ g → t.gate k = s.gate k) ∧ t = { s with gates := t.gates, stack := t.stack, stackUe := t.stackUe })) ∧
  (∀ (s : State) (g : Nat) (y : UpdXfer) (rest : List UpdXfer), g < nGates → s.canIssue g = true → s.updateMayIssue g = true →
    (∀ c, (s.gate g).nextCandidate (s.unit g).waitingWrites = some c → c.deadline = none) → (s.unit g).queue = y :: rest →
    (y.write = false →
      ∃ t, exec (.stackTransferIssue g false) s = .next t ∧ t.stack = s.stack ∧ (t.unit g).queue = rest ∧
        (t.gate g).flights = (s.gate g).flights ++ [⟨.update y.layer y.blk y.plane, false, y.off, y.addr, y.len,
          s.stack.slice y.addr y.len, s.badBursts y.addr y.len, none⟩] ∧ t.tiles = s.tiles) ∧
    (y.write = true → (s.gate g).overlaps 1024 y.addr y.len = true →
      exec (.stackTransferIssue g false) s = .fault (.undefined .writeOverlap)) ∧
    (y.write = true → (s.gate g).overlaps 1024 y.addr y.len = false → y.data.length = y.len → s.stack.wf = true →
      ∃ t, exec (.stackTransferIssue g false) s = .next t ∧
        (∀ i, i < y.len → populated (y.addr + i) = true → t.stack.read (y.addr + i) = y.data.getD i 0) ∧
        (∀ x, x < y.addr ∨ y.addr + y.len ≤ x ∨ populated x = false → t.stack.read x = s.stack.read x) ∧
        (t.unit g).queue = rest ∧ t.tiles = s.tiles)) ∧
  (∀ (s : State) (g : Nat) (c : Candidate) (d : Desc), g < nGates → s.dawn.cmpReset = false →
    (s.gate g).flights.length + (s.gate g).hostFlights.length < 1024 →
    (s.gate g).hostCandidates.find? (s.hostReadReady g) = some c → (s.gate g).descOf c = some d →
    ∃ t, exec (.stackTransferIssue g true) s = .next t ∧ t.stack = s.stack ∧ t = { s with gates := t.gates, out := t.out } ∧
      (d.ats = true ∧ (s.gate g).trans.contains (d.key c.xfer.addr) = false →
        t.out = s.out ++ [.atsRequest d.hostPort (pageOf c.xfer.addr) d.pasid] ∧
        (t.gate g).hostFlights = (s.gate g).hostFlights) ∧
      (d.ats = false ∨ (s.gate g).trans.contains (d.key c.xfer.addr) = true →
        t.out = s.out ++ [.hostRead d.hostPort c.xfer.addr (min c.xfer.len (min 4096 (s.hostPort d.hostPort).maxRead)) d.pasid d.ats] ∧
        (t.gate g).hostFlights.length = (s.gate g).hostFlights.length + 1))

/-- REFRESH_SLOT and FORCED_REFRESH (R252 to R254, R263). -/
def Obligations.RefreshesPayTheDebt : Prop :=
  (∀ (s : State) (g : Nat), g < nGates →
    (s.refreshes g = false → exec (.refreshSlot g) s = .next s ∧ exec (.forcedRefresh g) s = .next s) ∧
    (s.refreshes g = true →
      (s.slotNow g = true → refreshUnit ≤ (s.gate g).debtAtWall s.clk.wall →
        ∃ t, exec (.refreshSlot g) s = .next t ∧
          (t.gate g).debtAtWall s.clk.wall + refreshUnit = (s.gate g).debtAtWall s.clk.wall ∧
          (t.gate g).refTaken = min ((s.gate g).refTaken + 1) (2 ^ 64 - 1) ∧ (t.gate g).refForced = (s.gate g).refForced ∧
          (t.gate g).refreshUntil = max (max s.clk.wall (s.gate g).busyUntil) (s.gate g).refreshUntil + 410 * wallPerNs ∧
          t.canIssue g = false ∧ (t.gate g).rings = (s.gate g).rings ∧ (s.stretched = false → t.slotNow g = false) ∧
          (∀ k, k ≠ g → t.gate k = s.gate k) ∧ t = { s with gates := t.gates }) ∧
      (s.slotNow g = false ∨ (s.gate g).debtAtWall s.clk.wall < refreshUnit → exec (.refreshSlot g) s = .next s) ∧
      ((s.gate g).busyUntil ≤ s.clk.wall → (s.gate g).refreshUntil ≤ s.clk.wall → 8 * refreshUnit ≤ (s.gate g).debtAtWall s.clk.wall →
        ∃ t, exec (.forcedRefresh g) s = .next t ∧
          (t.gate g).debtAtWall s.clk.wall + refreshUnit = (s.gate g).debtAtWall s.clk.wall ∧
          (t.gate g).refForced = min ((s.gate g).refForced + 1) (2 ^ 64 - 1) ∧ (t.gate g).refTaken = (s.gate g).refTaken ∧
          (t.gate g).refreshUntil = s.clk.wall + 410 * wallPerNs ∧ t.canIssue g = false ∧
          (∀ k, k ≠ g → t.gate k = s.gate k) ∧ t = { s with gates := t.gates }) ∧
      ((s.gate g).debtAtWall s.clk.wall < 8 * refreshUnit ∨ s.clk.wall < (s.gate g).busyUntil ∨ s.clk.wall < (s.gate g).refreshUntil →
        exec (.forcedRefresh g) s = .next s))) ∧
  (∀ (s : State) (g : Nat), 8 * refreshUnit ≤ (s.gate g).debtAtWall s.clk.wall → s.canIssue g = false) ∧
  (∀ (x : Gate) (w n : Nat), x.debtAt ≤ w →
    (x.hot = false → x.debtAtWall (w + n) = x.debtAtWall w + n) ∧ (x.hot = true → x.debtAtWall (w + n) = x.debtAtWall w + 2 * n))

/-- STACK_TRANSFER_COMPLETE, HOST_READ_COMPLETION, HOST_READ_ERROR, COMPLETION_TIMEOUT, PAGE_FAULT,
PAGE_REQUEST_RESPONSE, FAULT_TIMEOUT, ATS_INVALIDATION and ATS_TRANSLATION_COMPLETION (R217, R225, R235 to R237, R276, R277, R330). -/
def Obligations.TransfersCompleteAndHostReadsEnd : Prop :=
  (∀ (s : State) (g idx : Nat) (e : EccReport), (s.gate g).flights[idx]? = none → exec (.stackTransferComplete g idx e) s = .next s) ∧
  (∀ (s : State) (g idx : Nat) (e : EccReport) (fl : StackFlight), (s.gate g).flights[idx]? = some fl →
    ∃ t, exec (.stackTransferComplete g idx e) s = .next t ∧ (t.gate g).flights = (s.gate g).flights.eraseIdx idx ∧
      (∀ r j a b, fl.owner = .ring r a.gen j → fl.write = false → fl.bad = [] → e = cleanReport →
        (s.ring g r).arming = some a → a.d.outbound = true → a.d.comp = 0 → a.block? j = some b → b.complete = false →
        (a.blocks.map Block.num).Nodup → a.blocks.length ≤ 5 → j < a.requested →
        ∃ a' b', (t.ring g r).arming = some a' ∧ a'.block? j = some b' ∧
          b'.bytes = b.bytes.putBytes fl.off (fl.data.bytes 0 fl.len) ∧
          b'.complete = (b.reads.isEmpty &&
            !({ s.gate g with flights := (s.gate g).flights.eraseIdx idx } : Gate).readsOut r a.gen j)) ∧
      (∀ layer blk plane, fl.owner = .update layer blk plane → fl.write = true →
        ((s.unit g).queue.any fun w => w.write && w.layer == layer && w.blk == blk) = false →
        (∀ f ∈ (s.gate g).flights.eraseIdx idx, ∀ p, f.write = true → f.owner ≠ .update layer blk p) →
        (layer, blk) ∈ (t.unit g).written ∧ t.stack = s.stack) ∧
      (∀ layer blk plane x, fl.owner = .update layer blk plane → fl.write = false → fl.bad = [] → e = cleanReport →
        (s.unit g).slot? layer blk = some x →
        ∃ x', (t.unit g).slot? layer blk = some x' ∧
          x'.copy = (x.keep plane fl.off ((fl.data.bytes 0 fl.len).map BitVec.toNat)).copy)) ∧
  (∀ (s : State) (g r addr : Nat) (data : List Byte) (h : HostFlight),
    ((s.gate g).hostFlights.find? fun h => h.ring == r && decide (h.addr ≤ addr) && decide (addr + data.length ≤ h.addr + h.len)) = some h →
    ∃ t, exec (.hostReadCompletion g r addr data) s = .next t ∧
      (h.len ≤ h.got + data.length → h ∉ (t.gate g).hostFlights) ∧
      (h.got + data.length < h.len → ({ h with got := h.got + data.length } : HostFlight) ∈ (t.gate g).hostFlights) ∧
      (t.gate g).flights = (s.gate g).flights) ∧
  (∀ (s : State) (g r : Nat) (h : HostFlight) (a : Arming), (s.ring g h.ring).arming = some a → a.gen = h.gen →
    (s.ring g h.ring).state ≠ .error →
    (((s.gate g).hostFlights.find? fun h => h.ring == r) = some h →
      ∃ t, exec (.hostReadError g r) s = .next t ∧ h ∉ (t.gate g).hostFlights ∧ (t.ring g h.ring).state = .error ∧
        (t.ring g h.ring).status = 6) ∧
    (((s.gate g).hostFlights.find? fun h => h.ring == r && decide (h.since + wallMs 40 ≤ s.clk.wall)) = some h →
      ∃ t, exec (.completionTimeout g r) s = .next t ∧ h ∉ (t.gate g).hostFlights ∧ (t.ring g h.ring).state = .error ∧
        (t.ring g h.ring).status = 6)) ∧
  (∀ (s : State) (g r page : Nat) (c : Candidate) (a : Arming), (s.gate g).nextHost r = some c → (s.ring g r).arming = some a →
    a.d.ats = true → pageOf c.xfer.addr = page → (a.d.hostPort, a.d.pasid, page) ∈ (s.gate g).transAsked →
    (∀ b y, (a.blocks.find? fun b => !b.complete) = some b → b.reads.head? = some y → (destWrites g a b y.off).bad = none) →
    ∃ t, exec (.pageFault g r page) s = .next t ∧ exec (.atsTranslationCompletion g r page false) s = .next t ∧
      (t.ring g r).state = .faulted ∧ t.out = s.out ++ [.pageRequest a.d.hostPort page a.d.pasid] ∧
      (t.ring g r).index = (if a.d.endless then ((a.d.blockElems c.block).1 + c.xfer.off / a.d.elemBytes) % a.d.elems
        else (a.d.blockElems c.block).1 + c.xfer.off / a.d.elemBytes) ∧
      (t.ring g r).fault = some ⟨page, (t.ring g r).index, s.clk.wall⟩ ∧
      (a.d.hostPort, a.d.pasid, page) ∉ (t.gate g).transAsked ∧ t.stack = s.stack) ∧
  (∀ (s : State) (g r page : Nat) (a : Arming), (s.ring g r).arming = some a →
    (a.d.hostPort, a.d.pasid, page) ∈ (s.gate g).transAsked →
    ∃ t, exec (.atsTranslationCompletion g r page true) s = .next t ∧
      (a.d.hostPort, a.d.pasid, page) ∈ (t.gate g).trans ∧ (a.d.hostPort, a.d.pasid, page) ∉ (t.gate g).transAsked ∧
      (t.gate g).rings = (s.gate g).rings ∧ t = { s with gates := t.gates }) ∧
  (∀ (s : State) (g r : Nat) (f : FaultInfo) (a : Arming), (s.ring g r).state = .faulted → (s.ring g r).fault = some f →
    (s.ring g r).arming = some a →
    (∃ t, exec (.pageRequestResponse g r true) s = .next t ∧ t.ring g r = { s.ring g r with state := .active, fault := none } ∧
      t.stack = s.stack ∧ (a.d.hostPort, a.d.pasid, f.page) ∈ (t.gate g).trans ++ (t.gate g).transAsked ∧
      ((a.d.hostPort, a.d.pasid, f.page) ∉ (s.gate g).trans ++ (s.gate g).transAsked →
        t.out = s.out ++ [.atsRequest a.d.hostPort f.page a.d.pasid]) ∧
      ((a.d.hostPort, a.d.pasid, f.page) ∈ (s.gate g).trans ++ (s.gate g).transAsked → t.out = s.out)) ∧
    (∃ t, exec (.pageRequestResponse g r false) s = .next t ∧ (t.ring g r).state = .error ∧ (t.ring g r).status = 5) ∧
    (s.clk.wall < f.since + wallMs 10 → exec (.faultTimeout g r) s = .next s) ∧
    (f.since + wallMs 10 ≤ s.clk.wall →
      ∃ t, exec (.faultTimeout g r) s = .next t ∧ (t.ring g r).state = .error ∧ (t.ring g r).status = 5)) ∧
  (∀ (s : State) (port page pasid : Nat), port < 2 →
    ∃ t, exec (.atsInvalidation port page pasid) s = .next t ∧ (∀ g, (port, pasid, page) ∉ (t.gate g).trans) ∧
      (∀ g, (t.gate g).rings = (s.gate g).rings) ∧ t.stack = s.stack ∧
      (s.usesPage port page pasid = false → .invalidated port page pasid ∈ t.out))

/-- INGRESS_DOORBELL and DOORBELL_ACCEPT (R238, R326, R328). -/
def Obligations.DoorbellsAnnounceOrWait : Prop :=
  (∀ (s : State) (port g r n : Nat), PortOpen s port → g < nGates → r < 1024 → n < 2 ^ 32 →
    (s.isProducer g r = false →
      exec (.ingressDoorbell port g r n) s = .next { s with hostRegs := { s.hostRegs with dbDrop := wrap64 (s.hostRegs.dbDrop + 1) } }) ∧
    (s.isProducer g r = true → serialLarger n (s.ring g r).announced = false → exec (.ingressDoorbell port g r n) s = .next s) ∧
    (s.isProducer g r = true → serialLarger n (s.ring g r).announced = true → s.doorbellFits g r n = true →
      ∃ t, exec (.ingressDoorbell port g r n) s = .next t ∧ (t.ring g r).announced = n ∧ (t.hostPort port).held = none) ∧
    (s.isProducer g r = true → serialLarger n (s.ring g r).announced = true → s.doorbellFits g r n = false →
      ∃ t, exec (.ingressDoorbell port g r n) s = .next t ∧ (t.hostPort port).held = some (g, r, n) ∧
        (∀ p, p ≠ port → t.hostPort p = s.hostPort p) ∧ t = { s with host := t.host })) ∧
  (∀ (s : State) (port g r n : Nat), port < 2 → (s.hostPort port).held = some (g, r, n) → (s.hostPort port).waiting = [] →
    (s.isProducer g r = false →
      ∃ t, exec (.doorbellAccept port) s = .next t ∧ (t.hostPort port).held = none ∧
        t.hostRegs = { s.hostRegs with dbDrop := wrap64 (s.hostRegs.dbDrop + 1) } ∧ t.gates = s.gates) ∧
    (s.isProducer g r = true → serialLarger n (s.ring g r).announced = false →
      ∃ t, exec (.doorbellAccept port) s = .next t ∧ (t.hostPort port).held = none ∧ t.gates = s.gates ∧ t.hostRegs = s.hostRegs) ∧
    (s.isProducer g r = true → serialLarger n (s.ring g r).announced = true → s.doorbellFits g r n = true →
      ∃ t, exec (.doorbellAccept port) s = .next t ∧ (t.hostPort port).held = none ∧ (t.ring g r).announced = n ∧
        ((s.hostPort 0).canSend (ingressVector g) = true → .msix 0 (ingressVector g) ∈ t.out) ∧
        ((s.hostPort 0).canSend (ingressVector g) = false → ingressVector g ∈ (t.hostPort 0).pba)) ∧
    (s.isProducer g r = true → serialLarger n (s.ring g r).announced = true → s.doorbellFits g r n = false →
      exec (.doorbellAccept port) s = .next s))

/-- RIM_LINE_SEND and RIM_LINE_RECEIVE (R209, R214, R218, R220). -/
def Obligations.RimLanesCarryLines : Prop :=
  (∀ (s : State) (g r n : Nat), s.coreRuns = true → s.frm.originWait = false →
    (s.rimLine g r = none → exec (.rimLineSend g r n) s = .next s) ∧
    (∀ d b k, s.rimLine g r = some (d, b, k) →
      (s.rimTaken (frontageTile g d.rimTile) (rimCrossingPort g d.rimPort) = true →
        exec (.rimLineSend g r n) s = .fault (.undefined .rimCollision)) ∧
      (s.rimTaken (frontageTile g d.rimTile) (rimCrossingPort g d.rimPort) = false →
        ∃ t, exec (.rimLineSend g r n) s = .next t ∧ t.stack = s.stack ∧ t.tiles = s.tiles ∧
          (s.thoroughfareLost (regionOf (frontageTile g d.rimTile)) = false →
            t.mesh = s.mesh ++ [⟨frontageTile g d.rimTile, rimCrossingPort g d.rimPort, s.clk.now + 4, s.clk.now,
              b.deliver d (64 * k) 64⟩]) ∧
          (s.thoroughfareLost (regionOf (frontageTile g d.rimTile)) = true → t.mesh = s.mesh) ∧ t.rimLine g r = none ∧
          (t.gate g).bufCe = satAdd (s.gate g).bufCe n))) ∧
  (∀ (s : State) (g : Nat) (f : RimFlight), (s.rim.find? fun f => f.gate == g && decide (f.due ≤ s.clk.now)) = some f →
    (s.rimClaims g f (s.clk.cycle - (s.clk.now - f.due)) = [] →
      ∃ t, exec (.rimLineReceive g) s = .next t ∧ t.rim = s.rim.erase f ∧ t.stack = s.stack ∧
        t.gate g = { s.gate g with rimDrop := satAdd (s.gate g).rimDrop 1 }) ∧
    (∀ r j k a b, s.rimClaims g f (s.clk.cycle - (s.clk.now - f.due)) = [(r, j, k)] → (s.ring g r).arming = some a →
      a.block? j = some b →
      ∃ t a' b', exec (.rimLineReceive g) s = .next t ∧ t.rim = s.rim.erase f ∧ t.stack = s.stack ∧
        (t.ring g r).arming = some a' ∧ a'.block? j = some b' ∧ b' = { b with bytes := b.bytes.putBytes (64 * k) f.data }) ∧
    (2 ≤ (s.rimClaims g f (s.clk.cycle - (s.clk.now - f.due))).length →
      exec (.rimLineReceive g) s = .fault (.undefined .rimCollision)))

/-! ## The boulevard and the update units (R265 to R288) -/

/-- BOULEVARD_ROW and BOULEVARD_FORWARD (R270 to R273). -/
def Obligations.BoulevardMovesRows : Prop :=
  (∀ (s : State) (n t : Nat) (x : Tile) (w : WideRow), n < 6804 → s.coreRuns = true → t < nTiles → quadOf t = n →
    s.tileClocked t = true → s.freeAt (tileKey t) ≤ s.clk.now → x = (s.tilePort t []).1 → x.portRow = some w →
    (∀ l, acceptRow n (s.linkHeld n) (s.nodeRows n) w = some l →
      ∃ u, exec (.boulevardRow n (some t)) s = .next u ∧ u.stack = s.stack ∧ u.getTile t = x.portTaken ∧ u.nodeRows n = l ∧
        u.freeAt (tileKey t) = s.clk.now + 8 ∧ u.blvd.links = s.blvd.links ∧ (∀ k, k ≠ n → u.nodeRows k = s.nodeRows k)) ∧
    (acceptRow n (s.linkHeld n) (s.nodeRows n) w = none →
      ∃ u, exec (.boulevardRow n (some t)) s = .next u ∧ u.tiles = s.tiles ∧ u.blvd.nodes = s.blvd.nodes ∧
        u.blvd.links = s.blvd.links ∧ u.freeAt (tileKey t) = s.clk.now + 1 ∧ u.stack = s.stack ∧
        u.upd = { s.upd with stallCount := wrap64 (s.upd.stallCount + 1) })) ∧
  (∀ (n held : Nat) (buf : List WideRow) (w : WideRow),
    ((∀ b ∈ buf, sameKey b w = false) → buf.length + held < nodeRoom n → acceptRow n held buf w = some (buf ++ [w])) ∧
    ((∀ b ∈ buf, sameKey b w = false) → nodeRoom n ≤ buf.length + held → acceptRow n held buf w = none) ∧
    (∀ b ∈ buf, sameKey b w = true →
      ∃ l, acceptRow n held buf w = some l ∧ l.length = buf.length ∧ mergeRow b w ∈ l ∧ (mergeRow b w).count = b.count + w.count)) ∧
  (∀ (s : State) (n : Nat) (f : BlvdFlight), n < 6804 → s.coreRuns = true → (s.blvd.links.find? fun f => f.dst == n) = some f →
    (s.rateFull n f.src = true → exec (.boulevardRow n none) s = .next s) ∧
    (s.rateFull n f.src = false → s.nodeOff n = true →
      ∃ u, exec (.boulevardRow n none) s = .next u ∧ u.blvd.links = dropFlight n s.blvd.links ∧ u.blvd.nodes = s.blvd.nodes ∧
        u.upd = { s.upd with dropCount := wrap64 (s.upd.dropCount + 1), blvdDrop := true } ∧ u.stack = s.stack) ∧
    (∀ l, s.rateFull n f.src = false → s.nodeOff n = false →
      acceptRow n (s.linkHeld n) (s.nodeRows n) (s.enterRow f.src n f.row) = some l →
      ∃ u, exec (.boulevardRow n none) s = .next u ∧ u.blvd.links = dropFlight n s.blvd.links ∧ u.nodeRows n = l ∧
        u.tiles = s.tiles ∧ u.stack = s.stack ∧ u.upd = s.upd) ∧
    (s.rateFull n f.src = false → s.nodeOff n = false →
      acceptRow n (s.linkHeld n) (s.nodeRows n) (s.enterRow f.src n f.row) = none →
      (∀ b ∈ s.nodeRows f.src, sameKey b f.row = false) →
      ∃ u, exec (.boulevardRow n none) s = .next u ∧ u.blvd.links = dropFlight n s.blvd.links ∧
        u.nodeRows f.src = f.row :: s.nodeRows f.src ∧ (∀ k, k ≠ f.src → u.nodeRows k = s.nodeRows k) ∧
        u = { s with blvd := u.blvd })) ∧
  (∀ (s : State) (n dst : Nat) (w : WideRow) (rest : List WideRow), n < 6804 → s.coreRuns = true → s.nodeOff n = false →
    s.nodeRows n = w :: rest → dst = nextNode n (s.rowGate n w) →
    (s.blvd.links.any fun f => f.src == n && f.dst == dst) = false → s.freeAt (linkKey n dst) ≤ s.clk.now →
    ∃ u, exec (.boulevardForward n) s = .next u ∧ u.nodeRows n = rest ∧ u.blvd.links = s.blvd.links ++ [⟨n, dst, w⟩] ∧
      u.freeAt (linkKey n dst) = s.clk.now + linkCycles n ∧ u.linkHeld n = s.linkHeld n + 1 ∧
      (∀ k, k ≠ n → u.nodeRows k = s.nodeRows k) ∧ u = { s with blvd := u.blvd })

/-- GRADIENT_ROW_AT_GATE and REDUCTION_MESSAGE (R271, R274, R275, R283). -/
def Obligations.GateTakesGradientsAndReductions : Prop :=
  (∀ (s : State) (g : Nat) (f : BlvdFlight), g < nGates → s.coreRuns = true →
    (s.blvd.links.find? fun f => f.dst == gateNode g) = some f →
    (s.layers = [] →
      ∃ u, exec (.gradientRowAtGate g) s = .next u ∧ u.blvd.links = dropFlight (gateNode g) s.blvd.links ∧ u.stack = s.stack ∧
        u.upd = { s.upd with dropCount := wrap64 (s.upd.dropCount + 1), blvdDrop := true }) ∧
    (∀ l blk, findLayer s.layers f.row.tensor = some l → s.layers ≠ [] → f.row.col0 % 48 = 0 → f.row.row < l.rows →
      f.row.col0 / 48 < l.cb → blk = l.blockAt f.row.row f.row.col0 →
      ((s.unit g).finals.contains (l.id, blk) = true →
        ∃ u, exec (.gradientRowAtGate g) s = .next u ∧ u.stack = s.stack ∧
          u.upd = { s.upd with dropCount := wrap64 (s.upd.dropCount + 1), blvdDrop := true }) ∧
      ((s.unit g).finals.contains (l.id, blk) = false →
        f.row.count ≤ l.contrib → (s.unit g).slot? l.id blk = none → 896 ≤ (s.unit g).slots.length →
        (∀ b ∈ s.nodeRows f.src, sameKey b f.row = false) →
        ∃ u, exec (.gradientRowAtGate g) s = .next u ∧ u.blvd.links = dropFlight (gateNode g) s.blvd.links ∧
          u.nodeRows f.src = f.row :: s.nodeRows f.src ∧ u.upd = { s.upd with slotWait := true } ∧ u.stack = s.stack ∧
          (∀ k, u.unit k = s.unit k)) ∧
      (∀ x, (s.unit g).finals.contains (l.id, blk) = false → (s.unit g).slot? l.id blk = some x →
        Map.getD x.counts (f.row.row % 48) 0 + f.row.count ≤ l.contrib →
        ∃ u, exec (.gradientRowAtGate g) s = .next u ∧ u.blvd.links = dropFlight (gateNode g) s.blvd.links ∧ u.stack = s.stack ∧
          ((x.addRow (f.row.row % 48) f.row).complete l = false →
            (u.unit g).slot? l.id blk = some (x.addRow (f.row.row % 48) f.row) ∧ (u.unit g).finals = (s.unit g).finals) ∧
          ((x.addRow (f.row.row % 48) f.row).complete l = true → (l.id, blk) ∈ (u.unit g).finals)))) ∧
  (∀ (s : State) (g : Nat) (m : Nat × Nat × List Byte), (s.reductions.find? fun m => m.1 == g) = some m →
    ((s.layers.find? fun l => l.id == leAt m.2.2 8 2) = none ∨ leAt m.2.2 0 8 ≠ s.upd.step →
      ∃ u, exec (.reductionMessage g) s = .next u ∧ u = { s with reductions := s.reductions.erase m, setAt := u.setAt, upd := { s.upd with
        staleCount := wrap64 (s.upd.staleCount + 1), stale := true } }) ∧
    (∀ l, (s.layers.find? fun l => l.id == leAt m.2.2 8 2) = some l → leAt m.2.2 0 8 = s.upd.step →
      l.exchange = 1 ∨ l.exchange = 2 → leAt m.2.2 11 1 = l.exchange → l.cblockLen g (leAt m.2.2 12 4) ≠ 0 →
      (m.2.2.drop 16).length = l.payloadLen g (leAt m.2.2 12 4) →
      ((s.unit g).payloads.any fun p => p.layer == l.id && p.cblock == leAt m.2.2 12 4 && p.member == m.2.1) = false →
      ∃ u, exec (.reductionMessage g) s = .next u ∧ u.reductions = s.reductions.erase m ∧ u.stack = s.stack ∧
        (u.unit g).payloads = (s.unit g).payloads ++ [⟨l.id, leAt m.2.2 12 4, m.2.1, m.2.2.drop 16⟩] ∧
        (∀ k, k ≠ g → u.unit k = s.unit k)))

/-- BLOCK_UPDATE: the block that became ready first is updated once its planes are here; its new planes join the writes
(R268, R276 to R281), and one whose state cannot be read or written is not (R264, R278). -/
def Obligations.ReadyBlocksAreUpdated : Prop :=
  (∀ (s : State) (g layer idx : Nat) (l : Layer), (s.layers.find? fun l => l.id == layer) = some l →
    (s.unit g).ready.head? ≠ some (layer, l.blockOf g idx) ∨ s.runActive = false ∨
      (s.stateUsable g l (l.blockOf g idx) = true ∧
        (s.clk.now < (s.unit g).freeAt ∨ s.planeOut g layer (l.blockOf g idx) (fun _ => true) = true)) →
    exec (.blockUpdate g layer idx) s = .next s) ∧
  (∀ (s : State) (g layer idx b : Nat) (l : Layer) (x : UpdSlot), g < nGates → s.runActive = true → s.coreRuns = true →
    (s.layers.find? fun l => l.id == layer) = some l → b = l.blockOf g idx → (s.unit g).slot? layer b = some x →
    (s.unit g).ready.head? = some (layer, b) →
    (s.stateUsable g l b = true → (s.unit g).freeAt ≤ s.clk.now → s.planeOut g layer b (fun _ => true) = false →
      ∃ u new x', exec (.blockUpdate g layer idx) s = .next u ∧ u.stack = s.stack ∧ u.tiles = s.tiles ∧
        (u.unit g).queue = (s.unit g).queue ++ new ∧ (u.unit g).ready = (s.unit g).ready.drop 1 ∧
        (u.unit g).slot? layer b = some x' ∧ x'.updated = true ∧ (∀ k, k ≠ g → u.unit k = s.unit k) ∧
        (∀ q ∈ l.planes, ∃ y ∈ new, y.plane = q.1) ∧
        (∀ y ∈ new, y.write = true ∧ y.layer = layer ∧ y.blk = b ∧ y.addr = l.planeAddr b y.plane + y.off) ∧
        (l.rule = 0 → l.exchange = 0 → l.stateSr = false →
          ∃ w m : List Code, w.length = 2304 ∧ m.length = 2304 ∧
            new = ([(0, bytesOf w), (1, bytesOf m)] : List (Nat × List Byte)).flatMap (fun q =>
              (cutContig 0 (l.planeAddr b q.1) 4608).map fun z =>
                ⟨layer, b, q.1, true, z.off, z.addr, z.len, (q.2.drop z.off).take z.len, s.clk.now⟩) ∧
            ∀ e, e < 2304 →
              (l.isPadding b (e / 48) (e % 48) = true →
                w.getD e 0 = (x.plane l 0).getD e 0 ∧ m.getD e 0 = (x.plane l 1).getD e 0) ∧
              (∀ we me ge eta, l.isPadding b (e / 48) (e % 48) = false →
                we = uCode ((x.plane l 0).getD e codeZero) 0 → me = uCode ((x.plane l 1).getD e codeZero) (-l.scaleX) →
                ge = uCode (x.grad.getD e codeZero) (-l.scaleX) → eta = uCode s.upd.eta 0 →
                (anyNone [eta, we, me, ge] = false →
                  w.getD e 0 = (uStore .rne (momentum l eta we me ge).1 0).1 ∧
                  m.getD e 0 = (uStore .rne (momentum l eta we me ge).2 l.scaleX).1) ∧
                (anyNone [eta, we, me, ge] = true → w.getD e 0 = codeNar ∧ m.getD e 0 = codeNar)))) ∧
    (s.stateUsable g l b = false →
      ∃ u x', exec (.blockUpdate g layer idx) s = .next u ∧ u.stack = s.stack ∧ (u.unit g).queue = (s.unit g).queue ∧
        (u.unit g).ready = (s.unit g).ready.drop 1 ∧
        (u.unit g).slot? layer b = some x' ∧ x'.updated = true ∧ u.plan.failNext = true))

/-! ## Link ports (R290 to R305) -/

/-- TRAINING_WINDOW_OPEN, TRAINING_WINDOW_CLOSE, LINK_WAKE, LINK_TRAINING_COMPLETE, LINK_LOSS_OF_LOCK, RECOVERY_COMPLETE,
RECOVERY_TIMEOUT, RETRAIN and DISABLE (R297 to R301). -/
def Obligations.LinkPortsTrainAndRecover : Prop :=
  (∀ (s : State) (p : Nat), p < 16 → s.dawn.powered = true → s.dawn.on = true → (s.port p).st = .quiet →
    s.dawn.started + wallMs 400 ≤ s.clk.wall →
    ∃ t, exec (.trainingWindowOpen p) s = .next t ∧ (∀ q, q ≠ p → t.port q = s.port q) ∧
      (s.portUsed p = true → (s.port p).disable = false → (t.port p).st = .window ∧
        (t.port p).windowEnd = s.dawn.started + wallMs 1500 ∧ t.out = s.out ++ [.wake p]) ∧
      (s.portUsed p = false ∨ (s.port p).disable = true → (t.port p).st = .disabled ∧ t.out = s.out ∧
        (t.port p).result = if s.group.badMap then 6 else 5)) ∧
  (∀ (s : State) (p : Nat), (s.port p).st = .window ∨ (s.port p).st = .training → (s.port p).windowEnd ≤ s.clk.wall →
    ∃ t, exec (.trainingWindowClose p) s = .next t ∧ (t.port p).st = .down ∧
      (t.port p).result = (if (s.port p).answered then 8 else 2) ∧ t.stack = s.stack ∧ t.gates = s.gates) ∧
  (∀ (s : State) (p : Nat),
    ((s.port p).st = .window → s.clk.wall < (s.port p).windowEnd →
      ∃ t, exec (.linkWake p) s = .next t ∧ (t.port p).st = .training ∧ (t.port p).answered = true ∧
        t.out = s.out ++ [.wake p, .identity p (mapGroupId s.group.map) s.member] ∧ (∀ q, q ≠ p → t.port q = s.port q)) ∧
    ((s.port p).st = .training → s.clk.wall < (s.port p).windowEnd →
      exec (.linkWake p) s = .next { s with out := s.out ++ [.wake p] }) ∧
    ((s.port p).st = .down → (s.port p).result = 7 →
      ∃ t, exec (.linkWake p) s = .next t ∧ (t.port p).st = .training ∧ (t.port p).windowEnd = s.clk.wall + wallMs 1100 ∧
        t.out = s.out ++ [.wake p, .identity p (mapGroupId s.group.map) s.member] ∧ (∀ q, q ≠ p → t.port q = s.port q))) ∧
  (∀ (s : State) (p : Nat) (r : Training), (s.port p).st = .training → (s.port p).windowEnd ≤ s.clk.wall →
    ∃ t, exec (.linkTrainingComplete p r) s = .next t ∧ (t.port p).st = .down ∧ (t.port p).result = 8 ∧ (t.port p).width = 0) ∧
  (∀ (s : State) (p : Nat) (r : Training), (s.port p).st = .training → s.clk.wall < (s.port p).windowEnd →
    (s.identityFails p r = true →
      ∃ t, exec (.linkTrainingComplete p r) s = .next t ∧ (t.port p).st = .down ∧ (t.port p).result = 4 ∧ (t.port p).width = 0) ∧
    (s.identityFails p r = false → laneGroup r.lanes = none →
      ∃ t, exec (.linkTrainingComplete p r) s = .next t ∧ (t.port p).st = .down ∧ (t.port p).result = 3 ∧ (t.port p).width = 0) ∧
    (∀ w m, s.identityFails p r = false → laneGroup r.lanes = some (w, m) →
      ∃ t, exec (.linkTrainingComplete p r) s = .next t ∧ (t.port p).st = .up ∧ (t.port p).width = w ∧ (t.port p).mask = m ∧
        (t.port p).result = (if w = 8 then 0 else 1) ∧ (t.port p).peerMember = r.member ∧ (t.port p).txSeq = 0 ∧
        (t.port p).rxSeq = 4095 ∧ (t.port p).credits = 1024 ∧ (t.port p).replay = [] ∧ (∀ q, q ≠ p → t.port q = s.port q) ∧
        t.stack = s.stack)) ∧
  (∀ (s : State) (p : Nat), (s.port p).st = .up →
    ∃ t, exec (.linkLossOfLock p) s = .next t ∧
      t.port p = { s.port p with st := .recovery, lostAt := s.clk.wall, oldMask := (s.port p).mask } ∧
      t.out = s.out ++ [.identity p (mapGroupId s.group.map) s.member] ∧
      (∀ q, q ≠ p → t.port q = s.port q) ∧ t = { s with ports := t.ports, out := t.out }) ∧
  (∀ (s : State) (p : Nat) (r : Training), (s.port p).st = .recovery →
    (s.clk.wall < (s.port p).lostAt + wallMs 100 →
      (∀ w m, s.identityFails p r = false → laneGroup r.lanes = some (w, m) →
        ∃ t, exec (.recoveryComplete p r) s = .next t ∧ (t.port p).st = .up ∧ (t.port p).mask = m ∧
          (t.port p).resend = (s.port p).replay ∧ (t.port p).txSeq = (s.port p).txSeq ∧ (t.port p).rxSeq = (s.port p).rxSeq) ∧
      (s.identityFails p r = true ∨ laneGroup r.lanes = none →
        ∃ t, exec (.recoveryComplete p r) s = .next t ∧ t.port p = s.port p ∧ t = { s with log := t.log }) ∧
      exec (.recoveryTimeout p) s = .next s) ∧
    ((s.port p).lostAt + wallMs 100 ≤ s.clk.wall →
      ∃ t, exec (.recoveryTimeout p) s = .next t ∧ (t.port p).st = .down ∧ (t.port p).result = 7 ∧ (t.port p).replay = [] ∧
        (s.runActive = true → t.plan.failNext = true) ∧ t.tiles = s.tiles)) ∧
  (∀ (s : State) (port p : Nat), PortOpen s port → s.ctl.recovery = false → p < 16 →
    (s.portUsed p = true → (s.port p).disable = false →
      ∃ t, exec (.retrain port p) s = .next t ∧ (t.port p).st = .window ∧
        (t.port p).windowEnd = s.clk.wall + wallMs 1100 ∧ .wake p ∈ t.out) ∧
    (∃ t, exec (.disable port p) s = .next t ∧ t.port p = { s.port p with disablePend := (s.port p).disablePend.write s.clk.now true } ∧
      (∀ q, q ≠ p → t.port q = s.port q) ∧ t = { s with ports := t.ports }))

/-- FLIT_SLOT_SEND, DATA_FLIT_RECEIVE and IDLE_FLIT_RECEIVE (R291 to R296, R302, R303). -/
def Obligations.FlitsMoveInOrder : Prop :=
  (∀ (s : State) (p : Nat), (s.port p).st = .up →
    ∃ t f, exec (.flitSlotSend p) s = .next t ∧ t.out = s.out ++ [.flit p f] ∧ f.crc = crc32c f.covered ∧
      f.ack % 4096 = (s.port p).rxSeq % 4096 ∧ f.credits = min 255 ((s.port p).freed / 4) ∧
      (t.port p).slot = ((s.port p).slot + 1) % 32 ∧ (t.port p).nak = false ∧ t.stack = s.stack ∧ t.tiles = s.tiles ∧
      (∀ (x : TxFlit) (rest : List TxFlit), s.pwr.coolStop = false → (s.port p).resend = [] → (s.port p).replay.length < 512 →
        (s.port p).slot ≠ 31 → 0 < (s.port p).credits → (s.port p).own = x :: rest → (s.port p).fwd = [] →
        f.kind = 1 ∧ f.dest = x.dest ∧ f.src = x.src ∧ f.lstream = x.lstream ∧ f.len = x.data.length ∧
        f.payload = padTo 240 x.data ∧ f.seq = (s.port p).txSeq ∧ (t.port p).txSeq = ((s.port p).txSeq + 1) % 4096 ∧
        (t.port p).own = rest ∧ (t.port p).credits = (s.port p).credits - 1 ∧
        (t.port p).replay.length = (s.port p).replay.length + 1) ∧
      ((s.port p).slot = 31 → (s.port p).replay.length < 512 → f.kind = 2) ∧ ((s.port p).slot ≠ 31 → f.kind ≠ 2)) ∧
  (∀ (s : State) (p ce ue : Nat), (s.port p).st = .up →
    ((s.fecReport p ce ue).port p).fecCe = wrap64 ((s.port p).fecCe + ce) ∧
    ((s.fecReport p ce ue).port p).fecUe = wrap64 ((s.port p).fecUe + ue) ∧
    (((s.port p).ueTimes.filter fun t => decide (s.clk.wall < t + wallMs 1)).length + ue ≤ 32 →
      ((s.fecReport p ce ue).port p).st = .up ∧ (s.fecReport p ce ue).out = s.out) ∧
    (32 < ((s.port p).ueTimes.filter fun t => decide (s.clk.wall < t + wallMs 1)).length + ue →
      ((s.fecReport p ce ue).port p).st = .recovery ∧ ((s.fecReport p ce ue).port p).lostAt = s.clk.wall ∧
      ∀ f, exec (.dataFlitReceive p f ce ue) s = .next (s.fecReport p ce ue) ∧
        exec (.idleFlitReceive p f ce ue) s = .next (s.fecReport p ce ue))) ∧
  (∀ (s₀ s : State) (p ce ue : Nat) (f : Flit), s = s₀.fecReport p ce ue → (s.port p).st = .up →
    (f.good = false → exec (.dataFlitReceive p f ce ue) s₀ = .next (s.setPort p { s.port p with nak := true })) ∧
    (f.good = true → f.kind = 1 → f.seq % 4096 ≠ ((s.port p).rxSeq + 1) % 4096 →
      ∃ t, exec (.dataFlitReceive p f ce ue) s₀ = .next t ∧ (t.port p).nak = true ∧ (t.port p).rxSeq = (s.port p).rxSeq ∧
        (t.port p).rxq = (s.port p).rxq ∧ (∀ q, q ≠ p → t.port q = s.port q) ∧ t = { s with ports := t.ports }) ∧
    (f.good = true → f.kind = 1 → f.seq % 4096 = ((s.port p).rxSeq + 1) % 4096 → s.pwr.coolStop = false →
      (∀ q, f.dest ≠ s.member → q = mapRoute s.group.map f.dest → q < 16 → f.dest < 64 →
        (s.port q).st = .up ∨ (s.port q).st = .recovery →
        ∃ t, exec (.dataFlitReceive p f ce ue) s₀ = .next t ∧ (t.port p).rxSeq = f.seq % 4096 ∧
          (t.port q).fwd = (s.port q).fwd ++ [⟨f.dest, f.src, f.lstream, f.start, f.stop, f.used, none, some p⟩]) ∧
      (f.dest = s.member → s.dawn.cmpReset = false → f.lstream < 0xFFF0 → (s.port p).rxq = [] →
        (s.linkRing p f.lstream = none →
          ∃ t, exec (.dataFlitReceive p f ce ue) s₀ = .next t ∧ (t.port p).rxSeq = f.seq % 4096 ∧
            (t.port p).rxDrop = wrap64 ((s.port p).rxDrop + 1) ∧ (t.port p).freed = (s.port p).freed + 1 ∧
            (s.runActive = true → t.plan.failNext = true) ∧ t.stack = s.stack) ∧
        (∀ g r a b, s.linkRing p f.lstream = some (g, r) → (s.ring g r).arming = some a → 0 < f.len →
          a.received / a.d.blockBytes < a.released + 5 → a.block? (a.received / a.d.blockBytes) = some b →
          a.received % a.d.blockBytes + f.used.length < a.d.blockLen (a.received / a.d.blockBytes) →
          ∃ t a' b', exec (.dataFlitReceive p f ce ue) s₀ = .next t ∧ (t.port p).rxSeq = f.seq % 4096 ∧
            (t.port p).freed = (s.port p).freed + 1 ∧ (t.ring g r).arming = some a' ∧
            a'.received = a.received + f.used.length ∧ a'.block? (a.received / a.d.blockBytes) = some b' ∧
            b'.bytes = b.bytes.putBytes (a.received % a.d.blockBytes) f.used ∧ t.stack = s.stack))) ∧
    (f.good = true → f.kind = 0 →
      ∃ t, exec (.idleFlitReceive p f ce ue) s₀ = .next t ∧ (t.port p).credits = min 1024 ((s.port p).credits + 4 * f.credits) ∧
        (t.port p).replay = (s.port p).replay.filter (fun y => !acked (f.ack % 4096) y.seq) ∧
        (t.port p).rxSeq = (s.port p).rxSeq ∧ (∀ q, q ≠ p → t.port q = s.port q) ∧ t = { s with ports := t.ports }))

/-! ## The group (R287, R295, R302 to R309, R313) -/

/-- READY, SEND_READY, MASTER_TICK_RELEASE, GO, ABORT, STEP_OPEN, RESET_STATE, EOF, FSYNC_TRANSITION, SYNC_LOST_TIMEOUT,
LINK_MAP_ARM and LINK_MAP_COMMIT (R287, R295, R302, R305 to R309, R313). -/
def Obligations.GroupMessagesAndTicksAgree : Prop :=
  (∀ (s : State) (p : Nat) (f : Flit) (k : Nat) (m : SyncMsg), Arrives s p f k 1 m → p ∈ s.syncChildren →
    ∃ t, exec (.ready p f k) s = .next t ∧ t.stack = s.stack ∧
      (s.group.formed = false ∨ m.arg64 = s.group.gframe →
        (∃ r ∈ t.group.readies, r.port = p ∧ r.freq = m.arg32 % 65536 ∧ r.stop = (m.arg32 / 2 ^ 16 % 2 == 1)) ∧
        (∀ r ∈ s.group.readies, r.port ≠ p → r ∈ t.group.readies)) ∧
      (s.group.formed = true → m.arg64 ≠ s.group.gframe → t.group.syncLost = true ∧ t.group.formed = false)) ∧
  (∀ s : State, s.subtreeReady = true → s.isMaster = false → s.group.sentReady = false → mapParent s.group.map < 16 →
    ∃ t, exec .sendReady s = .next t ∧ t.group.sentReady = true ∧ t.stack = s.stack ∧
      (⟨1, s.member, packArg s.subtree.1 s.subtree.2.1 s.subtree.2.2, s.group.gframe⟩ : SyncMsg) ∈
        (t.port (mapParent s.group.map)).syncQ) ∧
  (∀ s : State, s.subtreeReady = true → s.isMaster = true →
    (s.boundaryTick = false → s.releaseCycle ≤ s.clk.cycle →
      ∃ t, exec .masterTickRelease s = .next t ∧ t.group.tickAt = some (s.clk.wall + s.fsyncDelay) ∧
        t.group.fsyncOut = !s.group.fsyncOut ∧ t.group.goMsg.isSome = true ∧ t.pwr.group = s.subtree.1 ∧
        (∀ q ∈ s.syncChildren, ∃ m ∈ (t.port q).syncQ, m.kind = 2 ∧ m.arg64 = s.group.gframe)) ∧
    (s.boundaryTick = true → s.group.goMsg = none →
      ∃ t, exec .masterTickRelease s = .next t ∧ t.group.goMsg.isSome = true ∧ t.group.tickAt = s.group.tickAt ∧
        t.group.fsyncOut = s.group.fsyncOut ∧ t.pwr.group = s.subtree.1) ∧
    (∀ g, s.boundaryTick = true → s.group.goMsg = some g → s.goDelivered = true → s.releaseCycle ≤ s.clk.cycle →
      ∃ t, exec .masterTickRelease s = .next t ∧ t.group.tickAt = some (s.clk.wall + s.fsyncDelay) ∧
        t.group.fsyncOut = !s.group.fsyncOut)) ∧
  (∀ (s : State) (p : Nat) (f : Flit) (k : Nat) (m : SyncMsg), Arrives s p f k 2 m → p = mapParent s.group.map →
    s.group.formed = true → s.group.adopt = false →
    ∃ t, exec (.go p f k) s = .next t ∧ t.stack = s.stack ∧
      (m.arg64 = s.group.gframe → s.group.goMsg = none →
        t.group.goMsg.isSome = true ∧ t.pwr.group = m.arg32 % 65536 ∧ t.group.gframe = s.group.gframe ∧
        (∀ q ∈ s.syncChildren, m ∈ (t.port q).syncQ)) ∧
      (m.arg64 ≠ s.group.gframe → m.arg64 + 1 ≠ s.group.gframe → t.group.syncLost = true ∧ t.group.formed = false)) ∧
  (∀ (s : State) (p : Nat) (f : Flit) (k : Nat) (m : SyncMsg), Arrives s p f k 3 m →
    ∃ t, exec (.abort p f k) s = .next t ∧ t.stack = s.stack ∧
      (m.src = s.member ∨ s.group.seen.contains m.key = true → t.plan = s.plan ∧ t.group = s.group) ∧
      (m.src ≠ s.member → s.group.seen.contains m.key = false →
        m.key ∈ t.group.seen ∧ (s.runActive = true → t.plan.failNext = true) ∧
        (m.arg32 % 256 = 3 → t.group.syncLost = true ∧ t.group.formed = false))) ∧
  (∀ (s : State) (p : Nat) (f : Flit) (k : Nat) (m : SyncMsg), Arrives s p f k 4 m → m.src ≠ s.member →
    s.group.seen.contains m.key = false →
    ∃ t, exec (.stepOpen p f k) s = .next t ∧ t.stack = s.stack ∧
      (s.runActive = false ∨ s.upd.agreed = true → (⟨m.src, m.arg64, m.arg32 % 2 == 1⟩ : StepOpenMsg) ∈ t.upd.msgs) ∧
      (s.runActive = true → s.upd.agreed = false → s.group.formed = true → m.src < s.members →
        (∀ j < s.members, j ≠ s.member → j ≠ m.src → (s.upd.msgs.any fun x => x.member == j) = true) →
        t.upd.agreed = true ∧ (m.arg32 % 2 = 0 ∨ m.arg64 ≠ s.upd.step → t.upd.refused = true ∧ t.plan.refuseNext = true))) ∧
  (∀ (s : State) (p : Nat) (f : Flit) (k : Nat) (m : SyncMsg), Arrives s p f k 5 m → m.src ≠ s.member →
    s.group.seen.contains m.key = false →
    ∃ t, exec (.resetState p f k) s = .next t ∧ t.stack = s.stack ∧
      (m.arg32 % 2 = 1 → m.src ∈ t.group.inReset ∧ t.group.peerResetSeen = true ∧ t.group.formed = false ∧
        (s.runActive = true → t.plan.failNext = true)) ∧
      (m.arg32 % 2 = 0 → m.src ∉ t.group.inReset ∧ t.plan = s.plan)) ∧
  (∀ (s : State) (p : Nat) (f : Flit) (k : Nat) (m : SyncMsg), Arrives s p f k 6 m →
    ∃ t, exec (.eof p f k) s = .next t ∧ (t.port p).eofIn = max (s.port p).eofIn (m.arg64 + 1) ∧ t.tiles = s.tiles ∧
      t.group = s.group) ∧
  (∀ s : State,
    (s.grouped = false → exec .fsyncTransition s = .next { s with group := { s.group with fsyncIn := !s.group.fsyncIn } }) ∧
    (s.grouped = true → s.isMaster = false →
      ∃ t, exec .fsyncTransition s = .next t ∧ t.group.fsyncOut = !s.group.fsyncOut ∧
        .fsync (!s.group.fsyncOut) ∈ t.out ∧
        (s.group.sentReady = true → t.group.formed = true ∧ t.group.tickAt = some (s.clk.wall + s.fsyncDelay)) ∧
        (s.group.formed = true → s.group.sentReady = false → t.group.syncLost = true ∧ t.group.formed = false))) ∧
  (∀ (s : State) (g : GoMsg), s.group.goMsg = some g → s.group.formed = true → s.isMaster = false → s.group.tickAt = none →
    (s.clk.wall < g.at_ + wallUs 10 → exec .syncLostTimeout s = .next s) ∧
    (g.at_ + wallUs 10 ≤ s.clk.wall →
      ∃ t, exec .syncLostTimeout s = .next t ∧ t.group.syncLost = true ∧ t.group.formed = false ∧
        (s.runActive = true → t.plan.failNext = true) ∧ t.stack = s.stack)) ∧
  (∀ (s : State) (port : Nat), PortOpen s port → s.ctl.recovery = false →
    (mapFails s.group.mapPend = true ∨ s.plan.state = .running →
      ∃ t, exec (.linkMapArm port) s = .next t ∧ t.group = { s.group with mapRefused := true } ∧
        t = { s with group := t.group, setAt := t.setAt }) ∧
    (mapFails s.group.mapPend = false → s.plan.state ≠ .running →
      exec (.linkMapArm port) s = .next { s with group := { s.group with armed := some s.group.mapPend } })) ∧
  (∀ (s : State) (m : List Byte), s.group.armed = some m →
    (s.group.mapDue = false → exec .linkMapCommit s = .next s) ∧
    (s.group.mapDue = true →
      ∃ t, exec .linkMapCommit s = .next t ∧ t.group.map = m ∧ t.group.armed = none ∧ t.group.mapCommitted = true ∧
        t.group.formed = false ∧ t.tiles = s.tiles ∧
        (∀ p < 16, mapEntry s.group.map p = mapEntry m p → (t.port p).st = (s.port p).st) ∧
        (∀ p < 16, mapEntry s.group.map p ≠ mapEntry m p → (t.port p).st = .window ∨ (t.port p).st = .disabled)))

/-! ## Host interface: registers, queues, plans, the aperture, ports (R14 to R17, R145 to R147, R286, R320 to R331, R423 to R441) -/

/-- REGISTER_WRITE, UPD_STEP_WRITE, ARM and DISARM (R14, R228, R230, R286, R321, R324, R327, R436, R437). -/
def Obligations.RegisterWritesActByTheirRow : Prop :=
  (∀ (s : State) (port off size v : Nat), PortOpen s port → off < 2 ^ 26 → (size ≠ 4 ∧ size ≠ 8) ∨ off % size ≠ 0 →
    exec (.registerWrite port 0 off size v) s = .next { s with hostRegs := { s.hostRegs with
      badAccess := wrap64 (s.hostRegs.badAccess + 1) } }) ∧
  (∀ (s : State) (port v : Nat), PortOpen s port → s.ctl.recovery = false →
    exec (.registerWrite port 0 0x20 8 v) s = .next { s with num := s.num &&& ~~~(BitVec.ofNat 8 (s.clearMask .num 7 v)) } ∧
    exec (.registerWrite port 0 0x1B0020 8 v) s = .next { s with pwr := { s.pwr with
      events := s.pwr.events &&& ~~~(BitVec.ofNat 64 (s.clearMask .pwr 8 v)) } } ∧
    (s.dawn.firstReady = true →
      exec (.registerWrite port 0 0x20038 8 v) s = .next { s with frm := { s.frm with
        holdLimitPend := s.frm.holdLimitPend.write s.clk.now (v % 2 ^ 32) } } ∧
      exec (.updStepWrite port 0 8 v) s = .next { s with upd := { s.upd with
        pend := s.upd.pend.write s.clk.now (v / 2 ^ 16 % 2 ^ 48, BitVec.ofNat 16 v) } }) ∧
    (s.dawn.firstReady = false → exec (.updStepWrite port 0 8 v) s = .next s)) ∧
  (∀ (s : State) (port g : Nat), PortOpen s port → s.ctl.recovery = false → s.dawn.firstReady = true → g < nGates →
    (∃ t, exec (.arm port g) s = .next t ∧ (t.ring g (s.gate g).strmSel).pendCmd =
        (s.ring g (s.gate g).strmSel).pendCmd.write s.clk.now 1 ∧
      (∀ r, r ≠ (s.gate g).strmSel → t.ring g r = s.ring g r) ∧ (∀ k, k ≠ g → t.gate k = s.gate k) ∧ t = { s with gates := t.gates }) ∧
    (∃ t, exec (.disarm port g) s = .next t ∧ (t.ring g (s.gate g).strmSel).pendCmd =
        (s.ring g (s.gate g).strmSel).pendCmd.write s.clk.now 2 ∧
      (∀ r, r ≠ (s.gate g).strmSel → t.ring g r = s.ring g r) ∧ (∀ k, k ≠ g → t.gate k = s.gate k) ∧ t = { s with gates := t.gates })) ∧
  (∀ (α : Type) (p : Shadow α) (c d : Nat) (v old : α),
    (p.write c v).get old = v ∧ (c ≠ d → (p.write c v).due d old = v ∧ (p.write c v).left d = Shadow.clear) ∧
    ((p.write c v).left c).get old = v ∧ (p.wrote ≠ c → (p.write c v).due c old = p.get old) ∧
    ((p.write c v).write c v).due c old = (p.write c v).due c old) ∧
  (∀ (s : State) (r : W1cReg) (bit v : Nat), (s.noteSet r bit).clears r bit v = false ∧
    (s.justSet r bit = false → s.clears r bit v = (v / 2 ^ bit % 2 == 1))) ∧
  (∀ (s : State) (port bar off size v : Nat), port < 2 → (s.hostPort port).linkUp = true → (s.hostPort port).held = none →
    (s.hostPort port).d3 = true ∨ (s.hostPort port).memSpace = false →
    exec (.registerWrite port bar off size v) s = .next { s with out := s.out ++ [.unsupported port] }) ∧
  (∀ (s : State) (port bar off size v : Nat), port < 2 → (s.hostPort port).linkUp = true → (s.hostPort port).held ≠ none →
    ∃ t, exec (.registerWrite port bar off size v) s = .next t ∧
      (t.hostPort port).waiting = (s.hostPort port).waiting ++ [.registerWrite port bar off size v] ∧ t = { s with host := t.host })

/-- CQ_HEAD_WRITE, SCQ_HEAD_WRITE and their doorbells (R440). -/
def Obligations.QueueHeadsNeverPassTheirTails : Prop :=
  (∀ (s : State) (port g v : Nat) (c : Instr), PortOpen s port → s.ctl.recovery = false → s.dawn.firstReady = true → g < nGates →
    v < 2 ^ 32 →
    c = .cqHeadWrite port g v ∨ (∃ n, (n = 4 ∨ n = 8) ∧ c = .registerWrite port 0 (0x100050 + g * 0x1000) n v) ∨
      (∃ n, (n = 4 ∨ n = 8) ∧ c = .registerWrite port 4 (g * 0x10000 + 0x2000) n v) →
    ∃ t, exec c s = .next t ∧
      (((s.gate g).cqTail + 2 ^ 32 - v) % 2 ^ 32 ≤ (s.gate g).cqEntries →
        t.gate g = { s.gate g with cqHead := v } ∧ (∀ k, k ≠ g → t.gate k = s.gate k) ∧ t = { s with gates := t.gates }) ∧
      ((s.gate g).cqEntries < ((s.gate g).cqTail + 2 ^ 32 - v) % 2 ^ 32 →
        t = { s with hostRegs := { s.hostRegs with badAccess := wrap64 (s.hostRegs.badAccess + 1) } }) ∧
      (((s.gate g).cqTail + 2 ^ 32 - (s.gate g).cqHead) % 2 ^ 32 ≤ (s.gate g).cqEntries →
        ((t.gate g).cqTail + 2 ^ 32 - (t.gate g).cqHead) % 2 ^ 32 ≤ (t.gate g).cqEntries)) ∧
  (∀ (s : State) (port v : Nat) (c : Instr), PortOpen s port → s.ctl.recovery = false → v < 2 ^ 32 →
    c = .scqHeadWrite port v ∨ (∃ n, (n = 4 ∨ n = 8) ∧ c = .registerWrite port 0 0x1A0020 n v) ∨
      (∃ n, (n = 4 ∨ n = 8) ∧ c = .registerWrite port 4 0x300000 n v) →
    ∃ t, exec c s = .next t ∧
      ((s.hostRegs.scqTail + 2 ^ 32 - v) % 2 ^ 32 ≤ s.hostRegs.scqEntries →
        t = { s with hostRegs := { s.hostRegs with scqHead := v } }) ∧
      (s.hostRegs.scqEntries < (s.hostRegs.scqTail + 2 ^ 32 - v) % 2 ^ 32 →
        t = { s with hostRegs := { s.hostRegs with badAccess := wrap64 (s.hostRegs.badAccess + 1) } }) ∧
      ((s.hostRegs.scqTail + 2 ^ 32 - s.hostRegs.scqHead) % 2 ^ 32 ≤ s.hostRegs.scqEntries →
        (t.hostRegs.scqTail + 2 ^ 32 - t.hostRegs.scqHead) % 2 ^ 32 ≤ t.hostRegs.scqEntries))

/-- LOAD, START, STOP and the end of a load (R145 to R147, R429, R474). -/
def Obligations.PlanCommandsAnswer : Prop :=
  (∀ (s : State) (port : Nat), PortOpen s port → s.ctl.recovery = false →
    (s.plan.state ≠ .loading → s.plan.state ≠ .running → s.plan.startPending = false → s.commandsBusy = false →
      s.plansBarred = false → s.plan.resetNeeded = false →
      ∃ t, exec (.load port) s = .next t ∧ t.plan.state = .loading ∧ t.plan.plan = none ∧ t.plan.refusal = 0 ∧
        (∀ k a, (t.getTile k).deck.read a = 0 ∧ (t.getTile k).staging.read a = 0) ∧ t.stack = s.stack ∧ t.frm = s.frm) ∧
    (s.plan.state = .running →
      ∃ t, exec (.load port) s = .next t ∧ t.plan.refusal = 1 ∧ t.plan.state = .running ∧ t.tiles = s.tiles) ∧
    (s.plan.startPending = false → s.isSpare = false → s.plan.state = .loaded ∨ s.plan.state = .stopped → s.commandsBusy = false →
      s.plansBarred = false →
      exec (.start port) s = .next { s with plan := { s.plan with
        startPending := true, startAt := some s.clk.now, refusal := 0, stepsDone := 0 } }) ∧
    (s.plan.startPending = true → exec (.stop port) s = .next { s with plan := { s.plan with startPending := false } }) ∧
    (s.plan.startPending = false → s.plan.state = .running → s.plan.stopPending = false →
      exec (.stop port) s = .next { s with plan := { s.plan with stopPending := true, stopAt := some s.clk.now } }) ∧
    (s.plan.startPending = false → s.plan.state ≠ .running ∨ s.plan.stopPending = true → exec (.stop port) s = .next s)) ∧
  (∀ (s : State) (e : EccReport) (m : Memory), s.plan.state = .loading →
    m = (s.stackLoad s.plan.base (imageRead s.stack s.plan.base) e true).2 →
    ∃ t, exec (.planLoadComplete e) s = .next t ∧ t.stack = s.stack ∧
      (s.badBursts s.plan.base (imageRead s.stack s.plan.base) = [] → e = cleanReport → m = s.stack) ∧
      (∀ c, imageRefusal m s.plan.base = some c → t.plan.state = .none ∧ t.plan.refusal = c ∧ t.plan.plan = none ∧
        t.tiles = s.tiles) ∧
      (imageRefusal m s.plan.base = none → t.plan.state = .loaded ∧ t.plan.plan = some (parsePlan m s.plan.base)))

/-- The aperture (R32, R251, R325, R453). -/
def Obligations.ApertureReadsAndWritesTheStack : Prop :=
  (∀ (s : State) (port off len a : Nat) (e : EccReport), PortOpen s port → s.ctl.recovery = false → apertureFits off len = true →
    a = (s.hostPort port).aper + off →
    (populated a = true → s.stackNow (ownerGate a) = .ready → s.badBursts a len = [] → e.hard = [] → e.corrected = [] →
      ∃ t, exec (.apertureRead port off len e) s = .next t ∧ t.out = s.out ++ [.apertureData port (s.stack.bytes a len)] ∧
        t.stack = s.stack ∧ (∀ k, k ≠ ownerGate a → t.gate k = s.gate k)) ∧
    (populated a = false →
      ∃ t, exec (.apertureRead port off len e) s = .next t ∧ t.out = s.out ++ [.apertureData port (List.replicate len 0)] ∧
        (t.gate (apertureGate a)).addrErr = satAdd (s.gate (apertureGate a)).addrErr 1 ∧ t.stack = s.stack)) ∧
  (∀ (s : State) (port off a : Nat) (data : List (Option Byte)), PortOpen s port → s.ctl.recovery = false →
    apertureFits off data.length = true → a = (s.hostPort port).aper + off →
    exec (.apertureWrite port off data true) s = .next { s with out := s.out ++ [.poisoned port] } ∧
    (s.runActive = true → exec (.apertureWrite port off data false) s = .fault (.undefined .apertureWrite)) ∧
    (s.runActive = false → populated a = true → s.stackNow (ownerGate a) = .ready → s.stack.wf = true →
      ∃ t, exec (.apertureWrite port off data false) s = .next t ∧ t = { s with stack := t.stack, stackUe := t.stackUe } ∧
        (∀ i b, data[i]? = some (some b) → t.stack.read (a + i) = b) ∧
        (∀ x, (∀ i b, data[i]? = some (some b) → x ≠ a + i) → t.stack.read x = s.stack.read x)))

/-- PCIE_PORT_RESET, PCIE_PORT_RESET_RELEASE, PCIE_CONFIG_WRITE and MSIX_UNMASK (R319 to R321, R329). -/
def Obligations.PciePortsResetAndConfigure : Prop :=
  (∀ (s : State) (p : Nat), p < 2 →
    ∃ t, exec (.pciePortReset p) s = .next t ∧ t.hostPort p = HostPort.reset ∧ t.tiles = s.tiles ∧
      ((∀ x ∈ s.gates, ∀ h ∈ x.2.hostFlights, h.port ≠ p) → (∀ g r, s.asksOn p g r = false) → t.stack = s.stack) ∧
      (∀ g k, k ∈ (t.gate g).trans → k.1 ≠ p)) ∧
  (∀ (s : State) (p : Nat), p < 2 → s.dawn.powered = true → s.dawn.modReset = false →
    ∃ t, exec (.pciePortResetRelease p) s = .next t ∧ t.hostPort p = { s.hostPort p with perst := false, linkUp := true } ∧
      t = { s with host := t.host }) ∧
  (∀ (s : State) (p : Nat) (op : CfgOp), p < 2 → (s.hostPort p).linkUp = true → (s.hostPort p).held = none →
    ∃ t, exec (.pcieConfigWrite p op) s = .next t ∧ t = { s with host := t.host, out := t.out } ∧
      (∀ q, q < 2 → q ≠ p → t.hostPort q = s.hostPort q) ∧
      (∀ b, op = .d3hot b → (t.hostPort p).d3 = b) ∧ (∀ b, op = .busMaster b → (t.hostPort p).busMaster = b) ∧
      (∀ b, op = .memorySpace b → (t.hostPort p).memSpace = b) ∧
      (∀ e f, op = .msix e f → (t.hostPort p).msixEnable = e ∧ (t.hostPort p).functionMask = f) ∧
      (∀ v ∈ (t.hostPort p).pba, (t.hostPort p).canSend v = false)) ∧
  (∀ (s : State) (p v : Nat), PortOpen s p → v < 2048 → v ∈ (s.hostPort p).pba → (s.hostPort p).canRequest = true →
    (s.hostPort p).msixEnable = true → (s.hostPort p).functionMask = false →
    ∃ t, exec (.msixUnmask p (some v)) s = .next t ∧ v ∉ (t.hostPort p).pba ∧ .msix p v ∈ t.out ∧
      t = { s with host := t.host, out := t.out })

/-! ## Firmware, configuration, the test engine, the life cycle (R395 to R422, R433, R434) -/

/-- STAGE, STAGE_COMPLETE, ACTIVATE, CONFIRM, REVERT, CFG_STORE, CFG_STORE_COMPLETE, TST_RUN, TST_REFURB, TST_ABORT and
TEST_COMPLETE (R400 to R406, R418, R433, R434). -/
def Obligations.FirmwareAndTestCommandsComplete : Prop :=
  (∀ (s : State) (port : Nat) (auth : Bool), PortOpen s port → s.ctl.recovery = false →
    (auth = (!s.ctl.fwAuthStaged && s.ctl.fwAuth == some (headerDigest s.stageSource.2)) →
      ∃ t, exec (.stage port) s = .next t ∧ t.sector = s.sector ∧ t.stack = s.stack ∧
        (s.stageRefusal auth = 0 → t.ctl.stageBusy = true ∧ t.ctl.stageResult = 0 ∧ (t.img (!s.ctl.image)).bytes = s.stageSource.2 ∧
          (t.img (!s.ctl.image)).valid = false ∧ t.img s.ctl.image = s.img s.ctl.image) ∧
        (s.stageRefusal auth ≠ 0 → t.ctl = { s.ctl with stageResult := s.stageRefusal auth } ∧ t.images = s.images) ∧
        (s.sector.state = .locked ∨ s.sector.state = .transit ∨ s.sector.state = .scrap → t.ctl.stageResult = 5)) ∧
    (auth = (s.ctl.fwAuthStaged && s.ctl.fwAuth == some (headerDigest (s.img (!s.ctl.image)).bytes)) →
      ∃ t, exec (.activate port) s = .next t ∧ t.images = s.images ∧ t.stack = s.stack ∧
        (s.stageRefusal auth = 0 → (s.img (!s.ctl.image)).valid = true →
          t.sector = { s.sector with activation := true } ∧ t.ctl.stageResult = 1) ∧
        (s.stageRefusal auth = 0 → (s.img (!s.ctl.image)).valid = false → t.sector = s.sector ∧ t.ctl.stageResult = 2) ∧
        (s.stageRefusal auth ≠ 0 → t.sector = s.sector ∧ t.ctl = { s.ctl with stageResult := s.stageRefusal auth })) ∧
    (∃ t, exec (.confirm port) s = .next t ∧ t.images = s.images ∧
      (s.sector.trial = true → t.sector = { s.sector with active := s.ctl.image, trial := false, activation := false, svnMin := max s.sector.svnMin (imgSvn (s.img s.ctl.image).bytes) }) ∧
      (s.sector.trial = false → t = s)) ∧
    (∃ t, exec (.revert port) s = .next t ∧ t.images = s.images ∧
      (s.sector.trial = true → t.sector = { s.sector with active := !s.ctl.image, trial := false, activation := false }) ∧
      (s.sector.trial = false → t = s)) ∧
    (∀ o, o = (s.stackLoad s.ctl.src 304 cleanReport true).2.bytes s.ctl.src 304 → auth = (s.ctl.cfgAuth == some (sha384 o)) →
      ∃ t, exec (.cfgStore port) s = .next t ∧ t.images = s.images ∧ t.sector = s.sector ∧
        (s.stageRefusal auth = 0 ∨ s.stageRefusal auth = 7 → s.ctl.size = 304 →
          t.ctl.storing = some o ∧ t.ctl.stageResult = 0) ∧
        (s.stageRefusal auth = 0 ∨ s.stageRefusal auth = 7 → s.ctl.size ≠ 304 → t.ctl = { s.ctl with stageResult := 2 }) ∧
        (s.stageRefusal auth ≠ 0 → s.stageRefusal auth ≠ 7 → t.ctl = { s.ctl with stageResult := s.stageRefusal auth }))) ∧
  (∀ (s : State) (ok : Bool) (e : EccReport) (m : Memory) (v : Nat), s.ctl.stageBusy = true → s.ctl.recovery = false →
    m = (s.img (!s.ctl.image)).bytes.slice 0 s.ctl.size → v = verifyImage s.sector.firmwareKey s.sector.svnMin m s.ctl.size →
    ∃ t, exec (.stageComplete ok e) s = .next t ∧ t.ctl.stageBusy = false ∧ t.sector = s.sector ∧ t.stack = s.stack ∧
      t.img s.ctl.image = s.img s.ctl.image ∧
      (e = cleanReport → (t.img (!s.ctl.image)).bytes = m ∧
        (v = 1 → ok = true → (t.img (!s.ctl.image)).valid = true ∧ t.ctl.stageResult = 1) ∧
        (v ≠ 1 → (t.img (!s.ctl.image)).valid = (s.img (!s.ctl.image)).valid ∧ t.ctl.stageResult = v) ∧
        (v = 1 → ok = false → (t.img (!s.ctl.image)).valid = (s.img (!s.ctl.image)).valid ∧ t.ctl.stageResult = 9))) ∧
  (∀ (s : State) (ok : Bool) (e : EccReport),
    (s.ctl.storing = none → exec (.cfgStoreComplete ok e) s = .next s) ∧
    (∀ o, s.ctl.storing = some o →
      ∃ t, exec (.cfgStoreComplete ok e) s = .next t ∧ t.ctl.storing = none ∧ t.sector = s.sector ∧ t.stack = s.stack ∧
        (ok = true → t.ctl.stageResult = 1 ∧
          ∃ c, (t.img s.ctl.image).cfg = some c ∧ (e = cleanReport → o.length = 304 → c.owner = o)) ∧
        (ok = false → t.ctl.stageResult = 9 ∧ t.images = s.images))) ∧
  (∀ (s : State) (port : Nat), PortOpen s port → s.ctl.recovery = false → s.dawn.firstReady = true →
    s.sector.state.testable = true →
    (s.testBlocked = true →
      exec (.tstRun port) s = .next { s with tst := { s.tst with result := 4 } } ∧
      exec (.tstRefurb port) s = .next { s with tst := { s.tst with result := 4 } }) ∧
    (s.testBlocked = false →
      (4 ≤ s.tst.mode ∨ nTiles ≤ s.tst.tile → exec (.tstRun port) s = .next { s with tst := { s.tst with result := 5 } }) ∧
      (s.tst.mode < 4 → s.tst.tile < nTiles →
        exec (.tstRun port) s = .next { s with tst := { s.tst with busy := true, refurb := false, abort := false, result := 0, region := regionOf s.tst.tile } }) ∧
      exec (.tstRefurb port) s = .next { s with tst := { s.tst with busy := true, refurb := true, abort := false, result := 0, region := 0 } }) ∧
    (s.tst.busy = true → exec (.tstAbort port) s = .next { s with tst := { s.tst with abort := true } }) ∧
    (s.tst.busy = false → exec (.tstAbort port) s = .next s)) ∧
  (∀ (s : State) (res : TestResult),
    (s.tst.busy = false → exec (.testComplete res) s = .next s) ∧
    (s.tst.busy = true → s.tst.refurb = false →
      ∃ t, exec (.testComplete res) s = .next t ∧ t.tst.busy = false ∧ t.stack = s.stack ∧ t.map = s.map ∧
        (s.tst.abort = true → t.tst.result = 3) ∧ (s.tst.abort = false → res.pass = true → t.tst.result = 1) ∧
        (∀ k ∈ s.tst.targets, (t.getTile k).deck = [] ∧ (t.getTile k).staging = [] ∧ (t.getTile k).wait = .halted) ∧
        (∀ k, k ∉ s.tst.targets → t.getTile k = s.getTile k)) ∧
    (s.tst.busy = true → s.tst.refurb = true →
      ∃ t, exec (.testComplete res) s = .next t ∧ t.tst.busy = false ∧ t.log.refurbs = s.log.refurbs + 1 ∧
        t.sector.state = s.sector.state ∧ t.stack = s.stack ∧
        t.map = s.map ∧ (s.tst.abort = true → t.tst.result = 3 ∧ t.mapNext = s.mapNext) ∧
        (s.tst.abort = false → (t.tst.result = 1 ∨ t.tst.result = 2) ∧
          t.mapNext = s.mapNext ++ rebuildOf res :: (res.rails.filter fun r => decide (r < nRegions) && s.isDark r).map MapChange.relight ∧
          (t.tst.result = 1 → t.sector.refurbPassed = true ∧ (t.mapNext.foldl FloorMap.apply s.map).meetsFloor = true))))

/-- The LC_ commands, LC_REQUEST and LIFECYCLE_WIPE_DONE (R408 to R411, R419). -/
def Obligations.LifeCycleRequestsAreCheckedAndCarriedOut : Prop :=
  (∀ (s : State) (port : Nat) (c : Instr) (op : Nat), (c, op) ∈ lcOps port → reqOp s.ctl.req ≠ op → exec c s = .next s) ∧
  (∀ (s : State) (port : Nat) (c : Instr) (op : Nat), PortOpen s port → s.ctl.recovery = false → (c, op) ∈ lcOps port →
    reqOp s.ctl.req = op →
    ∃ t, exec c s = .next t ∧ t.ctl.lastOp = op ∧ t.sector.state = s.sector.state ∧
      (s.reqResult s.ctl.req ≠ 0 → t.sector = s.sector ∧ t.ctl.result = s.reqResult s.ctl.req ∧ t.stack = s.stack ∧
        t.ctl.change = s.ctl.change ∧ (s.ctl.change = none → t.ctl.phase = 4)) ∧
      (s.reqResult s.ctl.req = 0 → op ≤ 11 →
        t.sector = { s.sector with pending := some (s.sector.transition op (reqArg s.ctl.req)) } ∧
        t.ctl.change = some (s.sector.transition op (reqArg s.ctl.req)) ∧ t.ctl.phase = 2 ∧ t.stack = [] ∧
        t.clk.running = false ∧ t.dawn.ready = false) ∧
      (s.reqResult s.ctl.req = 0 → op = 12 → t.ctl.cfgAuth = some ((reqArg s.ctl.req).take 48) ∧ t.ctl.fwAuth = none ∧
        t.ctl.phase = 3 ∧ t.sector = s.sector) ∧
      (s.reqResult s.ctl.req = 0 → op = 13 → t.ctl.fwAuth = some ((reqArg s.ctl.req).take 48) ∧ t.ctl.cfgAuth = none ∧
        t.ctl.phase = 3 ∧ t.sector = s.sector) ∧
      (reqNonce s.ctl.req ≠ s.ctl.nonce → leAt s.ctl.req 1 7 = 0 → t.ctl.result = 3) ∧
      ((opStates op).contains s.sector.state = false → t.sector = s.sector)) ∧
  (∀ (s : State) (q : List Byte), s.sidebandUp = true →
    (q.length ≠ 232 → exec (.lcRequest q) s = .next (s.emit (.response 2 []))) ∧
    (q.length = 232 →
      ∃ t, exec (.lcRequest q) s = .next t ∧ .response 0 [] ∈ t.out ∧ t.ctl.lastOp = reqOp q ∧
        (s.reqResult q ≠ 0 → t.sector = s.sector ∧ t.ctl.result = s.reqResult q ∧ t.stack = s.stack) ∧
        (s.reqResult q = 0 → reqOp q ≤ 11 → t.ctl.change = some (s.sector.transition (reqOp q) (reqArg q)) ∧ t.stack = []))) ∧
  (∀ (s : State) (failed : List Nat),
    (s.ctl.change = none → exec (.lifecycleWipeDone failed) s = .next s) ∧
    (∀ x, s.ctl.change = some x → s.pwr.coolStop = false → s.dawn.modReset = false → s.runActive = false →
      ((∀ g < nGates, (s.gate g).stackState = .ready ∨ (s.gate g).stackState = .failed ∨
          (s.gate g).stackState = .wipe ∧ g ∉ failed) →
        ∃ t, exec (.lifecycleWipeDone failed) s = .next t ∧ t.sector.state = x.target ∧ t.sector.owner = x.owner ∧
          t.sector.returnTo = x.returnTo ∧ t.sector.lcSeq = (s.sector.lcSeq + 1) % 65536 ∧ t.sector.pending = none ∧
          t.ctl.change = none ∧ t.ctl.phase = 3 ∧ t.plan = PlanCtl.reset ∧ t.sector.svnMin = s.sector.svnMin ∧
          (∀ g < nGates, (s.gate g).stackState ≠ .failed → (t.gate g).stackState = .ready) ∧
          ((∀ g < nGates, (s.gate g).stackState ≠ .failed) → t.sector.wipeOk = true ∧ t.ctl.result = 0) ∧
          ((∃ g < nGates, (s.gate g).stackState = .failed) → t.sector.wipeOk = false ∧ t.ctl.result = 6)) ∧
      (∀ g < nGates, (s.gate g).stackState = .wipe → g ∈ failed →
        ∃ t, exec (.lifecycleWipeDone failed) s = .next t ∧ (t.gate g).stackState = .off ∧
          (t.gate g).powerOffUntil = some (s.clk.wall + wallMs 2000) ∧ t.ctl.change = some x ∧ t.sector = s.sector)))

/-- What no step undoes (R402, R407, R409). -/
def Obligations.ScrapIsFinalAndSvnNeverFalls : Prop :=
  ∀ s t : State, step s = .next t → s.sector.svnMin ≤ t.sector.svnMin ∧ (s.scrapped → t.scrapped)

/-! ## The sideband, SPDM, DOE Discovery (R318, R332 to R335, R396 to R398, R419) -/

/-- SETDASA, ENTDAA, SET_ENDPOINT_ID, GET_ENDPOINT_ID, GET_MCTP_VERSION_SUPPORT, GET_MESSAGE_TYPE_SUPPORT, GET_STATUS,
READ_MAP, READ_LOG, READ_REG, READ_LAST_STEP, GET_NONCE, LC_STATUS, FW_STATUS, FW_CONTROL, GET_VERSION, GET_CAPABILITIES,
NEGOTIATE_ALGORITHMS, GET_DIGESTS, GET_CERTIFICATE, CHALLENGE, GET_MEASUREMENTS and DOE_DISCOVERY (R318, R332 to R335, R398, R419). -/
def Obligations.SidebandAndSpdmAnswer : Prop :=
  (∀ s : State, s.sidebandUp = false →
    ∀ c ∈ ([.getEndpointId, .getMctpVersionSupport, .getMessageTypeSupport, .getStatus, .readLastStep, .getNonce, .lcStatus,
      .fwStatusQuery] : List Instr), exec c s = .next s) ∧
  (∀ (s : State) (a : Nat), s.sidebandUp = true →
    exec (.setdasa a) s = .next { s with hostRegs := { s.hostRegs with dynAddr := some (a % 128) }, out := s.out ++ [.i3cAddress (a % 128)] } ∧
    (s.hostRegs.dynAddr = none →
      exec (.entdaa a) s = .next { s with hostRegs := { s.hostRegs with dynAddr := some (a % 128) }, out := s.out ++ [.i3cAddress (a % 128)] }) ∧
    (s.hostRegs.dynAddr ≠ none → exec (.entdaa a) s = .next s) ∧
    (0 < a → a < 255 →
      exec (.setEndpointId a) s = .next { s with hostRegs := { s.hostRegs with eid := a }, out := s.out ++ [.mctp [0, 0, BitVec.ofNat 8 a, 0]] }) ∧
    (a = 0 ∨ 255 ≤ a → exec (.setEndpointId a) s = .next { s with out := s.out ++ [.mctp [2]] })) ∧
  (∀ s : State, s.sidebandUp = true →
    exec .getEndpointId s = .next { s with out := s.out ++ [.mctp [0, BitVec.ofNat 8 s.hostRegs.eid, 0, 0]] } ∧
    exec .getMctpVersionSupport s = .next { s with out := s.out ++ [.mctp ([0] ++ Config.mctpVersions)] } ∧
    exec .getMessageTypeSupport s = .next { s with out := s.out ++ [.mctp [0, 3, 0x00, 0x05, 0x7E]] } ∧
    exec .getStatus s = .next { s with out := s.out ++ [.response 0 (leBytes 8 s.glbStatus ++ leBytes 8 s.planStatus ++
      leBytes 8 s.frm.count ++ leBytes 8 s.linkGstatus)] } ∧
    exec .readLastStep s = .next { s with out := s.out ++ [.response 0 (s.hostRegs.lastRec ++ s.hostRegs.lastOk)] } ∧
    exec .getNonce s = .next { s with out := s.out ++ [.response 0 s.ctl.nonce] } ∧
    exec .lcStatus s = .next { s with out := s.out ++ [.response 0 (leBytes 8 s.lcsState ++ leBytes 8 s.lcsStatus)] } ∧
    exec .fwStatusQuery s = .next { s with out := s.out ++ [.response 0 (leBytes 8 s.fwStatus ++ leBytes 8 (s.fwVersion false) ++
      leBytes 8 (s.fwVersion true))] }) ∧
  (∀ (s : State) (off len : Nat), s.sidebandUp = true →
    (1 ≤ len ∧ len ≤ 1024 ∧ off + len ≤ 40412 →
      exec (.readMap off len) s = .next { s with out := s.out ++ [.response 0 (leBytes 4 s.mapGen ++ s.mapBytes off len)] }) ∧
    (len = 0 ∨ 1024 < len ∨ 40412 < off + len → exec (.readMap off len) s = .next { s with out := s.out ++ [.response 2 []] }) ∧
    (1 ≤ len ∧ len ≤ 1024 ∧ off + len ≤ logSpace →
      exec (.readLog off len) s = .next { s with out := s.out ++ [.response 0 (s.logBytes off len)] }) ∧
    (len = 0 ∨ 1024 < len ∨ logSpace < off + len → exec (.readLog off len) s = .next { s with out := s.out ++ [.response 2 []] }) ∧
    (off % 8 = 0 → off < 2 ^ 26 → exec (.readReg off) s = .next { s with out := s.out ++ [.response 0 (leBytes 8 (s.readReg off))] }) ∧
    (off % 8 ≠ 0 ∨ 2 ^ 26 ≤ off → exec (.readReg off) s = .next { s with out := s.out ++ [.response 2 []] })) ∧
  (∀ s : State, s.sidebandUp = true → s.ctl.recovery = false →
    (∃ t, exec (.fwControl 3) s = .next t ∧ .response 0 [] ∈ t.out ∧ (s.sector.trial = true → t.sector.active = s.ctl.image ∧
      t.sector.trial = false) ∧ (s.sector.trial = false → t.sector = s.sector)) ∧
    (∃ t, exec (.fwControl 4) s = .next t ∧ .response 0 [] ∈ t.out ∧ (s.sector.trial = true → t.sector.active = !s.ctl.image ∧
      t.sector.trial = false) ∧ (s.sector.trial = false → t.sector = s.sector)) ∧
    (∀ n, n ≠ 3 → n ≠ 4 → exec (.fwControl n) s = .next { s with out := s.out ++ [.response 2 []] })) ∧
  (∀ (s : State) (tr : Nat), s.transportUp tr = true →
    (∃ t, exec (.getVersion tr) s = .next t ∧ t.spdmState tr = .version ∧ t.out = s.out ++ [.spdm tr 0x04 [0x12]] ∧
      t.sector = s.sector ∧ t.ctl = s.ctl) ∧
    (s.spdmState tr ≠ .start →
      ∃ t, exec (.getCapabilities tr) s = .next t ∧ t.spdmState tr = .capabilities ∧ t.out = s.out ++ [.spdm tr 0x61 (leBytes 4 0x16)]) ∧
    (s.spdmState tr = .start → exec (.getCapabilities tr) s = .next { s with out := s.out ++ [.spdm tr 0x7F [0x04]] }) ∧
    (s.spdmState tr = .capabilities →
      ∃ t, exec (.negotiateAlgorithms tr) s = .next t ∧ t.spdmState tr = .negotiated ∧ t.out.length = s.out.length + 1) ∧
    (s.spdmState tr ≠ .capabilities → exec (.negotiateAlgorithms tr) s = .next { s with out := s.out ++ [.spdm tr 0x7F [0x04]] }) ∧
    (s.spdmState tr ≠ .negotiated →
      exec (.getDigests tr) s = .next { s with out := s.out ++ [.spdm tr 0x7F [0x04]] } ∧
      (∀ o l, exec (.getCertificate tr o l) s = .next { s with out := s.out ++ [.spdm tr 0x7F [0x04]] }) ∧
      (∀ n, exec (.challenge tr n) s = .next { s with out := s.out ++ [.spdm tr 0x7F [0x04]] }) ∧
      (∀ i n, exec (.getMeasurements tr i n) s = .next { s with out := s.out ++ [.spdm tr 0x7F [0x04]] })) ∧
    (s.spdmState tr = .negotiated →
      exec (.getDigests tr) s = .next { s with out := s.out ++ [.spdm tr 0x01 (sha384 Config.certChain)] } ∧
      (∀ o l, o < Config.certChain.length →
        exec (.getCertificate tr o l) s = .next { s with out := s.out ++ [.spdm tr 0x02 ((Config.certChain.drop o).take l)] }) ∧
      (∀ o l, Config.certChain.length ≤ o → exec (.getCertificate tr o l) s = .next { s with out := s.out ++ [.spdm tr 0x7F [0x01]] }) ∧
      (∀ n, exec (.challenge tr n) s = .next { s with free := s.free + 1, out := s.out ++ [.spdm tr 0x03 (s.signed n (sha384 Config.certChain))] }) ∧
      (∀ i n d, s.measurement? i = some d →
        exec (.getMeasurements tr i n) s = .next { s with free := s.free + 1, out := s.out ++ [.spdm tr 0x60 (s.signed n ([1] ++ ([BitVec.ofNat 8 i] ++ leBytes 2 d.length ++ d)))] }) ∧
      (∀ n, exec (.getMeasurements tr 0xFF n) s = .next { s with free := s.free + 1, out := s.out ++ [.spdm tr 0x60 (s.signed n ([10] ++ measurementIndexes.flatMap s.measurementBlock))] }) ∧
      (∀ i n, i ≠ 0xFF → s.measurement? i = none → exec (.getMeasurements tr i n) s = .next { s with out := s.out ++ [.spdm tr 0x7F [0x01]] }))) ∧
  (∀ (s : State) (port i : Nat), port < 2 → (s.hostPort port).linkUp = true →
    ∃ d, exec (.doeDiscovery port i) s = .next { s with out := s.out ++ [.doe port d] } ∧ d.length = 4)

/-! ## Memory -/

/-- The canonical form of the memories is kept (R85, R262, log 4). -/
def Obligations.MemoriesStayCanonical : Prop :=
  ∀ s t : State, s.memoriesCanonical → step s = .next t → t.memoriesCanonical
end

