-- ==== Sys2Proof/Laws/Memory.lean ====
section
/-! SUPPORT. Memories and sparse maps: what reads give after writes, and that every operation keeps the canonical form. -/

namespace Sys2Proof.Machine

/-! ## Sparse maps and vectors -/

theorem Map.find?_set_self {α : Type} (m : Map α) (k : Nat) (x : α) : Map.find? (Map.set m k x) k = some x := by
  induction m with
  | nil => simp [Map.set, Map.find?]
  | cons p rest ih =>
    obtain ⟨j, v⟩ := p
    simp only [Map.set]
    split
    · simp [Map.find?]
    · split
      · simp [Map.find?]
      · next h => simp [Map.find?, ih, Ne.symm h]

theorem Map.find?_set_ne {α : Type} (m : Map α) (k j : Nat) (x : α) (h : j ≠ k) :
    Map.find? (Map.set m k x) j = Map.find? m j := by
  induction m with
  | nil => simp [Map.set, Map.find?, Ne.symm h]
  | cons p rest ih =>
    obtain ⟨i, v⟩ := p
    simp only [Map.set]
    split
    · simp [Map.find?, Ne.symm h]
    · split
      · next he => subst he; simp [Map.find?, Ne.symm h]
      · simp [Map.find?, ih]

@[simp] theorem Map.getD_set_self {α : Type} (m : Map α) (k : Nat) (x d : α) : Map.getD (Map.set m k x) k d = x := by
  simp [Map.getD, Map.find?_set_self]

@[simp] theorem Map.getD_set_ne {α : Type} (m : Map α) (k j : Nat) (x d : α) (h : j ≠ k) :
    Map.getD (Map.set m k x) j d = Map.getD m j d := by
  simp [Map.getD, Map.find?_set_ne, h]

theorem Map.mem_set {α : Type} (m : Map α) (k : Nat) (x : α) (p : Nat × α) (h : p ∈ Map.set m k x) : p = (k, x) ∨ p ∈ m := by
  induction m with
  | nil => simpa [Map.set] using h
  | cons q rest ih =>
    obtain ⟨j, v⟩ := q
    simp only [Map.set] at h
    split at h
    · simpa using h
    · split at h
      · simp only [List.mem_cons] at h ⊢
        exact h.imp id Or.inr
      · simp only [List.mem_cons] at h ⊢
        rcases h with h | h
        · exact .inr (.inl h)
        · exact (ih h).imp id Or.inr

theorem Map.find?_mapVals {α β : Type} (f : Nat → α → β) (m : Map α) (k : Nat) :
    Map.find? (Map.mapVals f m) k = (Map.find? m k).map (f k) := by
  induction m with
  | nil => rfl
  | cons p rest ih =>
    obtain ⟨j, v⟩ := p
    simp only [Map.mapVals, List.map_cons, Map.find?]
    split
    · next h => subst h; rfl
    · exact ih

@[simp] theorem vget_vset_self {α : Type} {n : Nat} (v : Vector α n) (i : Nat) (x d : α) (h : i < n) : vget (vset v i x) i d = x := by
  simp [vget, vset, h]

@[simp] theorem vget_vset_ne {α : Type} {n : Nat} (v : Vector α n) (i j : Nat) (x d : α) (h : j ≠ i) :
    vget (vset v i x) j d = vget v j d := by
  simp only [vget, vset]
  split
  · simp [Ne.symm h]
  · rfl

/-! ## The canonical form of a memory -/

/-- A bound that lies below another one is one too. -/
theorem Memory.wfAbove_mono (m : Memory) (lo lo' : Option Nat) (h : m.wfAbove lo = true)
    (hl : ∀ a, lo' = some a → ∃ b, lo = some b ∧ a ≤ b) : m.wfAbove lo' = true := by
  cases m with
  | nil => rfl
  | cons p rest =>
    obtain ⟨k, v⟩ := p
    simp only [Memory.wfAbove, Bool.and_eq_true] at h ⊢
    refine ⟨⟨?_, h.1.2⟩, h.2⟩
    cases lo' with
    | none => rfl
    | some a =>
      obtain ⟨b, rfl, hab⟩ := hl a rfl
      simp only [decide_eq_true_eq] at h ⊢
      omega

theorem Memory.wfAbove_none (m : Memory) (lo : Option Nat) (h : m.wfAbove lo = true) : m.wf = true :=
  Memory.wfAbove_mono m lo none h (by simp)

/-- Every listed address lies above the bound. -/
theorem Memory.lt_of_wfAbove (m : Memory) (a : Nat) (h : m.wfAbove (some a) = true) : ∀ c ∈ m, a < c.1 := by
  induction m generalizing a with
  | nil => simp
  | cons p rest ih =>
    obtain ⟨k, v⟩ := p
    simp only [Memory.wfAbove, Bool.and_eq_true, decide_eq_true_eq] at h
    intro c hc
    rcases List.mem_cons.mp hc with rfl | hc
    · exact h.1.1
    · exact Nat.lt_trans h.1.1 (ih k h.2 c hc)

/-- An address below everything listed reads as 0x00. -/
theorem Memory.read_of_wfAbove (m : Memory) (a b : Nat) (h : m.wfAbove (some a) = true) (hb : b ≤ a) : m.read b = 0 := by
  cases m with
  | nil => rfl
  | cons p rest =>
    obtain ⟨k, v⟩ := p
    simp only [Memory.wfAbove, Bool.and_eq_true, decide_eq_true_eq] at h
    have h1 : ¬ k = b := by omega
    have h2 : b < k := by omega
    simp [Memory.read, h1, h2]

theorem Memory.wfAbove_write (m : Memory) (lo : Option Nat) (a : Nat) (b : Byte) (h : m.wfAbove lo = true)
    (ha : ∀ l, lo = some l → l < a) : (m.write a b).wfAbove lo = true := by
  induction m generalizing lo with
  | nil =>
    simp only [Memory.write]
    split
    · rfl
    · next hb =>
      simp only [Memory.wfAbove, Bool.and_true, Bool.and_eq_true]
      refine ⟨?_, by simpa using hb⟩
      cases lo with
      | none => rfl
      | some l => simpa using ha l rfl
  | cons p rest ih =>
    obtain ⟨k, v⟩ := p
    simp only [Memory.wfAbove, Bool.and_eq_true] at h
    simp only [Memory.write]
    split
    · next hak =>
      split
      · simp only [Memory.wfAbove, Bool.and_eq_true]; exact h
      · next hb =>
        simp only [Memory.wfAbove, Bool.and_eq_true, decide_eq_true_eq]
        refine ⟨⟨?_, by simpa using hb⟩, ⟨hak, h.1.2⟩, h.2⟩
        cases lo with
        | none => rfl
        | some l => simpa using ha l rfl
    · split
      · next hak =>
        subst hak
        split
        · refine Memory.wfAbove_mono rest (some a) lo h.2 ?_
          intro l hl
          exact ⟨a, rfl, Nat.le_of_lt (ha l hl)⟩
        · next hb =>
          simp only [Memory.wfAbove, Bool.and_eq_true]
          refine ⟨⟨?_, by simpa using hb⟩, h.2⟩
          cases lo with
          | none => rfl
          | some l => simpa using ha l rfl
      · next h1 h2 =>
        simp only [Memory.wfAbove, Bool.and_eq_true]
        refine ⟨h.1, ih (some k) h.2 ?_⟩
        intro l hl
        cases hl
        omega

/-- A write keeps the canonical form. -/
theorem Memory.wf_write (m : Memory) (a : Nat) (b : Byte) (h : m.wf = true) : (m.write a b).wf = true :=
  Memory.wfAbove_write m none a b h (by simp)

theorem Memory.wf_writeList (m : Memory) (l : List (Nat × Byte)) (h : m.wf = true) : (m.writeList l).wf = true := by
  induction l generalizing m with
  | nil => exact h
  | cons p rest ih => exact ih _ (Memory.wf_write m p.1 p.2 h)

theorem Memory.wf_putBytes (m : Memory) (a : Nat) (l : List Byte) (h : m.wf = true) : (m.putBytes a l).wf = true :=
  Memory.wf_writeList m _ h

theorem Memory.wfAbove_filter (m : Memory) (p : Host.Cell → Bool) (lo : Option Nat) (h : m.wfAbove lo = true) :
    Memory.wfAbove lo (m.filter p) = true := by
  induction m generalizing lo with
  | nil => rfl
  | cons q rest ih =>
    obtain ⟨k, v⟩ := q
    simp only [Memory.wfAbove, Bool.and_eq_true] at h
    simp only [List.filter_cons]
    split
    · simp only [Memory.wfAbove, Bool.and_eq_true]
      exact ⟨h.1, ih (some k) h.2⟩
    · refine Memory.wfAbove_mono _ (some k) lo (ih (some k) h.2) ?_
      intro a ha
      subst ha
      have := h.1.1
      simp only [decide_eq_true_eq] at this
      exact ⟨k, rfl, Nat.le_of_lt this⟩

theorem Memory.wf_erase (m : Memory) (base n : Nat) (h : m.wf = true) : (m.erase base n).wf = true :=
  Memory.wfAbove_filter m _ none h

theorem Memory.wf_nil : Memory.wf [] = true := rfl

/-! ## Reads after writes -/

theorem Memory.read_write_above (m : Memory) (lo : Option Nat) (a : Nat) (b : Byte) (h : m.wfAbove lo = true) (x : Nat) :
    (m.write a b).read x = if x = a then b else m.read x := by
  induction m generalizing lo with
  | nil =>
    by_cases hx : x = a <;> by_cases hb : b = 0
    · rw [Memory.write, if_pos hb, if_pos hx, hb]; rfl
    · rw [Memory.write, if_neg hb, if_pos hx, hx]; simp [Memory.read]
    · rw [Memory.write, if_pos hb, if_neg hx]
    · rw [Memory.write, if_neg hb, if_neg hx]; simp [Memory.read, Ne.symm hx]
  | cons p rest ih =>
    obtain ⟨k, v⟩ := p
    have hr : Memory.wfAbove (some k) rest = true := by
      simp only [Memory.wfAbove, Bool.and_eq_true] at h
      exact h.2
    rw [Memory.write]
    by_cases hak : a < k
    · rw [if_pos hak]
      by_cases hx : x = a
      · rw [if_pos hx, hx]
        have h1 : ¬ k = a := by omega
        by_cases hb : b = 0
        · rw [if_pos hb, hb]; simp [Memory.read, h1, hak]
        · rw [if_neg hb]; simp [Memory.read]
      · rw [if_neg hx]
        have hx' : ¬ a = x := fun e => hx e.symm
        by_cases hb : b = 0
        · rw [if_pos hb]
        · rw [if_neg hb]
          by_cases hlt : x < a
          · have h1 : ¬ k = x := by omega
            have h2 : x < k := by omega
            simp [Memory.read, hx', hlt, h1, h2]
          · simp [Memory.read, hx', hlt]
    · rw [if_neg hak]
      by_cases he : a = k
      · rw [if_pos he]
        subst he
        by_cases hx : x = a
        · rw [if_pos hx, hx]
          by_cases hb : b = 0
          · rw [if_pos hb, hb]; exact Memory.read_of_wfAbove rest a a hr (Nat.le_refl a)
          · rw [if_neg hb]; simp [Memory.read]
        · rw [if_neg hx]
          have hx' : ¬ a = x := fun e => hx e.symm
          by_cases hb : b = 0
          · rw [if_pos hb]
            by_cases hlt : x < a
            · rw [Memory.read_of_wfAbove rest a x hr (Nat.le_of_lt hlt)]
              simp [Memory.read, hx', hlt]
            · simp [Memory.read, hx', hlt]
          · rw [if_neg hb]; simp [Memory.read, hx']
      · rw [if_neg he]
        by_cases hk : k = x
        · have hx : ¬ x = a := fun e => he (by omega)
          rw [if_neg hx]; simp [Memory.read, hk]
        · by_cases hlt : x < k
          · have hx : ¬ x = a := by omega
            rw [if_neg hx]; simp [Memory.read, hk, hlt]
          · simp only [Memory.read, hk, hlt, if_false]
            exact ih (some k) hr

/-- A byte that was written reads as written, every other one as before. -/
theorem Memory.read_write (m : Memory) (a : Nat) (b : Byte) (h : m.wf = true) (x : Nat) :
    (m.write a b).read x = if x = a then b else m.read x :=
  Memory.read_write_above m none a b h x

/-- An address that a list of stores does not name reads as before. -/
theorem Memory.read_writeList_of_notMem (m : Memory) (l : List (Nat × Byte)) (h : m.wf = true) (x : Nat)
    (hx : ∀ p ∈ l, p.1 ≠ x) : (m.writeList l).read x = m.read x := by
  induction l generalizing m with
  | nil => rfl
  | cons p rest ih =>
    obtain ⟨a, b⟩ := p
    have h1 : ¬ x = a := fun e => hx (a, b) (by simp) e.symm
    simp only [Memory.writeList]
    rw [ih _ (Memory.wf_write m a b h) (fun q hq => hx q (by simp [hq])), Memory.read_write m a b h]
    simp [h1]

/-- The last store of a list to an address is what it reads as. -/
theorem Memory.read_writeList_append (m : Memory) (l r : List (Nat × Byte)) (a : Nat) (b : Byte) (h : m.wf = true)
    (hr : ∀ p ∈ r, p.1 ≠ a) : (m.writeList (l ++ (a, b) :: r)).read a = b := by
  induction l generalizing m with
  | nil =>
    simp only [List.nil_append, Memory.writeList]
    rw [Memory.read_writeList_of_notMem _ r (Memory.wf_write m a b h) a hr, Memory.read_write m a b h]
    simp
  | cons p rest ih => exact ih _ (Memory.wf_write m p.1 p.2 h)

/-- Consecutive stores begin with the first. -/
theorem Memory.putBytes_cons (m : Memory) (a : Nat) (b : Byte) (l : List Byte) :
    m.putBytes a (b :: l) = (m.write a b).putBytes (a + 1) l := by
  simp only [Memory.putBytes, List.length_cons, List.range_succ_eq_map, List.zip_cons_cons, List.map_cons, Memory.writeList,
    List.zip_map_left, List.map_map]
  congr 2
  funext p
  simp only [Function.comp, Prod.map, id]
  congr 1
  omega

/-- Consecutive stores leave every other byte. -/
theorem Memory.read_putBytes_out (m : Memory) (a : Nat) (l : List Byte) (h : m.wf = true) (x : Nat)
    (out : x < a ∨ a + l.length ≤ x) : (m.putBytes a l).read x = m.read x := by
  induction l generalizing m a with
  | nil => rfl
  | cons b rest ih =>
    simp only [List.length_cons] at out
    rw [Memory.putBytes_cons, ih _ _ (Memory.wf_write m a b h) (by omega), Memory.read_write m a b h, if_neg (by omega)]

/-- Consecutive stores read as written. -/
theorem Memory.read_putBytes_in (m : Memory) (a : Nat) (l : List Byte) (h : m.wf = true) (i : Nat) (hi : i < l.length) :
    (m.putBytes a l).read (a + i) = l[i] := by
  induction l generalizing m a i with
  | nil => exact absurd hi (Nat.not_lt_zero i)
  | cons b rest ih =>
    rw [Memory.putBytes_cons]
    cases i with
    | zero =>
      rw [Memory.read_putBytes_out _ _ _ (Memory.wf_write m a b h) _ (by omega), Memory.read_write m a b h]
      simp
    | succ n =>
      have e : a + (n + 1) = a + 1 + n := by omega
      rw [e, ih _ _ (Memory.wf_write m a b h) n (by simpa using hi)]
      rfl

/-- Bytes of what consecutive stores have written. -/
theorem Memory.bytes_putBytes (m : Memory) (a : Nat) (l : List Byte) (h : m.wf = true) (k n : Nat) (hk : k + n ≤ l.length) :
    (m.putBytes a l).bytes (a + k) n = (l.drop k).take n := by
  apply List.ext_getElem
  · simp [Memory.bytes]; omega
  · intro i h1 h2
    have hi : i < n := by simpa [Memory.bytes] using h1
    simp only [Memory.bytes, List.getElem_map, List.getElem_range, List.getElem_take, List.getElem_drop]
    rw [Nat.add_assoc, Memory.read_putBytes_in m a l h (k + i) (by omega)]

end Sys2Proof.Machine
end

