-- ==== Sys2Proof/Laws/State.lean ====
section
/-! SUPPORT. The updates of the state: what each leaves alone, field by field, and what the accessors read after them. -/

namespace Sys2Proof.Machine

/-! ## Every field but its own -/

@[simp] theorem State.setTile_clk (s : State) (t : Nat) (x : Tile) : (s.setTile t x).clk = s.clk := rfl
@[simp] theorem State.setTile_frm (s : State) (t : Nat) (x : Tile) : (s.setTile t x).frm = s.frm := rfl
@[simp] theorem State.setTile_map (s : State) (t : Nat) (x : Tile) : (s.setTile t x).map = s.map := rfl
@[simp] theorem State.setTile_mapNext (s : State) (t : Nat) (x : Tile) : (s.setTile t x).mapNext = s.mapNext := rfl
@[simp] theorem State.setTile_mapDirty (s : State) (t : Nat) (x : Tile) : (s.setTile t x).mapDirty = s.mapDirty := rfl
@[simp] theorem State.setTile_plan (s : State) (t : Nat) (x : Tile) : (s.setTile t x).plan = s.plan := rfl
@[simp] theorem State.setTile_err (s : State) (t : Nat) (x : Tile) : (s.setTile t x).err = s.err := rfl
@[simp] theorem State.setTile_num (s : State) (t : Nat) (x : Tile) : (s.setTile t x).num = s.num := rfl
@[simp] theorem State.setTile_setAt (s : State) (t : Nat) (x : Tile) : (s.setTile t x).setAt = s.setAt := rfl
@[simp] theorem State.setTile_numNow (s : State) (t : Nat) (x : Tile) : (s.setTile t x).numNow = s.numNow := rfl
@[simp] theorem State.setTile_regions (s : State) (t : Nat) (x : Tile) : (s.setTile t x).regions = s.regions := rfl
@[simp] theorem State.setTile_mesh (s : State) (t : Nat) (x : Tile) : (s.setTile t x).mesh = s.mesh := rfl
@[simp] theorem State.setTile_rim (s : State) (t : Nat) (x : Tile) : (s.setTile t x).rim = s.rim := rfl
@[simp] theorem State.setTile_hops (s : State) (t : Nat) (x : Tile) : (s.setTile t x).hops = s.hops := rfl
@[simp] theorem State.setTile_barriers (s : State) (t : Nat) (x : Tile) : (s.setTile t x).barriers = s.barriers := rfl
@[simp] theorem State.setTile_gates (s : State) (t : Nat) (x : Tile) : (s.setTile t x).gates = s.gates := rfl
@[simp] theorem State.setTile_stack (s : State) (t : Nat) (x : Tile) : (s.setTile t x).stack = s.stack := rfl
@[simp] theorem State.setTile_stackUe (s : State) (t : Nat) (x : Tile) : (s.setTile t x).stackUe = s.stackUe := rfl
@[simp] theorem State.setTile_blvd (s : State) (t : Nat) (x : Tile) : (s.setTile t x).blvd = s.blvd := rfl
@[simp] theorem State.setTile_upd (s : State) (t : Nat) (x : Tile) : (s.setTile t x).upd = s.upd := rfl
@[simp] theorem State.setTile_ports (s : State) (t : Nat) (x : Tile) : (s.setTile t x).ports = s.ports := rfl
@[simp] theorem State.setTile_group (s : State) (t : Nat) (x : Tile) : (s.setTile t x).group = s.group := rfl
@[simp] theorem State.setTile_assembling (s : State) (t : Nat) (x : Tile) : (s.setTile t x).assembling = s.assembling := rfl
@[simp] theorem State.setTile_reductions (s : State) (t : Nat) (x : Tile) : (s.setTile t x).reductions = s.reductions := rfl
@[simp] theorem State.setTile_host (s : State) (t : Nat) (x : Tile) : (s.setTile t x).host = s.host := rfl
@[simp] theorem State.setTile_hostRegs (s : State) (t : Nat) (x : Tile) : (s.setTile t x).hostRegs = s.hostRegs := rfl
@[simp] theorem State.setTile_pwr (s : State) (t : Nat) (x : Tile) : (s.setTile t x).pwr = s.pwr := rfl
@[simp] theorem State.setTile_dawn (s : State) (t : Nat) (x : Tile) : (s.setTile t x).dawn = s.dawn := rfl
@[simp] theorem State.setTile_images (s : State) (t : Nat) (x : Tile) : (s.setTile t x).images = s.images := rfl
@[simp] theorem State.setTile_sector (s : State) (t : Nat) (x : Tile) : (s.setTile t x).sector = s.sector := rfl
@[simp] theorem State.setTile_ctl (s : State) (t : Nat) (x : Tile) : (s.setTile t x).ctl = s.ctl := rfl
@[simp] theorem State.setTile_log (s : State) (t : Nat) (x : Tile) : (s.setTile t x).log = s.log := rfl
@[simp] theorem State.setTile_tst (s : State) (t : Nat) (x : Tile) : (s.setTile t x).tst = s.tst := rfl
@[simp] theorem State.setTile_free (s : State) (t : Nat) (x : Tile) : (s.setTile t x).free = s.free := rfl
@[simp] theorem State.setTile_out (s : State) (t : Nat) (x : Tile) : (s.setTile t x).out = s.out := rfl
@[simp] theorem State.setTile_pending (s : State) (t : Nat) (x : Tile) : (s.setTile t x).pending = s.pending := rfl

@[simp] theorem State.setRegion_clk (s : State) (r : Nat) (x : Region) : (s.setRegion r x).clk = s.clk := rfl
@[simp] theorem State.setRegion_frm (s : State) (r : Nat) (x : Region) : (s.setRegion r x).frm = s.frm := rfl
@[simp] theorem State.setRegion_map (s : State) (r : Nat) (x : Region) : (s.setRegion r x).map = s.map := rfl
@[simp] theorem State.setRegion_mapNext (s : State) (r : Nat) (x : Region) : (s.setRegion r x).mapNext = s.mapNext := rfl
@[simp] theorem State.setRegion_mapDirty (s : State) (r : Nat) (x : Region) : (s.setRegion r x).mapDirty = s.mapDirty := rfl
@[simp] theorem State.setRegion_plan (s : State) (r : Nat) (x : Region) : (s.setRegion r x).plan = s.plan := rfl
@[simp] theorem State.setRegion_err (s : State) (r : Nat) (x : Region) : (s.setRegion r x).err = s.err := rfl
@[simp] theorem State.setRegion_num (s : State) (r : Nat) (x : Region) : (s.setRegion r x).num = s.num := rfl
@[simp] theorem State.setRegion_setAt (s : State) (r : Nat) (x : Region) : (s.setRegion r x).setAt = s.setAt := rfl
@[simp] theorem State.setRegion_numNow (s : State) (r : Nat) (x : Region) : (s.setRegion r x).numNow = s.numNow := rfl
@[simp] theorem State.setRegion_tiles (s : State) (r : Nat) (x : Region) : (s.setRegion r x).tiles = s.tiles := rfl
@[simp] theorem State.setRegion_mesh (s : State) (r : Nat) (x : Region) : (s.setRegion r x).mesh = s.mesh := rfl
@[simp] theorem State.setRegion_rim (s : State) (r : Nat) (x : Region) : (s.setRegion r x).rim = s.rim := rfl
@[simp] theorem State.setRegion_hops (s : State) (r : Nat) (x : Region) : (s.setRegion r x).hops = s.hops := rfl
@[simp] theorem State.setRegion_barriers (s : State) (r : Nat) (x : Region) : (s.setRegion r x).barriers = s.barriers := rfl
@[simp] theorem State.setRegion_gates (s : State) (r : Nat) (x : Region) : (s.setRegion r x).gates = s.gates := rfl
@[simp] theorem State.setRegion_stack (s : State) (r : Nat) (x : Region) : (s.setRegion r x).stack = s.stack := rfl
@[simp] theorem State.setRegion_stackUe (s : State) (r : Nat) (x : Region) : (s.setRegion r x).stackUe = s.stackUe := rfl
@[simp] theorem State.setRegion_blvd (s : State) (r : Nat) (x : Region) : (s.setRegion r x).blvd = s.blvd := rfl
@[simp] theorem State.setRegion_upd (s : State) (r : Nat) (x : Region) : (s.setRegion r x).upd = s.upd := rfl
@[simp] theorem State.setRegion_ports (s : State) (r : Nat) (x : Region) : (s.setRegion r x).ports = s.ports := rfl
@[simp] theorem State.setRegion_group (s : State) (r : Nat) (x : Region) : (s.setRegion r x).group = s.group := rfl
@[simp] theorem State.setRegion_assembling (s : State) (r : Nat) (x : Region) : (s.setRegion r x).assembling = s.assembling := rfl
@[simp] theorem State.setRegion_reductions (s : State) (r : Nat) (x : Region) : (s.setRegion r x).reductions = s.reductions := rfl
@[simp] theorem State.setRegion_host (s : State) (r : Nat) (x : Region) : (s.setRegion r x).host = s.host := rfl
@[simp] theorem State.setRegion_hostRegs (s : State) (r : Nat) (x : Region) : (s.setRegion r x).hostRegs = s.hostRegs := rfl
@[simp] theorem State.setRegion_pwr (s : State) (r : Nat) (x : Region) : (s.setRegion r x).pwr = s.pwr := rfl
@[simp] theorem State.setRegion_dawn (s : State) (r : Nat) (x : Region) : (s.setRegion r x).dawn = s.dawn := rfl
@[simp] theorem State.setRegion_images (s : State) (r : Nat) (x : Region) : (s.setRegion r x).images = s.images := rfl
@[simp] theorem State.setRegion_sector (s : State) (r : Nat) (x : Region) : (s.setRegion r x).sector = s.sector := rfl
@[simp] theorem State.setRegion_ctl (s : State) (r : Nat) (x : Region) : (s.setRegion r x).ctl = s.ctl := rfl
@[simp] theorem State.setRegion_log (s : State) (r : Nat) (x : Region) : (s.setRegion r x).log = s.log := rfl
@[simp] theorem State.setRegion_tst (s : State) (r : Nat) (x : Region) : (s.setRegion r x).tst = s.tst := rfl
@[simp] theorem State.setRegion_free (s : State) (r : Nat) (x : Region) : (s.setRegion r x).free = s.free := rfl
@[simp] theorem State.setRegion_out (s : State) (r : Nat) (x : Region) : (s.setRegion r x).out = s.out := rfl
@[simp] theorem State.setRegion_pending (s : State) (r : Nat) (x : Region) : (s.setRegion r x).pending = s.pending := rfl

@[simp] theorem State.setGate_clk (s : State) (g : Nat) (x : Gate) : (s.setGate g x).clk = s.clk := rfl
@[simp] theorem State.setGate_frm (s : State) (g : Nat) (x : Gate) : (s.setGate g x).frm = s.frm := rfl
@[simp] theorem State.setGate_map (s : State) (g : Nat) (x : Gate) : (s.setGate g x).map = s.map := rfl
@[simp] theorem State.setGate_mapNext (s : State) (g : Nat) (x : Gate) : (s.setGate g x).mapNext = s.mapNext := rfl
@[simp] theorem State.setGate_mapDirty (s : State) (g : Nat) (x : Gate) : (s.setGate g x).mapDirty = s.mapDirty := rfl
@[simp] theorem State.setGate_plan (s : State) (g : Nat) (x : Gate) : (s.setGate g x).plan = s.plan := rfl
@[simp] theorem State.setGate_err (s : State) (g : Nat) (x : Gate) : (s.setGate g x).err = s.err := rfl
@[simp] theorem State.setGate_num (s : State) (g : Nat) (x : Gate) : (s.setGate g x).num = s.num := rfl
@[simp] theorem State.setGate_setAt (s : State) (g : Nat) (x : Gate) : (s.setGate g x).setAt = s.setAt := rfl
@[simp] theorem State.setGate_numNow (s : State) (g : Nat) (x : Gate) : (s.setGate g x).numNow = s.numNow := rfl
@[simp] theorem State.setGate_tiles (s : State) (g : Nat) (x : Gate) : (s.setGate g x).tiles = s.tiles := rfl
@[simp] theorem State.setGate_regions (s : State) (g : Nat) (x : Gate) : (s.setGate g x).regions = s.regions := rfl
@[simp] theorem State.setGate_mesh (s : State) (g : Nat) (x : Gate) : (s.setGate g x).mesh = s.mesh := rfl
@[simp] theorem State.setGate_rim (s : State) (g : Nat) (x : Gate) : (s.setGate g x).rim = s.rim := rfl
@[simp] theorem State.setGate_hops (s : State) (g : Nat) (x : Gate) : (s.setGate g x).hops = s.hops := rfl
@[simp] theorem State.setGate_barriers (s : State) (g : Nat) (x : Gate) : (s.setGate g x).barriers = s.barriers := rfl
@[simp] theorem State.setGate_stack (s : State) (g : Nat) (x : Gate) : (s.setGate g x).stack = s.stack := rfl
@[simp] theorem State.setGate_stackUe (s : State) (g : Nat) (x : Gate) : (s.setGate g x).stackUe = s.stackUe := rfl
@[simp] theorem State.setGate_blvd (s : State) (g : Nat) (x : Gate) : (s.setGate g x).blvd = s.blvd := rfl
@[simp] theorem State.setGate_upd (s : State) (g : Nat) (x : Gate) : (s.setGate g x).upd = s.upd := rfl
@[simp] theorem State.setGate_ports (s : State) (g : Nat) (x : Gate) : (s.setGate g x).ports = s.ports := rfl
@[simp] theorem State.setGate_group (s : State) (g : Nat) (x : Gate) : (s.setGate g x).group = s.group := rfl
@[simp] theorem State.setGate_assembling (s : State) (g : Nat) (x : Gate) : (s.setGate g x).assembling = s.assembling := rfl
@[simp] theorem State.setGate_reductions (s : State) (g : Nat) (x : Gate) : (s.setGate g x).reductions = s.reductions := rfl
@[simp] theorem State.setGate_host (s : State) (g : Nat) (x : Gate) : (s.setGate g x).host = s.host := rfl
@[simp] theorem State.setGate_hostRegs (s : State) (g : Nat) (x : Gate) : (s.setGate g x).hostRegs = s.hostRegs := rfl
@[simp] theorem State.setGate_pwr (s : State) (g : Nat) (x : Gate) : (s.setGate g x).pwr = s.pwr := rfl
@[simp] theorem State.setGate_dawn (s : State) (g : Nat) (x : Gate) : (s.setGate g x).dawn = s.dawn := rfl
@[simp] theorem State.setGate_images (s : State) (g : Nat) (x : Gate) : (s.setGate g x).images = s.images := rfl
@[simp] theorem State.setGate_sector (s : State) (g : Nat) (x : Gate) : (s.setGate g x).sector = s.sector := rfl
@[simp] theorem State.setGate_ctl (s : State) (g : Nat) (x : Gate) : (s.setGate g x).ctl = s.ctl := rfl
@[simp] theorem State.setGate_log (s : State) (g : Nat) (x : Gate) : (s.setGate g x).log = s.log := rfl
@[simp] theorem State.setGate_tst (s : State) (g : Nat) (x : Gate) : (s.setGate g x).tst = s.tst := rfl
@[simp] theorem State.setGate_free (s : State) (g : Nat) (x : Gate) : (s.setGate g x).free = s.free := rfl
@[simp] theorem State.setGate_out (s : State) (g : Nat) (x : Gate) : (s.setGate g x).out = s.out := rfl
@[simp] theorem State.setGate_pending (s : State) (g : Nat) (x : Gate) : (s.setGate g x).pending = s.pending := rfl

@[simp] theorem State.setPort_clk (s : State) (p : Nat) (x : Port) : (s.setPort p x).clk = s.clk := rfl
@[simp] theorem State.setPort_frm (s : State) (p : Nat) (x : Port) : (s.setPort p x).frm = s.frm := rfl
@[simp] theorem State.setPort_map (s : State) (p : Nat) (x : Port) : (s.setPort p x).map = s.map := rfl
@[simp] theorem State.setPort_mapNext (s : State) (p : Nat) (x : Port) : (s.setPort p x).mapNext = s.mapNext := rfl
@[simp] theorem State.setPort_mapDirty (s : State) (p : Nat) (x : Port) : (s.setPort p x).mapDirty = s.mapDirty := rfl
@[simp] theorem State.setPort_plan (s : State) (p : Nat) (x : Port) : (s.setPort p x).plan = s.plan := rfl
@[simp] theorem State.setPort_err (s : State) (p : Nat) (x : Port) : (s.setPort p x).err = s.err := rfl
@[simp] theorem State.setPort_num (s : State) (p : Nat) (x : Port) : (s.setPort p x).num = s.num := rfl
@[simp] theorem State.setPort_setAt (s : State) (p : Nat) (x : Port) : (s.setPort p x).setAt = s.setAt := rfl
@[simp] theorem State.setPort_numNow (s : State) (p : Nat) (x : Port) : (s.setPort p x).numNow = s.numNow := rfl
@[simp] theorem State.setPort_tiles (s : State) (p : Nat) (x : Port) : (s.setPort p x).tiles = s.tiles := rfl
@[simp] theorem State.setPort_regions (s : State) (p : Nat) (x : Port) : (s.setPort p x).regions = s.regions := rfl
@[simp] theorem State.setPort_mesh (s : State) (p : Nat) (x : Port) : (s.setPort p x).mesh = s.mesh := rfl
@[simp] theorem State.setPort_rim (s : State) (p : Nat) (x : Port) : (s.setPort p x).rim = s.rim := rfl
@[simp] theorem State.setPort_hops (s : State) (p : Nat) (x : Port) : (s.setPort p x).hops = s.hops := rfl
@[simp] theorem State.setPort_barriers (s : State) (p : Nat) (x : Port) : (s.setPort p x).barriers = s.barriers := rfl
@[simp] theorem State.setPort_gates (s : State) (p : Nat) (x : Port) : (s.setPort p x).gates = s.gates := rfl
@[simp] theorem State.setPort_stack (s : State) (p : Nat) (x : Port) : (s.setPort p x).stack = s.stack := rfl
@[simp] theorem State.setPort_stackUe (s : State) (p : Nat) (x : Port) : (s.setPort p x).stackUe = s.stackUe := rfl
@[simp] theorem State.setPort_blvd (s : State) (p : Nat) (x : Port) : (s.setPort p x).blvd = s.blvd := rfl
@[simp] theorem State.setPort_upd (s : State) (p : Nat) (x : Port) : (s.setPort p x).upd = s.upd := rfl
@[simp] theorem State.setPort_group (s : State) (p : Nat) (x : Port) : (s.setPort p x).group = s.group := rfl
@[simp] theorem State.setPort_assembling (s : State) (p : Nat) (x : Port) : (s.setPort p x).assembling = s.assembling := rfl
@[simp] theorem State.setPort_reductions (s : State) (p : Nat) (x : Port) : (s.setPort p x).reductions = s.reductions := rfl
@[simp] theorem State.setPort_host (s : State) (p : Nat) (x : Port) : (s.setPort p x).host = s.host := rfl
@[simp] theorem State.setPort_hostRegs (s : State) (p : Nat) (x : Port) : (s.setPort p x).hostRegs = s.hostRegs := rfl
@[simp] theorem State.setPort_pwr (s : State) (p : Nat) (x : Port) : (s.setPort p x).pwr = s.pwr := rfl
@[simp] theorem State.setPort_dawn (s : State) (p : Nat) (x : Port) : (s.setPort p x).dawn = s.dawn := rfl
@[simp] theorem State.setPort_images (s : State) (p : Nat) (x : Port) : (s.setPort p x).images = s.images := rfl
@[simp] theorem State.setPort_sector (s : State) (p : Nat) (x : Port) : (s.setPort p x).sector = s.sector := rfl
@[simp] theorem State.setPort_ctl (s : State) (p : Nat) (x : Port) : (s.setPort p x).ctl = s.ctl := rfl
@[simp] theorem State.setPort_log (s : State) (p : Nat) (x : Port) : (s.setPort p x).log = s.log := rfl
@[simp] theorem State.setPort_tst (s : State) (p : Nat) (x : Port) : (s.setPort p x).tst = s.tst := rfl
@[simp] theorem State.setPort_free (s : State) (p : Nat) (x : Port) : (s.setPort p x).free = s.free := rfl
@[simp] theorem State.setPort_out (s : State) (p : Nat) (x : Port) : (s.setPort p x).out = s.out := rfl
@[simp] theorem State.setPort_pending (s : State) (p : Nat) (x : Port) : (s.setPort p x).pending = s.pending := rfl

@[simp] theorem State.setHost_clk (s : State) (p : Nat) (x : HostPort) : (s.setHost p x).clk = s.clk := rfl
@[simp] theorem State.setHost_frm (s : State) (p : Nat) (x : HostPort) : (s.setHost p x).frm = s.frm := rfl
@[simp] theorem State.setHost_map (s : State) (p : Nat) (x : HostPort) : (s.setHost p x).map = s.map := rfl
@[simp] theorem State.setHost_mapNext (s : State) (p : Nat) (x : HostPort) : (s.setHost p x).mapNext = s.mapNext := rfl
@[simp] theorem State.setHost_mapDirty (s : State) (p : Nat) (x : HostPort) : (s.setHost p x).mapDirty = s.mapDirty := rfl
@[simp] theorem State.setHost_plan (s : State) (p : Nat) (x : HostPort) : (s.setHost p x).plan = s.plan := rfl
@[simp] theorem State.setHost_err (s : State) (p : Nat) (x : HostPort) : (s.setHost p x).err = s.err := rfl
@[simp] theorem State.setHost_num (s : State) (p : Nat) (x : HostPort) : (s.setHost p x).num = s.num := rfl
@[simp] theorem State.setHost_setAt (s : State) (p : Nat) (x : HostPort) : (s.setHost p x).setAt = s.setAt := rfl
@[simp] theorem State.setHost_numNow (s : State) (p : Nat) (x : HostPort) : (s.setHost p x).numNow = s.numNow := rfl
@[simp] theorem State.setHost_tiles (s : State) (p : Nat) (x : HostPort) : (s.setHost p x).tiles = s.tiles := rfl
@[simp] theorem State.setHost_regions (s : State) (p : Nat) (x : HostPort) : (s.setHost p x).regions = s.regions := rfl
@[simp] theorem State.setHost_mesh (s : State) (p : Nat) (x : HostPort) : (s.setHost p x).mesh = s.mesh := rfl
@[simp] theorem State.setHost_rim (s : State) (p : Nat) (x : HostPort) : (s.setHost p x).rim = s.rim := rfl
@[simp] theorem State.setHost_hops (s : State) (p : Nat) (x : HostPort) : (s.setHost p x).hops = s.hops := rfl
@[simp] theorem State.setHost_barriers (s : State) (p : Nat) (x : HostPort) : (s.setHost p x).barriers = s.barriers := rfl
@[simp] theorem State.setHost_gates (s : State) (p : Nat) (x : HostPort) : (s.setHost p x).gates = s.gates := rfl
@[simp] theorem State.setHost_stack (s : State) (p : Nat) (x : HostPort) : (s.setHost p x).stack = s.stack := rfl
@[simp] theorem State.setHost_stackUe (s : State) (p : Nat) (x : HostPort) : (s.setHost p x).stackUe = s.stackUe := rfl
@[simp] theorem State.setHost_blvd (s : State) (p : Nat) (x : HostPort) : (s.setHost p x).blvd = s.blvd := rfl
@[simp] theorem State.setHost_upd (s : State) (p : Nat) (x : HostPort) : (s.setHost p x).upd = s.upd := rfl
@[simp] theorem State.setHost_ports (s : State) (p : Nat) (x : HostPort) : (s.setHost p x).ports = s.ports := rfl
@[simp] theorem State.setHost_group (s : State) (p : Nat) (x : HostPort) : (s.setHost p x).group = s.group := rfl
@[simp] theorem State.setHost_assembling (s : State) (p : Nat) (x : HostPort) : (s.setHost p x).assembling = s.assembling := rfl
@[simp] theorem State.setHost_reductions (s : State) (p : Nat) (x : HostPort) : (s.setHost p x).reductions = s.reductions := rfl
@[simp] theorem State.setHost_hostRegs (s : State) (p : Nat) (x : HostPort) : (s.setHost p x).hostRegs = s.hostRegs := rfl
@[simp] theorem State.setHost_pwr (s : State) (p : Nat) (x : HostPort) : (s.setHost p x).pwr = s.pwr := rfl
@[simp] theorem State.setHost_dawn (s : State) (p : Nat) (x : HostPort) : (s.setHost p x).dawn = s.dawn := rfl
@[simp] theorem State.setHost_images (s : State) (p : Nat) (x : HostPort) : (s.setHost p x).images = s.images := rfl
@[simp] theorem State.setHost_sector (s : State) (p : Nat) (x : HostPort) : (s.setHost p x).sector = s.sector := rfl
@[simp] theorem State.setHost_ctl (s : State) (p : Nat) (x : HostPort) : (s.setHost p x).ctl = s.ctl := rfl
@[simp] theorem State.setHost_log (s : State) (p : Nat) (x : HostPort) : (s.setHost p x).log = s.log := rfl
@[simp] theorem State.setHost_tst (s : State) (p : Nat) (x : HostPort) : (s.setHost p x).tst = s.tst := rfl
@[simp] theorem State.setHost_free (s : State) (p : Nat) (x : HostPort) : (s.setHost p x).free = s.free := rfl
@[simp] theorem State.setHost_out (s : State) (p : Nat) (x : HostPort) : (s.setHost p x).out = s.out := rfl
@[simp] theorem State.setHost_pending (s : State) (p : Nat) (x : HostPort) : (s.setHost p x).pending = s.pending := rfl

@[simp] theorem State.setUnit_clk (s : State) (g : Nat) (x : UpdUnit) : (s.setUnit g x).clk = s.clk := rfl
@[simp] theorem State.setUnit_frm (s : State) (g : Nat) (x : UpdUnit) : (s.setUnit g x).frm = s.frm := rfl
@[simp] theorem State.setUnit_map (s : State) (g : Nat) (x : UpdUnit) : (s.setUnit g x).map = s.map := rfl
@[simp] theorem State.setUnit_mapNext (s : State) (g : Nat) (x : UpdUnit) : (s.setUnit g x).mapNext = s.mapNext := rfl
@[simp] theorem State.setUnit_mapDirty (s : State) (g : Nat) (x : UpdUnit) : (s.setUnit g x).mapDirty = s.mapDirty := rfl
@[simp] theorem State.setUnit_plan (s : State) (g : Nat) (x : UpdUnit) : (s.setUnit g x).plan = s.plan := rfl
@[simp] theorem State.setUnit_err (s : State) (g : Nat) (x : UpdUnit) : (s.setUnit g x).err = s.err := rfl
@[simp] theorem State.setUnit_num (s : State) (g : Nat) (x : UpdUnit) : (s.setUnit g x).num = s.num := rfl
@[simp] theorem State.setUnit_setAt (s : State) (g : Nat) (x : UpdUnit) : (s.setUnit g x).setAt = s.setAt := rfl
@[simp] theorem State.setUnit_numNow (s : State) (g : Nat) (x : UpdUnit) : (s.setUnit g x).numNow = s.numNow := rfl
@[simp] theorem State.setUnit_tiles (s : State) (g : Nat) (x : UpdUnit) : (s.setUnit g x).tiles = s.tiles := rfl
@[simp] theorem State.setUnit_regions (s : State) (g : Nat) (x : UpdUnit) : (s.setUnit g x).regions = s.regions := rfl
@[simp] theorem State.setUnit_mesh (s : State) (g : Nat) (x : UpdUnit) : (s.setUnit g x).mesh = s.mesh := rfl
@[simp] theorem State.setUnit_rim (s : State) (g : Nat) (x : UpdUnit) : (s.setUnit g x).rim = s.rim := rfl
@[simp] theorem State.setUnit_hops (s : State) (g : Nat) (x : UpdUnit) : (s.setUnit g x).hops = s.hops := rfl
@[simp] theorem State.setUnit_barriers (s : State) (g : Nat) (x : UpdUnit) : (s.setUnit g x).barriers = s.barriers := rfl
@[simp] theorem State.setUnit_gates (s : State) (g : Nat) (x : UpdUnit) : (s.setUnit g x).gates = s.gates := rfl
@[simp] theorem State.setUnit_stack (s : State) (g : Nat) (x : UpdUnit) : (s.setUnit g x).stack = s.stack := rfl
@[simp] theorem State.setUnit_stackUe (s : State) (g : Nat) (x : UpdUnit) : (s.setUnit g x).stackUe = s.stackUe := rfl
@[simp] theorem State.setUnit_blvd (s : State) (g : Nat) (x : UpdUnit) : (s.setUnit g x).blvd = s.blvd := rfl
@[simp] theorem State.setUnit_ports (s : State) (g : Nat) (x : UpdUnit) : (s.setUnit g x).ports = s.ports := rfl
@[simp] theorem State.setUnit_group (s : State) (g : Nat) (x : UpdUnit) : (s.setUnit g x).group = s.group := rfl
@[simp] theorem State.setUnit_assembling (s : State) (g : Nat) (x : UpdUnit) : (s.setUnit g x).assembling = s.assembling := rfl
@[simp] theorem State.setUnit_reductions (s : State) (g : Nat) (x : UpdUnit) : (s.setUnit g x).reductions = s.reductions := rfl
@[simp] theorem State.setUnit_host (s : State) (g : Nat) (x : UpdUnit) : (s.setUnit g x).host = s.host := rfl
@[simp] theorem State.setUnit_hostRegs (s : State) (g : Nat) (x : UpdUnit) : (s.setUnit g x).hostRegs = s.hostRegs := rfl
@[simp] theorem State.setUnit_pwr (s : State) (g : Nat) (x : UpdUnit) : (s.setUnit g x).pwr = s.pwr := rfl
@[simp] theorem State.setUnit_dawn (s : State) (g : Nat) (x : UpdUnit) : (s.setUnit g x).dawn = s.dawn := rfl
@[simp] theorem State.setUnit_images (s : State) (g : Nat) (x : UpdUnit) : (s.setUnit g x).images = s.images := rfl
@[simp] theorem State.setUnit_sector (s : State) (g : Nat) (x : UpdUnit) : (s.setUnit g x).sector = s.sector := rfl
@[simp] theorem State.setUnit_ctl (s : State) (g : Nat) (x : UpdUnit) : (s.setUnit g x).ctl = s.ctl := rfl
@[simp] theorem State.setUnit_log (s : State) (g : Nat) (x : UpdUnit) : (s.setUnit g x).log = s.log := rfl
@[simp] theorem State.setUnit_tst (s : State) (g : Nat) (x : UpdUnit) : (s.setUnit g x).tst = s.tst := rfl
@[simp] theorem State.setUnit_free (s : State) (g : Nat) (x : UpdUnit) : (s.setUnit g x).free = s.free := rfl
@[simp] theorem State.setUnit_out (s : State) (g : Nat) (x : UpdUnit) : (s.setUnit g x).out = s.out := rfl
@[simp] theorem State.setUnit_pending (s : State) (g : Nat) (x : UpdUnit) : (s.setUnit g x).pending = s.pending := rfl

@[simp] theorem State.emit_clk (s : State) (o : Out) : (s.emit o).clk = s.clk := rfl
@[simp] theorem State.emit_frm (s : State) (o : Out) : (s.emit o).frm = s.frm := rfl
@[simp] theorem State.emit_map (s : State) (o : Out) : (s.emit o).map = s.map := rfl
@[simp] theorem State.emit_mapNext (s : State) (o : Out) : (s.emit o).mapNext = s.mapNext := rfl
@[simp] theorem State.emit_mapDirty (s : State) (o : Out) : (s.emit o).mapDirty = s.mapDirty := rfl
@[simp] theorem State.emit_plan (s : State) (o : Out) : (s.emit o).plan = s.plan := rfl
@[simp] theorem State.emit_err (s : State) (o : Out) : (s.emit o).err = s.err := rfl
@[simp] theorem State.emit_num (s : State) (o : Out) : (s.emit o).num = s.num := rfl
@[simp] theorem State.emit_setAt (s : State) (o : Out) : (s.emit o).setAt = s.setAt := rfl
@[simp] theorem State.emit_numNow (s : State) (o : Out) : (s.emit o).numNow = s.numNow := rfl
@[simp] theorem State.emit_tiles (s : State) (o : Out) : (s.emit o).tiles = s.tiles := rfl
@[simp] theorem State.emit_regions (s : State) (o : Out) : (s.emit o).regions = s.regions := rfl
@[simp] theorem State.emit_mesh (s : State) (o : Out) : (s.emit o).mesh = s.mesh := rfl
@[simp] theorem State.emit_rim (s : State) (o : Out) : (s.emit o).rim = s.rim := rfl
@[simp] theorem State.emit_hops (s : State) (o : Out) : (s.emit o).hops = s.hops := rfl
@[simp] theorem State.emit_barriers (s : State) (o : Out) : (s.emit o).barriers = s.barriers := rfl
@[simp] theorem State.emit_gates (s : State) (o : Out) : (s.emit o).gates = s.gates := rfl
@[simp] theorem State.emit_stack (s : State) (o : Out) : (s.emit o).stack = s.stack := rfl
@[simp] theorem State.emit_stackUe (s : State) (o : Out) : (s.emit o).stackUe = s.stackUe := rfl
@[simp] theorem State.emit_blvd (s : State) (o : Out) : (s.emit o).blvd = s.blvd := rfl
@[simp] theorem State.emit_upd (s : State) (o : Out) : (s.emit o).upd = s.upd := rfl
@[simp] theorem State.emit_ports (s : State) (o : Out) : (s.emit o).ports = s.ports := rfl
@[simp] theorem State.emit_group (s : State) (o : Out) : (s.emit o).group = s.group := rfl
@[simp] theorem State.emit_assembling (s : State) (o : Out) : (s.emit o).assembling = s.assembling := rfl
@[simp] theorem State.emit_reductions (s : State) (o : Out) : (s.emit o).reductions = s.reductions := rfl
@[simp] theorem State.emit_host (s : State) (o : Out) : (s.emit o).host = s.host := rfl
@[simp] theorem State.emit_hostRegs (s : State) (o : Out) : (s.emit o).hostRegs = s.hostRegs := rfl
@[simp] theorem State.emit_pwr (s : State) (o : Out) : (s.emit o).pwr = s.pwr := rfl
@[simp] theorem State.emit_dawn (s : State) (o : Out) : (s.emit o).dawn = s.dawn := rfl
@[simp] theorem State.emit_images (s : State) (o : Out) : (s.emit o).images = s.images := rfl
@[simp] theorem State.emit_sector (s : State) (o : Out) : (s.emit o).sector = s.sector := rfl
@[simp] theorem State.emit_ctl (s : State) (o : Out) : (s.emit o).ctl = s.ctl := rfl
@[simp] theorem State.emit_log (s : State) (o : Out) : (s.emit o).log = s.log := rfl
@[simp] theorem State.emit_tst (s : State) (o : Out) : (s.emit o).tst = s.tst := rfl
@[simp] theorem State.emit_free (s : State) (o : Out) : (s.emit o).free = s.free := rfl
@[simp] theorem State.emit_pending (s : State) (o : Out) : (s.emit o).pending = s.pending := rfl

@[simp] theorem State.useFree_clk (s : State) : (s.useFree).clk = s.clk := rfl
@[simp] theorem State.useFree_frm (s : State) : (s.useFree).frm = s.frm := rfl
@[simp] theorem State.useFree_map (s : State) : (s.useFree).map = s.map := rfl
@[simp] theorem State.useFree_mapNext (s : State) : (s.useFree).mapNext = s.mapNext := rfl
@[simp] theorem State.useFree_mapDirty (s : State) : (s.useFree).mapDirty = s.mapDirty := rfl
@[simp] theorem State.useFree_plan (s : State) : (s.useFree).plan = s.plan := rfl
@[simp] theorem State.useFree_err (s : State) : (s.useFree).err = s.err := rfl
@[simp] theorem State.useFree_num (s : State) : (s.useFree).num = s.num := rfl
@[simp] theorem State.useFree_setAt (s : State) : (s.useFree).setAt = s.setAt := rfl
@[simp] theorem State.useFree_numNow (s : State) : (s.useFree).numNow = s.numNow := rfl
@[simp] theorem State.useFree_tiles (s : State) : (s.useFree).tiles = s.tiles := rfl
@[simp] theorem State.useFree_regions (s : State) : (s.useFree).regions = s.regions := rfl
@[simp] theorem State.useFree_mesh (s : State) : (s.useFree).mesh = s.mesh := rfl
@[simp] theorem State.useFree_rim (s : State) : (s.useFree).rim = s.rim := rfl
@[simp] theorem State.useFree_hops (s : State) : (s.useFree).hops = s.hops := rfl
@[simp] theorem State.useFree_barriers (s : State) : (s.useFree).barriers = s.barriers := rfl
@[simp] theorem State.useFree_gates (s : State) : (s.useFree).gates = s.gates := rfl
@[simp] theorem State.useFree_stack (s : State) : (s.useFree).stack = s.stack := rfl
@[simp] theorem State.useFree_stackUe (s : State) : (s.useFree).stackUe = s.stackUe := rfl
@[simp] theorem State.useFree_blvd (s : State) : (s.useFree).blvd = s.blvd := rfl
@[simp] theorem State.useFree_upd (s : State) : (s.useFree).upd = s.upd := rfl
@[simp] theorem State.useFree_ports (s : State) : (s.useFree).ports = s.ports := rfl
@[simp] theorem State.useFree_group (s : State) : (s.useFree).group = s.group := rfl
@[simp] theorem State.useFree_assembling (s : State) : (s.useFree).assembling = s.assembling := rfl
@[simp] theorem State.useFree_reductions (s : State) : (s.useFree).reductions = s.reductions := rfl
@[simp] theorem State.useFree_host (s : State) : (s.useFree).host = s.host := rfl
@[simp] theorem State.useFree_hostRegs (s : State) : (s.useFree).hostRegs = s.hostRegs := rfl
@[simp] theorem State.useFree_pwr (s : State) : (s.useFree).pwr = s.pwr := rfl
@[simp] theorem State.useFree_dawn (s : State) : (s.useFree).dawn = s.dawn := rfl
@[simp] theorem State.useFree_images (s : State) : (s.useFree).images = s.images := rfl
@[simp] theorem State.useFree_sector (s : State) : (s.useFree).sector = s.sector := rfl
@[simp] theorem State.useFree_ctl (s : State) : (s.useFree).ctl = s.ctl := rfl
@[simp] theorem State.useFree_log (s : State) : (s.useFree).log = s.log := rfl
@[simp] theorem State.useFree_tst (s : State) : (s.useFree).tst = s.tst := rfl
@[simp] theorem State.useFree_out (s : State) : (s.useFree).out = s.out := rfl
@[simp] theorem State.useFree_pending (s : State) : (s.useFree).pending = s.pending := rfl

@[simp] theorem State.addFlags_clk (s : State) (f : Status) : (s.addFlags f).clk = s.clk := rfl
@[simp] theorem State.addFlags_frm (s : State) (f : Status) : (s.addFlags f).frm = s.frm := rfl
@[simp] theorem State.addFlags_map (s : State) (f : Status) : (s.addFlags f).map = s.map := rfl
@[simp] theorem State.addFlags_mapNext (s : State) (f : Status) : (s.addFlags f).mapNext = s.mapNext := rfl
@[simp] theorem State.addFlags_mapDirty (s : State) (f : Status) : (s.addFlags f).mapDirty = s.mapDirty := rfl
@[simp] theorem State.addFlags_plan (s : State) (f : Status) : (s.addFlags f).plan = s.plan := rfl
@[simp] theorem State.addFlags_err (s : State) (f : Status) : (s.addFlags f).err = s.err := rfl
@[simp] theorem State.addFlags_num (s : State) (f : Status) : (s.addFlags f).num = s.num := rfl
@[simp] theorem State.addFlags_setAt (s : State) (f : Status) : (s.addFlags f).setAt = s.setAt := rfl
@[simp] theorem State.addFlags_tiles (s : State) (f : Status) : (s.addFlags f).tiles = s.tiles := rfl
@[simp] theorem State.addFlags_regions (s : State) (f : Status) : (s.addFlags f).regions = s.regions := rfl
@[simp] theorem State.addFlags_mesh (s : State) (f : Status) : (s.addFlags f).mesh = s.mesh := rfl
@[simp] theorem State.addFlags_rim (s : State) (f : Status) : (s.addFlags f).rim = s.rim := rfl
@[simp] theorem State.addFlags_hops (s : State) (f : Status) : (s.addFlags f).hops = s.hops := rfl
@[simp] theorem State.addFlags_barriers (s : State) (f : Status) : (s.addFlags f).barriers = s.barriers := rfl
@[simp] theorem State.addFlags_gates (s : State) (f : Status) : (s.addFlags f).gates = s.gates := rfl
@[simp] theorem State.addFlags_stack (s : State) (f : Status) : (s.addFlags f).stack = s.stack := rfl
@[simp] theorem State.addFlags_stackUe (s : State) (f : Status) : (s.addFlags f).stackUe = s.stackUe := rfl
@[simp] theorem State.addFlags_blvd (s : State) (f : Status) : (s.addFlags f).blvd = s.blvd := rfl
@[simp] theorem State.addFlags_upd (s : State) (f : Status) : (s.addFlags f).upd = s.upd := rfl
@[simp] theorem State.addFlags_ports (s : State) (f : Status) : (s.addFlags f).ports = s.ports := rfl
@[simp] theorem State.addFlags_group (s : State) (f : Status) : (s.addFlags f).group = s.group := rfl
@[simp] theorem State.addFlags_assembling (s : State) (f : Status) : (s.addFlags f).assembling = s.assembling := rfl
@[simp] theorem State.addFlags_reductions (s : State) (f : Status) : (s.addFlags f).reductions = s.reductions := rfl
@[simp] theorem State.addFlags_host (s : State) (f : Status) : (s.addFlags f).host = s.host := rfl
@[simp] theorem State.addFlags_hostRegs (s : State) (f : Status) : (s.addFlags f).hostRegs = s.hostRegs := rfl
@[simp] theorem State.addFlags_pwr (s : State) (f : Status) : (s.addFlags f).pwr = s.pwr := rfl
@[simp] theorem State.addFlags_dawn (s : State) (f : Status) : (s.addFlags f).dawn = s.dawn := rfl
@[simp] theorem State.addFlags_images (s : State) (f : Status) : (s.addFlags f).images = s.images := rfl
@[simp] theorem State.addFlags_sector (s : State) (f : Status) : (s.addFlags f).sector = s.sector := rfl
@[simp] theorem State.addFlags_ctl (s : State) (f : Status) : (s.addFlags f).ctl = s.ctl := rfl
@[simp] theorem State.addFlags_log (s : State) (f : Status) : (s.addFlags f).log = s.log := rfl
@[simp] theorem State.addFlags_tst (s : State) (f : Status) : (s.addFlags f).tst = s.tst := rfl
@[simp] theorem State.addFlags_free (s : State) (f : Status) : (s.addFlags f).free = s.free := rfl
@[simp] theorem State.addFlags_out (s : State) (f : Status) : (s.addFlags f).out = s.out := rfl
@[simp] theorem State.addFlags_pending (s : State) (f : Status) : (s.addFlags f).pending = s.pending := rfl

@[simp] theorem State.mapChange_clk (s : State) (c : MapChange) : (s.mapChange c).clk = s.clk := rfl
@[simp] theorem State.mapChange_frm (s : State) (c : MapChange) : (s.mapChange c).frm = s.frm := rfl
@[simp] theorem State.mapChange_map (s : State) (c : MapChange) : (s.mapChange c).map = s.map := rfl
@[simp] theorem State.mapChange_mapDirty (s : State) (c : MapChange) : (s.mapChange c).mapDirty = s.mapDirty := rfl
@[simp] theorem State.mapChange_plan (s : State) (c : MapChange) : (s.mapChange c).plan = s.plan := rfl
@[simp] theorem State.mapChange_err (s : State) (c : MapChange) : (s.mapChange c).err = s.err := rfl
@[simp] theorem State.mapChange_num (s : State) (c : MapChange) : (s.mapChange c).num = s.num := rfl
@[simp] theorem State.mapChange_setAt (s : State) (c : MapChange) : (s.mapChange c).setAt = s.setAt := rfl
@[simp] theorem State.mapChange_numNow (s : State) (c : MapChange) : (s.mapChange c).numNow = s.numNow := rfl
@[simp] theorem State.mapChange_tiles (s : State) (c : MapChange) : (s.mapChange c).tiles = s.tiles := rfl
@[simp] theorem State.mapChange_regions (s : State) (c : MapChange) : (s.mapChange c).regions = s.regions := rfl
@[simp] theorem State.mapChange_mesh (s : State) (c : MapChange) : (s.mapChange c).mesh = s.mesh := rfl
@[simp] theorem State.mapChange_rim (s : State) (c : MapChange) : (s.mapChange c).rim = s.rim := rfl
@[simp] theorem State.mapChange_hops (s : State) (c : MapChange) : (s.mapChange c).hops = s.hops := rfl
@[simp] theorem State.mapChange_barriers (s : State) (c : MapChange) : (s.mapChange c).barriers = s.barriers := rfl
@[simp] theorem State.mapChange_gates (s : State) (c : MapChange) : (s.mapChange c).gates = s.gates := rfl
@[simp] theorem State.mapChange_stack (s : State) (c : MapChange) : (s.mapChange c).stack = s.stack := rfl
@[simp] theorem State.mapChange_stackUe (s : State) (c : MapChange) : (s.mapChange c).stackUe = s.stackUe := rfl
@[simp] theorem State.mapChange_blvd (s : State) (c : MapChange) : (s.mapChange c).blvd = s.blvd := rfl
@[simp] theorem State.mapChange_upd (s : State) (c : MapChange) : (s.mapChange c).upd = s.upd := rfl
@[simp] theorem State.mapChange_ports (s : State) (c : MapChange) : (s.mapChange c).ports = s.ports := rfl
@[simp] theorem State.mapChange_group (s : State) (c : MapChange) : (s.mapChange c).group = s.group := rfl
@[simp] theorem State.mapChange_assembling (s : State) (c : MapChange) : (s.mapChange c).assembling = s.assembling := rfl
@[simp] theorem State.mapChange_reductions (s : State) (c : MapChange) : (s.mapChange c).reductions = s.reductions := rfl
@[simp] theorem State.mapChange_host (s : State) (c : MapChange) : (s.mapChange c).host = s.host := rfl
@[simp] theorem State.mapChange_hostRegs (s : State) (c : MapChange) : (s.mapChange c).hostRegs = s.hostRegs := rfl
@[simp] theorem State.mapChange_pwr (s : State) (c : MapChange) : (s.mapChange c).pwr = s.pwr := rfl
@[simp] theorem State.mapChange_dawn (s : State) (c : MapChange) : (s.mapChange c).dawn = s.dawn := rfl
@[simp] theorem State.mapChange_images (s : State) (c : MapChange) : (s.mapChange c).images = s.images := rfl
@[simp] theorem State.mapChange_sector (s : State) (c : MapChange) : (s.mapChange c).sector = s.sector := rfl
@[simp] theorem State.mapChange_ctl (s : State) (c : MapChange) : (s.mapChange c).ctl = s.ctl := rfl
@[simp] theorem State.mapChange_log (s : State) (c : MapChange) : (s.mapChange c).log = s.log := rfl
@[simp] theorem State.mapChange_tst (s : State) (c : MapChange) : (s.mapChange c).tst = s.tst := rfl
@[simp] theorem State.mapChange_free (s : State) (c : MapChange) : (s.mapChange c).free = s.free := rfl
@[simp] theorem State.mapChange_out (s : State) (c : MapChange) : (s.mapChange c).out = s.out := rfl
@[simp] theorem State.mapChange_pending (s : State) (c : MapChange) : (s.mapChange c).pending = s.pending := rfl

@[simp] theorem State.setRing_clk (s : State) (g r : Nat) (x : Ring) : (s.setRing g r x).clk = s.clk := rfl
@[simp] theorem State.setRing_frm (s : State) (g r : Nat) (x : Ring) : (s.setRing g r x).frm = s.frm := rfl
@[simp] theorem State.setRing_map (s : State) (g r : Nat) (x : Ring) : (s.setRing g r x).map = s.map := rfl
@[simp] theorem State.setRing_mapNext (s : State) (g r : Nat) (x : Ring) : (s.setRing g r x).mapNext = s.mapNext := rfl
@[simp] theorem State.setRing_mapDirty (s : State) (g r : Nat) (x : Ring) : (s.setRing g r x).mapDirty = s.mapDirty := rfl
@[simp] theorem State.setRing_plan (s : State) (g r : Nat) (x : Ring) : (s.setRing g r x).plan = s.plan := rfl
@[simp] theorem State.setRing_err (s : State) (g r : Nat) (x : Ring) : (s.setRing g r x).err = s.err := rfl
@[simp] theorem State.setRing_num (s : State) (g r : Nat) (x : Ring) : (s.setRing g r x).num = s.num := rfl
@[simp] theorem State.setRing_setAt (s : State) (g r : Nat) (x : Ring) : (s.setRing g r x).setAt = s.setAt := rfl
@[simp] theorem State.setRing_numNow (s : State) (g r : Nat) (x : Ring) : (s.setRing g r x).numNow = s.numNow := rfl
@[simp] theorem State.setRing_tiles (s : State) (g r : Nat) (x : Ring) : (s.setRing g r x).tiles = s.tiles := rfl
@[simp] theorem State.setRing_regions (s : State) (g r : Nat) (x : Ring) : (s.setRing g r x).regions = s.regions := rfl
@[simp] theorem State.setRing_mesh (s : State) (g r : Nat) (x : Ring) : (s.setRing g r x).mesh = s.mesh := rfl
@[simp] theorem State.setRing_rim (s : State) (g r : Nat) (x : Ring) : (s.setRing g r x).rim = s.rim := rfl
@[simp] theorem State.setRing_hops (s : State) (g r : Nat) (x : Ring) : (s.setRing g r x).hops = s.hops := rfl
@[simp] theorem State.setRing_barriers (s : State) (g r : Nat) (x : Ring) : (s.setRing g r x).barriers = s.barriers := rfl
@[simp] theorem State.setRing_stack (s : State) (g r : Nat) (x : Ring) : (s.setRing g r x).stack = s.stack := rfl
@[simp] theorem State.setRing_stackUe (s : State) (g r : Nat) (x : Ring) : (s.setRing g r x).stackUe = s.stackUe := rfl
@[simp] theorem State.setRing_blvd (s : State) (g r : Nat) (x : Ring) : (s.setRing g r x).blvd = s.blvd := rfl
@[simp] theorem State.setRing_upd (s : State) (g r : Nat) (x : Ring) : (s.setRing g r x).upd = s.upd := rfl
@[simp] theorem State.setRing_ports (s : State) (g r : Nat) (x : Ring) : (s.setRing g r x).ports = s.ports := rfl
@[simp] theorem State.setRing_group (s : State) (g r : Nat) (x : Ring) : (s.setRing g r x).group = s.group := rfl
@[simp] theorem State.setRing_assembling (s : State) (g r : Nat) (x : Ring) : (s.setRing g r x).assembling = s.assembling := rfl
@[simp] theorem State.setRing_reductions (s : State) (g r : Nat) (x : Ring) : (s.setRing g r x).reductions = s.reductions := rfl
@[simp] theorem State.setRing_host (s : State) (g r : Nat) (x : Ring) : (s.setRing g r x).host = s.host := rfl
@[simp] theorem State.setRing_hostRegs (s : State) (g r : Nat) (x : Ring) : (s.setRing g r x).hostRegs = s.hostRegs := rfl
@[simp] theorem State.setRing_pwr (s : State) (g r : Nat) (x : Ring) : (s.setRing g r x).pwr = s.pwr := rfl
@[simp] theorem State.setRing_dawn (s : State) (g r : Nat) (x : Ring) : (s.setRing g r x).dawn = s.dawn := rfl
@[simp] theorem State.setRing_images (s : State) (g r : Nat) (x : Ring) : (s.setRing g r x).images = s.images := rfl
@[simp] theorem State.setRing_sector (s : State) (g r : Nat) (x : Ring) : (s.setRing g r x).sector = s.sector := rfl
@[simp] theorem State.setRing_ctl (s : State) (g r : Nat) (x : Ring) : (s.setRing g r x).ctl = s.ctl := rfl
@[simp] theorem State.setRing_log (s : State) (g r : Nat) (x : Ring) : (s.setRing g r x).log = s.log := rfl
@[simp] theorem State.setRing_tst (s : State) (g r : Nat) (x : Ring) : (s.setRing g r x).tst = s.tst := rfl
@[simp] theorem State.setRing_free (s : State) (g r : Nat) (x : Ring) : (s.setRing g r x).free = s.free := rfl
@[simp] theorem State.setRing_out (s : State) (g r : Nat) (x : Ring) : (s.setRing g r x).out = s.out := rfl
@[simp] theorem State.setRing_pending (s : State) (g r : Nat) (x : Ring) : (s.setRing g r x).pending = s.pending := rfl

@[simp] theorem State.emit_out (s : State) (o : Out) : (s.emit o).out = s.out ++ [o] := rfl
@[simp] theorem State.useFree_free (s : State) : s.useFree.free = s.free + 1 := rfl
@[simp] theorem State.addFlags_numNow (s : State) (f : Status) : (s.addFlags f).numNow = s.numNow ||| f.visible := rfl
@[simp] theorem State.mapChange_mapNext (s : State) (c : MapChange) : (s.mapChange c).mapNext = s.mapNext ++ [c] := rfl

/-! ## Accessors after the updates -/

@[simp] theorem State.getTile_setTile (s : State) (k : Nat) (x : Tile) : (s.setTile k x).getTile k = x := by
  simp [State.getTile, State.setTile]
theorem State.getTile_setTile_ne (s : State) (x : Tile) (k j : Nat) (h : j ≠ k) : (s.setTile k x).getTile j = s.getTile j := by
  simp [State.getTile, State.setTile, h]
@[simp] theorem State.region_setRegion (s : State) (k : Nat) (x : Region) : (s.setRegion k x).region k = x := by
  simp [State.region, State.setRegion]
theorem State.region_setRegion_ne (s : State) (x : Region) (k j : Nat) (h : j ≠ k) : (s.setRegion k x).region j = s.region j := by
  simp [State.region, State.setRegion, h]
@[simp] theorem State.gate_setGate (s : State) (k : Nat) (x : Gate) : (s.setGate k x).gate k = x := by
  simp [State.gate, State.setGate]
theorem State.gate_setGate_ne (s : State) (x : Gate) (k j : Nat) (h : j ≠ k) : (s.setGate k x).gate j = s.gate j := by
  simp [State.gate, State.setGate, h]
@[simp] theorem State.unit_setUnit (s : State) (k : Nat) (x : UpdUnit) : (s.setUnit k x).unit k = x := by
  simp [State.unit, State.setUnit]
theorem State.unit_setUnit_ne (s : State) (x : UpdUnit) (k j : Nat) (h : j ≠ k) : (s.setUnit k x).unit j = s.unit j := by
  simp [State.unit, State.setUnit, h]
theorem State.port_setPort (s : State) (k : Nat) (x : Port) (h : k < 16) : (s.setPort k x).port k = x := by
  simp [State.port, State.setPort, h]
theorem State.port_setPort_ne (s : State) (x : Port) (k j : Nat) (h : j ≠ k) : (s.setPort k x).port j = s.port j := by
  simp [State.port, State.setPort, h]
theorem State.hostPort_setHost (s : State) (k : Nat) (x : HostPort) (h : k < 2) : (s.setHost k x).hostPort k = x := by
  simp [State.hostPort, State.setHost, h]
theorem State.hostPort_setHost_ne (s : State) (x : HostPort) (k j : Nat) (h : j ≠ k) :
    (s.setHost k x).hostPort j = s.hostPort j := by
  simp [State.hostPort, State.setHost, h]
@[simp] theorem State.ring_setRing (s : State) (g r : Nat) (x : Ring) : (s.setRing g r x).ring g r = x := by
  simp [State.ring, State.setRing, Gate.ring, Gate.setRing]
theorem State.ring_setRing_ne (s : State) (x : Ring) (g r k j : Nat) (h : k ≠ g ∨ j ≠ r) :
    (s.setRing g r x).ring k j = s.ring k j := by
  by_cases hk : k = g
  · subst hk
    have hj : j ≠ r := by simpa using h
    simp [State.ring, State.setRing, Gate.ring, Gate.setRing, hj]
  · simp [State.ring, State.setRing, State.gate_setGate_ne, hk]
theorem State.gate_setRing_ne (s : State) (x : Ring) (g r k : Nat) (h : k ≠ g) : (s.setRing g r x).gate k = s.gate k := by
  simp [State.setRing, State.gate_setGate_ne, h]

/-! ## Data that the accessors do not depend on -/

theorem State.getTile_congr (s u : State) (t : Nat) (h : u.tiles = s.tiles) : u.getTile t = s.getTile t := by
  simp only [State.getTile, h]
theorem State.region_congr (s u : State) (r : Nat) (h : u.regions = s.regions) : u.region r = s.region r := by
  simp only [State.region, h]
theorem State.gate_congr (s u : State) (g : Nat) (h : u.gates = s.gates) : u.gate g = s.gate g := by
  simp only [State.gate, h]
theorem State.port_congr (s u : State) (p : Nat) (h : u.ports = s.ports) : u.port p = s.port p := by
  simp only [State.port, h]
theorem State.hostPort_congr (s u : State) (p : Nat) (h : u.host = s.host) : u.hostPort p = s.hostPort p := by
  simp only [State.hostPort, h]

end Sys2Proof.Machine
end

