-- ==== Sys2Proof/Laws/Ops.lean ====
section
/-! SUPPORT. What the shared operations can do, said once: each leaves every field alone but those that its law names. -/

namespace Sys2Proof.Machine

/-! ## Folds -/

/-- A relation that every step of a fold keeps holds of the whole fold. -/
theorem foldl_related {α β : Type} (R : α → α → Prop) (refl : ∀ s, R s s) (trans : ∀ {a b c}, R a b → R b c → R a c)
    (f : α → β → α) (each : ∀ s x, R s (f s x)) (l : List β) (s : α) : R s (l.foldl f s) := by
  induction l generalizing s with
  | nil => exact refl s
  | cons x rest ih => exact trans (each s x) (ih (f s x))

/-! ## Records, logs, vectors -/

/-- An error record changes the frame's records and FAIL only (R443 to R449). -/
theorem State.addError_frame (s : State) (k : ErrKind) (fails : Bool) :
    s.addError k fails = { s with
      err := { s.err with frame := (s.addError k fails).err.frame }
      plan := { s.plan with failNext := s.plan.failNext || (fails && s.runActive) } } := rfl

/-- A failing event fails the step of an active run at the next tick (R449). -/
theorem State.addError_failNext (s : State) (k : ErrKind) (h : s.runActive = true) : (s.addError k true).plan.failNext = true := by
  simp [State.addError, State.addErrorAt, h]

/-- A record of the service log changes nothing but the log (R416). -/
theorem State.logRecord_frame (s : State) (kind : Nat) (data : List Byte) :
    s.logRecord kind data = { s with log := (s.logRecord kind data).log } := rfl

/-- A vector on one port changes its pending bits and what has left the module (R329). -/
theorem State.raiseOn_frame (s : State) (p v : Nat) :
    s.raiseOn p v = { s with host := (s.raiseOn p v).host, out := (s.raiseOn p v).out } := by
  unfold State.raiseOn
  dsimp only
  split
  · rfl
  · split <;> rfl

/-- A vector changes pending bits and what has left the module (R329). -/
theorem State.raiseVector_frame (s : State) (v : Nat) :
    s.raiseVector v = { s with host := (s.raiseVector v).host, out := (s.raiseVector v).out } := by
  unfold State.raiseVector
  split
  · exact s.raiseOn_frame _ v
  · rw [State.raiseOn_frame (s.raiseOn 0 v) 1 v, State.raiseOn_frame s 0 v]

/-- Pending messages that leave change the port's pending bits and what has left the module (R329). -/
theorem State.sendPending_frame (s : State) (p : Nat) :
    s.sendPending p = { s with host := (s.sendPending p).host, out := (s.sendPending p).out } := by
  have each := foldl_related (fun a b : State => b = { a with out := b.out }) (fun _ => rfl)
    (fun h k => by rw [k, h]) (fun (a : State) v => a.emit (.msix p v)) (fun _ _ => rfl)
    ((s.hostPort p).pba.filter (s.hostPort p).canSend)
    (s.setHost p { s.hostPort p with pba := (s.hostPort p).pba.filter fun v => !(s.hostPort p).canSend v })
  unfold State.sendPending
  dsimp only
  rw [each]
  rfl

/-- Noting a set bit changes the note only (R16). -/
theorem State.noteSet_frame (s : State) (r : W1cReg) (n : Nat) : s.noteSet r n = { s with setAt := (s.noteSet r n).setAt } := rfl

/-- A bit that software's write clears was written 1 and was not set in the same cycle (R14, R16). -/
theorem State.clears_iff (s : State) (r : W1cReg) (n v : Nat) :
    s.clears r n v = true ↔ v / 2 ^ n % 2 = 1 ∧ s.justSet r n = false := by
  simp [State.clears]

/-- A bit set in this cycle is not cleared in it (R16). -/
theorem State.clears_noteSet (s : State) (r : W1cReg) (n v : Nat) : (s.noteSet r n).clears r n v = false := by
  simp [State.clears, State.justSet, State.noteSet, Map.find?_set_self]

/-- A power event changes PWR_EVENTS, the note of its cycle, pending bits and what has left the module (R362). -/
theorem State.powerEvent_frame (s : State) (n : Nat) :
    s.powerEvent n = { s with
      setAt := (s.powerEvent n).setAt
      pwr := { s.pwr with events := (s.powerEvent n).pwr.events }
      host := (s.powerEvent n).host
      out := (s.powerEvent n).out } := by
  unfold State.powerEvent
  dsimp only
  rw [State.noteSet_frame]
  split
  · rw [State.raiseVector_frame]
  · rfl

/-! ## Tiles in time -/

/-- Nothing but tiles, the counters of regions, and the frame's flags and records changes. -/
def State.TilesOnly (s t : State) : Prop :=
  t = { s with
    tiles := t.tiles
    regions := t.regions
    numNow := t.numNow
    err := { s.err with frame := t.err.frame }
    plan := { s.plan with failNext := t.plan.failNext } }

theorem State.TilesOnly.refl (s : State) : s.TilesOnly s := rfl

theorem State.TilesOnly.trans {s t u : State} (h : s.TilesOnly t) (k : t.TilesOnly u) : s.TilesOnly u := by
  unfold State.TilesOnly at *
  rw [k, h]

theorem State.TilesOnly.addErrorAt (s : State) (k : ErrKind) (b : Bool) (c : Nat) : s.TilesOnly (s.addErrorAt k b c) := rfl

/-- What a tile's step reports changes its region's counters, the frame's flags and records (R79, R90, R443). -/
theorem State.TilesOnly.applyNotes (s : State) (t : Nat) (n : Notes) : s.TilesOnly (s.applyNotes t n) := by
  unfold State.applyNotes
  refine State.TilesOnly.trans (t := (s.modRegion (regionOf t) _).addFlags n.flags) rfl
    (foldl_related State.TilesOnly .refl .trans (fun (s : State) e => s.applyEvent t e) (fun s e => ?_) n.events _)
  unfold State.applyEvent
  split <;> exact .addErrorAt s _ _ _

/-- A tile is put back: the tile, and what it reported. -/
theorem State.TilesOnly.putTile (s : State) (t : Nat) (x : Tile) (n : Notes) : s.TilesOnly (s.putTile t x n) :=
  State.TilesOnly.trans (t := s.setTile t x) rfl (.applyNotes _ t n)

/-- Engines that run up to this cycle change tiles and what they report only. -/
theorem State.TilesOnly.syncTile (s : State) (t : Nat) : s.TilesOnly (s.syncTile t) := by
  unfold State.syncTile
  split
  · exact .putTile s t _ _
  · exact .refl s

theorem State.TilesOnly.syncTiles (s : State) : s.TilesOnly s.syncTiles :=
  foldl_related State.TilesOnly .refl .trans _ State.TilesOnly.syncTile _ s

/-- While no spine runs no engine does. -/
theorem State.syncTiles_stopped (s : State) (h : s.coreRuns = false) : s.syncTiles = s := by
  have each : ∀ (l : List Nat) (x : State), x.coreRuns = false → l.foldl State.syncTile x = x := by
    intro l
    induction l with
    | nil => exact fun _ _ => rfl
    | cons t rest ih =>
      intro x hx
      have e : x.syncTile t = x := by simp [State.syncTile, State.tileClocked, hx]
      rw [List.foldl_cons, e, ih x hx]
  exact each _ s h

/-! ## The group -/

/-- LINK_GSTATUS is set as given; a vector may rise (R328). -/
theorem State.linkStatus_frame (s : State) (n : Nat) (f : Group → Group) :
    s.linkStatus n f = { s with
      setAt := (s.linkStatus n f).setAt
      group := f s.group
      host := (s.linkStatus n f).host
      out := (s.linkStatus n f).out } := by
  unfold State.linkStatus
  dsimp only
  rw [State.noteSet_frame]
  split
  · rw [State.raiseVector_frame]
  · rfl

/-- A message is put into a queue of one port (R295). -/
theorem State.sendMsg_frame (s : State) (p : Nat) (m : SyncMsg) : s.sendMsg p m = { s with ports := (s.sendMsg p m).ports } := rfl

/-- A flooded message is remembered and put into queues of ports (R295). -/
theorem State.flood_frame (s : State) (m : SyncMsg) (skip : Option Nat) :
    s.flood m skip = { s with group := s.group.remember m, ports := (s.flood m skip).ports } := by
  unfold State.flood
  dsimp only
  rw [foldl_related (fun a b : State => b = { a with ports := b.ports }) (fun _ => rfl) (fun h k => by rw [k, h])
    (fun (a : State) p => a.sendMsg p m) (fun _ _ => rfl)]

/-- ABORT goes to the group's ports, or nothing happens outside a group (R295, R449). -/
theorem State.floodAbort_frame (s : State) (cause : Nat) :
    s.floodAbort cause = { s with group := { s.group with seen := (s.floodAbort cause).group.seen }, ports := (s.floodAbort cause).ports } := by
  unfold State.floodAbort
  split
  · rw [State.flood_frame]; rfl
  · rfl

/-- SYNC_LOST is shown, its step fails, and the group is dissolved (R309). -/
theorem State.detectSyncLost_spec (s : State) :
    s.detectSyncLost.group.syncLost = true ∧ s.detectSyncLost.group.formed = false ∧
      (s.runActive = true → s.detectSyncLost.plan.failNext = true) ∧ s.detectSyncLost.stack = s.stack ∧
      s.detectSyncLost.tiles = s.tiles ∧ s.detectSyncLost.gates = s.gates := by
  unfold State.detectSyncLost
  dsimp only
  rw [State.floodAbort_frame, State.linkStatus_frame]
  refine ⟨rfl, rfl, fun h => ?_, rfl, rfl, rfl⟩
  exact State.addError_failNext s .syncLost h

/-- A message is taken from a port; nothing else changes (R293, R295). -/
theorem State.takeSync_frame (s : State) (p : Nat) (f : Flit) (k kind : Nat) :
    (s.takeSync p f k kind).1 = { s with ports := (s.takeSync p f k kind).1.ports } := by
  unfold State.takeSync
  dsimp only
  split
  · rfl
  · split
    · split
      · rfl
      · split
        · split <;> rfl
        · rfl
    · split <;> rfl

/-- A message that arrives is taken (R293, R295). -/
theorem State.takeSync_arrives {s : State} {p : Nat} {f : Flit} {k kind : Nat} {m : SyncMsg} (h : Arrives s p f k kind m) :
    (s.takeSync p f k kind).2 = some m := by
  have up := h.up
  have body := h.msg
  have room := h.room
  have kindOf := h.kindOf
  rcases h.order with ⟨rfl, good, sync, seq⟩ | ⟨later, taken⟩
  · have first : f.kind = 2 ∧ 16 ≤ f.len ∧ (f.msg 0).kind = kind := ⟨sync, by omega, by rw [← body]; exact kindOf⟩
    have ok : ((s.port p).accept f).2 = true := by
      have z : f.kind ≠ 0 := by omega
      have r : ((s.port p).takeHeader f).rxSeq = (s.port p).rxSeq := by
        unfold Port.takeHeader
        dsimp only
        split <;> rfl
      unfold Port.accept
      simp [good, z, r, seq]
    unfold State.takeSync
    simp [up, good, first, ok, body]
  · have z : k ≠ 0 := by omega
    have kk : (f.msg k).kind = kind := by rw [← body]; exact kindOf
    unfold State.takeSync
    simp [up, z, taken, room, kk, body]

/-! ## Rings and link ports -/

/-- Nothing but gates, stacks, pending bits and what has left the module changes. -/
def State.GatesOnly (s t : State) : Prop :=
  t = { s with gates := t.gates, stack := t.stack, stackUe := t.stackUe, host := t.host, out := t.out }

theorem State.GatesOnly.trans {s t u : State} (h : s.GatesOnly t) (k : t.GatesOnly u) : s.GatesOnly u := by
  unfold State.GatesOnly at *
  rw [k, h]

theorem State.GatesOnly.setGate (s : State) (g : Nat) (x : Gate) : s.GatesOnly (s.setGate g x) := rfl

theorem State.GatesOnly.stackPut (s : State) (a : Nat) (l : List Byte) : s.GatesOnly (s.stackPut a l) := rfl

theorem State.GatesOnly.setRing (s : State) (g r : Nat) (x : Ring) : s.GatesOnly (s.setRing g r x) := rfl

theorem State.GatesOnly.raiseVector (s : State) (v : Nat) : s.GatesOnly (s.raiseVector v) := by
  have h := s.raiseVector_frame v
  unfold State.GatesOnly
  rw [h]

/-- A completion record changes the gates, the stacks, pending bits and what has left the module (R240 to R242). -/
theorem State.postRecord_frame (s : State) (g r status bytes seq : Nat) (irq : Bool) :
    s.GatesOnly (s.postRecord g r status bytes seq irq) := by
  have done : ∀ t : State, s.GatesOnly t → s.GatesOnly (if irq then
      (t.setRing g r { t.ring g r with status := status }).raiseVector (gateVector g)
      else t.setRing g r { t.ring g r with status := status }) := by
    intro t h
    split
    · exact (h.trans (.setRing t g r _)).trans (.raiseVector _ _)
    · exact h.trans (.setRing t g r _)
  refine done _ ?_
  split
  · exact .setGate s g _
  · exact (State.GatesOnly.setGate s g _).trans (.stackPut _ _ _)

/-- A ring that enters ERROR posts its record; the step may fail (R237, R445). -/
theorem State.ringError_frame (s : State) (g r status : Nat) :
    ∃ t : State, s.GatesOnly t ∧ s.ringError g r status = t.addError (.ringError g r status) (s.ringMatters g r) :=
  ⟨_, (State.GatesOnly.setRing s g r _).trans (State.postRecord_frame _ g r status _ _ _), rfl⟩

/-- Receive buffers that are freed change ports only (R294). -/
theorem State.freed_frame (l : List Nat) (s : State) :
    l.foldl (fun (s : State) q => s.modPort q fun y => { y with freed := y.freed + 1 }) s = { s with
      ports := (l.foldl (fun (s : State) q => s.modPort q fun y => { y with freed := y.freed + 1 }) s).ports } :=
  foldl_related (fun a b : State => b = { a with ports := b.ports }) (fun _ => rfl) (fun h k => by rw [k, h])
    (fun (s : State) q => s.modPort q fun y => { y with freed := y.freed + 1 }) (fun _ _ => rfl) l s

/-- A port that was not up is taken down without a word: ports and the map's next changes only (R300, R301). -/
theorem State.portDrop_quiet (s : State) (p : Nat) (st : PortState) (result : Nat)
    (quiet : (s.port p).st ≠ .up ∧ (s.port p).st ≠ .recovery) :
    s.portDrop p st result = { s with ports := (s.portDrop p st result).ports, mapNext := s.mapNext ++ [.link p ⟨0, 0, result⟩] } := by
  have up : ((s.port p).st == PortState.up || (s.port p).st == PortState.recovery) = false := by
    simpa using quiet
  unfold State.portDrop
  dsimp only
  rw [up]
  simp only [Bool.not_false, if_true]
  rw [State.freed_frame]
  rfl

/-! ## Night and Dawn -/

/-- Night begins: the code, NIGHT and its counter, the event (R355, R362). -/
theorem State.enterNight_frame (s : State) :
    s.enterNight = { s with
      setAt := s.enterNight.setAt
      clk := { s.clk with code := s.enterNight.clk.code, nextCode := s.enterNight.clk.nextCode }
      pwr := { s.pwr with night := true, nightCount := s.enterNight.pwr.nightCount, events := s.enterNight.pwr.events }
      host := s.enterNight.host
      out := s.enterNight.out } := by
  unfold State.enterNight
  split
  · next h =>
    have e : s.pwr = { s.pwr with night := true } := by rw [← h]
    exact congrArg (fun (x : Pwr) => { s with pwr := x }) e
  · rw [State.powerEvent_frame]

/-- Dawn's findings change the map and what Dawn counts (R36, R39, R380). -/
theorem State.dawnDead_frame (s : State) (ts : List Nat) (cause : Nat) :
    s.dawnDead ts cause = { s with map := (s.dawnDead ts cause).map, dawn := { s.dawn with
      added := (s.dawnDead ts cause).dawn.added, newDead := (s.dawnDead ts cause).dawn.newDead } } := rfl

/-! ## The host's ports and the sideband -/

/-- A request on an open port acts at once (R321, R327). -/
theorem PortOpen.hostAccess {s : State} {port : Nat} (h : PortOpen s port) (i : Instr) : s.hostAccess port i = s.applyAccess port i := by
  have b : ¬ 2 ≤ port := by have := h.bound; omega
  simp [State.hostAccess, b, h.up, h.free]

/-- A register write on an open port reaches BAR0 (R321, R324). -/
theorem PortOpen.registerWrite {s : State} {port : Nat} (h : PortOpen s port) (off size v : Nat) (b : off < 2 ^ 26) :
    s.hostAccess port (.registerWrite port 0 off size v) = s.writeReg off size v := by
  rw [h.hostAccess]
  simp only [State.applyAccess, h.awake, h.memory, Bool.not_true, Bool.or_self, Bool.false_eq_true, if_false, if_true]
  rw [if_pos b]

/-- A register write on an open port reaches BAR4 (R321, R326). -/
theorem PortOpen.bar4Write {s : State} {port : Nat} (h : PortOpen s port) (off size v : Nat) (b : off < 2 ^ 22) :
    s.hostAccess port (.registerWrite port 4 off size v) = .next (s.writeBar4 port off size v) := by
  rw [h.hostAccess]
  have c : ¬ (4 : Nat) = 0 := by decide
  simp only [State.applyAccess, h.awake, h.memory, Bool.not_true, Bool.or_self, Bool.false_eq_true, if_false]
  rw [if_neg c, if_pos ⟨trivial, b⟩]

/-- An 8-byte register write is the written value (R324). -/
theorem mergeWrite_whole (o v old : Nat) : mergeWrite o 8 v old = v % 2 ^ 64 := by simp [mergeWrite]

/-- A command over the sideband acts where the target answers (R332). -/
theorem State.onSideband_up {s : State} (h : s.sidebandUp = true) (f : State → State) : s.onSideband f = .next (f s) := by
  simp [State.onSideband, h]

theorem State.onSideband_down {s : State} (h : s.sidebandUp = false) (f : State → State) : s.onSideband f = .next s := by
  simp [State.onSideband, h]

end Sys2Proof.Machine
end

