-- ==== Sys2Proof/Laws/Frames.lean ====
section
/-! SUPPORT. Fields that the shared operations leave alone, one lemma for each, and what a COOL_OK stop does. -/

namespace Sys2Proof.Machine

@[simp] theorem State.raiseVector_clk (s : State) (v : Nat) : (s.raiseVector v).clk = s.clk := by rw [State.raiseVector_frame]
@[simp] theorem State.raiseVector_frm (s : State) (v : Nat) : (s.raiseVector v).frm = s.frm := by rw [State.raiseVector_frame]
@[simp] theorem State.raiseVector_map (s : State) (v : Nat) : (s.raiseVector v).map = s.map := by rw [State.raiseVector_frame]
@[simp] theorem State.raiseVector_mapNext (s : State) (v : Nat) : (s.raiseVector v).mapNext = s.mapNext := by rw [State.raiseVector_frame]
@[simp] theorem State.raiseVector_mapDirty (s : State) (v : Nat) : (s.raiseVector v).mapDirty = s.mapDirty := by rw [State.raiseVector_frame]
@[simp] theorem State.raiseVector_plan (s : State) (v : Nat) : (s.raiseVector v).plan = s.plan := by rw [State.raiseVector_frame]
@[simp] theorem State.raiseVector_err (s : State) (v : Nat) : (s.raiseVector v).err = s.err := by rw [State.raiseVector_frame]
@[simp] theorem State.raiseVector_num (s : State) (v : Nat) : (s.raiseVector v).num = s.num := by rw [State.raiseVector_frame]
@[simp] theorem State.raiseVector_setAt (s : State) (v : Nat) : (s.raiseVector v).setAt = s.setAt := by rw [State.raiseVector_frame]
@[simp] theorem State.raiseVector_numNow (s : State) (v : Nat) : (s.raiseVector v).numNow = s.numNow := by rw [State.raiseVector_frame]
@[simp] theorem State.raiseVector_tiles (s : State) (v : Nat) : (s.raiseVector v).tiles = s.tiles := by rw [State.raiseVector_frame]
@[simp] theorem State.raiseVector_regions (s : State) (v : Nat) : (s.raiseVector v).regions = s.regions := by rw [State.raiseVector_frame]
@[simp] theorem State.raiseVector_mesh (s : State) (v : Nat) : (s.raiseVector v).mesh = s.mesh := by rw [State.raiseVector_frame]
@[simp] theorem State.raiseVector_rim (s : State) (v : Nat) : (s.raiseVector v).rim = s.rim := by rw [State.raiseVector_frame]
@[simp] theorem State.raiseVector_hops (s : State) (v : Nat) : (s.raiseVector v).hops = s.hops := by rw [State.raiseVector_frame]
@[simp] theorem State.raiseVector_barriers (s : State) (v : Nat) : (s.raiseVector v).barriers = s.barriers := by rw [State.raiseVector_frame]
@[simp] theorem State.raiseVector_gates (s : State) (v : Nat) : (s.raiseVector v).gates = s.gates := by rw [State.raiseVector_frame]
@[simp] theorem State.raiseVector_stack (s : State) (v : Nat) : (s.raiseVector v).stack = s.stack := by rw [State.raiseVector_frame]
@[simp] theorem State.raiseVector_stackUe (s : State) (v : Nat) : (s.raiseVector v).stackUe = s.stackUe := by rw [State.raiseVector_frame]
@[simp] theorem State.raiseVector_blvd (s : State) (v : Nat) : (s.raiseVector v).blvd = s.blvd := by rw [State.raiseVector_frame]
@[simp] theorem State.raiseVector_upd (s : State) (v : Nat) : (s.raiseVector v).upd = s.upd := by rw [State.raiseVector_frame]
@[simp] theorem State.raiseVector_ports (s : State) (v : Nat) : (s.raiseVector v).ports = s.ports := by rw [State.raiseVector_frame]
@[simp] theorem State.raiseVector_group (s : State) (v : Nat) : (s.raiseVector v).group = s.group := by rw [State.raiseVector_frame]
@[simp] theorem State.raiseVector_assembling (s : State) (v : Nat) : (s.raiseVector v).assembling = s.assembling := by rw [State.raiseVector_frame]
@[simp] theorem State.raiseVector_reductions (s : State) (v : Nat) : (s.raiseVector v).reductions = s.reductions := by rw [State.raiseVector_frame]
@[simp] theorem State.raiseVector_hostRegs (s : State) (v : Nat) : (s.raiseVector v).hostRegs = s.hostRegs := by rw [State.raiseVector_frame]
@[simp] theorem State.raiseVector_pwr (s : State) (v : Nat) : (s.raiseVector v).pwr = s.pwr := by rw [State.raiseVector_frame]
@[simp] theorem State.raiseVector_dawn (s : State) (v : Nat) : (s.raiseVector v).dawn = s.dawn := by rw [State.raiseVector_frame]
@[simp] theorem State.raiseVector_images (s : State) (v : Nat) : (s.raiseVector v).images = s.images := by rw [State.raiseVector_frame]
@[simp] theorem State.raiseVector_sector (s : State) (v : Nat) : (s.raiseVector v).sector = s.sector := by rw [State.raiseVector_frame]
@[simp] theorem State.raiseVector_ctl (s : State) (v : Nat) : (s.raiseVector v).ctl = s.ctl := by rw [State.raiseVector_frame]
@[simp] theorem State.raiseVector_log (s : State) (v : Nat) : (s.raiseVector v).log = s.log := by rw [State.raiseVector_frame]
@[simp] theorem State.raiseVector_tst (s : State) (v : Nat) : (s.raiseVector v).tst = s.tst := by rw [State.raiseVector_frame]
@[simp] theorem State.raiseVector_free (s : State) (v : Nat) : (s.raiseVector v).free = s.free := by rw [State.raiseVector_frame]
@[simp] theorem State.raiseVector_pending (s : State) (v : Nat) : (s.raiseVector v).pending = s.pending := by rw [State.raiseVector_frame]
@[simp] theorem State.sendPending_clk (s : State) (p : Nat) : (s.sendPending p).clk = s.clk := by rw [State.sendPending_frame]
@[simp] theorem State.sendPending_frm (s : State) (p : Nat) : (s.sendPending p).frm = s.frm := by rw [State.sendPending_frame]
@[simp] theorem State.sendPending_map (s : State) (p : Nat) : (s.sendPending p).map = s.map := by rw [State.sendPending_frame]
@[simp] theorem State.sendPending_mapNext (s : State) (p : Nat) : (s.sendPending p).mapNext = s.mapNext := by rw [State.sendPending_frame]
@[simp] theorem State.sendPending_mapDirty (s : State) (p : Nat) : (s.sendPending p).mapDirty = s.mapDirty := by rw [State.sendPending_frame]
@[simp] theorem State.sendPending_plan (s : State) (p : Nat) : (s.sendPending p).plan = s.plan := by rw [State.sendPending_frame]
@[simp] theorem State.sendPending_err (s : State) (p : Nat) : (s.sendPending p).err = s.err := by rw [State.sendPending_frame]
@[simp] theorem State.sendPending_num (s : State) (p : Nat) : (s.sendPending p).num = s.num := by rw [State.sendPending_frame]
@[simp] theorem State.sendPending_setAt (s : State) (p : Nat) : (s.sendPending p).setAt = s.setAt := by rw [State.sendPending_frame]
@[simp] theorem State.sendPending_numNow (s : State) (p : Nat) : (s.sendPending p).numNow = s.numNow := by rw [State.sendPending_frame]
@[simp] theorem State.sendPending_tiles (s : State) (p : Nat) : (s.sendPending p).tiles = s.tiles := by rw [State.sendPending_frame]
@[simp] theorem State.sendPending_regions (s : State) (p : Nat) : (s.sendPending p).regions = s.regions := by rw [State.sendPending_frame]
@[simp] theorem State.sendPending_mesh (s : State) (p : Nat) : (s.sendPending p).mesh = s.mesh := by rw [State.sendPending_frame]
@[simp] theorem State.sendPending_rim (s : State) (p : Nat) : (s.sendPending p).rim = s.rim := by rw [State.sendPending_frame]
@[simp] theorem State.sendPending_hops (s : State) (p : Nat) : (s.sendPending p).hops = s.hops := by rw [State.sendPending_frame]
@[simp] theorem State.sendPending_barriers (s : State) (p : Nat) : (s.sendPending p).barriers = s.barriers := by rw [State.sendPending_frame]
@[simp] theorem State.sendPending_gates (s : State) (p : Nat) : (s.sendPending p).gates = s.gates := by rw [State.sendPending_frame]
@[simp] theorem State.sendPending_stack (s : State) (p : Nat) : (s.sendPending p).stack = s.stack := by rw [State.sendPending_frame]
@[simp] theorem State.sendPending_stackUe (s : State) (p : Nat) : (s.sendPending p).stackUe = s.stackUe := by rw [State.sendPending_frame]
@[simp] theorem State.sendPending_blvd (s : State) (p : Nat) : (s.sendPending p).blvd = s.blvd := by rw [State.sendPending_frame]
@[simp] theorem State.sendPending_upd (s : State) (p : Nat) : (s.sendPending p).upd = s.upd := by rw [State.sendPending_frame]
@[simp] theorem State.sendPending_ports (s : State) (p : Nat) : (s.sendPending p).ports = s.ports := by rw [State.sendPending_frame]
@[simp] theorem State.sendPending_group (s : State) (p : Nat) : (s.sendPending p).group = s.group := by rw [State.sendPending_frame]
@[simp] theorem State.sendPending_assembling (s : State) (p : Nat) : (s.sendPending p).assembling = s.assembling := by rw [State.sendPending_frame]
@[simp] theorem State.sendPending_reductions (s : State) (p : Nat) : (s.sendPending p).reductions = s.reductions := by rw [State.sendPending_frame]
@[simp] theorem State.sendPending_hostRegs (s : State) (p : Nat) : (s.sendPending p).hostRegs = s.hostRegs := by rw [State.sendPending_frame]
@[simp] theorem State.sendPending_pwr (s : State) (p : Nat) : (s.sendPending p).pwr = s.pwr := by rw [State.sendPending_frame]
@[simp] theorem State.sendPending_dawn (s : State) (p : Nat) : (s.sendPending p).dawn = s.dawn := by rw [State.sendPending_frame]
@[simp] theorem State.sendPending_images (s : State) (p : Nat) : (s.sendPending p).images = s.images := by rw [State.sendPending_frame]
@[simp] theorem State.sendPending_sector (s : State) (p : Nat) : (s.sendPending p).sector = s.sector := by rw [State.sendPending_frame]
@[simp] theorem State.sendPending_ctl (s : State) (p : Nat) : (s.sendPending p).ctl = s.ctl := by rw [State.sendPending_frame]
@[simp] theorem State.sendPending_log (s : State) (p : Nat) : (s.sendPending p).log = s.log := by rw [State.sendPending_frame]
@[simp] theorem State.sendPending_tst (s : State) (p : Nat) : (s.sendPending p).tst = s.tst := by rw [State.sendPending_frame]
@[simp] theorem State.sendPending_free (s : State) (p : Nat) : (s.sendPending p).free = s.free := by rw [State.sendPending_frame]
@[simp] theorem State.sendPending_pending (s : State) (p : Nat) : (s.sendPending p).pending = s.pending := by rw [State.sendPending_frame]
@[simp] theorem State.powerEvent_clk (s : State) (n : Nat) : (s.powerEvent n).clk = s.clk := by rw [State.powerEvent_frame]
@[simp] theorem State.powerEvent_frm (s : State) (n : Nat) : (s.powerEvent n).frm = s.frm := by rw [State.powerEvent_frame]
@[simp] theorem State.powerEvent_map (s : State) (n : Nat) : (s.powerEvent n).map = s.map := by rw [State.powerEvent_frame]
@[simp] theorem State.powerEvent_mapNext (s : State) (n : Nat) : (s.powerEvent n).mapNext = s.mapNext := by rw [State.powerEvent_frame]
@[simp] theorem State.powerEvent_mapDirty (s : State) (n : Nat) : (s.powerEvent n).mapDirty = s.mapDirty := by rw [State.powerEvent_frame]
@[simp] theorem State.powerEvent_plan (s : State) (n : Nat) : (s.powerEvent n).plan = s.plan := by rw [State.powerEvent_frame]
@[simp] theorem State.powerEvent_err (s : State) (n : Nat) : (s.powerEvent n).err = s.err := by rw [State.powerEvent_frame]
@[simp] theorem State.powerEvent_num (s : State) (n : Nat) : (s.powerEvent n).num = s.num := by rw [State.powerEvent_frame]
@[simp] theorem State.powerEvent_numNow (s : State) (n : Nat) : (s.powerEvent n).numNow = s.numNow := by rw [State.powerEvent_frame]
@[simp] theorem State.powerEvent_tiles (s : State) (n : Nat) : (s.powerEvent n).tiles = s.tiles := by rw [State.powerEvent_frame]
@[simp] theorem State.powerEvent_regions (s : State) (n : Nat) : (s.powerEvent n).regions = s.regions := by rw [State.powerEvent_frame]
@[simp] theorem State.powerEvent_mesh (s : State) (n : Nat) : (s.powerEvent n).mesh = s.mesh := by rw [State.powerEvent_frame]
@[simp] theorem State.powerEvent_rim (s : State) (n : Nat) : (s.powerEvent n).rim = s.rim := by rw [State.powerEvent_frame]
@[simp] theorem State.powerEvent_hops (s : State) (n : Nat) : (s.powerEvent n).hops = s.hops := by rw [State.powerEvent_frame]
@[simp] theorem State.powerEvent_barriers (s : State) (n : Nat) : (s.powerEvent n).barriers = s.barriers := by rw [State.powerEvent_frame]
@[simp] theorem State.powerEvent_gates (s : State) (n : Nat) : (s.powerEvent n).gates = s.gates := by rw [State.powerEvent_frame]
@[simp] theorem State.powerEvent_stack (s : State) (n : Nat) : (s.powerEvent n).stack = s.stack := by rw [State.powerEvent_frame]
@[simp] theorem State.powerEvent_stackUe (s : State) (n : Nat) : (s.powerEvent n).stackUe = s.stackUe := by rw [State.powerEvent_frame]
@[simp] theorem State.powerEvent_blvd (s : State) (n : Nat) : (s.powerEvent n).blvd = s.blvd := by rw [State.powerEvent_frame]
@[simp] theorem State.powerEvent_upd (s : State) (n : Nat) : (s.powerEvent n).upd = s.upd := by rw [State.powerEvent_frame]
@[simp] theorem State.powerEvent_ports (s : State) (n : Nat) : (s.powerEvent n).ports = s.ports := by rw [State.powerEvent_frame]
@[simp] theorem State.powerEvent_group (s : State) (n : Nat) : (s.powerEvent n).group = s.group := by rw [State.powerEvent_frame]
@[simp] theorem State.powerEvent_assembling (s : State) (n : Nat) : (s.powerEvent n).assembling = s.assembling := by rw [State.powerEvent_frame]
@[simp] theorem State.powerEvent_reductions (s : State) (n : Nat) : (s.powerEvent n).reductions = s.reductions := by rw [State.powerEvent_frame]
@[simp] theorem State.powerEvent_hostRegs (s : State) (n : Nat) : (s.powerEvent n).hostRegs = s.hostRegs := by rw [State.powerEvent_frame]
@[simp] theorem State.powerEvent_dawn (s : State) (n : Nat) : (s.powerEvent n).dawn = s.dawn := by rw [State.powerEvent_frame]
@[simp] theorem State.powerEvent_images (s : State) (n : Nat) : (s.powerEvent n).images = s.images := by rw [State.powerEvent_frame]
@[simp] theorem State.powerEvent_sector (s : State) (n : Nat) : (s.powerEvent n).sector = s.sector := by rw [State.powerEvent_frame]
@[simp] theorem State.powerEvent_ctl (s : State) (n : Nat) : (s.powerEvent n).ctl = s.ctl := by rw [State.powerEvent_frame]
@[simp] theorem State.powerEvent_log (s : State) (n : Nat) : (s.powerEvent n).log = s.log := by rw [State.powerEvent_frame]
@[simp] theorem State.powerEvent_tst (s : State) (n : Nat) : (s.powerEvent n).tst = s.tst := by rw [State.powerEvent_frame]
@[simp] theorem State.powerEvent_free (s : State) (n : Nat) : (s.powerEvent n).free = s.free := by rw [State.powerEvent_frame]
@[simp] theorem State.powerEvent_pending (s : State) (n : Nat) : (s.powerEvent n).pending = s.pending := by rw [State.powerEvent_frame]
@[simp] theorem State.enterNight_frm (s : State) : s.enterNight.frm = s.frm := by rw [State.enterNight_frame]
@[simp] theorem State.enterNight_map (s : State) : s.enterNight.map = s.map := by rw [State.enterNight_frame]
@[simp] theorem State.enterNight_mapNext (s : State) : s.enterNight.mapNext = s.mapNext := by rw [State.enterNight_frame]
@[simp] theorem State.enterNight_mapDirty (s : State) : s.enterNight.mapDirty = s.mapDirty := by rw [State.enterNight_frame]
@[simp] theorem State.enterNight_plan (s : State) : s.enterNight.plan = s.plan := by rw [State.enterNight_frame]
@[simp] theorem State.enterNight_err (s : State) : s.enterNight.err = s.err := by rw [State.enterNight_frame]
@[simp] theorem State.enterNight_num (s : State) : s.enterNight.num = s.num := by rw [State.enterNight_frame]
@[simp] theorem State.enterNight_numNow (s : State) : s.enterNight.numNow = s.numNow := by rw [State.enterNight_frame]
@[simp] theorem State.enterNight_tiles (s : State) : s.enterNight.tiles = s.tiles := by rw [State.enterNight_frame]
@[simp] theorem State.enterNight_regions (s : State) : s.enterNight.regions = s.regions := by rw [State.enterNight_frame]
@[simp] theorem State.enterNight_mesh (s : State) : s.enterNight.mesh = s.mesh := by rw [State.enterNight_frame]
@[simp] theorem State.enterNight_rim (s : State) : s.enterNight.rim = s.rim := by rw [State.enterNight_frame]
@[simp] theorem State.enterNight_hops (s : State) : s.enterNight.hops = s.hops := by rw [State.enterNight_frame]
@[simp] theorem State.enterNight_barriers (s : State) : s.enterNight.barriers = s.barriers := by rw [State.enterNight_frame]
@[simp] theorem State.enterNight_gates (s : State) : s.enterNight.gates = s.gates := by rw [State.enterNight_frame]
@[simp] theorem State.enterNight_stack (s : State) : s.enterNight.stack = s.stack := by rw [State.enterNight_frame]
@[simp] theorem State.enterNight_stackUe (s : State) : s.enterNight.stackUe = s.stackUe := by rw [State.enterNight_frame]
@[simp] theorem State.enterNight_blvd (s : State) : s.enterNight.blvd = s.blvd := by rw [State.enterNight_frame]
@[simp] theorem State.enterNight_upd (s : State) : s.enterNight.upd = s.upd := by rw [State.enterNight_frame]
@[simp] theorem State.enterNight_ports (s : State) : s.enterNight.ports = s.ports := by rw [State.enterNight_frame]
@[simp] theorem State.enterNight_group (s : State) : s.enterNight.group = s.group := by rw [State.enterNight_frame]
@[simp] theorem State.enterNight_assembling (s : State) : s.enterNight.assembling = s.assembling := by rw [State.enterNight_frame]
@[simp] theorem State.enterNight_reductions (s : State) : s.enterNight.reductions = s.reductions := by rw [State.enterNight_frame]
@[simp] theorem State.enterNight_hostRegs (s : State) : s.enterNight.hostRegs = s.hostRegs := by rw [State.enterNight_frame]
@[simp] theorem State.enterNight_dawn (s : State) : s.enterNight.dawn = s.dawn := by rw [State.enterNight_frame]
@[simp] theorem State.enterNight_images (s : State) : s.enterNight.images = s.images := by rw [State.enterNight_frame]
@[simp] theorem State.enterNight_sector (s : State) : s.enterNight.sector = s.sector := by rw [State.enterNight_frame]
@[simp] theorem State.enterNight_ctl (s : State) : s.enterNight.ctl = s.ctl := by rw [State.enterNight_frame]
@[simp] theorem State.enterNight_log (s : State) : s.enterNight.log = s.log := by rw [State.enterNight_frame]
@[simp] theorem State.enterNight_tst (s : State) : s.enterNight.tst = s.tst := by rw [State.enterNight_frame]
@[simp] theorem State.enterNight_free (s : State) : s.enterNight.free = s.free := by rw [State.enterNight_frame]
@[simp] theorem State.enterNight_pending (s : State) : s.enterNight.pending = s.pending := by rw [State.enterNight_frame]
@[simp] theorem State.linkStatus_clk (s : State) (n : Nat) (f : Group → Group) : (s.linkStatus n f).clk = s.clk := by rw [State.linkStatus_frame]
@[simp] theorem State.linkStatus_frm (s : State) (n : Nat) (f : Group → Group) : (s.linkStatus n f).frm = s.frm := by rw [State.linkStatus_frame]
@[simp] theorem State.linkStatus_map (s : State) (n : Nat) (f : Group → Group) : (s.linkStatus n f).map = s.map := by rw [State.linkStatus_frame]
@[simp] theorem State.linkStatus_mapNext (s : State) (n : Nat) (f : Group → Group) : (s.linkStatus n f).mapNext = s.mapNext := by rw [State.linkStatus_frame]
@[simp] theorem State.linkStatus_mapDirty (s : State) (n : Nat) (f : Group → Group) : (s.linkStatus n f).mapDirty = s.mapDirty := by rw [State.linkStatus_frame]
@[simp] theorem State.linkStatus_plan (s : State) (n : Nat) (f : Group → Group) : (s.linkStatus n f).plan = s.plan := by rw [State.linkStatus_frame]
@[simp] theorem State.linkStatus_err (s : State) (n : Nat) (f : Group → Group) : (s.linkStatus n f).err = s.err := by rw [State.linkStatus_frame]
@[simp] theorem State.linkStatus_num (s : State) (n : Nat) (f : Group → Group) : (s.linkStatus n f).num = s.num := by rw [State.linkStatus_frame]
@[simp] theorem State.linkStatus_numNow (s : State) (n : Nat) (f : Group → Group) : (s.linkStatus n f).numNow = s.numNow := by rw [State.linkStatus_frame]
@[simp] theorem State.linkStatus_tiles (s : State) (n : Nat) (f : Group → Group) : (s.linkStatus n f).tiles = s.tiles := by rw [State.linkStatus_frame]
@[simp] theorem State.linkStatus_regions (s : State) (n : Nat) (f : Group → Group) : (s.linkStatus n f).regions = s.regions := by rw [State.linkStatus_frame]
@[simp] theorem State.linkStatus_mesh (s : State) (n : Nat) (f : Group → Group) : (s.linkStatus n f).mesh = s.mesh := by rw [State.linkStatus_frame]
@[simp] theorem State.linkStatus_rim (s : State) (n : Nat) (f : Group → Group) : (s.linkStatus n f).rim = s.rim := by rw [State.linkStatus_frame]
@[simp] theorem State.linkStatus_hops (s : State) (n : Nat) (f : Group → Group) : (s.linkStatus n f).hops = s.hops := by rw [State.linkStatus_frame]
@[simp] theorem State.linkStatus_barriers (s : State) (n : Nat) (f : Group → Group) : (s.linkStatus n f).barriers = s.barriers := by rw [State.linkStatus_frame]
@[simp] theorem State.linkStatus_gates (s : State) (n : Nat) (f : Group → Group) : (s.linkStatus n f).gates = s.gates := by rw [State.linkStatus_frame]
@[simp] theorem State.linkStatus_stack (s : State) (n : Nat) (f : Group → Group) : (s.linkStatus n f).stack = s.stack := by rw [State.linkStatus_frame]
@[simp] theorem State.linkStatus_stackUe (s : State) (n : Nat) (f : Group → Group) : (s.linkStatus n f).stackUe = s.stackUe := by rw [State.linkStatus_frame]
@[simp] theorem State.linkStatus_blvd (s : State) (n : Nat) (f : Group → Group) : (s.linkStatus n f).blvd = s.blvd := by rw [State.linkStatus_frame]
@[simp] theorem State.linkStatus_upd (s : State) (n : Nat) (f : Group → Group) : (s.linkStatus n f).upd = s.upd := by rw [State.linkStatus_frame]
@[simp] theorem State.linkStatus_ports (s : State) (n : Nat) (f : Group → Group) : (s.linkStatus n f).ports = s.ports := by rw [State.linkStatus_frame]
@[simp] theorem State.linkStatus_assembling (s : State) (n : Nat) (f : Group → Group) : (s.linkStatus n f).assembling = s.assembling := by rw [State.linkStatus_frame]
@[simp] theorem State.linkStatus_reductions (s : State) (n : Nat) (f : Group → Group) : (s.linkStatus n f).reductions = s.reductions := by rw [State.linkStatus_frame]
@[simp] theorem State.linkStatus_hostRegs (s : State) (n : Nat) (f : Group → Group) : (s.linkStatus n f).hostRegs = s.hostRegs := by rw [State.linkStatus_frame]
@[simp] theorem State.linkStatus_pwr (s : State) (n : Nat) (f : Group → Group) : (s.linkStatus n f).pwr = s.pwr := by rw [State.linkStatus_frame]
@[simp] theorem State.linkStatus_dawn (s : State) (n : Nat) (f : Group → Group) : (s.linkStatus n f).dawn = s.dawn := by rw [State.linkStatus_frame]
@[simp] theorem State.linkStatus_images (s : State) (n : Nat) (f : Group → Group) : (s.linkStatus n f).images = s.images := by rw [State.linkStatus_frame]
@[simp] theorem State.linkStatus_sector (s : State) (n : Nat) (f : Group → Group) : (s.linkStatus n f).sector = s.sector := by rw [State.linkStatus_frame]
@[simp] theorem State.linkStatus_ctl (s : State) (n : Nat) (f : Group → Group) : (s.linkStatus n f).ctl = s.ctl := by rw [State.linkStatus_frame]
@[simp] theorem State.linkStatus_log (s : State) (n : Nat) (f : Group → Group) : (s.linkStatus n f).log = s.log := by rw [State.linkStatus_frame]
@[simp] theorem State.linkStatus_tst (s : State) (n : Nat) (f : Group → Group) : (s.linkStatus n f).tst = s.tst := by rw [State.linkStatus_frame]
@[simp] theorem State.linkStatus_free (s : State) (n : Nat) (f : Group → Group) : (s.linkStatus n f).free = s.free := by rw [State.linkStatus_frame]
@[simp] theorem State.linkStatus_pending (s : State) (n : Nat) (f : Group → Group) : (s.linkStatus n f).pending = s.pending := by rw [State.linkStatus_frame]
@[simp] theorem State.flood_clk (s : State) (m : SyncMsg) (k : Option Nat) : (s.flood m k).clk = s.clk := by rw [State.flood_frame]
@[simp] theorem State.flood_frm (s : State) (m : SyncMsg) (k : Option Nat) : (s.flood m k).frm = s.frm := by rw [State.flood_frame]
@[simp] theorem State.flood_map (s : State) (m : SyncMsg) (k : Option Nat) : (s.flood m k).map = s.map := by rw [State.flood_frame]
@[simp] theorem State.flood_mapNext (s : State) (m : SyncMsg) (k : Option Nat) : (s.flood m k).mapNext = s.mapNext := by rw [State.flood_frame]
@[simp] theorem State.flood_mapDirty (s : State) (m : SyncMsg) (k : Option Nat) : (s.flood m k).mapDirty = s.mapDirty := by rw [State.flood_frame]
@[simp] theorem State.flood_plan (s : State) (m : SyncMsg) (k : Option Nat) : (s.flood m k).plan = s.plan := by rw [State.flood_frame]
@[simp] theorem State.flood_err (s : State) (m : SyncMsg) (k : Option Nat) : (s.flood m k).err = s.err := by rw [State.flood_frame]
@[simp] theorem State.flood_num (s : State) (m : SyncMsg) (k : Option Nat) : (s.flood m k).num = s.num := by rw [State.flood_frame]
@[simp] theorem State.flood_setAt (s : State) (m : SyncMsg) (k : Option Nat) : (s.flood m k).setAt = s.setAt := by rw [State.flood_frame]
@[simp] theorem State.flood_numNow (s : State) (m : SyncMsg) (k : Option Nat) : (s.flood m k).numNow = s.numNow := by rw [State.flood_frame]
@[simp] theorem State.flood_tiles (s : State) (m : SyncMsg) (k : Option Nat) : (s.flood m k).tiles = s.tiles := by rw [State.flood_frame]
@[simp] theorem State.flood_regions (s : State) (m : SyncMsg) (k : Option Nat) : (s.flood m k).regions = s.regions := by rw [State.flood_frame]
@[simp] theorem State.flood_mesh (s : State) (m : SyncMsg) (k : Option Nat) : (s.flood m k).mesh = s.mesh := by rw [State.flood_frame]
@[simp] theorem State.flood_rim (s : State) (m : SyncMsg) (k : Option Nat) : (s.flood m k).rim = s.rim := by rw [State.flood_frame]
@[simp] theorem State.flood_hops (s : State) (m : SyncMsg) (k : Option Nat) : (s.flood m k).hops = s.hops := by rw [State.flood_frame]
@[simp] theorem State.flood_barriers (s : State) (m : SyncMsg) (k : Option Nat) : (s.flood m k).barriers = s.barriers := by rw [State.flood_frame]
@[simp] theorem State.flood_gates (s : State) (m : SyncMsg) (k : Option Nat) : (s.flood m k).gates = s.gates := by rw [State.flood_frame]
@[simp] theorem State.flood_stack (s : State) (m : SyncMsg) (k : Option Nat) : (s.flood m k).stack = s.stack := by rw [State.flood_frame]
@[simp] theorem State.flood_stackUe (s : State) (m : SyncMsg) (k : Option Nat) : (s.flood m k).stackUe = s.stackUe := by rw [State.flood_frame]
@[simp] theorem State.flood_blvd (s : State) (m : SyncMsg) (k : Option Nat) : (s.flood m k).blvd = s.blvd := by rw [State.flood_frame]
@[simp] theorem State.flood_upd (s : State) (m : SyncMsg) (k : Option Nat) : (s.flood m k).upd = s.upd := by rw [State.flood_frame]
@[simp] theorem State.flood_assembling (s : State) (m : SyncMsg) (k : Option Nat) : (s.flood m k).assembling = s.assembling := by rw [State.flood_frame]
@[simp] theorem State.flood_reductions (s : State) (m : SyncMsg) (k : Option Nat) : (s.flood m k).reductions = s.reductions := by rw [State.flood_frame]
@[simp] theorem State.flood_host (s : State) (m : SyncMsg) (k : Option Nat) : (s.flood m k).host = s.host := by rw [State.flood_frame]
@[simp] theorem State.flood_hostRegs (s : State) (m : SyncMsg) (k : Option Nat) : (s.flood m k).hostRegs = s.hostRegs := by rw [State.flood_frame]
@[simp] theorem State.flood_pwr (s : State) (m : SyncMsg) (k : Option Nat) : (s.flood m k).pwr = s.pwr := by rw [State.flood_frame]
@[simp] theorem State.flood_dawn (s : State) (m : SyncMsg) (k : Option Nat) : (s.flood m k).dawn = s.dawn := by rw [State.flood_frame]
@[simp] theorem State.flood_images (s : State) (m : SyncMsg) (k : Option Nat) : (s.flood m k).images = s.images := by rw [State.flood_frame]
@[simp] theorem State.flood_sector (s : State) (m : SyncMsg) (k : Option Nat) : (s.flood m k).sector = s.sector := by rw [State.flood_frame]
@[simp] theorem State.flood_ctl (s : State) (m : SyncMsg) (k : Option Nat) : (s.flood m k).ctl = s.ctl := by rw [State.flood_frame]
@[simp] theorem State.flood_log (s : State) (m : SyncMsg) (k : Option Nat) : (s.flood m k).log = s.log := by rw [State.flood_frame]
@[simp] theorem State.flood_tst (s : State) (m : SyncMsg) (k : Option Nat) : (s.flood m k).tst = s.tst := by rw [State.flood_frame]
@[simp] theorem State.flood_free (s : State) (m : SyncMsg) (k : Option Nat) : (s.flood m k).free = s.free := by rw [State.flood_frame]
@[simp] theorem State.flood_out (s : State) (m : SyncMsg) (k : Option Nat) : (s.flood m k).out = s.out := by rw [State.flood_frame]
@[simp] theorem State.flood_pending (s : State) (m : SyncMsg) (k : Option Nat) : (s.flood m k).pending = s.pending := by rw [State.flood_frame]
@[simp] theorem State.floodAbort_clk (s : State) (c : Nat) : (s.floodAbort c).clk = s.clk := by rw [State.floodAbort_frame]
@[simp] theorem State.floodAbort_frm (s : State) (c : Nat) : (s.floodAbort c).frm = s.frm := by rw [State.floodAbort_frame]
@[simp] theorem State.floodAbort_map (s : State) (c : Nat) : (s.floodAbort c).map = s.map := by rw [State.floodAbort_frame]
@[simp] theorem State.floodAbort_mapNext (s : State) (c : Nat) : (s.floodAbort c).mapNext = s.mapNext := by rw [State.floodAbort_frame]
@[simp] theorem State.floodAbort_mapDirty (s : State) (c : Nat) : (s.floodAbort c).mapDirty = s.mapDirty := by rw [State.floodAbort_frame]
@[simp] theorem State.floodAbort_plan (s : State) (c : Nat) : (s.floodAbort c).plan = s.plan := by rw [State.floodAbort_frame]
@[simp] theorem State.floodAbort_err (s : State) (c : Nat) : (s.floodAbort c).err = s.err := by rw [State.floodAbort_frame]
@[simp] theorem State.floodAbort_num (s : State) (c : Nat) : (s.floodAbort c).num = s.num := by rw [State.floodAbort_frame]
@[simp] theorem State.floodAbort_setAt (s : State) (c : Nat) : (s.floodAbort c).setAt = s.setAt := by rw [State.floodAbort_frame]
@[simp] theorem State.floodAbort_numNow (s : State) (c : Nat) : (s.floodAbort c).numNow = s.numNow := by rw [State.floodAbort_frame]
@[simp] theorem State.floodAbort_tiles (s : State) (c : Nat) : (s.floodAbort c).tiles = s.tiles := by rw [State.floodAbort_frame]
@[simp] theorem State.floodAbort_regions (s : State) (c : Nat) : (s.floodAbort c).regions = s.regions := by rw [State.floodAbort_frame]
@[simp] theorem State.floodAbort_mesh (s : State) (c : Nat) : (s.floodAbort c).mesh = s.mesh := by rw [State.floodAbort_frame]
@[simp] theorem State.floodAbort_rim (s : State) (c : Nat) : (s.floodAbort c).rim = s.rim := by rw [State.floodAbort_frame]
@[simp] theorem State.floodAbort_hops (s : State) (c : Nat) : (s.floodAbort c).hops = s.hops := by rw [State.floodAbort_frame]
@[simp] theorem State.floodAbort_barriers (s : State) (c : Nat) : (s.floodAbort c).barriers = s.barriers := by rw [State.floodAbort_frame]
@[simp] theorem State.floodAbort_gates (s : State) (c : Nat) : (s.floodAbort c).gates = s.gates := by rw [State.floodAbort_frame]
@[simp] theorem State.floodAbort_stack (s : State) (c : Nat) : (s.floodAbort c).stack = s.stack := by rw [State.floodAbort_frame]
@[simp] theorem State.floodAbort_stackUe (s : State) (c : Nat) : (s.floodAbort c).stackUe = s.stackUe := by rw [State.floodAbort_frame]
@[simp] theorem State.floodAbort_blvd (s : State) (c : Nat) : (s.floodAbort c).blvd = s.blvd := by rw [State.floodAbort_frame]
@[simp] theorem State.floodAbort_upd (s : State) (c : Nat) : (s.floodAbort c).upd = s.upd := by rw [State.floodAbort_frame]
@[simp] theorem State.floodAbort_assembling (s : State) (c : Nat) : (s.floodAbort c).assembling = s.assembling := by rw [State.floodAbort_frame]
@[simp] theorem State.floodAbort_reductions (s : State) (c : Nat) : (s.floodAbort c).reductions = s.reductions := by rw [State.floodAbort_frame]
@[simp] theorem State.floodAbort_host (s : State) (c : Nat) : (s.floodAbort c).host = s.host := by rw [State.floodAbort_frame]
@[simp] theorem State.floodAbort_hostRegs (s : State) (c : Nat) : (s.floodAbort c).hostRegs = s.hostRegs := by rw [State.floodAbort_frame]
@[simp] theorem State.floodAbort_pwr (s : State) (c : Nat) : (s.floodAbort c).pwr = s.pwr := by rw [State.floodAbort_frame]
@[simp] theorem State.floodAbort_dawn (s : State) (c : Nat) : (s.floodAbort c).dawn = s.dawn := by rw [State.floodAbort_frame]
@[simp] theorem State.floodAbort_images (s : State) (c : Nat) : (s.floodAbort c).images = s.images := by rw [State.floodAbort_frame]
@[simp] theorem State.floodAbort_sector (s : State) (c : Nat) : (s.floodAbort c).sector = s.sector := by rw [State.floodAbort_frame]
@[simp] theorem State.floodAbort_ctl (s : State) (c : Nat) : (s.floodAbort c).ctl = s.ctl := by rw [State.floodAbort_frame]
@[simp] theorem State.floodAbort_log (s : State) (c : Nat) : (s.floodAbort c).log = s.log := by rw [State.floodAbort_frame]
@[simp] theorem State.floodAbort_tst (s : State) (c : Nat) : (s.floodAbort c).tst = s.tst := by rw [State.floodAbort_frame]
@[simp] theorem State.floodAbort_free (s : State) (c : Nat) : (s.floodAbort c).free = s.free := by rw [State.floodAbort_frame]
@[simp] theorem State.floodAbort_out (s : State) (c : Nat) : (s.floodAbort c).out = s.out := by rw [State.floodAbort_frame]
@[simp] theorem State.floodAbort_pending (s : State) (c : Nat) : (s.floodAbort c).pending = s.pending := by rw [State.floodAbort_frame]
@[simp] theorem State.addError_clk (s : State) (k : ErrKind) (b : Bool) : (s.addError k b).clk = s.clk := rfl
@[simp] theorem State.addError_frm (s : State) (k : ErrKind) (b : Bool) : (s.addError k b).frm = s.frm := rfl
@[simp] theorem State.addError_map (s : State) (k : ErrKind) (b : Bool) : (s.addError k b).map = s.map := rfl
@[simp] theorem State.addError_mapNext (s : State) (k : ErrKind) (b : Bool) : (s.addError k b).mapNext = s.mapNext := rfl
@[simp] theorem State.addError_mapDirty (s : State) (k : ErrKind) (b : Bool) : (s.addError k b).mapDirty = s.mapDirty := rfl
@[simp] theorem State.addError_num (s : State) (k : ErrKind) (b : Bool) : (s.addError k b).num = s.num := rfl
@[simp] theorem State.addError_setAt (s : State) (k : ErrKind) (b : Bool) : (s.addError k b).setAt = s.setAt := rfl
@[simp] theorem State.addError_numNow (s : State) (k : ErrKind) (b : Bool) : (s.addError k b).numNow = s.numNow := rfl
@[simp] theorem State.addError_tiles (s : State) (k : ErrKind) (b : Bool) : (s.addError k b).tiles = s.tiles := rfl
@[simp] theorem State.addError_regions (s : State) (k : ErrKind) (b : Bool) : (s.addError k b).regions = s.regions := rfl
@[simp] theorem State.addError_mesh (s : State) (k : ErrKind) (b : Bool) : (s.addError k b).mesh = s.mesh := rfl
@[simp] theorem State.addError_rim (s : State) (k : ErrKind) (b : Bool) : (s.addError k b).rim = s.rim := rfl
@[simp] theorem State.addError_hops (s : State) (k : ErrKind) (b : Bool) : (s.addError k b).hops = s.hops := rfl
@[simp] theorem State.addError_barriers (s : State) (k : ErrKind) (b : Bool) : (s.addError k b).barriers = s.barriers := rfl
@[simp] theorem State.addError_gates (s : State) (k : ErrKind) (b : Bool) : (s.addError k b).gates = s.gates := rfl
@[simp] theorem State.addError_stack (s : State) (k : ErrKind) (b : Bool) : (s.addError k b).stack = s.stack := rfl
@[simp] theorem State.addError_stackUe (s : State) (k : ErrKind) (b : Bool) : (s.addError k b).stackUe = s.stackUe := rfl
@[simp] theorem State.addError_blvd (s : State) (k : ErrKind) (b : Bool) : (s.addError k b).blvd = s.blvd := rfl
@[simp] theorem State.addError_upd (s : State) (k : ErrKind) (b : Bool) : (s.addError k b).upd = s.upd := rfl
@[simp] theorem State.addError_ports (s : State) (k : ErrKind) (b : Bool) : (s.addError k b).ports = s.ports := rfl
@[simp] theorem State.addError_group (s : State) (k : ErrKind) (b : Bool) : (s.addError k b).group = s.group := rfl
@[simp] theorem State.addError_assembling (s : State) (k : ErrKind) (b : Bool) : (s.addError k b).assembling = s.assembling := rfl
@[simp] theorem State.addError_reductions (s : State) (k : ErrKind) (b : Bool) : (s.addError k b).reductions = s.reductions := rfl
@[simp] theorem State.addError_host (s : State) (k : ErrKind) (b : Bool) : (s.addError k b).host = s.host := rfl
@[simp] theorem State.addError_hostRegs (s : State) (k : ErrKind) (b : Bool) : (s.addError k b).hostRegs = s.hostRegs := rfl
@[simp] theorem State.addError_pwr (s : State) (k : ErrKind) (b : Bool) : (s.addError k b).pwr = s.pwr := rfl
@[simp] theorem State.addError_dawn (s : State) (k : ErrKind) (b : Bool) : (s.addError k b).dawn = s.dawn := rfl
@[simp] theorem State.addError_images (s : State) (k : ErrKind) (b : Bool) : (s.addError k b).images = s.images := rfl
@[simp] theorem State.addError_sector (s : State) (k : ErrKind) (b : Bool) : (s.addError k b).sector = s.sector := rfl
@[simp] theorem State.addError_ctl (s : State) (k : ErrKind) (b : Bool) : (s.addError k b).ctl = s.ctl := rfl
@[simp] theorem State.addError_log (s : State) (k : ErrKind) (b : Bool) : (s.addError k b).log = s.log := rfl
@[simp] theorem State.addError_tst (s : State) (k : ErrKind) (b : Bool) : (s.addError k b).tst = s.tst := rfl
@[simp] theorem State.addError_free (s : State) (k : ErrKind) (b : Bool) : (s.addError k b).free = s.free := rfl
@[simp] theorem State.addError_out (s : State) (k : ErrKind) (b : Bool) : (s.addError k b).out = s.out := rfl
@[simp] theorem State.addError_pending (s : State) (k : ErrKind) (b : Bool) : (s.addError k b).pending = s.pending := rfl
@[simp] theorem State.logRecord_clk (s : State) (k : Nat) (d : List Byte) : (s.logRecord k d).clk = s.clk := rfl
@[simp] theorem State.logRecord_frm (s : State) (k : Nat) (d : List Byte) : (s.logRecord k d).frm = s.frm := rfl
@[simp] theorem State.logRecord_map (s : State) (k : Nat) (d : List Byte) : (s.logRecord k d).map = s.map := rfl
@[simp] theorem State.logRecord_mapNext (s : State) (k : Nat) (d : List Byte) : (s.logRecord k d).mapNext = s.mapNext := rfl
@[simp] theorem State.logRecord_mapDirty (s : State) (k : Nat) (d : List Byte) : (s.logRecord k d).mapDirty = s.mapDirty := rfl
@[simp] theorem State.logRecord_plan (s : State) (k : Nat) (d : List Byte) : (s.logRecord k d).plan = s.plan := rfl
@[simp] theorem State.logRecord_err (s : State) (k : Nat) (d : List Byte) : (s.logRecord k d).err = s.err := rfl
@[simp] theorem State.logRecord_num (s : State) (k : Nat) (d : List Byte) : (s.logRecord k d).num = s.num := rfl
@[simp] theorem State.logRecord_setAt (s : State) (k : Nat) (d : List Byte) : (s.logRecord k d).setAt = s.setAt := rfl
@[simp] theorem State.logRecord_numNow (s : State) (k : Nat) (d : List Byte) : (s.logRecord k d).numNow = s.numNow := rfl
@[simp] theorem State.logRecord_tiles (s : State) (k : Nat) (d : List Byte) : (s.logRecord k d).tiles = s.tiles := rfl
@[simp] theorem State.logRecord_regions (s : State) (k : Nat) (d : List Byte) : (s.logRecord k d).regions = s.regions := rfl
@[simp] theorem State.logRecord_mesh (s : State) (k : Nat) (d : List Byte) : (s.logRecord k d).mesh = s.mesh := rfl
@[simp] theorem State.logRecord_rim (s : State) (k : Nat) (d : List Byte) : (s.logRecord k d).rim = s.rim := rfl
@[simp] theorem State.logRecord_hops (s : State) (k : Nat) (d : List Byte) : (s.logRecord k d).hops = s.hops := rfl
@[simp] theorem State.logRecord_barriers (s : State) (k : Nat) (d : List Byte) : (s.logRecord k d).barriers = s.barriers := rfl
@[simp] theorem State.logRecord_gates (s : State) (k : Nat) (d : List Byte) : (s.logRecord k d).gates = s.gates := rfl
@[simp] theorem State.logRecord_stack (s : State) (k : Nat) (d : List Byte) : (s.logRecord k d).stack = s.stack := rfl
@[simp] theorem State.logRecord_stackUe (s : State) (k : Nat) (d : List Byte) : (s.logRecord k d).stackUe = s.stackUe := rfl
@[simp] theorem State.logRecord_blvd (s : State) (k : Nat) (d : List Byte) : (s.logRecord k d).blvd = s.blvd := rfl
@[simp] theorem State.logRecord_upd (s : State) (k : Nat) (d : List Byte) : (s.logRecord k d).upd = s.upd := rfl
@[simp] theorem State.logRecord_ports (s : State) (k : Nat) (d : List Byte) : (s.logRecord k d).ports = s.ports := rfl
@[simp] theorem State.logRecord_group (s : State) (k : Nat) (d : List Byte) : (s.logRecord k d).group = s.group := rfl
@[simp] theorem State.logRecord_assembling (s : State) (k : Nat) (d : List Byte) : (s.logRecord k d).assembling = s.assembling := rfl
@[simp] theorem State.logRecord_reductions (s : State) (k : Nat) (d : List Byte) : (s.logRecord k d).reductions = s.reductions := rfl
@[simp] theorem State.logRecord_host (s : State) (k : Nat) (d : List Byte) : (s.logRecord k d).host = s.host := rfl
@[simp] theorem State.logRecord_hostRegs (s : State) (k : Nat) (d : List Byte) : (s.logRecord k d).hostRegs = s.hostRegs := rfl
@[simp] theorem State.logRecord_pwr (s : State) (k : Nat) (d : List Byte) : (s.logRecord k d).pwr = s.pwr := rfl
@[simp] theorem State.logRecord_dawn (s : State) (k : Nat) (d : List Byte) : (s.logRecord k d).dawn = s.dawn := rfl
@[simp] theorem State.logRecord_images (s : State) (k : Nat) (d : List Byte) : (s.logRecord k d).images = s.images := rfl
@[simp] theorem State.logRecord_sector (s : State) (k : Nat) (d : List Byte) : (s.logRecord k d).sector = s.sector := rfl
@[simp] theorem State.logRecord_ctl (s : State) (k : Nat) (d : List Byte) : (s.logRecord k d).ctl = s.ctl := rfl
@[simp] theorem State.logRecord_tst (s : State) (k : Nat) (d : List Byte) : (s.logRecord k d).tst = s.tst := rfl
@[simp] theorem State.logRecord_free (s : State) (k : Nat) (d : List Byte) : (s.logRecord k d).free = s.free := rfl
@[simp] theorem State.logRecord_out (s : State) (k : Nat) (d : List Byte) : (s.logRecord k d).out = s.out := rfl
@[simp] theorem State.logRecord_pending (s : State) (k : Nat) (d : List Byte) : (s.logRecord k d).pending = s.pending := rfl
@[simp] theorem State.unform_clk (s : State) : s.unform.clk = s.clk := rfl
@[simp] theorem State.unform_frm (s : State) : s.unform.frm = s.frm := rfl
@[simp] theorem State.unform_map (s : State) : s.unform.map = s.map := rfl
@[simp] theorem State.unform_mapNext (s : State) : s.unform.mapNext = s.mapNext := rfl
@[simp] theorem State.unform_mapDirty (s : State) : s.unform.mapDirty = s.mapDirty := rfl
@[simp] theorem State.unform_plan (s : State) : s.unform.plan = s.plan := rfl
@[simp] theorem State.unform_err (s : State) : s.unform.err = s.err := rfl
@[simp] theorem State.unform_num (s : State) : s.unform.num = s.num := rfl
@[simp] theorem State.unform_setAt (s : State) : s.unform.setAt = s.setAt := rfl
@[simp] theorem State.unform_numNow (s : State) : s.unform.numNow = s.numNow := rfl
@[simp] theorem State.unform_tiles (s : State) : s.unform.tiles = s.tiles := rfl
@[simp] theorem State.unform_regions (s : State) : s.unform.regions = s.regions := rfl
@[simp] theorem State.unform_mesh (s : State) : s.unform.mesh = s.mesh := rfl
@[simp] theorem State.unform_rim (s : State) : s.unform.rim = s.rim := rfl
@[simp] theorem State.unform_hops (s : State) : s.unform.hops = s.hops := rfl
@[simp] theorem State.unform_barriers (s : State) : s.unform.barriers = s.barriers := rfl
@[simp] theorem State.unform_gates (s : State) : s.unform.gates = s.gates := rfl
@[simp] theorem State.unform_stack (s : State) : s.unform.stack = s.stack := rfl
@[simp] theorem State.unform_stackUe (s : State) : s.unform.stackUe = s.stackUe := rfl
@[simp] theorem State.unform_blvd (s : State) : s.unform.blvd = s.blvd := rfl
@[simp] theorem State.unform_ports (s : State) : s.unform.ports = s.ports := rfl
@[simp] theorem State.unform_assembling (s : State) : s.unform.assembling = s.assembling := rfl
@[simp] theorem State.unform_reductions (s : State) : s.unform.reductions = s.reductions := rfl
@[simp] theorem State.unform_host (s : State) : s.unform.host = s.host := rfl
@[simp] theorem State.unform_hostRegs (s : State) : s.unform.hostRegs = s.hostRegs := rfl
@[simp] theorem State.unform_pwr (s : State) : s.unform.pwr = s.pwr := rfl
@[simp] theorem State.unform_dawn (s : State) : s.unform.dawn = s.dawn := rfl
@[simp] theorem State.unform_images (s : State) : s.unform.images = s.images := rfl
@[simp] theorem State.unform_sector (s : State) : s.unform.sector = s.sector := rfl
@[simp] theorem State.unform_ctl (s : State) : s.unform.ctl = s.ctl := rfl
@[simp] theorem State.unform_log (s : State) : s.unform.log = s.log := rfl
@[simp] theorem State.unform_tst (s : State) : s.unform.tst = s.tst := rfl
@[simp] theorem State.unform_free (s : State) : s.unform.free = s.free := rfl
@[simp] theorem State.unform_out (s : State) : s.unform.out = s.out := rfl
@[simp] theorem State.unform_pending (s : State) : s.unform.pending = s.pending := rfl

theorem State.linkStatus_group (s : State) (n : Nat) (f : Group → Group) : (s.linkStatus n f).group = f s.group := by rw [State.linkStatus_frame]

theorem State.enterNight_night (s : State) : s.enterNight.pwr.night = true := by rw [State.enterNight_frame]

theorem State.addError_run (s : State) (k : ErrKind) (b : Bool) : (s.addError k b).plan.run = s.plan.run := rfl

/-- A COOL_OK stop: engines have run up to it and stop there; stacks and the frame stay; the step fails (R357). -/
theorem State.coolStop_spec (s : State) (h : s.pwr.coolStop = false) :
    s.coolStop.pwr.coolStop = true ∧ s.coolStop.clk.running = false ∧ s.coolStop.tiles = s.syncTiles.tiles ∧
      s.coolStop.stack = s.stack ∧ s.coolStop.frm = s.frm ∧ (s.runActive = true → s.coolStop.plan.failNext = true) := by
  have e : ∀ x : State, (x.powerEvent 1).pwr.coolStop = x.pwr.coolStop := fun x => by rw [State.powerEvent_frame]
  have f : ∀ x : State, x.plan.run = true → (x.addError .coolStop true).plan.failNext = true := fun x h => x.addError_failNext _ h
  have k := State.TilesOnly.syncTiles s
  have k1 : s.syncTiles.stack = s.stack := by rw [k]
  have k2 : s.syncTiles.frm = s.frm := by rw [k]
  have k3 : s.syncTiles.plan.run = s.plan.run := by rw [k]
  unfold State.coolStop
  rw [h]
  simp only [Bool.false_eq_true, if_false]
  refine ⟨?_, trivial, ?_, ?_, ?_, fun run => ?_⟩ <;> split <;> simp [e, k1, k2]
  all_goals exact f _ (by simpa [State.runActive, k3] using run)

end Sys2Proof.Machine
end

