-- ==== Sys2Proof/Laws/PerInstr.lean ====
section
/-! SUPPORT. Of every command: where it is well formed, each unit that its operands name is one that the module has. -/

namespace Sys2Proof.Laws.Operands

/-- Every unit that the command names exists where the command is well formed. -/
def Statement (i : Instr) : Prop := i.wf = true → ∀ u ∈ i.units, u.2 < u.1.count

/-- The law follows from the definition of well-formedness, whatever the command. -/
theorem ofWf (i : Instr) : Statement i := by
  intro h u hu
  have h' := (Bool.and_eq_true _ _ |>.mp h).1
  simpa using (List.all_eq_true.mp h') u hu

theorem powerGood (straps : Nat) : Statement (.powerGood straps) := ofWf _
theorem dawnWave (w : Nat) (tests : List RegionTest) : Statement (.dawnWave w tests) := ofWf _
theorem waveRepeat (test : RegionTest) : Statement (.waveRepeat test) := ofWf _
theorem interconnectTest (res : InterconnectResult) : Statement (.interconnectTest res) := ofWf _
theorem retentionReadback (r : Nat) (res : RetentionResult) : Statement (.retentionReadback r res) := ofWf _
theorem regionPowerOffExpiry (r : Nat) : Statement (.regionPowerOffExpiry r) := ofWf _
theorem stackReady (g : Nat) (init : StackInit) : Statement (.stackReady g init) := ofWf _
theorem stackPowerCycleExpiry (g : Nat) (initOk : Bool) : Statement (.stackPowerCycleExpiry g initOk) := ofWf _
theorem dawnFinalStage : Statement (.dawnFinalStage) := ofWf _
theorem readyReached : Statement (.readyReached) := ofWf _
theorem trialWatchdog : Statement (.trialWatchdog) := ofWf _
theorem lockstepMismatch : Statement (.lockstepMismatch) := ofWf _
theorem modResetAssert : Statement (.modResetAssert) := ofWf _
theorem modResetDeassert (straps : Nat) : Statement (.modResetDeassert straps) := ofWf _
theorem cmpResetAssert : Statement (.cmpResetAssert) := ofWf _
theorem cmpResetRelease : Statement (.cmpResetRelease) := ofWf _
theorem vrAlertFall : Statement (.vrAlertFall) := ofWf _
theorem nightEnd : Statement (.nightEnd) := ofWf _
theorem coolOkDeassert : Statement (.coolOkDeassert) := ofWf _
theorem coolOkRestart : Statement (.coolOkRestart) := ofWf _
theorem sensorConversion (r : Nat) (temps : List Int) : Statement (.sensorConversion r temps) := ofWf _
theorem inputUndervoltage : Statement (.inputUndervoltage) := ofWf _
theorem inputOvervoltage : Statement (.inputOvervoltage) := ofWf _
theorem computeEfuseOpen (r : Nat) : Statement (.computeEfuseOpen r) := ofWf _
theorem thoroughfareEfuseOpen (r : Nat) : Statement (.thoroughfareEfuseOpen r) := ofWf _
theorem frameEnd : Statement (.frameEnd) := ofWf _
theorem frameTick (tel : Telemetry) : Statement (.frameTick tel) := ofWf _
theorem agingMeasurement (r point mv : Nat) : Statement (.agingMeasurement r point mv) := ofWf _
theorem logSummaryWrite : Statement (.logSummaryWrite) := ofWf _
theorem mapStore : Statement (.mapStore) := ofWf _
theorem holdTimeout (tel : Telemetry) : Statement (.holdTimeout tel) := ofWf _
theorem originFrameRelease : Statement (.originFrameRelease) := ofWf _
theorem barrierComplete (d : Nat) : Statement (.barrierComplete d) := ofWf _
theorem halt (t : Nat) (a : Access) : Statement (.halt t a) := ofWf _
theorem nop (t : Nat) (a : Access) : Statement (.nop t a) := ofWf _
theorem fwait (t : Nat) (a : Access) : Statement (.fwait t a) := ofWf _
theorem testw (t : Nat) (a : Access) : Statement (.testw t a) := ofWf _
theorem testWindowEnd (t : Nat) : Statement (.testWindowEnd t) := ofWf _
theorem sync (t : Nat) (a : Access) : Statement (.sync t a) := ofWf _
theorem gfence (t : Nat) (a : Access) : Statement (.gfence t a) := ofWf _
theorem cwait (t : Nat) (a : Access) : Statement (.cwait t a) := ofWf _
theorem sli (t : Nat) (a : Access) : Statement (.sli t a) := ofWf _
theorem slih (t : Nat) (a : Access) : Statement (.slih t a) := ofWf _
theorem salu (t : Nat) (a : Access) : Statement (.salu t a) := ofWf _
theorem smovs (t : Nat) (a : Access) : Statement (.smovs t a) := ofWf _
theorem br (t : Nat) (a : Access) : Statement (.br t a) := ofWf _
theorem dbnz (t : Nat) (a : Access) : Statement (.dbnz t a) := ofWf _
theorem setrc (t : Nat) (a : Access) : Statement (.setrc t a) := ofWf _
theorem lds (t : Nat) (a : Access) : Statement (.lds t a) := ofWf _
theorem sts (t : Nat) (a : Access) : Statement (.sts t a) := ofWf _
theorem loadw (t : Nat) (a : Access) : Statement (.loadw t a) := ofWf _
theorem loadwStart (t : Nat) (upsets : List Upset) : Statement (.loadwStart t upsets) := ofWf _
theorem wfill (t : Nat) (a : Access) : Statement (.wfill t a) := ofWf _
theorem stream (t : Nat) (a : Access) : Statement (.stream t a) := ofWf _
theorem streamStart (t : Nat) (upsets : List Upset) : Statement (.streamStart t upsets) := ofWf _
theorem gridRowOutput (t : Nat) (deck staging : List Upset) : Statement (.gridRowOutput t deck staging) := ofWf _
theorem routeSummaryWrite (t : Nat) (upsets : List Upset) : Statement (.routeSummaryWrite t upsets) := ofWf _
theorem drain (t : Nat) (a : Access) : Statement (.drain t a) := ofWf _
theorem dfill (t : Nat) (a : Access) : Statement (.dfill t a) := ofWf _
theorem dcopy (t : Nat) (a : Access) : Statement (.dcopy t a) := ofWf _
theorem varith (t : Nat) (a : Access) : Statement (.varith t a) := ofWf _
theorem vcmp (t : Nat) (a : Access) : Statement (.vcmp t a) := ofWf _
theorem vint (t : Nat) (a : Access) : Statement (.vint t a) := ofWf _
theorem vmove (t : Nat) (a : Access) : Statement (.vmove t a) := ofWf _
theorem vcvt (t : Nat) (a : Access) : Statement (.vcvt t a) := ofWf _
theorem vfunc (t : Nat) (a : Access) : Statement (.vfunc t a) := ofWf _
theorem vred (t : Nat) (a : Access) : Statement (.vred t a) := ofWf _
theorem vld (t : Nat) (a : Access) : Statement (.vld t a) := ofWf _
theorem vst (t : Nat) (a : Access) : Statement (.vst t a) := ofWf _
theorem vgather (t : Nat) (a : Access) : Statement (.vgather t a) := ofWf _
theorem vscatter (t : Nat) (a : Access) : Statement (.vscatter t a) := ofWf _
theorem vscadd (t : Nat) (a : Access) : Statement (.vscadd t a) := ofWf _
theorem csend (t : Nat) (a : Access) : Statement (.csend t a) := ofWf _
theorem crecv (t : Nat) (a : Access) : Statement (.crecv t a) := ofWf _
theorem slotEntry (t : Nat) (upsets : List Upset) : Statement (.slotEntry t upsets) := ofWf _
theorem localSend (t : Nat) (upsets : List Upset) : Statement (.localSend t upsets) := ofWf _
theorem lineReceive (t : Nat) : Statement (.lineReceive t) := ofWf _
theorem queuedDeckWrite (t : Nat) (upsets : List Upset) : Statement (.queuedDeckWrite t upsets) := ofWf _
theorem testSliceEnd (t : Nat) (mismatch : Bool) (upsets : List Upset) : Statement (.testSliceEnd t mismatch upsets) := ofWf _
theorem testSliceAbort (t : Nat) : Statement (.testSliceAbort t) := ofWf _
theorem arm (port g : Nat) : Statement (.arm port g) := ofWf _
theorem disarm (port g : Nat) : Statement (.disarm port g) := ofWf _
theorem stackTransferIssue (g : Nat) (host : Bool) : Statement (.stackTransferIssue g host) := ofWf _
theorem stackTransferComplete (g idx : Nat) (ecc : EccReport) : Statement (.stackTransferComplete g idx ecc) := ofWf _
theorem rimLineSend (g r : Nat) (bufCe : Nat) : Statement (.rimLineSend g r bufCe) := ofWf _
theorem rimLineReceive (g : Nat) : Statement (.rimLineReceive g) := ofWf _
theorem hostReadCompletion (g r addr : Nat) (data : List Byte) : Statement (.hostReadCompletion g r addr data) := ofWf _
theorem hostReadError (g r : Nat) : Statement (.hostReadError g r) := ofWf _
theorem completionTimeout (g r : Nat) : Statement (.completionTimeout g r) := ofWf _
theorem pageFault (g r page : Nat) : Statement (.pageFault g r page) := ofWf _
theorem pageRequestResponse (g r : Nat) (success : Bool) : Statement (.pageRequestResponse g r success) := ofWf _
theorem faultTimeout (g r : Nat) : Statement (.faultTimeout g r) := ofWf _
theorem atsInvalidation (port page pasid : Nat) : Statement (.atsInvalidation port page pasid) := ofWf _
theorem ingressDoorbell (port g r count : Nat) : Statement (.ingressDoorbell port g r count) := ofWf _
theorem doorbellAccept (port : Nat) : Statement (.doorbellAccept port) := ofWf _
theorem cqHeadWrite (port g value : Nat) : Statement (.cqHeadWrite port g value) := ofWf _
theorem scqHeadWrite (port value : Nat) : Statement (.scqHeadWrite port value) := ofWf _
theorem refreshSlot (g : Nat) : Statement (.refreshSlot g) := ofWf _
theorem forcedRefresh (g : Nat) : Statement (.forcedRefresh g) := ofWf _
theorem apertureRead (port off len : Nat) (ecc : EccReport) : Statement (.apertureRead port off len ecc) := ofWf _
theorem apertureWrite (port off : Nat) (data : List (Option Byte)) (poisoned : Bool) : Statement (.apertureWrite port off data poisoned) := ofWf _
theorem boulevardRow (node : Nat) (tile : Option Nat) : Statement (.boulevardRow node tile) := ofWf _
theorem boulevardForward (node : Nat) : Statement (.boulevardForward node) := ofWf _
theorem gradientRowAtGate (g : Nat) : Statement (.gradientRowAtGate g) := ofWf _
theorem reductionMessage (g : Nat) : Statement (.reductionMessage g) := ofWf _
theorem blockUpdate (g layer idx : Nat) : Statement (.blockUpdate g layer idx) := ofWf _
theorem trainingWindowOpen (p : Nat) : Statement (.trainingWindowOpen p) := ofWf _
theorem trainingWindowClose (p : Nat) : Statement (.trainingWindowClose p) := ofWf _
theorem linkWake (p : Nat) : Statement (.linkWake p) := ofWf _
theorem linkTrainingComplete (p : Nat) (res : Training) : Statement (.linkTrainingComplete p res) := ofWf _
theorem linkLossOfLock (p : Nat) : Statement (.linkLossOfLock p) := ofWf _
theorem recoveryComplete (p : Nat) (res : Training) : Statement (.recoveryComplete p res) := ofWf _
theorem recoveryTimeout (p : Nat) : Statement (.recoveryTimeout p) := ofWf _
theorem flitSlotSend (p : Nat) : Statement (.flitSlotSend p) := ofWf _
theorem dataFlitReceive (p : Nat) (f : Flit) (ce ue : Nat) : Statement (.dataFlitReceive p f ce ue) := ofWf _
theorem ready (p : Nat) (f : Flit) (k : Nat) : Statement (.ready p f k) := ofWf _
theorem sendReady : Statement (.sendReady) := ofWf _
theorem masterTickRelease : Statement (.masterTickRelease) := ofWf _
theorem go (p : Nat) (f : Flit) (k : Nat) : Statement (.go p f k) := ofWf _
theorem abort (p : Nat) (f : Flit) (k : Nat) : Statement (.abort p f k) := ofWf _
theorem stepOpen (p : Nat) (f : Flit) (k : Nat) : Statement (.stepOpen p f k) := ofWf _
theorem resetState (p : Nat) (f : Flit) (k : Nat) : Statement (.resetState p f k) := ofWf _
theorem eof (p : Nat) (f : Flit) (k : Nat) : Statement (.eof p f k) := ofWf _
theorem fsyncTransition : Statement (.fsyncTransition) := ofWf _
theorem syncLostTimeout : Statement (.syncLostTimeout) := ofWf _
theorem retrain (port p : Nat) : Statement (.retrain port p) := ofWf _
theorem disable (port p : Nat) : Statement (.disable port p) := ofWf _
theorem linkMapArm (port : Nat) : Statement (.linkMapArm port) := ofWf _
theorem linkMapCommit : Statement (.linkMapCommit) := ofWf _
theorem pciePortReset (port : Nat) : Statement (.pciePortReset port) := ofWf _
theorem pciePortResetRelease (port : Nat) : Statement (.pciePortResetRelease port) := ofWf _
theorem pcieConfigWrite (port : Nat) (op : CfgOp) : Statement (.pcieConfigWrite port op) := ofWf _
theorem msixUnmask (port : Nat) (vec : Option Nat) : Statement (.msixUnmask port vec) := ofWf _
theorem registerWrite (port bar off size value : Nat) : Statement (.registerWrite port bar off size value) := ofWf _
theorem updStepWrite (port off size value : Nat) : Statement (.updStepWrite port off size value) := ofWf _
theorem load (port : Nat) : Statement (.load port) := ofWf _
theorem planLoadComplete (ecc : EccReport) : Statement (.planLoadComplete ecc) := ofWf _
theorem start (port : Nat) : Statement (.start port) := ofWf _
theorem stop (port : Nat) : Statement (.stop port) := ofWf _
theorem stage (port : Nat) : Statement (.stage port) := ofWf _
theorem stageComplete (flashOk : Bool) (ecc : EccReport) : Statement (.stageComplete flashOk ecc) := ofWf _
theorem activate (port : Nat) : Statement (.activate port) := ofWf _
theorem confirm (port : Nat) : Statement (.confirm port) := ofWf _
theorem revert (port : Nat) : Statement (.revert port) := ofWf _
theorem cfgStore (port : Nat) : Statement (.cfgStore port) := ofWf _
theorem lcFinish (port : Nat) : Statement (.lcFinish port) := ofWf _
theorem lcClaim (port : Nat) : Statement (.lcClaim port) := ofWf _
theorem lcLock (port : Nat) : Statement (.lcLock port) := ofWf _
theorem lcUnlock (port : Nat) : Statement (.lcUnlock port) := ofWf _
theorem lcShip (port : Nat) : Statement (.lcShip port) := ofWf _
theorem lcReceive (port : Nat) : Statement (.lcReceive port) := ofWf _
theorem lcTransfer (port : Nat) : Statement (.lcTransfer port) := ofWf _
theorem lcRelease (port : Nat) : Statement (.lcRelease port) := ofWf _
theorem lcReturn (port : Nat) : Statement (.lcReturn port) := ofWf _
theorem lcRestock (port : Nat) : Statement (.lcRestock port) := ofWf _
theorem lcScrap (port : Nat) : Statement (.lcScrap port) := ofWf _
theorem lcCfgAuth (port : Nat) : Statement (.lcCfgAuth port) := ofWf _
theorem lcFwAuth (port : Nat) : Statement (.lcFwAuth port) := ofWf _
theorem lifecycleWipeDone (failed : List Nat) : Statement (.lifecycleWipeDone failed) := ofWf _
theorem tstRun (port : Nat) : Statement (.tstRun port) := ofWf _
theorem tstRefurb (port : Nat) : Statement (.tstRefurb port) := ofWf _
theorem tstAbort (port : Nat) : Statement (.tstAbort port) := ofWf _
theorem testComplete (res : TestResult) : Statement (.testComplete res) := ofWf _
theorem setdasa (addr : Nat) : Statement (.setdasa addr) := ofWf _
theorem entdaa (addr : Nat) : Statement (.entdaa addr) := ofWf _
theorem setEndpointId (eid : Nat) : Statement (.setEndpointId eid) := ofWf _
theorem getEndpointId : Statement (.getEndpointId) := ofWf _
theorem getMctpVersionSupport : Statement (.getMctpVersionSupport) := ofWf _
theorem getMessageTypeSupport : Statement (.getMessageTypeSupport) := ofWf _
theorem getStatus : Statement (.getStatus) := ofWf _
theorem readMap (off len : Nat) : Statement (.readMap off len) := ofWf _
theorem readLog (off len : Nat) : Statement (.readLog off len) := ofWf _
theorem readReg (off : Nat) : Statement (.readReg off) := ofWf _
theorem readLastStep : Statement (.readLastStep) := ofWf _
theorem getNonce : Statement (.getNonce) := ofWf _
theorem lcRequest (req : List Byte) : Statement (.lcRequest req) := ofWf _
theorem lcStatus : Statement (.lcStatus) := ofWf _
theorem fwStatusQuery : Statement (.fwStatusQuery) := ofWf _
theorem fwControl (op : Nat) : Statement (.fwControl op) := ofWf _
theorem getVersion (tr : Nat) : Statement (.getVersion tr) := ofWf _
theorem getCapabilities (tr : Nat) : Statement (.getCapabilities tr) := ofWf _
theorem negotiateAlgorithms (tr : Nat) : Statement (.negotiateAlgorithms tr) := ofWf _
theorem getDigests (tr : Nat) : Statement (.getDigests tr) := ofWf _
theorem getCertificate (tr off len : Nat) : Statement (.getCertificate tr off len) := ofWf _
theorem challenge (tr : Nat) (nonce : List Byte) : Statement (.challenge tr nonce) := ofWf _
theorem getMeasurements (tr index : Nat) (nonce : List Byte) : Statement (.getMeasurements tr index nonce) := ofWf _
theorem atsTranslationCompletion (g r page : Nat) (granted : Bool) : Statement (.atsTranslationCompletion g r page granted) := ofWf _
theorem cfgStoreComplete (flashOk : Bool) (ecc : EccReport) : Statement (.cfgStoreComplete flashOk ecc) := ofWf _
theorem vrAlertRise : Statement (.vrAlertRise) := ofWf _
theorem coolOkAssert : Statement (.coolOkAssert) := ofWf _
theorem idleFlitReceive (p : Nat) (f : Flit) (ce ue : Nat) : Statement (.idleFlitReceive p f ce ue) := ofWf _
theorem doeDiscovery (port index : Nat) : Statement (.doeDiscovery port index) := ofWf _

end Sys2Proof.Laws.Operands
end

