-- ==== Sys2Proof/Laws/Tile.lean ====
section
/-! SUPPORT. What running an instruction of a tile can do: it issues, is held, stops, or is undefined behaviour. -/

namespace Sys2Proof.Machine

/-- An instruction that may issue and whose issue is done answers the state after it. -/
theorem State.runTile_done {s : State} {t op : Nat} {a : Access} {issue : Tile → Nat → Issue} {x : Tile} {w : Nat}
    {x' : Tile} {n : Notes} (h : Issuing s t op a x w) (hop : op ∈ opcodes) (hi : issue x w = .done x' n) :
    s.runTile t op a issue = .next (s.issued t a x' n) := by
  unfold State.runTile
  dsimp only
  rw [← h.tile, ← h.word]
  have h1 : anyBad x.stagingUe ((List.range 8).map (8 * x.pc + ·)) = false := h.readable
  simp [h.runs, h.free, Nat.not_lt.mpr h.due, h1, h.opcode, hop, hi, State.issued, fetchAddrs, ← h.tile]

/-- One that may issue and is held leaves the state as it was. -/
theorem State.runTile_held {s : State} {t op : Nat} {a : Access} {issue : Tile → Nat → Issue} {x : Tile} {w : Nat}
    (h : Issuing s t op a x w) (hop : op ∈ opcodes) (hi : issue x w = .held) : s.runTile t op a issue = .next s := by
  unfold State.runTile
  dsimp only
  rw [← h.tile, ← h.word]
  have h1 : anyBad x.stagingUe ((List.range 8).map (8 * x.pc + ·)) = false := h.readable
  simp [h.runs, h.free, Nat.not_lt.mpr h.due, h1, h.opcode, hop, hi]

/-- Another opcode at the PC leaves the state as it was. -/
theorem State.runTile_other {s : State} {t op op' : Nat} {a : Access} {issue : Tile → Nat → Issue} {x : Tile} {w : Nat}
    (h : Issuing s t op' a x w) (hop : op' ∈ opcodes) (hne : op' ≠ op) : s.runTile t op a issue = .next s := by
  unfold State.runTile
  dsimp only
  rw [← h.tile, ← h.word]
  have h1 : anyBad x.stagingUe ((List.range 8).map (8 * x.pc + ·)) = false := h.readable
  simp [h.runs, h.free, Nat.not_lt.mpr h.due, h1, h.opcode, hop, hne]

/-- An opcode that is not listed is undefined behaviour. -/
theorem State.runTile_unlisted {s : State} {t op op' : Nat} {a : Access} {issue : Tile → Nat → Issue} {x : Tile} {w : Nat}
    (h : Issuing s t op' a x w) (hop : op' ∉ opcodes) : s.runTile t op a issue = .fault (.undefined .reservedEncoding) := by
  unfold State.runTile
  dsimp only
  rw [← h.tile, ← h.word]
  have h1 : anyBad x.stagingUe ((List.range 8).map (8 * x.pc + ·)) = false := h.readable
  simp [h.runs, h.free, Nat.not_lt.mpr h.due, h1, h.opcode, hop]

/-- A tile that does not run, waits or may not issue yet leaves the state as it was. -/
theorem State.runTile_idle {s : State} {t op : Nat} {a : Access} {issue : Tile → Nat → Issue}
    (h : s.tileRuns t = false ∨ (s.tileNow t a.upsets).1.wait ≠ .none ∨ s.clk.now < (s.tileNow t a.upsets).1.nextIssue) :
    s.runTile t op a issue = .next s := by
  simp only [State.runTile]
  rw [if_pos]
  rcases h with h | h | h <;> simp [h]

/-- The end of an instruction that goes on. -/
theorem Tile.fin_done {t : Tile} {now cycles : Nat} {n : Notes} (h : t.pc < 8191) :
    t.fin now cycles n = .done (t.advance now cycles) n := by
  simp [Tile.fin, Nat.not_le.mpr h]

end Sys2Proof.Machine
end

