-- ==== Sys2Proof/Tests/Slice0.lean ====
section
/-! SUPPORT. Tests: ill-formed commands that the check refuses, worked examples of the spec, and for every statement with
hypotheses a state and operands that meet them (a clause of a statement a conjunct). -/

namespace Sys2Proof.Tests

set_option Elab.async false

open Sys2Proof Sys2Proof.Machine

/-! ## States to test with -/

/-- Ten seconds after power good, in Day, READY. -/
def on : State :=
  { State.reset with
    clk := { Clock.reset with now := 100, wall := wallMs 10000, running := true }
    dawn := { Dawn.reset with powered := true, bistDone := true, ready := true, firstReady := true, nextWave := 14 } }

/-- A run is active. -/
def run : State := { on with plan := { PlanCtl.reset with run := true, state := .running } }

/-- Both PCIe ports take requests. -/
def openPort : HostPort :=
  { HostPort.reset with perst := false, linkUp := true, memSpace := true, busMaster := true, msixEnable := true }

def hosted (s : State) : State := { s with host := Vector.replicate 2 openPort }

/-- Dawn is under way, some milliseconds after its start. -/
def dawning (ms : Nat) (d : Dawn) : State :=
  { State.reset with
    clk := { Clock.reset with wall := wallMs ms }
    dawn := { d with on := true, powered := true } }

/-- Every stack reads a state. -/
def stacksAt (x : StackState) : Map Gate := (List.range nGates).map fun g => (g, { Gate.reset with stackState := x })

/-- A command answers a next state that has a property. -/
def answers (o : Host.Outcome State Fault Refusal) (p : State → Bool) : Bool :=
  match o with
  | .next t => p t
  | _ => false

/-! ## Witnesses: Dawn, resets, power -/

theorem witness_DawnWavesAdvance :
    (let s := dawning 800 { Dawn.reset with nextWave := 9 }
     s.dawnGoes = true ∧ 9 = s.dawn.nextWave ∧ 9 < 14 ∧ s.pwr.night = false ∧
       max (s.dawn.started + wallMs (80 + 70 * 9)) s.dawn.waveFrom + wallMs 70 ≤ s.clk.wall) ∧
    (let s := dawning 1200 { Dawn.reset with nextWave := 14, repeats := [5], waveFrom := wallMs 1130 }
     s.dawnGoes = true ∧ s.dawn.nextWave = 14 ∧ 5 ∈ s.dawn.repeats ∧ s.pwr.night = false ∧
       s.dawn.waveFrom + wallMs 70 ≤ s.clk.wall ∧ s.sector.state ≠ .scrap) := by decide +kernel

theorem witness_DawnStageEventsRecord :
    (let s := dawning 1060 { Dawn.reset with nextWave := 14 }
     s.dawnGoes = true ∧ s.wavesDone = true ∧ s.dawn.interconnect = false ∧ s.dawn.started + wallMs 1060 ≤ s.clk.wall ∧
       s.sector.state ≠ .scrap) ∧
    (let s := dawning 1400 { Dawn.reset with nextWave := 14, waveEnd := [(3, wallMs 100)] }
     s.dawnGoes = true ∧ s.ctl.retention = true ∧ 3 ∉ s.dawn.readBack ∧ s.isDark 3 = false ∧
       Map.find? s.dawn.waveEnd 3 = some (wallMs 100) ∧ wallMs 100 + wallMs 1300 ≤ s.clk.wall) ∧
    (let d : Dawn := { Dawn.reset with nextWave := 14, interconnect := true, powerOff := [3], readBack := List.range 84 }
     let s : State := { dawning 3500 d with gates := stacksAt .ready }
     s.dawnGoes = true ∧ 3 ∈ s.dawn.powerOff ∧ s.stagesDone = true ∧
       max s.dawn.stageEnd (s.dawn.started + wallMs 1500) + wallMs 2000 ≤ s.clk.wall) := by decide +kernel

theorem witness_StackSequenceEnds :
    (let s := dawning 1100 Dawn.reset
     s.stacksGo = true ∧ 47 < nGates ∧ (s.gate 47).stackState = .off ∧ s.stackPhase 47 = .wipe ∧ (s.gate 47).reinit = none ∧
       s.stack.wf = true) ∧
    (let s : State := { dawning 3240 Dawn.reset with gates := [(0, { Gate.reset with reinit := some (wallMs 3100) })] }
     s.stacksGo = true ∧ (s.gate 0).stackState = .off ∧ s.stackPhase 0 = .wipe ∧ (s.gate 0).reinit ≠ none) ∧
    ((dawning 1099 Dawn.reset).stackPhase 0 ≠ .wipe) ∧
    (∀ ms ∈ [3099, 3100],
      (let s : State := { dawning ms Dawn.reset with gates := [(0, { Gate.reset with powerOffUntil := some (wallMs 3100) })] }
       (s.gate 0).powerOffUntil = some (wallMs 3100) ∧ s.stacksGo = true ∧ (s.gate 0).stackState = .off ∧
         if ms = 3100 then wallMs 3100 ≤ s.clk.wall else s.clk.wall < wallMs 3100)) := by decide +kernel

theorem witness_DawnEndsAndReadyRises :
    (let d : Dawn := { Dawn.reset with nextWave := 14, interconnect := true, readBack := List.range 84 }
     let s : State := { dawning 1500 d with gates := stacksAt .failed }
     s.dawnGoes = true ∧ s.stagesDone = true ∧ s.dawn.powerOff = [] ∧ s.sector.state ≠ .scrap ∧ s.dawn.bistDone = false) ∧
    (∀ l ∈ [[], [MapChange.tile 7 130]],
      (let s : State := { dawning 1500 { Dawn.reset with bistDone := true } with gates := stacksAt .ready, mapNext := l }
       s.dawn.powered = true ∧ s.dawn.modReset = false ∧ s.dawn.firstReady = false ∧ s.dawn.bistDone = true ∧
         s.stacksReady = true ∧ s.trainDone = true ∧ s.dawn.cmpReset = false ∧ s.dawn.cmpPin = false)) ∧
    (let s := dawning 1499 Dawn.reset
     s.dawn.powered = true ∧ s.dawn.modReset = false ∧ s.dawn.firstReady = false ∧ s.dawn.bistDone = false ∧
       s.stacksReady = false ∧ s.trainDone = false) := by decide +kernel

theorem witness_PowerGoodAndFullResetBeginDawn :
    State.reset.dawn.powered = false ∧
    (let s : State := { on with dawn := { on.dawn with modReset := true } }
     s.dawn.powered = true ∧ s.dawn.modReset = true) ∧
    (on.dawn.powered = true ∧ on.dawn.modReset = false) := by decide +kernel

theorem witness_ResetLinesStopTheModule :
    (run.dawn.powered = true ∧ run.dawn.modReset = false ∧ run.runActive = true) ∧
    (run.dawn.firstReady = true ∧ run.dawn.cmpReset = false ∧ run.dawn.modReset = false ∧ run.runActive = true) ∧
    (on.dawn.firstReady = true ∧ on.dawn.cmpReset = false ∧ on.runActive = false) ∧
    State.reset.dawn.firstReady = false ∧
    (let s : State := { on with dawn := { on.dawn with cmpReset := true, cmpPin := true } }
     s.runActive = false ∧ s.dawn.cmpReset = true ∧ s.ctl.change = none) := by decide +kernel

theorem witness_TrialWatchdogFallsBack :
    ∀ ms ∈ [4999, 5000],
      (let s : State := { dawning ms Dawn.reset with sector := { Sector.reset with trial := true } }
       s.dawn.powered = true ∧ s.dawn.modReset = false ∧ s.ctl.recovery = false ∧ s.sector.trial = true ∧
       s.dawn.firstReady = false ∧
         if ms = 5000 then s.dawn.started + wallMs 5000 ≤ s.clk.wall else s.clk.wall < s.dawn.started + wallMs 5000) := by
  decide +kernel

theorem witness_VrAlertEntersAndLeavesNight :
    (on.pwr.alertHigh = true ∧ on.dawn.powered = true ∧ on.pwr.night = false) ∧
    (∀ ms ∈ [9999, 10000],
      (let s : State := { on with pwr := { Pwr.reset with night := true, alertSince := wallMs (ms - 1) } }
       s.pwr.alertHigh = true ∧ s.pwr.night = true ∧ s.pwr.coolStop = false ∧ (ms = 10000 → s.pwr.alertSince + wallMs 1 ≤ s.clk.wall))) ∧
    (let s : State := { on with pwr := { Pwr.reset with night := true, alertSince := wallMs 10000 } }
     s.pwr.alertHigh = true ∧ s.pwr.night = true ∧ s.pwr.coolStop = false ∧ s.clk.wall < s.pwr.alertSince + wallMs 1) ∧
    (let s : State := { on with pwr := { Pwr.reset with alertHigh := false } }
     s.pwr.alertHigh = false) := by decide +kernel

theorem witness_CoolOkStopsAndRestarts :
    (run.dawn.powered = true ∧ run.pwr.coolStop = false ∧ run.pwr.night = false ∧ run.runActive = true) ∧
    (let s : State := { on with pwr := { Pwr.reset with coolOk := false } }
     s.pwr.coolOk = false) ∧
    (∀ ms ∈ [9900, 9901],
      (let s : State := { on with pwr := { Pwr.reset with coolStop := true, coolSince := wallMs ms } }
       s.pwr.coolStop = true ∧ s.pwr.coolOk = true ∧ s.pwr.trip = false ∧
         if ms = 9900 then s.pwr.coolSince + wallMs 100 ≤ s.clk.wall else s.clk.wall < s.pwr.coolSince + wallMs 100)) := by
  decide +kernel

theorem witness_SensorConversionUpdatesTemperature :
    83 < nRegions ∧ on.dawn.powered = true ∧ on.pwr.trip = false ∧ max (max (114 : Int) 3) (max (-5) 0) < 115 ∧
      115 ≤ max (max (115 : Int) 3) (max (-5) 0) := by decide +kernel

theorem witness_InputVoltageOutOfRangePowersDown :
    on.dawn.powered = true ∧ on.settleMap.mapDirty = none ∧ on.ctl.storing = none ∧
      (let s : State := { on with mapNext := [.tile 7 130] }
       s.dawn.powered = true ∧ s.settleMap.mapDirty ≠ none ∧ s.mapNext ≠ [] ∧ s.dawn.bistDone = true ∧
         s.mapNext.any MapChange.stored = true) := by decide +kernel

theorem witness_EfuseOpenDarkensTheRegion :
    83 < nRegions ∧ run.dawn.powered = true ∧ run.isDark 83 = false ∧ run.thoroughfareLost 83 = false ∧ run.runActive = true := by
  decide +kernel

/-! ## Witnesses: time and the frame -/

/-- The end of a frame has passed. -/
def ended (s : State) : State :=
  { s with clk := { s.clk with cycle := 8192 }, frm := { s.frm with ended := true, dueAt := some (wallMs 9000) } }

/-- Telemetry of a frame. -/
def tel : Telemetry := ⟨4800, 10000, [], 900, []⟩

theorem witness_StepRunsFrontCommand : on.pending = [] ∧ State.reset.pending = [] ∧ State.reset.dawn.powered = false := by
  decide +kernel

theorem witness_CyclesPassAndTheTickFallsDue :
    (on.pending = [] ∧ on.dawn.powered = true ∧ on.frm.originWait = false ∧ on.clk.cycle < on.dueCycle) ∧
    ((ended on).pending = [] ∧ (ended on).dawn.powered = true ∧ (ended on).frm.originWait = false ∧
      (ended on).dueCycle ≤ (ended on).clk.cycle) ∧
    (let s : State := { run with frm := { Frm.reset with originWait := true } }
     s.pending = [] ∧ s.dawn.powered = true ∧ s.frm.originWait = true) ∧
    (let s : State := { on with mesh := [⟨0, 0, 90, 1, []⟩] }
     s.pending = [] ∧ s.dawn.powered = true ∧ s.clk.running = true ∧ s.mesh ≠ [] ∧
       ∀ f ∈ s.mesh, f.due ≤ s.clk.now ∧ s.crossingRuns f.tile = false) := by decide +kernel

theorem witness_FrameEndDiscardsLinesInFlight :
    ∀ c ∈ [8191, 8192],
      (let s : State := { on with clk := { on.clk with cycle := c } }
       s.dawn.powered = true ∧ s.frm.ended = false ∧ (if c = 8192 then s.frm.lenNow ≤ s.clk.cycle else s.clk.cycle < s.frm.lenNow) ∧
         ∀ p ∈ s.tiles, p.2.rx = []) := by decide +kernel


/-- The end of a tick leaves the gates alone. -/
theorem tick_end_gates (u : State) : ((u.formRequest.moveRails.countTemp.showWindows).noteBarriers).gates = u.gates := by
  have h2 : u.formRequest.gates = u.gates := by
    simp only [State.formRequest]
    repeat' split
    all_goals simp
  have h3 : ∀ v : State, v.countTemp.gates = v.gates := by
    intro v
    unfold State.countTemp
    dsimp only
    split <;> rfl
  have h4 : ∀ v : State, v.moveRails.gates = v.gates := by
    intro v
    unfold State.moveRails
    dsimp only
  have h5 : ∀ (l : List Nat) (v : State), (l.foldl (fun (s : State) d =>
      if (Map.find? s.barriers d).isNone && s.barrierFull d then { s with barriers := Map.set s.barriers d s.clk.now } else s) v).gates =
      v.gates := by
    intro l
    induction l with
    | nil => intro v; rfl
    | cons d l ih =>
      intro v
      simp only [List.foldl_cons, ih]
      split <;> rfl
  unfold State.noteBarriers State.showWindows
  rw [h5]
  dsimp only
  rw [h3, h4, h2]

theorem witness_TickAdvancesTheFrame :
    (let s : State := { ended run with mapNext := [.tile 7 130] }
     let z := s.syncTiles
     let b := if z.frm.ended then z else z.discardFlights
     z.tickReady = true ∧ z.holdMask = 0 ∧ z.startsDead (b.tick tel) = false ∧ (b.tick tel).areasOverlap = false ∧
       s.mapNext ≠ [] ∧ s.dawn.bistDone = true) ∧
    run.syncTiles.tickReady = false ∧
    (let s : State := { ended run with tiles := [(0, { Tile.reset with wait := .none })] }
     s.syncTiles.tickReady = true ∧ s.syncTiles.holdMask ≠ 0) := by
  refine ⟨⟨by decide +kernel, by decide +kernel, by decide +kernel, ?_, by decide +kernel, by decide +kernel⟩, by decide +kernel,
    by decide +kernel, by decide +kernel⟩
  simp only [State.tick, State.tickBegin, State.areasOverlap, tick_end_gates]
  decide +kernel

/-- A frame that tile 0 holds for 100 ms. -/
def heldLong : State :=
  { ended run with tiles := [(0, { Tile.reset with wait := .none })], frm := { (ended run).frm with dueAt := some (wallMs 9900) } }

theorem witness_HoldLimitEndsTheHold :
    (let z := heldLong.syncTiles
     let y := (({ z with frm := { z.frm with timeout := true } } : State).noteSet .frm 3).addError
       (.holdTimeout z.heldSources z.frm.holdLimit) true
     let b := if y.frm.ended then y else y.discardFlights
     z.timedOut = true ∧ heldLong.frm.originWait = false ∧ heldLong.startsHere = false ∧ (b.tick tel).areasOverlap = false ∧
       heldLong.runActive = true) ∧
    (let s : State := { run with frm := { run.frm with originWait := true, dueAt := some (wallMs 9900) } }
     s.syncTiles.timedOut = true ∧ s.frm.originWait = true ∧ s.runActive = true) ∧
    ({ on with frm := { on.frm with holdLimit := 0 } } : State).frm.holdLimit = 0 := by
  refine ⟨⟨by decide +kernel, by decide +kernel, by decide +kernel, ?_, by decide +kernel⟩, by decide +kernel, by decide +kernel⟩
  simp only [State.tick, State.tickBegin, State.areasOverlap, tick_end_gates]
  decide +kernel

theorem witness_OriginWaitAndLifetimeRecords :
    (let s : State := { run with frm := { run.frm with originWait := true } }
     s.frm.originWait = true ∧ ∀ x ∈ s.allRings, s.ringHoldsOrigin x.1 x.2 = false) ∧
    (let s : State := { run with frm := { run.frm with originWait := true }, plan := { run.plan with failNext := true } }
     s.frm.originWait = true ∧ s.failing = true) ∧
    (let s : State := { run with frm := { run.frm with originWait := true }, clk := { run.clk with running := false } }
     s.frm.originWait = true ∧ s.clk.running = false) ∧
    (let s : State := { run with regions := [(83, { Region.reset with near := List.replicate 8 65536 })] }
     83 < nRegions ∧ 7 < 8 ∧ 65536 ≤ (s.region 83).near.getD 7 0) ∧
    (∀ n ∈ [2 ^ 24 - 1, 2 ^ 24],
      (let s : State := { on with frm := { on.frm with count := n } }
       if n = 2 ^ 24 then s.log.lifeStored + 2 ^ 24 ≤ s.lifeFrames else s.lifeFrames < s.log.lifeStored + 2 ^ 24)) ∧
    (let s : State := { on with mapDirty := some 3 }
     s.dawn.powered = true ∧ s.mapDirty ≠ none) := by decide +kernel

/-! ## Witnesses: tile programs -/

/-- An instruction word: opcode and fields with their lowest bits (R128). -/
def enc (op : Nat) (fs : List (Nat × Nat)) : Nat := fs.foldl (fun a f => a + f.2 * 2 ^ f.1) (op * 2 ^ 56)

/-- A tile that goes, with a word at the start of its program store. -/
def tileAt (w : Nat) : Tile := { Tile.reset with at_ := 100, wait := .none, staging := Memory.putBytes [] 0 (leBytes 8 w) }

/-- Tile 0 is this tile, in a run. -/
def prog (x : Tile) : State := { run with tiles := [(0, x)] }

/-- The tile as an instruction finds it. -/
def cur (x : Tile) : Tile := ((prog x).tileNow 0 []).1

/-- Tile 0 may issue the word. -/
def issues (x : Tile) (op w : Nat) : Bool :=
  (prog x).tileRuns 0 && (cur x).wait == .none && decide ((cur x).nextIssue ≤ 100) &&
  !anyBad (cur x).stagingUe (fetchAddrs (cur x).pc) && fld w 63 56 == op && w == (cur x).instrAt (cur x).pc &&
  decide ((cur x).pc < 8191)

theorem issues_issuing {x : Tile} {op w : Nat} (h : issues x op w = true) : Issuing (prog x) 0 op ⟨[]⟩ (cur x) w := by
  simp only [issues, Bool.and_eq_true, beq_iff_eq, decide_eq_true_eq, Bool.not_eq_true'] at h
  obtain ⟨⟨⟨⟨⟨⟨h1, h2⟩, h3⟩, h4⟩, h5⟩, h6⟩, h7⟩ := h
  exact ⟨⟨rfl, h6, h1, h2, h3, h4, h5⟩, h7⟩

/-- Tile 0 has the word before it at the last index of its program store. -/
def atEnd (w : Nat) : Tile :=
  { Tile.reset with at_ := 100, wait := .none, pc := 8191, staging := Memory.putBytes [] (8 * 8191) (leBytes 8 w) }

/-- The word at the last index stands before the tile, which may issue it. -/
def fetchedLast (op w : Nat) : Bool :=
  (prog (atEnd w)).tileRuns 0 && (cur (atEnd w)).wait == .none && decide ((cur (atEnd w)).nextIssue ≤ 100) &&
  !anyBad (cur (atEnd w)).stagingUe (fetchAddrs (cur (atEnd w)).pc) && fld w 63 56 == op &&
  w == (cur (atEnd w)).instrAt (cur (atEnd w)).pc && (cur (atEnd w)).pc == 8191

theorem fetchedLast_fetched {op w : Nat} (h : fetchedLast op w = true) :
    Fetched (prog (atEnd w)) 0 op ⟨[]⟩ (cur (atEnd w)) w ∧ (cur (atEnd w)).pc = 8191 := by
  simp only [fetchedLast, Bool.and_eq_true, beq_iff_eq, decide_eq_true_eq, Bool.not_eq_true'] at h
  obtain ⟨⟨⟨⟨⟨⟨h1, h2⟩, h3⟩, h4⟩, h5⟩, h6⟩, h7⟩ := h
  exact ⟨⟨rfl, h6, h1, h2, h3, h4, h5⟩, h7⟩

/-- A copy that has not begun. -/
def aCopy : CopyJob := ⟨.dcopy, 1000, 0, 64, 64, 0, [0], [], []⟩

/-- A tile whose last store is not done. -/
def storing (x : Tile) : Tile := { x with storeDone := 101 }

theorem witness_TileInstructionsWaitOrStop :
    tileOp (.salu 0 ⟨[]⟩) = some (0, 0x0A, ⟨[]⟩) ∧
    (on.tileRuns 0 = false ∧ (cur { tileAt 0 with wait := .halted }).wait ≠ .none ∧
      (prog (tileAt 0)).clk.now < (cur { tileAt 0 with nextIssue := 101 }).nextIssue) ∧
    (issues (tileAt (enc 0x01 [])) 0x01 (enc 0x01 []) = true ∧ 0x01 ∈ opcodes ∧ 0x01 ≠ 0x0A) ∧
    (issues (tileAt (enc 0x3F [])) 0x3F (enc 0x3F []) = true ∧ 0x3F ∉ opcodes) ∧
    (let x : Tile := { tileAt 0 with stagingUe := [0] }
     (prog x).tileRuns 0 = true ∧ (cur x).wait = .none ∧ (cur x).nextIssue ≤ (prog x).clk.now ∧
       anyBad (cur x).stagingUe (fetchAddrs (cur x).pc) = true) ∧
    (fetchedLast 0x01 (enc 0x01 []) = true ∧ fetchedLast 0x00 0 = true ∧ (cur (atEnd 0)).fenceHolds 100 = true) := by
  decide +kernel

theorem witness_TileInstructionsChangeOnlyTheirTile :
    tileOp (.salu 0 ⟨[]⟩) = some (0, 0x0A, ⟨[]⟩) ∧
      answers (exec (.salu 0 ⟨[]⟩) (prog (tileAt (enc 0x0A [(47, 5), (36, 1), (0, 7)])))) (fun _ => true) = true := by
  decide +kernel

theorem witness_IssuedTileIsStored :
    ((prog (tileAt 0)).tileNow 0 []).2 = Notes.none ∧ (cur (tileAt 0)).stagingCe = [] ∧ (cur (tileAt 0)).stagingUe = [] := by
  decide +kernel

/-- A plan in which tile 0 is a member of domains 0 and 3. -/
def member : Plan :=
  { hdr := ⟨false, 8192, 4, 10, 0, [], []⟩, images := [(0, ⟨0, 9, 64, []⟩)], templates := [], phases := [], layers := [] }

theorem witness_ControlInstructionsComplete :
    (issues (tileAt (enc 0x01 [])) 0x01 (enc 0x01 []) = true ∧ fld (enc 0x01 []) 55 0 = 0) ∧
    (issues (tileAt 0) 0x00 0 = true ∧ (cur (tileAt 0)).fenceHolds 100 = true ∧
      issues (storing (tileAt 0)) 0x00 0 = true ∧ (cur (storing (tileAt 0))).fenceHolds 100 = false) ∧
    (let w := enc 0x05 []
     let x : Tile := { tileAt w with copy := some aCopy }
     issues (tileAt w) 0x05 w = true ∧ fld w 55 0 = 0 ∧ (cur (tileAt w)).gridIdle 100 = true ∧ issues x 0x05 w = true ∧
       (cur x).gridIdle 100 = false) ∧
    (∀ n ∈ [0, 1, 65535], let w := enc 0x02 [(0, n)]
     issues (tileAt w) 0x02 w = true ∧ fld w 55 16 = 0 ∧ (cur (tileAt w)).fenceHolds 100 = true ∧
       issues (storing (tileAt w)) 0x02 w = true ∧ (cur (storing (tileAt w))).fenceHolds 100 = false) ∧
    (∀ n ∈ [0, 1, 64], let w := enc 0x03 [(0, n)]
     issues (tileAt w) 0x03 w = true ∧ fld w 55 7 = 0 ∧ fld w 6 0 = n ∧ (cur (tileAt w)).fenceHolds 100 = true ∧
       issues (storing (tileAt w)) 0x03 w = true ∧ (cur (storing (tileAt w))).fenceHolds 100 = false) ∧
    (let w := enc 0x06 [(15, 1)]
     let x : Tile := { tileAt w with chan := Vector.replicate 16 ⟨.send, 0, 64, 1, 0, 0⟩ }
     issues (tileAt w) 0x06 w = true ∧ fld w 55 16 = 0 ∧
       (∀ c, c < 16 → w / 2 ^ c % 2 = 1 → ((cur (tileAt w)).chanGet c).count = 0) ∧
       issues x 0x06 w = true ∧ w / 2 ^ 15 % 2 = 1 ∧ ((cur x).chanGet 15).count ≠ 0) ∧
    (∀ m ∈ [0, 1, 2, 3], let w := enc 0x04 [(52, 3), (0, m)]
     let x : Tile := { tileAt w with arrived := [3] }
     issues (tileAt w) 0x04 w = true ∧ issues x 0x04 w = true ∧ fld w 55 54 = 0 ∧ fld w 51 2 = 0 ∧ fld w 53 52 = 3 ∧
       3 ∈ (cur x).arrived ∧ 3 ∉ (cur (tileAt w)).arrived ∧ (prog (tileAt w)).isMember 0 3 = false ∧
       ({ prog (tileAt w) with plan := { run.plan with plan := some member } } : State).isMember 0 3 = true) := by
  decide +kernel

theorem witness_ScalarInstructionsComplete :
    (let w := enc 0x08 [(47, 31), (0, 0x80000000)]
     issues (tileAt w) 0x08 w = true ∧ fld w 55 52 = 0 ∧ fld w 46 32 = 0 ∧ (cur (tileAt w)).sReady [fld w 51 47] = true) ∧
    (let w := enc 0x09 [(47, 1), (0, 0xFFFFFFFF)]
     issues (tileAt w) 0x09 w = true ∧ fld w 55 52 = 0 ∧ fld w 46 32 = 0 ∧ (cur (tileAt w)).sReady [fld w 51 47] = true) ∧
    (∀ o ∈ List.range 11,
      (let w := enc 0x0A [(52, o), (47, 5), (42, 6), (36, 1), (0, 0x80000000)]
       issues (tileAt w) 0x0A w = true ∧ fld w 35 32 = 0 ∧ fld w 36 36 = 1 ∧ fld w 41 37 = 0 ∧ fld w 55 52 = o ∧
         (cur (tileAt w)).sReady [fld w 51 47, fld w 46 42] = true) ∧
      (let w := enc 0x0A [(52, o), (47, 5), (42, 6), (37, 31)]
       issues (tileAt w) 0x0A w = true ∧ fld w 35 32 = 0 ∧ fld w 36 36 = 0 ∧ fld w 31 0 = 0 ∧ fld w 55 52 = o ∧
         (cur (tileAt w)).sReady [fld w 51 47, fld w 46 42, fld w 41 37] = true)) ∧
    (∀ k ∈ List.range 12, let w := enc 0x0B [(47, 5), (0, k)]
     issues (tileAt w) 0x0B w = true ∧ fld w 55 52 = 0 ∧ fld w 46 8 = 0 ∧ (cur (tileAt w)).sReady [fld w 51 47] = true ∧
       (special ((prog (tileAt w)).ctx 0) (cur (tileAt w)) (fld w 7 0)).isSome = true) := by decide +kernel

theorem witness_BranchesComplete :
    (∀ o ∈ List.range 7, let w := enc 0x0C [(52, o), (42, 1), (37, 2), (0, 8191)]
     issues (tileAt w) 0x0C w = true ∧ fld w 51 47 = 0 ∧ fld w 36 32 = 0 ∧ fld w 31 13 = 0 ∧ fld w 55 52 = o ∧
       (cur (tileAt w)).sReady [fld w 46 42, fld w 41 37] = true) ∧
    (∀ v ∈ [(0 : Nat), 1, 2], let w := enc 0x0D [(47, 1), (0, 8191)]
     let x : Tile := { tileAt w with s := Vector.replicate 32 (BitVec.ofNat 64 v) }
     issues x 0x0D w = true ∧ fld w 55 52 = 0 ∧ fld w 46 32 = 0 ∧ fld w 31 13 = 0 ∧ fld w 51 47 ≠ 0 ∧
       (cur x).sReady [fld w 51 47] = true ∧ ((cur x).sGet (fld w 51 47) - 1 = 0 ↔ v = 1)) ∧
    (let w := enc 0x0D [(0, 5)]
     issues (tileAt w) 0x0D w = true ∧ fld w 51 47 = 0) ∧
    (let w := enc 0x0C [(52, 2), (42, 1), (37, 2), (0, 5)]
     fetchedLast 0x0C w = true ∧ (cur (atEnd w)).sGet 1 = (cur (atEnd w)).sGet 2) := by decide +kernel

theorem witness_ContextAndScalarMemoryComplete :
    (let w := enc 0x0E [(52, 3), (42, 1), (37, 2), (0, 0xFFFFFF)]
     issues (tileAt w) 0x0E w = true ∧ fld w 55 54 = 0 ∧ fld w 51 47 = 0 ∧ fld w 36 32 = 0 ∧ fld w 31 24 = 0 ∧
       (cur (tileAt w)).sReady [fld w 46 42, fld w 41 37] = true) ∧
    (∀ op ∈ [0x0F, 0x10], let w := enc op [(47, 4), (42, 1), (0, 0x7FFFFF)]
     issues (tileAt w) op w = true ∧ fld w 55 52 = 0 ∧ fld w 41 32 = 0 ∧
       (cur (tileAt w)).sReady [fld w 51 47, fld w 46 42] = true ∧ scalarAddr (cur (tileAt w)) (fld w 46 42) (fld w 31 0) = 0x7FFFF8) ∧
    (let A := 0x7FFFF8
     let y : Tile := { Tile.reset with vq := [⟨[[A / 64]], .lds 4 A, [], []⟩] }
     let z : Tile := { Tile.reset with vq := [⟨[[A / 64]], .store ((wrapAddrs deckSize A 8).zip (leBytes 8 77)), [], []⟩] }
     A % 8 = 0 ∧ A + 8 ≤ deckSize ∧ y.vq = ⟨[[A / 64]], .lds 4 A, [], []⟩ :: [] ∧ deckBank A ∉ y.busy ∧
       deckBank A ∈ ({ y with busy := [31] } : Tile).busy ∧ z.deck.wf = true ∧ deckBank A ∉ z.busy ∧
       z.vq = ⟨[[A / 64]], .store ((wrapAddrs deckSize A 8).zip (leBytes 8 77)), [], []⟩ :: []) := by decide +kernel

/-- A waiting load and a waiting stream. -/
def aLoad : LoadOp := ⟨0, 0, 0, .t16, false, false⟩
def aStream : Option GridOp :=
  (parseRecord (on.ctx 0) Tile.reset (enc 0x1A [(16, 1), (0, 3)]) false .keep 3 .t16).map fun op => { op with issue := 1000 }

theorem witness_GridInstructionsQueue :
    (let w := enc 0x18 [(55, 1), (52, 2), (51, 1), (40, 7), (0, 207)]
     let x : Tile := { tileAt w with loadQ := List.replicate 4 { aLoad with issue := 1000 } }
     issues (tileAt w) 0x18 w = true ∧ (Fmt.ofCode (fld w 54 52)).isSome = true ∧ fld w 54 52 < 4 ∧ fld w 9 8 = 0 ∧
       fld w 7 0 < 208 ∧ (fld w 51 51 = 1 → 2 ≤ fld w 54 52) ∧ (cur (tileAt w)).sReady [fld w 44 40] = true ∧
       (cur (tileAt w)).loadQ.length < 4 ∧ issues x 0x18 w = true ∧ 4 ≤ (cur x).loadQ.length) ∧
    (∀ m ∈ [0, 1, 2], let w := enc 0x1A [(50, m), (16, 1), (0, 3)]
     (GridMode.ofCode (fld w 51 50)).isSome = true ∧ issues (tileAt w) 0x1A w = true ∧ fld w 26 26 = 0 ∧ fld w 54 52 < 4 ∧
       anyBad (cur (tileAt w)).stagingUe ((List.range 64).map (fld w 25 16 * 64 + ·)) = false ∧
       (parseRecord ((prog (tileAt w)).ctx 0) (cur (tileAt w)) w false ((GridMode.ofCode m).getD .keep) (fld w 15 0) .t16).isSome = true ∧
       (cur (tileAt w)).sReady [fld w 41 37, fld w 36 32, fld w 31 27] = true ∧ (cur (tileAt w)).streamQ.length < 4 ∧
       aStream.all (fun op =>
         let x : Tile := { tileAt w with streamQ := List.replicate 4 op }
         issues x 0x1A w && decide (4 ≤ (cur x).streamQ.length)) = true) ∧
    (∀ m ∈ [1, 2], let w := enc 0x1B [(50, m), (16, 1), (0, 128)]
     issues (tileAt w) 0x1B w = true ∧ GridMode.ofCode m ≠ some .keep ∧ fld w 26 26 = 0 ∧ fld w 15 8 = 0 ∧ fld w 7 0 ≤ 128 ∧
       (parseRecord ((prog (tileAt w)).ctx 0) (cur (tileAt w)) w true ((GridMode.ofCode m).getD .keep) (fld w 7 0) .t16).isSome = true ∧
       (cur (tileAt w)).sReady [fld w 36 32, fld w 31 27] = true ∧ (cur (tileAt w)).streamQ.length < 4 ∧
       aStream.all (fun op =>
         let x : Tile := { tileAt w with streamQ := List.replicate 4 op }
         issues x 0x1B w && decide (4 ≤ (cur x).streamQ.length)) = true) := by decide +kernel

theorem witness_CopyEngineInstructionsComplete :
    (∀ r ∈ [0, 96], let w := enc 0x19 [(45, 1), (40, 2), (33, r), (26, 96), (0, 207)]
     issues (tileAt w) 0x19 w = true ∧ fld w 39 33 ≤ 96 ∧ fld w 32 26 ≤ 96 ∧ fld w 7 0 < 208 ∧ fld w 9 8 = 0 ∧
       (cur (tileAt w)).sReady [fld w 49 45, fld w 44 40] = true ∧ (cur (tileAt w)).copyIdle = true ∧
       issues { tileAt w with copy := some aCopy } 0x19 w = true ∧
         (cur { tileAt w with copy := some aCopy }).copyIdle = false) ∧
    (∀ n ∈ [0, 1, 2, deckSize], let w := enc 0x1C [(51, 1), (30, 0xFFFF), (0, n)]
     issues (tileAt w) 0x1C w = true ∧ fld w 23 0 ≤ deckSize ∧ fld w 29 24 = 0 ∧ (cur (tileAt w)).sReady [fld w 55 51] = true ∧
       (cur (tileAt w)).deck.wf = true ∧ (cur (tileAt w)).copyIdle = true ∧ issues { tileAt w with copy := some aCopy } 0x1C w = true ∧
         (cur { tileAt w with copy := some aCopy }).copyIdle = false) ∧
    (aCopy.start = 1000 ∧ (1 : Nat) < 1000) ∧
    (Tile.reset.deck.wf = true ∧ Tile.reset.busy = [] ∧ (on.ctx 0).now + 4 ≤ 104 ∧ 0x7FFFFE % 2 = 0 ∧ 0x7FFFFE < deckSize ∧
      128 % 2 = 0 ∧ 0 < 128 ∧ 128 ≤ 128) ∧
    (∀ n ∈ [0, 128, deckSize], let w := enc 0x1D [(51, 1), (46, 2), (0, n)]
     issues (tileAt w) 0x1D w = true ∧ fld w 23 0 ≤ deckSize ∧ fld w 29 24 = 0 ∧
       (cur (tileAt w)).sReady [fld w 50 46, fld w 55 51] = true ∧ (cur (tileAt w)).copyIdle = true ∧
       issues { tileAt w with copy := some aCopy } 0x1D w = true ∧
         (cur { tileAt w with copy := some aCopy }).copyIdle = false) := by decide +kernel

/-- The tile with a word issues it, and its fields as the statements name them. -/
def vec (op : Nat) (fs : List (Nat × Nat)) (p : Tile → VFields → Bool) : Bool :=
  let w := enc op fs
  issues (tileAt w) op w && p (cur (tileAt w)) (vFields (cur (tileAt w)) w)

theorem witness_VectorLaneInstructionsComplete :
    (∀ o ∈ List.range 8, ∀ f ∈ [0, 1], ∀ h ∈ [0, 1, 2],
      vec 0x20 [(52, o), (49, f), (40, 31), (35, 1), (30, 2), (25, 3), (23, h), (16, 4)] fun x v =>
        (arithFmt v.fmt).isSome && decide (v.sh < 3 ∧ v.op < 8) && !sharedHeld x v) ∧
    (let w := enc 0x20 [(23, 1), (16, 4)]
     let x : Tile := { tileAt w with sDue := [⟨200, 4, 0⟩] }
     issues x 0x20 w = true ∧ (vFields (cur x) w).sh = 1 ∧ sharedHeld (cur x) (vFields (cur x) w) = true) ∧
    (∀ o ∈ List.range 3, ∀ f ∈ [0, 1], ∀ h ∈ [0, 1, 2], vec 0x21 [(52, o), (49, f), (40, 7), (23, h)] fun x v =>
        (arithFmt v.fmt).isSome && decide (v.sh < 3 ∧ v.op < 3) && !sharedHeld x v) ∧
    (∀ o ∈ List.range 8, ∀ h ∈ [0, 1, 2], vec 0x22 [(52, o), (40, 7), (23, h)] fun x v =>
        decide (v.sh < 3 ∧ v.op = o) && !sharedHeld x v) ∧
    (∀ o ∈ List.range 7, vec 0x23 [(52, o), (40, 7), (16, 9), (0, 63)] fun x v => decide (v.sh = 0 ∧ v.op = o) && x.sReady [v.rs]) ∧
    (∀ o ∈ [0, 1], ∀ f ∈ [1, 2, 3], vec 0x24 [(52, o), (49, f)] fun _ v =>
        decide ((Fmt.ofCode v.fmt).isSome = true ∧ 1 ≤ v.fmt ∧ v.fmt < 4 ∧ v.sh = 0 ∧ v.op < 2)) := by decide +kernel

theorem witness_FunctionsAndReductionsComplete :
    (∀ o ∈ List.range 13, ∀ f ∈ [0, 1], ∀ h ∈ [0, 1, 2], vec 0x25 [(52, o), (49, f), (23, h)] fun x v =>
        (arithFmt v.fmt).isSome && (Fn.ofCode v.op).isSome && decide (v.sh < 3 ∧ x.funcFree ≤ 100) && !sharedHeld x v) ∧
    (let w := enc 0x25 []
     let x : Tile := { tileAt w with funcFree := 101 }
     issues x 0x25 w = true ∧ 100 < (cur x).funcFree) ∧
    (∀ o ∈ List.range 3, ∀ f ∈ [0, 1], vec 0x26 [(52, o), (49, f)] fun _ v =>
        (arithFmt v.fmt).isSome && decide (v.sh = 0 ∧ v.op < 3)) ∧
    (let w := enc 0x26 [(52, 1), (45, 1)]
     let x : Tile := { tileAt w with k := Vector.replicate 8 (1 <<< 63) }
     issues x 0x26 w = true ∧ (vFields (cur x) w).mask = 1 <<< 63 ∧
       (vFields (cur { x with k := Vector.replicate 8 0 }) w).mask = 0) ∧
    (let w := enc 0x25 [(23, 1), (16, 4)]
     let x : Tile := { tileAt w with sDue := [⟨200, 4, 0⟩] }
     issues x 0x25 w = true ∧ sharedHeld (cur x) (vFields (cur x) w) = true) := by decide +kernel

/-- A load of 64 BF16 lanes and a store of two bytes that end at the last deck byte. -/
def loadAddrs : List Nat := (List.range 64).map fun l => deckSize - 128 + 2 * l
def aVld : VecAcc := ⟨[linesOf (VecUse.load .bf16 3 (BitVec.allOnes 64) loadAddrs).addrs], .load .bf16 3 (BitVec.allOnes 64) loadAddrs, [], []⟩
def storeBytes : List (Nat × Byte) := [(deckSize - 2, 5), (deckSize - 1, 6)]
def aVst : VecAcc := ⟨[linesOf (storeBytes.map (·.1))], .store storeBytes, [], []⟩

theorem witness_VectorMemoryInstructionsComplete :
    (∀ op ∈ [0x28, 0x29, 0x2A, 0x2B], ∀ f ∈ List.range 4, vec op [(49, f), (0, 7)] fun x v =>
        (Fmt.ofCode v.fmt).isSome && decide (v.fmt < 4 ∧ v.sh = 0 ∧ v.op = 0 ∧ v.imm < 8) && x.sReady [v.rs]) ∧
    (∀ f ∈ [0, 1], vec 0x2C [(49, f), (0, 7)] fun x v =>
        (arithFmt v.fmt).isSome && decide (v.sh = 0 ∧ v.op = 0 ∧ v.imm < 8) && x.sReady [v.rs]) ∧
    (let y : Tile := { Tile.reset with vq := [aVld] }
     loadAddrs.length = 64 ∧ y.vq = ⟨[linesOf (VecUse.load .bf16 3 (BitVec.allOnes 64) loadAddrs).addrs],
       .load .bf16 3 (BitVec.allOnes 64) loadAddrs, [], []⟩ :: [] ∧ (serveLines y.busy (aVld.steps.headD [])).2.1 = []) ∧
    (let y : Tile := { Tile.reset with vq := [aVst] }
     y.vq = ⟨[linesOf (storeBytes.map (·.1))], .store storeBytes, [], []⟩ :: [] ∧ y.deck.wf = true ∧
       (∀ p ∈ storeBytes, p.1 < deckSize) ∧ (storeBytes.map (·.1)).Nodup ∧ (serveLines y.busy (aVst.steps.headD [])).2.1 = []) ∧
    (let y : Tile := { Tile.reset with vq := [aVst], busy := [31] }
     y.vq = aVst :: [] ∧ (serveLines y.busy (aVst.steps.headD [])).2.1 ≠ []) := by decide +kernel

theorem witness_TileStoresOnlyWhereTheyStore :
    (∀ c ∈ [(Instr.sts 0 ⟨[]⟩, 0x10, enc 0x10 [(47, 4), (0, 64)]), (.dfill 0 ⟨[]⟩, 0x1C, enc 0x1C [(51, 1), (30, 7), (0, 4)]),
        (.vst 0 ⟨[]⟩, 0x29, enc 0x29 [(0, 7)]), (.wfill 0 ⟨[]⟩, 0x19, enc 0x19 [(33, 1), (26, 4)]),
        (.nop 0 ⟨[]⟩, 0x01, enc 0x01 [])],
      tileOp c.1 = some (0, c.2.1, ⟨[]⟩) ∧ issues (tileAt c.2.2) c.2.1 c.2.2 = true ∧
        answers (exec c.1 (prog (tileAt c.2.2))) (fun u => u.getTile 0 != tileAt c.2.2) = true) ∧
    (let y : Tile := { Tile.reset with
        vq := [aVst]
        copy := some aCopy
        outQ := [⟨true, none, [⟨128, List.replicate 96 1, 0⟩]⟩] }
     y.deck.wf = true ∧ 0 < deckSize ∧ (∀ acc ∈ y.vq, 0 ∉ acc.use.stores) ∧ y.copy = some aCopy ∧
       (∀ i, i < aCopy.bytes → 0 ≠ aCopy.dstAddr i) ∧
       (∀ r ∈ y.outQ, ∀ p ∈ r.writes, 0 ∉ wrapAddrs deckSize p.addr p.data.length)) := by
  decide +kernel

theorem witness_ChannelInstructionsArm :
    (let w := enc 0x30 [(52, 15), (46, 1), (17, 0xFFFF), (0, 0xFFFF)]
     issues (tileAt w) 0x30 w = true ∧ fld w 16 16 = 0 ∧ (cur (tileAt w)).sReady [fld w 50 46] = true) ∧
    (let w := enc 0x31 [(52, 15), (46, 1), (17, 0xFFFF), (0, 0xFFFF)]
     issues (tileAt w) 0x31 w = true ∧ fld w 16 16 = 0 ∧ fld w 51 51 = 0 ∧ (cur (tileAt w)).sReady [fld w 50 46] = true) ∧
    (let w := enc 0x31 [(52, 15), (51, 1), (41, 1), (33, 207), (0, 5)]
     issues (tileAt w) 0x31 w = true ∧ fld w 16 16 = 0 ∧ fld w 51 51 = 1 ∧ fld w 40 33 < 208 ∧
       (cur (tileAt w)).sReady [fld w 45 41] = true) := by decide +kernel

/-! ## Witnesses: the grid, barriers, crossings, test slices -/

/-- A stream under way with some rows done, and a row in the feeder queues. -/
def dueRow (op : GridOp) (done : Nat) : GridActive := ⟨op, 0, 1, done, 0⟩
def aRow : RowFetch := ⟨0, 0, 96, 2, .t16, false, 0, 1, [], [], [], [], []⟩
def aPlane : PlaneLoad := ⟨10, 3, .t16, false, false, []⟩

theorem witness_GridEventsProceed :
    (0 < nTiles ∧ (prog (tileAt 0)).tileClocked 0 = true ∧ State.reset.tileClocked 0 = false) ∧
    (let x : Tile := { tileAt 0 with loadQ := [aLoad] }
     x.loadQ = aLoad :: [] ∧ aLoad.issue ≤ 0 ∧ x.loadNext ≤ 0 ∧
       ({ x with loadNext := 1 } : Tile).loadQ = aLoad :: [] ∧ 0 < ({ x with loadNext := 1 } : Tile).loadNext) ∧
    (let x : Tile := { tileAt 0 with plane0 := [aPlane] }
     x.plane0 = [aPlane] ∧ x.plane1 = [] ∧ aPlane.cols.length < 48 ∧ aPlane.start + 2 + aPlane.cols.length ≤ 12 ∧
       11 < aPlane.start + 2 + aPlane.cols.length) ∧
    aStream.any (fun o =>
      let op := { o with issue := 0 }
      let x : Tile := { tileAt 0 with streamQ := [op] }
      x.streamQ == op :: [] && !op.drain && decide (op.issue + 8 ≤ 8 ∧ x.zNext ≤ 8 ∧ x.qNext ≤ 8) && !op.sparse.route) = true ∧
    aStream.any (fun op =>
      let x : Tile := { tileAt 0 with
        active := [dueRow op 0]
        rows := [aRow]
        outQ := List.replicate 16 ⟨true, none, [⟨0, [1], 0⟩]⟩ }
      (((x.loadBegin (x.gridNow 200)).streamBegin (x.gridNow 200)).drainBegin (x.gridNow 200)).stalled (x.gridNow 200) 200) = true ∧
    (∀ d ∈ [0, 2], ∀ m ∈ [GridMode.keep, .round], aStream.any (fun o =>
      let op := { o with mode := m }
      let x : Tile := { tileAt 0 with active := [dueRow op d], rows := [aRow] }
      x.active == dueRow op d :: [] && x.rows == aRow :: [] && !op.drain && rowDue (dueRow op d) 200 && !op.sparse.route &&
        decide (if d = 2 then op.rows ≤ d + 1 else d + 1 < op.rows)) = true) ∧
    aStream.any (fun op =>
      let x : Tile := { tileAt 0 with places := [.summary op.sparse 100 0] }
      x.places == .summary op.sparse 100 0 :: [] && decide (99 < 100) && x.outQ.isEmpty &&
        ((outPieces op.sparse.sumBase (x.summaryBytes 7 op.sparse))[0]?).isSome) = true := by decide +kernel

theorem witness_WindowsAndBarriersComplete :
    (let x : Tile := { tileAt 0 with wait := .window true 0 }
     ((prog x).getTile 0).wait = .window true 0 ∧ ((prog x).getTile 0).slice = none) ∧
    (∀ n ∈ [399, 400],
      (let x : Tile := { tileAt 0 with wait := .sync 3, arrived := [3] }
       let s : State := { prog x with barriers := [(3, 0)], clk := { run.clk with now := n } }
       Map.find? s.barriers 3 = some 0 ∧ (if n = 400 then 0 + 400 ≤ s.clk.now else s.clk.now < 0 + 400) ∧
         (s.getTile 0).wait = .sync 3 ∧ 3 ∈ (s.getTile 0).arrived)) := by decide +kernel

/-- A tile whose slot table begins with an entry. -/
def slotTile (b : Nat) : Tile := { Tile.reset with staging := Memory.write [] slotTableBase (BitVec.ofNat 8 b) }

/-- A line on its way to a tile and port, present in cycle 100. -/
def line (t port : Nat) : Flight := ⟨t, port, 100, 96, List.replicate 64 7⟩

/-- Tile k's slot table begins with the entry that connects source 2 to destination d, and a line is present at source 2. -/
def slotState (k d : Nat) : State := { run with tiles := [(k, slotTile (16 * d + 2))], mesh := [line k 2] }

/-- The premises of the clauses about a line that the entry connects from source 2 to destination d. -/
def connects (k d : Nat) (s : State) : Bool :=
  s.crossingRuns k && !s.frm.originWait && !(s.getTile k).inWindow && decide ((s.getTile k).entryAt ≠ some s.clk.now) &&
  decide (s.present k = ([line k 2], [])) &&
  (slotEffect (slotByte (s.tilePort k []).1 s.clk.cycle) (s.tilePort k []).1.switch).any fun w => w.dests 2 == [d]

theorem witness_SlotEntriesActOnTheSwitch :
    ({ run with frm := { run.frm with originWait := true } } : State).frm.originWait = true ∧
    (let s : State := { run with regions := [(0, { Region.reset with thorLost := true })] }
     s.thoroughfareLost (regionOf 0) = true) ∧
    (let s : State := { on with mesh := [line 0 3] }
     s.frm.originWait = false ∧ s.thoroughfareLost (regionOf 0) = false ∧ s.crossingRuns 0 = false ∧ (s.present 0).1 ≠ []) ∧
    (on.frm.originWait = false ∧ on.thoroughfareLost (regionOf 0) = false ∧ on.crossingRuns 0 = false ∧ (on.present 0).1 = []) ∧
    (let x : Tile := { Tile.reset with wait := .window true 2 }
     (prog x).frm.originWait = false ∧ ((prog x).getTile 0).inWindow = true) ∧
    (∀ b ∈ [0, 0x01, 0xCB, 0x0F, 0xCF, 0xD0, 0xDF, 0xE0, 0xEF, 0xF0, 0xF1, 0xF2, 0x0D, 0xCE, 0x11, 0xCC, 0xF3, 0xFF],
      (let s := prog (slotTile b)
       s.crossingRuns 0 = true ∧ s.frm.originWait = false ∧ (s.getTile 0).inWindow = false ∧
         (s.getTile 0).entryAt ≠ some s.clk.now ∧ (s.present 0).1 = [] ∧ slotByte (s.tilePort 0 []).1 s.clk.cycle = b)) ∧
    connects 0 12 (slotState 0 12) = true ∧
    (let k := Machine.tileAt 0 0
     rimGate k 0 = some 0 ∧ neighbour k 0 = none ∧ connects k 0 (slotState k 0) = true) ∧
    (let k := Machine.tileAt 5 5
     rimGate k 10 = none ∧ neighbour k 10 = none ∧ connects k 10 (slotState k 10) = true) ∧
    (∀ d ∈ [1, 10],
      (let k := Machine.tileAt 20 20
       let s := slotState k d
       rimGate k d = none ∧ (neighbour k d).isSome = true ∧ connects k d s = true ∧ s.collides k d = false ∧
         (segmentOf k d).any (fun g => !s.segLost g &&
           ({ s with map := { s.map with segs := [(segKey g, true)] } } : State).segLost g) = true)) ∧
    (let k := Machine.tileAt 20 20
     let s : State := { slotState k 10 with hops := [(100, 10, k)] }
     connects k 10 s = true ∧ s.collides k 10 = true) := by
  decide +kernel

theorem witness_LocalPortMovesLines :
    (let x : Tile := { Tile.reset with switch := ⟨[], some 15, none⟩, chan := Vector.replicate 16 ⟨.send, 64, 64, 1, 0, 0⟩ }
     let s := prog x
     let y := (s.tilePort 0 []).1
     s.crossingRuns 0 = true ∧ s.frm.originWait = false ∧ s.gatedRegion (regionOf 0) = false ∧ y.inWindow = false ∧
       y.portClosed s.clk.now = false ∧ y.sendAt ≠ some s.clk.now ∧ y.drainAt ≠ some s.clk.now ∧ y.switch.send = some 15 ∧
       (y.chanGet 15).use = .send ∧ 0 < (y.chanGet 15).count) ∧
    (let x : Tile := { Tile.reset with rx := [[1, 2]], switch := ⟨[], none, some 15⟩, chan := Vector.replicate 16 ⟨.recvDeck, 64, 64, 1, 0, 0⟩ }
     let y := ((prog x).tilePort 0 []).1
     y.rx = [1, 2] :: [] ∧ (prog x).gatedRegion (regionOf 0) = false ∧ y.inWindow = false ∧ y.switch.recv = some 15 ∧
       (y.chanGet 15).use = .recvDeck ∧ 0 < (y.chanGet 15).count ∧ y.wq.length < 64 ∧
       (((prog { x with switch := Switch.cleared }).tilePort 0 []).1).switch.recv = none ∧
       ((prog x).tilePort 0 []).2.chanDrop = 0) ∧
    (∀ d ∈ [none, some 100],
      (let x : Tile := { Tile.reset with wq := [⟨64, [1], 0⟩], drainAt := d }
       let y := ((prog x).tilePort 0 []).1
       ⟨64, [1], 0⟩ ∈ y.wq ∧ deckBank 64 ∉ y.busy ∧ (prog x).coreRuns = true ∧ (prog x).isDark (regionOf 0) = false ∧
         (prog x).thoroughfareLost (regionOf 0) = false ∧ y.portClosed (prog x).clk.now = false ∧ y.drainAt = d)) := by
  decide +kernel

theorem witness_TestSlicesEnd :
    (let x : Tile := { Tile.reset with slice := some ⟨0⟩ }
     ((prog x).getTile 0).slice ≠ none ∧ (prog x).coreRuns = true ∧ (prog x).runActive = true) ∧
    (let s : State := { on with tiles := [(0, { Tile.reset with slice := some ⟨0⟩ })] }
     (s.getTile 0).slice ≠ none ∧ s.runActive = false) := by decide +kernel

/-! ## Witnesses: stacks, rings, host reads, doorbells, rim lanes -/

/-- A descriptor from fields: offset, size, value (R211). -/
def descWith (fs : List (Nat × Nat × Nat)) : List Byte :=
  ((fs ++ [(12, 4, 1), (16, 4, 1), (20, 4, 1), (24, 4, 1)]).foldl (fun (m : Memory) (f : Nat × Nat × Nat) => m.putBytes f.1 (leBytes f.2.1 f.2.2)) ([] : Memory)).bytes 0 120

/-- An arming with its blocks. -/
def armed (d : List Byte) (bs : List Block) : Arming :=
  { gen := 0, seq := 1, desc := d, origin := 0, released := 0, requested := 1, blocks := bs, delivered := 0, packPos := 0,
    packCarry := [], ecc := false, finalPosted := false, received := 0 }

/-- Block 0 with what is still to be read and written. -/
def blockOf (reads writes : List Xfer) : Block :=
  { num := 0, bytes := [], bad := [], packed := [], reads := reads, writes := writes, inFlight := 0, complete := false, sent := 0,
    reqAt := 90, doneAt := 0, go := false, done := false, cut := none }

/-- A stack that is ready and owes no refresh. -/
def ready : Gate := { Gate.reset with stackState := .ready, debtAt := run.clk.wall }

/-- A gate whose ring 5 is in a state with an arming. -/
def ringed (st : RingState) (a : Arming) : Gate := { ready with rings := [(5, { Ring.reset with state := st, arming := some a })] }

/-- Gate 0 is this gate, in a run. -/
def gated (x : Gate) : State := { run with gates := [(0, x)] }

/-- 64 bytes at stack address 4,096. -/
def xfer64 : Xfer := ⟨0, 4096, 64, none⟩

/-- Descriptors of an outbound class 0 ring, an inbound class 1 ring, and class 4 rings without and with ATS. -/
def desc0 : List Byte := descWith [(1, 1, 1), (8, 4, 2048), (28, 2, 64), (100, 2, 1), (104, 2, 1)]
def desc1 : List Byte := descWith [(0, 1, 1), (1, 1, 1), (8, 4, 2048), (28, 2, 64), (100, 2, 1), (104, 2, 1)]
def desc4 : List Byte := descWith [(0, 1, 4), (4, 4, 4), (8, 4, 4096), (28, 2, 64), (88, 4, 4), (109, 1, 1)]
def desc4a : List Byte := descWith [(0, 1, 4), (4, 4, 16), (8, 4, 4096), (28, 2, 64), (88, 4, 4), (109, 1, 1), (112, 4, 7)]

/-- A write and a read of the update unit. -/
def anUpdate : UpdXfer := ⟨3, 0, 0, true, 0, 8192, 64, List.replicate 64 1, 90⟩
def aPlaneRead : UpdXfer := ⟨3, 0, 0, false, 0, 8192, 64, [], 90⟩

/-- Gate 0's unit has these transfers waiting, and nothing else wants its stack. -/
def updating (l : List UpdXfer) (writes : List (Nat × Nat × Nat)) : State :=
  { gated { ready with frameWrites := writes } with upd := { Upd.reset with units := [(0, { UpdUnit.reset with queue := l })] } }

/-- The candidate that goes next, with its arming and block. -/
def nextFound (s : State) (p : Candidate → Bool) : Bool :=
  ((s.gate 0).nextCandidate (s.unit 0).waitingWrites).any fun c => p c &&
    (((s.gate 0).ring c.ring).walks.find? fun x => x.gen == c.gen).any fun a => (a.block? c.block).isSome

theorem witness_StackTransfers :
    (let s := gated (ringed .active (armed desc0 [blockOf [xfer64] []]))
     0 < nGates ∧ s.canIssue 0 = true ∧ s.updateMayIssue 0 = false ∧
       nextFound s (fun c => !c.write && decide (c.xfer.len ≤ 2048)) = true) ∧
    (∀ hit ∈ [true, false],
      let x := ringed .active (armed desc1 [blockOf [] [xfer64]])
      let s := gated { x with frameWrites := if hit then [(9, 4100, 1)] else [(5, 4100, 1)] }
      s.canIssue 0 = true ∧ s.updateMayIssue 0 = false ∧ s.stack.wf = true ∧
        nextFound s (fun c => c.write && (s.gate 0).overlaps c.ring c.xfer.addr c.xfer.len == hit) = true) ∧
    (∀ y ∈ [anUpdate, aPlaneRead], ∀ hit ∈ [true, false],
      let s := updating [y] (if hit then [(9, 8200, 1)] else [])
      s.canIssue 0 = true ∧ s.updateMayIssue 0 = true ∧ (s.gate 0).nextCandidate (s.unit 0).waitingWrites = none ∧
        (s.unit 0).queue = y :: [] ∧ (s.gate 0).overlaps 1024 y.addr y.len = hit ∧ s.stack.wf = true ∧
        (y.write = true → y.data.length = y.len)) ∧
    (on.canIssue 0 = false) ∧
    (∀ d ∈ [desc4, desc4a],
      let s := hosted (gated (ringed .active (armed d [blockOf [⟨0, 65536, 4096, none⟩] []])))
      s.dawn.cmpReset = false ∧ (s.gate 0).flights.length + (s.gate 0).hostFlights.length < 1024 ∧
        ((s.gate 0).hostCandidates.find? (s.hostReadReady 0)).any (fun c => ((s.gate 0).descOf c).any fun e =>
          e.ats == (d == desc4a) && !(s.gate 0).trans.contains (e.key c.xfer.addr)) = true) := by decide +kernel

/-- A refresh slot of the frame begins in this cycle. -/
def inSlot (debt : Nat) : State :=
  { gated { ready with debt := debt } with clk := { run.clk with cycle := (refreshSlots run.frm.lenNow).headD 0 } }

theorem witness_RefreshesPayTheDebt :
    (∀ s ∈ [inSlot (8 * refreshUnit),
        { gated { ready with debt := 8 * refreshUnit } with frm := { run.frm with originWait := true } }],
      0 < nGates ∧ s.refreshes 0 = true ∧ s.slotNow 0 = true ∧ refreshUnit ≤ (s.gate 0).debtAtWall s.clk.wall ∧
        (s.gate 0).busyUntil ≤ s.clk.wall ∧ (s.gate 0).refreshUntil ≤ s.clk.wall ∧
        8 * refreshUnit ≤ (s.gate 0).debtAtWall s.clk.wall) ∧
    (inSlot 0).stretched = false ∧ on.refreshes 0 = false ∧
    (let s := inSlot (refreshUnit - 1)
     s.refreshes 0 = true ∧ (s.gate 0).debtAtWall s.clk.wall < refreshUnit) ∧
    (let s : State := gated { ready with debt := 8 * refreshUnit, busyUntil := wallMs 10001 }
     s.slotNow 0 = false ∧ s.clk.wall < (s.gate 0).busyUntil) ∧
    (ready.debtAt ≤ run.clk.wall ∧ ready.hot = false ∧ ({ ready with hot := true } : Gate).hot = true) := by decide +kernel

/-- A host read of ring 5 under way. -/
def aRead : HostFlight := ⟨5, 0, 0, 0, 65536, 4096, 0, wallMs 9960, 1, 0, false⟩

theorem witness_TransfersCompleteAndHostReadsEnd :
    (run.gate 0).flights[0]? = none ∧
    (let fl : StackFlight := ⟨.ring 5 0 0, false, 0, 4096, 64, [], [], none⟩
     let b := blockOf [] []
     let a := armed desc0 [b]
     let s := gated { ringed .active a with flights := [fl] }
     (s.gate 0).flights[0]? = some fl ∧ fl.owner = .ring 5 a.gen 0 ∧ (s.ring 0 5).arming = some a ∧ a.d.outbound = true ∧
       a.d.comp = 0 ∧ a.block? 0 = some b ∧ b.complete = false ∧ (a.blocks.map Block.num).Nodup ∧ a.blocks.length ≤ 5 ∧
       0 < a.requested) ∧
    (let fl : StackFlight := ⟨.update 3 0 0, true, 0, 8192, 64, [], [], none⟩
     let s := gated { Gate.reset with flights := [fl] }
     (s.gate 0).flights[0]? = some fl ∧ ((s.unit 0).queue.any fun w => w.write && w.layer == 3 && w.blk == 0) = false ∧
       (s.gate 0).flights.eraseIdx 0 = []) ∧
    (let fl : StackFlight := ⟨.update 3 0 0, false, 0, 8192, 64, [], [], none⟩
     let x : UpdSlot := UpdSlot.fresh 3 0
     let s : State := { gated { Gate.reset with flights := [fl] } with
       upd := { Upd.reset with units := [(0, { UpdUnit.reset with slots := [x] })] } }
     (s.gate 0).flights[0]? = some fl ∧ (s.unit 0).slot? 3 0 = some x) ∧
    (∀ n ∈ [64, 4096],
      let s := gated { ringed .active (armed desc4 [blockOf [] []]) with hostFlights := [{ aRead with len := n }] }
      ((s.gate 0).hostFlights.find? fun h => h.ring == 5 && decide (h.addr ≤ 65536) && decide (65536 + 64 ≤ h.addr + h.len)) =
          some { aRead with len := n } ∧
        ((s.gate 0).hostFlights.find? fun h => h.ring == 5) = some { aRead with len := n } ∧
        ((s.gate 0).hostFlights.find? fun h => h.ring == 5 && decide (h.since + wallMs 40 ≤ s.clk.wall)) = some { aRead with len := n } ∧
        (s.ring 0 5).arming = some (armed desc4 [blockOf [] []]) ∧ (s.ring 0 5).state ≠ .error ∧ (armed desc4 []).gen = aRead.gen) ∧
    (let a := armed desc4a [blockOf [⟨0, 65536, 4096, none⟩] []]
     let s := gated { ringed .active a with transAsked := [(1, 7, pageOf 65536)] }
     ((s.gate 0).nextHost 5).any (fun c => pageOf c.xfer.addr == pageOf 65536) = true ∧ a.d.ats = true ∧
       (a.d.hostPort, a.d.pasid, pageOf 65536) ∈ (s.gate 0).transAsked ∧ a.d.endless = false ∧
       (a.blocks.find? fun b => !b.complete).any (fun b => b.reads.head?.any fun y => (destWrites 0 a b y.off).bad.isNone) = true) ∧
    (∀ ms ∈ [9990, 9991], ∀ asked ∈ [[], [(1, 7, 16)]],
      let s := gated { Gate.reset with
        rings := [(5, { Ring.reset with state := .faulted, arming := some (armed desc4a []), fault := some ⟨16, 0, wallMs ms⟩ })]
        transAsked := asked }
      (s.ring 0 5).state = .faulted ∧ (s.ring 0 5).fault = some ⟨16, 0, wallMs ms⟩ ∧ (s.ring 0 5).arming = some (armed desc4a []) ∧
        (((armed desc4a []).d.hostPort, (armed desc4a []).d.pasid, 16) ∈ (s.gate 0).trans ++ (s.gate 0).transAsked ↔ asked ≠ []) ∧
        (if ms = 9990 then wallMs ms + wallMs 10 ≤ s.clk.wall else s.clk.wall < wallMs ms + wallMs 10)) ∧
    (run.usesPage 1 16 7 = false) := by decide +kernel

/-- Port 1 holds a doorbell write of n for ring 5. -/
def heldBell (n : Nat) (a : Arming) : State :=
  { gated (ringed .active a) with host := Vector.replicate 2 { openPort with held := some (0, 5, n) } }

theorem witness_DoorbellsAnnounceOrWait :
    PortOpen (hosted run) 1 ∧
    (let s := hosted (gated (ringed .active (armed desc4 [])))
     s.isProducer 0 4 = false ∧ s.isProducer 0 5 = true ∧ serialLarger 0 (s.ring 0 5).announced = false ∧
       serialLarger 4 (s.ring 0 5).announced = true ∧ s.doorbellFits 0 5 4 = true ∧
       serialLarger 5 (s.ring 0 5).announced = true ∧ s.doorbellFits 0 5 5 = false) ∧
    (∀ n ∈ [0, 4, 5],
      let s := heldBell n (armed desc4 [])
      (s.hostPort 1).held = some (0, 5, n) ∧ (s.hostPort 1).waiting = [] ∧ s.isProducer 0 5 = true ∧
        serialLarger n (s.ring 0 5).announced = (n != 0) ∧ s.doorbellFits 0 5 n = (n != 5) ∧
        (s.hostPort 0).canSend (ingressVector 0) = false) ∧
    (let s := heldBell 4 (armed desc0 [])
     (s.hostPort 1).held = some (0, 5, 4) ∧ (s.hostPort 1).waiting = [] ∧ s.isProducer 0 5 = false) := by
  refine ⟨⟨by decide +kernel, by decide +kernel, by decide +kernel, by decide +kernel, by decide +kernel⟩, ?_⟩
  decide +kernel

theorem witness_RimLanesCarryLines :
    (run.coreRuns = true ∧ run.frm.originWait = false ∧ run.rimLine 0 5 = none) ∧
    (∀ lost ∈ [true, false],
      let b := { blockOf [] [] with complete := true, go := true }
      let s : State := { gated (ringed .active (armed desc0 [b])) with
        regions := [(regionOf (frontageTile 0 0), { Region.reset with thorLost := lost })] }
      let u : State := { s with mesh := [⟨frontageTile 0 0, rimCrossingPort 0 0, 104, 100, []⟩] }
      s.coreRuns = true ∧ s.frm.originWait = false ∧ (s.rimLine 0 5).any (fun x => x.1.rimTile == 0 && x.1.rimPort == 0) = true ∧
        (u.rimLine 0 5).isSome = true ∧ s.rimTaken (frontageTile 0 0) (rimCrossingPort 0 0) = false ∧
        u.rimTaken (frontageTile 0 0) (rimCrossingPort 0 0) = true ∧ s.thoroughfareLost (regionOf (frontageTile 0 0)) = lost) ∧
    (∀ n ∈ [0, 1, 2],
      let f : RimFlight := ⟨0, frontageTile 0 0, rimCrossingPort 0 0, 100, List.replicate 64 7⟩
      let r : Ring := { Ring.reset with state := .active, arming := some (armed desc1 [blockOf [] []]) }
      let s : State := { gated { Gate.reset with rings := (List.range n).map fun i => (i, r) } with rim := [f] }
      (s.rim.find? fun f => f.gate == 0 && decide (f.due ≤ s.clk.now)) = some f ∧
        (s.rimClaims 0 f (s.clk.cycle - (s.clk.now - f.due))).length = n ∧
        (n = 1 → s.rimClaims 0 f (s.clk.cycle - (s.clk.now - f.due)) = [(0, 0, 0)] ∧
          (s.ring 0 0).arming = some (armed desc1 [blockOf [] []]) ∧
          (armed desc1 [blockOf [] []]).block? 0 = some (blockOf [] []))) := by decide +kernel
/-! ## Witnesses: boulevard and update units -/

/-- A gradient row of tensor 9. -/
def gradRow (row : Nat) : WideRow := ⟨9, row, 0, 0, 0, 1, List.replicate 48 1, none⟩

/-- A layer of one block of 40 rows, with two contributions a row. -/
def aLayer : Layer := ⟨3, 0, 0, false, false, 0, 0, 0, 0, 0, 2, 40, 48, 9, 10, []⟩

/-- A run of a plan with layers. -/
def layered (ls : List Layer) : State := { run with plan := { run.plan with plan := some { member with layers := ls } } }

/-- The key of rows that other rows hold. -/
def others (n : Nat) : List WideRow := (List.range n).map fun i => gradRow (100 + i)

/-- Tile 0 has this row for the boulevard, and its quad node holds n others. -/
def offers (n : Nat) : State :=
  { prog { Tile.reset with outQ := [⟨true, some (gradRow 0), []⟩] } with blvd := ⟨[(0, others n)], [], [], []⟩ }

/-- A row from quad 0 waits to enter its region node, which holds n others. -/
def arriving (n : Nat) : State := { run with blvd := ⟨[(6720, others n)], [⟨0, 6720, gradRow 0⟩], [], []⟩ }

theorem witness_BoulevardMovesRows :
    (∀ n ∈ [63, 64],
      let s := offers n
      0 < 6804 ∧ s.coreRuns = true ∧ 0 < nTiles ∧ quadOf 0 = 0 ∧ s.tileClocked 0 = true ∧ s.freeAt (tileKey 0) ≤ s.clk.now ∧
        (s.tilePort 0 []).1.portRow = some (gradRow 0) ∧
        (acceptRow 0 (s.linkHeld 0) (s.nodeRows 0) (gradRow 0)).isSome = decide (n < 64)) ∧
    ((∀ b ∈ others 63, sameKey b (gradRow 0) = false) ∧ (others 63).length + 0 < nodeRoom 0 ∧ nodeRoom 0 ≤ (others 63).length + 1 ∧
      gradRow 7 ∈ [gradRow 7] ∧ sameKey (gradRow 7) (gradRow 7) = true) ∧
    (∀ n ∈ [511, 512],
      let s := arriving n
      6720 < 6804 ∧ s.coreRuns = true ∧ (s.blvd.links.find? fun f => f.dst == 6720) = some ⟨0, 6720, gradRow 0⟩ ∧
        s.rateFull 6720 0 = false ∧ s.nodeOff 6720 = false ∧
        (acceptRow 6720 (s.linkHeld 6720) (s.nodeRows 6720) (s.enterRow 0 6720 (gradRow 0))).isSome = decide (n < 512) ∧
        ∀ b ∈ s.nodeRows 0, sameKey b (gradRow 0) = false) ∧
    (let s : State := { arriving 0 with blvd := { (arriving 0).blvd with taken := [(6720, (100, 4, 0))] } }
     s.rateFull 6720 0 = true ∧ (s.blvd.links.find? fun f => f.dst == 6720).isSome = true) ∧
    (let s : State := { arriving 0 with regions := [(0, { Region.reset with duskPlan := true })] }
     s.rateFull 6720 0 = false ∧ s.nodeOff 6720 = true ∧ (s.blvd.links.find? fun f => f.dst == 6720).isSome = true) ∧
    (let s : State := { run with blvd := ⟨[(6803, [gradRow 0])], [], [], []⟩ }
     6803 < 6804 ∧ s.coreRuns = true ∧ s.nodeOff 6803 = false ∧ s.nodeRows 6803 = gradRow 0 :: [] ∧
       (s.blvd.links.any fun f => f.src == 6803 && f.dst == nextNode 6803 (s.rowGate 6803 (gradRow 0))) = false ∧
       s.freeAt (linkKey 6803 (nextNode 6803 (s.rowGate 6803 (gradRow 0)))) ≤ s.clk.now) := by decide +kernel

/-- A slot of the layer's block with the counts of rows below n. -/
def slotWith (n : Nat) : UpdSlot := { UpdSlot.fresh 3 0 with counts := (List.range n).map fun i => (i, 2) }

/-- A row at gate 0, with the unit's state. -/
def atGate (ls : List Layer) (u : UpdUnit) : State :=
  { layered ls with blvd := ⟨[], [⟨6720, gateNode 0, { gradRow 39 with count := 2 }⟩], [], []⟩, upd := { Upd.reset with units := [(0, u)] } }

theorem witness_GateTakesGradientsAndReductions :
    (let s := atGate [] UpdUnit.reset
     0 < nGates ∧ s.coreRuns = true ∧ (s.blvd.links.find? fun f => f.dst == gateNode 0).isSome = true ∧ s.layers = []) ∧
    (∀ u ∈ [{ UpdUnit.reset with finals := [(3, 0)] }, { UpdUnit.reset with slots := [slotWith 39] },
        { UpdUnit.reset with slots := [slotWith 38] }, { UpdUnit.reset with slots := (List.range 896).map fun i => UpdSlot.fresh 4 i }],
      let s := atGate [aLayer] u
      s.coreRuns = true ∧ (s.blvd.links.find? fun f => f.dst == gateNode 0).isSome = true ∧ findLayer s.layers 9 = some aLayer ∧
        s.layers ≠ [] ∧ 0 % 48 = 0 ∧ 39 < aLayer.rows ∧ 0 / 48 < aLayer.cb ∧ 2 ≤ aLayer.contrib ∧
        (s.unit 0).finals.contains (3, aLayer.blockAt 39 0) = (u.finals != []) ∧
        ((s.unit 0).slot? 3 (aLayer.blockAt 39 0)).isSome = (u.slots.length == 1) ∧
        (u.slots.length ≠ 1 ∨ (Map.getD (slotWith 39).counts (39 % 48) 0 + 2 ≤ aLayer.contrib ∧
          ((slotWith 39).addRow 39 { gradRow 39 with count := 2 }).complete aLayer = true ∧
          ((slotWith 38).addRow 39 { gradRow 39 with count := 2 }).complete aLayer = false))) ∧
    (let l : Layer := { aLayer with exchange := 2 }
     let m : Nat × Nat × List Byte := (0, 1, leBytes 8 5 ++ leBytes 2 3 ++ [0, 2] ++ leBytes 4 0 ++ List.replicate 290 0)
     let s : State := { layered [l] with reductions := [m], upd := { Upd.reset with step := 5 } }
     (s.reductions.find? fun m => m.1 == 0) = some m ∧ (s.layers.find? fun l => l.id == leAt m.2.2 8 2) = some l ∧
       leAt m.2.2 0 8 = s.upd.step ∧ leAt m.2.2 11 1 = l.exchange ∧ l.cblockLen 0 (leAt m.2.2 12 4) ≠ 0 ∧
       (m.2.2.drop 16).length = l.payloadLen 0 (leAt m.2.2 12 4) ∧
       ((s.unit 0).payloads.any fun p => p.layer == l.id && p.cblock == leAt m.2.2 12 4 && p.member == m.2.1) = false ∧
       (let t : State := { s with upd := { s.upd with step := 6 } }
        leAt m.2.2 0 8 ≠ t.upd.step)) := by decide +kernel

/-- A block of gate 0 is first among the ready ones. -/
def readyBlock (st : StackState) (u : UpdUnit) : State :=
  { layered [aLayer] with gates := stacksAt st, upd := { Upd.reset with units := [(0, u)], agreed := true } }

theorem witness_ReadyBlocksAreUpdated :
    (∀ st ∈ [StackState.ready, .failed],
      let s := readyBlock st { UpdUnit.reset with slots := [slotWith 40], finals := [(3, 0)], ready := [(3, aLayer.blockOf 0 0)] }
      0 < nGates ∧ s.runActive = true ∧ s.coreRuns = true ∧ (s.layers.find? fun l => l.id == 3) = some aLayer ∧
        (s.unit 0).slot? 3 (aLayer.blockOf 0 0) = some (slotWith 40) ∧ (s.unit 0).ready.head? = some (3, aLayer.blockOf 0 0) ∧
        s.stateUsable 0 aLayer (aLayer.blockOf 0 0) = decide (st = .ready) ∧ (s.unit 0).freeAt ≤ s.clk.now ∧
        s.planeOut 0 3 (aLayer.blockOf 0 0) (fun _ => true) = false ∧ aLayer.rule = 0 ∧ aLayer.exchange = 0 ∧ aLayer.stateSr = false) ∧
    (aLayer.isPadding (aLayer.blockOf 0 0) 39 47 = false ∧ aLayer.isPadding (aLayer.blockOf 0 0) 40 0 = true ∧
      anyNone [uCode run.upd.eta 0, uCode codeZero 0] = false ∧ anyNone [uCode codeNar 0] = true) ∧
    (let b := aLayer.blockOf 0 0
     let s := readyBlock .ready { UpdUnit.reset with ready := [(3, b)], freeAt := 101 }
     let u := readyBlock .ready { UpdUnit.reset with ready := [(3, b)], queue := [⟨3, b, 0, false, 0, 8192, 64, [], 90⟩] }
     (s.layers.find? fun l => l.id == 3) = some aLayer ∧ s.stateUsable 0 aLayer b = true ∧ s.clk.now < (s.unit 0).freeAt ∧
       u.planeOut 0 3 b (fun _ => true) = true ∧
       (readyBlock .ready UpdUnit.reset).unit 0 = UpdUnit.reset ∧ UpdUnit.reset.ready.head? ≠ some (3, b) ∧ on.runActive = false) := by
  decide +kernel
/-! ## Witnesses: links and the group -/

/-- A link map of group 7 with three members: the member's parent port and, for each port, its peer, the peer's port and
flags. -/
def linkMap (me parent : Nat) (es : List (Nat × Nat × Nat)) : List Byte :=
  leBytes 4 0x4B4E4C46 ++ leBytes 2 1 ++ leBytes 2 7 ++ [BitVec.ofNat 8 me, 3, 0, 0, BitVec.ofNat 8 parent, 0] ++ leBytes 2 20 ++
  leBytes 8 0 ++ leBytes 8 7 ++
  (es.flatMap fun (e : Nat × Nat × Nat) => [BitVec.ofNat 8 e.1, BitVec.ofNat 8 e.2.1, 0, 0, BitVec.ofNat 8 e.2.2, 0, 0, 0]) ++
  (List.range (16 - es.length)).flatMap (fun _ => [0xFF, 0, 0, 0, 0, 0, 0, 0]) ++ [0, 0, 1] ++ List.replicate 61 0xFF ++ List.replicate 32 0

/-- Member 1: its parent, member 0, at port 0 and its child, member 2, at port 1. -/
def mapOf1 : List Byte := linkMap 1 0 [(0, 1, 0), (2, 0, 1)]

/-- The master, member 0, with its child at port 1. -/
def mapOf0 : List Byte := linkMap 0 0xFF [(0xFF, 0, 0), (1, 0, 1)]

/-- A state in a group: a map, and all 16 ports alike. -/
def inGroup (s : State) (m : List Byte) (x : Port) : State := { s with group := { Group.reset with map := m }, ports := Vector.replicate 16 x }

def upPort : Port := { Port.reset with st := .up, width := 8, mask := 0xFF }

theorem test_maps_pass_their_checks : mapFails mapOf1 = false ∧ mapFails mapOf0 = false ∧ mapFails soloMap = false := by decide +kernel

theorem witness_LinkPortsTrainAndRecover :
    (∀ c ∈ [(400, false, 0), (400, true, 0), (1499, false, 5)],
      let s := inGroup (dawning c.1 Dawn.reset) mapOf1 { Port.reset with disable := c.2.1 }
      c.2.2 < 16 ∧ s.dawn.powered = true ∧ s.dawn.on = true ∧ (s.port c.2.2).st = .quiet ∧ s.dawn.started + wallMs 400 ≤ s.clk.wall ∧
        s.portUsed c.2.2 = (c.2.2 == 0) ∧ (s.port c.2.2).disable = c.2.1) ∧
    (∀ st ∈ [PortState.window, .training],
      let s := inGroup on mapOf1 { Port.reset with st := st, windowEnd := wallMs 10000 }
      ((s.port 0).st = .window ∨ (s.port 0).st = .training) ∧ (s.port 0).windowEnd ≤ s.clk.wall) ∧
    (let s := inGroup on mapOf1 { Port.reset with st := .window, windowEnd := wallMs 10000 + 1 }
     (s.port 0).st = .window ∧ s.clk.wall < (s.port 0).windowEnd) ∧
    (let s := inGroup on mapOf1 { Port.reset with st := .down, result := 7 }
     (s.port 0).st = .down ∧ (s.port 0).result = 7) ∧
    (let s := inGroup on mapOf1 { Port.reset with st := .training, windowEnd := wallMs 10000 + 1 }
     (s.port 0).st = .training ∧ s.clk.wall < (s.port 0).windowEnd) ∧
    (∀ r ∈ [(⟨0xFF, [], 7, 0, 1⟩ : Training), ⟨0xF0, [], 7, 0, 1⟩, ⟨0x55, [], 7, 0, 1⟩, ⟨0xFF, [], 7, 2, 1⟩],
      ∀ st ∈ [PortState.training, .recovery],
      let s := inGroup on mapOf1 { Port.reset with st := st, windowEnd := wallMs 10000 + 1, lostAt := wallMs 9901 }
      (s.port 0).st = st ∧ s.clk.wall < (s.port 0).windowEnd ∧ s.clk.wall < (s.port 0).lostAt + wallMs 100 ∧ s.identityFails 0 r = decide (r.member = 2) ∧
        laneGroup r.lanes = if r.lanes = 0xFF then some (8, 0xFF) else if r.lanes = 0xF0 then some (4, 0xF0) else none) ∧
    ((inGroup on mapOf1 upPort).port 0).st = .up ∧
    (∀ ms ∈ [9900, 9901],
      let s := inGroup on mapOf1 { upPort with st := .recovery, lostAt := wallMs ms }
      (s.port 0).st = .recovery ∧ (s.port 0).lostAt + wallMs 100 ≤ s.clk.wall ↔ ms = 9900) ∧
    (let s := inGroup (hosted on) mapOf1 upPort
     PortOpen s 0 ∧ s.ctl.recovery = false ∧ s.portUsed 0 = true ∧ (s.port 0).disable = false) := by
  refine ⟨by decide +kernel, by decide +kernel, by decide +kernel, by decide +kernel, by decide +kernel, by decide +kernel,
    by decide +kernel, by decide +kernel, ?_⟩
  exact ⟨⟨by decide +kernel, by decide +kernel, by decide +kernel, by decide +kernel, by decide +kernel⟩, by decide +kernel⟩

/-- A data flit for a member and stream, with sequence number 0. -/
def dataFlit (dest lstream : Nat) : Flit :=
  ({ Flit.idle with typ := 0x31, dest := dest, src := 2, lstream := lstream, len := 240, payload := List.replicate 240 1 } : Flit).seal

def aTx : TxFlit := ⟨2, 1, 9, true, true, [1, 2], none, none⟩

/-- Descriptor of a class 3 ring of port 1, stream 9. -/
def desc3 : List Byte := descWith [(0, 1, 3), (1, 1, 1), (8, 4, 2048), (28, 2, 64), (100, 2, 1), (104, 2, 1), (108, 1, 1), (110, 2, 9)]

theorem witness_FlitsMoveInOrder :
    (let s := inGroup on mapOf1 { upPort with own := [aTx], slot := 30 }
     (s.port 1).st = .up ∧ s.pwr.coolStop = false ∧ (s.port 1).resend = [] ∧ (s.port 1).replay.length < 512 ∧ (s.port 1).slot ≠ 31 ∧
       0 < (s.port 1).credits ∧ (s.port 1).own = [aTx] ∧ (s.port 1).fwd = []) ∧
    (let s := inGroup on mapOf1 { upPort with slot := 31 }
     (s.port 1).st = .up ∧ (s.port 1).slot = 31 ∧ (s.port 1).replay.length < 512) ∧
    (let s := inGroup on mapOf1 { upPort with ueTimes := List.replicate 32 (wallMs 10000) }
     (s.port 1).st = .up ∧ ((s.port 1).ueTimes.filter fun t => decide (s.clk.wall < t + wallMs 1)).length + 0 ≤ 32 ∧
       32 < ((s.port 1).ueTimes.filter fun t => decide (s.clk.wall < t + wallMs 1)).length + 1) ∧
    (let s := (inGroup on mapOf1 upPort).fecReport 1 3 1
     (s.port 1).st = .up ∧ { dataFlit 0 9 with crc := 0 }.good = false ∧
       (dataFlit 0 9).good = true ∧ (dataFlit 0 9).kind = 1 ∧ (dataFlit 0 9).seq % 4096 = ((s.port 1).rxSeq + 1) % 4096 ∧
       ({ dataFlit 0 9 with seq := 1 } : Flit).seal.good = true ∧ ({ dataFlit 0 9 with seq := 1 } : Flit).seal.seq % 4096 ≠ ((s.port 1).rxSeq + 1) % 4096 ∧
       s.pwr.coolStop = false ∧ (dataFlit 0 9).dest ≠ s.member ∧ mapRoute s.group.map (dataFlit 0 9).dest = 0 ∧ (s.port 0).st = .up ∧
       (dataFlit 1 9).dest = s.member ∧ (dataFlit 1 9).good = true ∧ s.dawn.cmpReset = false ∧ (s.port 1).rxq = [] ∧ s.linkRing 1 9 = none ∧
       Flit.idle.seal.good = true ∧ Flit.idle.seal.kind = 0) ∧
    (let b := blockOf [] []
     let s := (inGroup (gated (ringed .active (armed desc3 [b]))) mapOf1 upPort).fecReport 1 0 0
     s.linkRing 1 (dataFlit 1 9).lstream = some (0, 5) ∧ (s.ring 0 5).arming = some (armed desc3 [b]) ∧ 0 < (dataFlit 1 9).len ∧
       (armed desc3 [b]).received / (armed desc3 [b]).d.blockBytes < (armed desc3 [b]).released + 5 ∧
       (armed desc3 [b]).block? ((armed desc3 [b]).received / (armed desc3 [b]).d.blockBytes) = some b ∧
       (armed desc3 [b]).received % (armed desc3 [b]).d.blockBytes + (dataFlit 1 9).used.length <
         (armed desc3 [b]).d.blockLen ((armed desc3 [b]).received / (armed desc3 [b]).d.blockBytes)) := by decide +kernel
/-- A sync flit with one message, as it stands in the flit, with sequence number 0. -/
def syncFlit (m : SyncMsg) : Flit :=
  ({ Flit.idle with typ := 2, len := 16, payload := padTo 240 m.bytes } : Flit).seal

/-- The member is in a formed group at group frame 5. -/
def formed (s : State) : State := { s with group := { s.group with formed := true, gframe := 5, goNext := 5 } }

/-- Member 1 in its group, every port up. -/
def inOne (s : State) : State := inGroup s mapOf1 upPort

theorem arrives_first (s : State) (p : Nat) (m : SyncMsg) (up : (s.port p).st = .up) (body : m = (syncFlit m).msg 0)
    (whole : (syncFlit m).good = true) (seq : (syncFlit m).seq % 4096 = ((s.port p).rxSeq + 1) % 4096) :
    Arrives s p (syncFlit m) 0 m.kind m :=
  ⟨up, body, rfl, Nat.le_refl _, .inl ⟨rfl, whole, rfl, seq⟩⟩

/-- READY, GO, ABORT, STEP_OPEN, RESET_STATE and EOF arrive as first messages, from member 2 at port 1 or member 0 at port 0. -/
theorem witness_arrivals :
    ∀ c ∈ [(1, (⟨1, 2, 0x10000 + 24, 5⟩ : SyncMsg)), (1, ⟨1, 2, 24, 6⟩), (0, ⟨2, 0, 24, 5⟩), (0, ⟨2, 0, 24, 9⟩), (0, ⟨3, 0, 3, 5⟩), (0, ⟨3, 1, 1, 5⟩),
        (0, ⟨4, 0, 0, 8⟩), (0, ⟨5, 2, 1, 0⟩), (0, ⟨5, 2, 0, 0⟩), (1, ⟨6, 2, 3, 5⟩)],
      let s := formed (inOne run)
      (s.port c.1).st = .up ∧ c.2 = (syncFlit c.2).msg 0 ∧ (syncFlit c.2).good = true ∧ (syncFlit c.2).seq % 4096 = ((s.port c.1).rxSeq + 1) % 4096 := by
  decide +kernel

/-- A later message of a flit arrives. -/
theorem witness_later_arrival :
    let m : SyncMsg := ⟨3, 0, 3, 5⟩
    let f : Flit := { Flit.idle with typ := 2, len := 32, payload := padTo 240 ((⟨2, 0, 24, 5⟩ : SyncMsg).bytes ++ m.bytes) }
    let s := inGroup run mapOf1 { upPort with syncIn := some (f, 1) }
    Arrives s 0 f 1 3 m :=
  ⟨by decide +kernel, by decide +kernel, by decide +kernel, by decide +kernel, .inr ⟨by decide +kernel, by decide +kernel⟩⟩

/-- The last frame of a step. -/
def lastOf : State := { layered [] with plan := { (layered []).plan with frameInStep := 3 } }

theorem witness_GroupMessagesAndTicksAgree :
    (let s := formed (inOne run)
     1 ∈ s.syncChildren ∧ 0 = mapParent s.group.map ∧ s.group.formed = true ∧ s.group.adopt = false ∧ s.group.gframe = 5 ∧
       s.group.goMsg = none ∧ (9 ≠ s.group.gframe ∧ 9 + 1 ≠ s.group.gframe) ∧
       (0 ≠ s.member ∧ s.group.seen.contains (⟨3, 0, 3, 5⟩ : SyncMsg).key = false) ∧ 1 = s.member) ∧
    (let s := formed (inOne run)
     let t : State := { s with upd := { s.upd with msgs := [⟨2, 8, true⟩] } }
     0 ≠ t.member ∧ t.runActive = true ∧ t.upd.agreed = false ∧ t.group.formed = true ∧ 0 < t.members ∧ t.members = 3 ∧
       (∀ j < 3, j ≠ t.member → j ≠ 0 → (t.upd.msgs.any fun x => x.member == j) = true) ∧ (inOne on).runActive = false) ∧
    (let s0 := formed (inOne on)
     let s : State := { s0 with group := { s0.group with readies := [⟨1, 24, false, false⟩] }, ports := s0.ports.map fun x => { x with eofIn := 6 } }
     s.subtreeReady = true ∧ s.isMaster = false ∧ s.group.sentReady = false ∧ mapParent s.group.map < 16) ∧
    (∀ c ∈ [(false, none), (true, none), (true, some (⟨24, false, true, 0⟩ : GoMsg))],
      let s0 := inGroup (if c.1 then lastOf else on) mapOf0 upPort
      let s : State := { s0 with group := { s0.group with goMsg := c.2, readies := [⟨1, 24, false, false⟩] } }
      s.subtreeReady = true ∧ s.isMaster = true ∧ s.boundaryTick = c.1 ∧ s.releaseCycle ≤ s.clk.cycle ∧ s.goDelivered = true) ∧
    ((formed (inOne run)).grouped = true ∧ (formed (inOne run)).isMaster = false ∧ on.grouped = false ∧
      (formed (inOne run)).group.sentReady = false ∧
      ({ inOne run with group := { (inOne run).group with sentReady := true } } : State).group.sentReady = true) ∧
    (∀ us ∈ [10, 9],
      let g : GoMsg := ⟨24, false, false, (formed (inOne run)).clk.wall - wallUs us⟩
      let s : State := { formed (inOne run) with group := { (formed (inOne run)).group with goMsg := some g } }
      s.group.goMsg = some g ∧ s.group.formed = true ∧ s.isMaster = false ∧ s.group.tickAt = none ∧
        (g.at_ + wallUs 10 ≤ s.clk.wall ↔ us = 10)) ∧
    PortOpen (hosted on) 0 ∧
    (mapFails on.group.mapPend = true ∧ on.plan.state ≠ .running ∧ run.plan.state = .running ∧
      mapFails ({ on with group := { on.group with mapPend := mapOf1 } } : State).group.mapPend = false ∧ on.ctl.recovery = false) ∧
    (∀ b ∈ [true, false],
      let s : State := { inOne on with group := { (inOne on).group with armed := some mapOf0, mapDue := b } }
      s.group.armed = some mapOf0 ∧ s.group.mapDue = b ∧ mapEntry s.group.map 2 = mapEntry mapOf0 2 ∧ mapEntry s.group.map 0 ≠ mapEntry mapOf0 0) := by
  refine ⟨by decide +kernel, by decide +kernel, by decide +kernel, by decide +kernel, by decide +kernel, by decide +kernel, ?_, by decide +kernel, by decide +kernel⟩
  exact ⟨by decide +kernel, by decide +kernel, by decide +kernel, by decide +kernel, by decide +kernel⟩

/-! ## Witnesses: the host interface -/

theorem open_hosted (s : State) (p : Nat) (b : p < 2) : PortOpen (hosted s) p := by
  have e : (hosted s).hostPort p = openPort := by
    have q : p = 0 ∨ p = 1 := by omega
    rcases q with rfl | rfl <;> rfl
  exact ⟨b, by rw [e]; rfl, by rw [e]; rfl, by rw [e]; rfl, by rw [e]; rfl⟩

theorem witness_RegisterWritesActByTheirRow :
    (PortOpen (hosted on) 0 ∧ 2 ^ 26 - 1 < 2 ^ 26 ∧ ((1 ≠ 4 ∧ 1 ≠ 8) ∨ (2 ^ 26 - 1) % 1 ≠ 0) ∧ ((8 ≠ 4 ∧ 8 ≠ 8) ∨ (2 ^ 26 - 4) % 8 ≠ 0)) ∧
    (hosted on).ctl.recovery = false ∧ (hosted on).dawn.firstReady = true ∧ (hosted State.reset).dawn.firstReady = false ∧ 47 < nGates ∧
    (∀ x ∈ [{ openPort with d3 := true }, { openPort with memSpace := false }],
      let s : State := { on with host := Vector.replicate 2 x }
      1 < 2 ∧ (s.hostPort 1).linkUp = true ∧ (s.hostPort 1).held = none ∧ ((s.hostPort 1).d3 = true ∨ (s.hostPort 1).memSpace = false)) ∧
    (let s : State := { on with host := Vector.replicate 2 { openPort with held := some (0, 5, 4) } }
     1 < 2 ∧ (s.hostPort 1).linkUp = true ∧ (s.hostPort 1).held ≠ none) ∧
    ((hosted on).justSet .num 3 = false ∧ (3 : Nat) ≠ 4 ∧ (⟨some 5, none, 3⟩ : Shadow Nat).wrote ≠ 4) :=
  ⟨⟨open_hosted on 0 (by decide), by decide, by decide, by decide⟩, by decide +kernel, by decide +kernel, by decide +kernel, by decide,
    by decide +kernel, by decide +kernel, by decide +kernel⟩

theorem witness_QueueHeadsNeverPassTheirTails :
    (let s : State := { hosted on with gates := [(47, { Gate.reset with cqEntries := 4, cqTail := 10, cqHead := 8 })]
                                       hostRegs := { HostRegs.reset with scqEntries := 4, scqTail := 10, scqHead := 8 } }
     PortOpen s 1 ∧ s.ctl.recovery = false ∧ s.dawn.firstReady = true ∧ 47 < nGates ∧ 2 ^ 32 - 1 < 2 ^ 32 ∧
       ((s.gate 47).cqTail + 2 ^ 32 - 6) % 2 ^ 32 ≤ (s.gate 47).cqEntries ∧ (s.gate 47).cqEntries < ((s.gate 47).cqTail + 2 ^ 32 - 5) % 2 ^ 32 ∧
       ((s.gate 47).cqTail + 2 ^ 32 - (s.gate 47).cqHead) % 2 ^ 32 ≤ (s.gate 47).cqEntries ∧
       (s.hostRegs.scqTail + 2 ^ 32 - 10) % 2 ^ 32 ≤ s.hostRegs.scqEntries ∧ s.hostRegs.scqEntries < (s.hostRegs.scqTail + 2 ^ 32 - 11) % 2 ^ 32 ∧
       (s.hostRegs.scqTail + 2 ^ 32 - s.hostRegs.scqHead) % 2 ^ 32 ≤ s.hostRegs.scqEntries) := by
  refine ⟨⟨by decide, by decide +kernel, by decide +kernel, by decide +kernel, by decide +kernel⟩, ?_⟩
  decide +kernel

/-- A plan image without sections at stack address 0, with one frame a step. -/
def imageBytes : List Byte :=
  let h := leBytes 4 0x4E4C5046 ++ leBytes 2 1 ++ leBytes 2 128 ++ leBytes 8 176 ++ leBytes 4 0 ++ leBytes 4 0 ++ leBytes 4 1 ++ List.replicate 100 0
  h ++ sha384 h

def emptyImage : Memory := Memory.putBytes [] 0 imageBytes

theorem witness_PlanCommandsAnswer :
    (PortOpen (hosted on) 0 ∧ PortOpen (hosted run) 0) ∧
    ((hosted on).ctl.recovery = false ∧ (hosted on).plan.state ≠ .loading ∧ (hosted on).plan.state ≠ .running ∧ (hosted on).plan.startPending = false ∧
      (hosted on).commandsBusy = false ∧ (hosted on).plansBarred = false ∧ (hosted on).plan.resetNeeded = false) ∧
    ((hosted run).plan.state = .running ∧ (hosted run).plan.startPending = false ∧ (hosted run).plan.stopPending = false ∧
      ({ hosted run with plan := { run.plan with stopPending := true } } : State).plan.stopPending = true ∧ (hosted on).plan.state ≠ .running) ∧
    (∀ st ∈ [PlanState.loaded, .stopped],
      let s : State := hosted { on with plan := { PlanCtl.reset with state := st } }
      s.plan.startPending = false ∧ s.isSpare = false ∧ (s.plan.state = .loaded ∨ s.plan.state = .stopped) ∧ s.commandsBusy = false ∧ s.plansBarred = false) ∧
    (({ hosted on with plan := { PlanCtl.reset with state := .loaded, startPending := true } } : State).plan.startPending = true) ∧
    (let s : State := { on with plan := { PlanCtl.reset with state := .loading } }
     s.plan.state = .loading ∧ imageRefusal s.stack s.plan.base = some 2 ∧
       imageRefusal ({ s with stack := emptyImage } : State).stack s.plan.base = none) :=
  ⟨⟨open_hosted on 0 (by decide), open_hosted run 0 (by decide)⟩, by decide +kernel, by decide +kernel, by decide +kernel, by decide +kernel, by decide +kernel⟩

theorem witness_ApertureReadsAndWritesTheStack :
    (PortOpen (hosted on) 0 ∧ PortOpen (hosted run) 0) ∧
    (let s : State := { hosted on with gates := stacksAt .ready }
     let e : EccReport := ⟨[], 0, [], 0, []⟩
     s.ctl.recovery = false ∧ apertureFits 4095 1 = true ∧ apertureFits 4096 4096 = true ∧ 4095 = (s.hostPort 0).aper + 4095 ∧
       populated 4095 = true ∧ s.stackNow (ownerGate 4095) = .ready ∧ s.badBursts 4095 1 = [] ∧ e.hard = [] ∧ e.corrected = [] ∧
       s.runActive = false ∧ s.stack.wf = true) ∧
    (let s : State := { hosted on with host := Vector.replicate 2 { openPort with aper := populatedBytes - 4096 } }
     populated ((s.hostPort 0).aper + 4096) = false) ∧
    (hosted run).runActive = true ∧ (hosted run).ctl.recovery = false :=
  ⟨⟨open_hosted on 0 (by decide), open_hosted run 0 (by decide)⟩, by decide +kernel, by decide +kernel, by decide +kernel, by decide +kernel⟩

theorem witness_PciePortsResetAndConfigure :
    ((∀ x ∈ (hosted on).gates, ∀ h ∈ x.2.hostFlights, h.port ≠ 1) ∧ (∀ g r, (hosted on).asksOn 1 g r = false)) ∧
    (State.reset.dawn.powered = false ∧ on.dawn.powered = true ∧ on.dawn.modReset = false) ∧
    (((hosted on).hostPort 1).linkUp = true ∧ ((hosted on).hostPort 1).held = none) ∧
    (let s : State := { on with host := Vector.replicate 2 { openPort with pba := [2047] } }
     PortOpen s 1 ∧ 2047 < 2048 ∧ 2047 ∈ (s.hostPort 1).pba ∧ (s.hostPort 1).canRequest = true ∧ (s.hostPort 1).msixEnable = true ∧
       (s.hostPort 1).functionMask = false) := by
  refine ⟨⟨by decide +kernel, fun g r => rfl⟩, by decide +kernel, by decide +kernel, ?_⟩
  refine ⟨⟨by decide, by decide +kernel, by decide +kernel, by decide +kernel, by decide +kernel⟩, ?_⟩
  decide +kernel

/-! ## Witnesses: firmware, test engine, life cycle, sideband -/

/-- On, with the supply in range. -/
def good (x : LcState) : State :=
  hosted { on with pwr := { Pwr.reset with vin := 5000, coolOk := true }, sector := { Sector.reset with state := x }, ctl := { Ctl.reset with size := 304 } }

/-- The key below signed the image: its private key is 3 (computed outside Lean). -/
def imageKey : List Byte :=
  beBytes 48 0x077A41D4606FFA1464793C7E5FDC7D98CB9D3910202DCD06BEA4F240D3566DA6B408BBAE5026580D02D7E5C70500C831 ++
  beBytes 48 0xC995F7CA0B0C42837D0BBE9602A9FC998520B41C85115AA5F7684C0EDC111EACC24ABD6BE4B5D298B65F28600A2F1DF1

/-- The signature (computed outside Lean). -/
def imageSig : List Byte :=
  beBytes 48 0x11DE24A2C251C777573CAC5EA025E467F208E51DBFF98FC54F6661CBE56583B037882F4A1CA297E60ABCDBC3836D84BC ++
  beBytes 48 0xAFB590641B21CA15D8A7F9AD943E0535076F2831DADAA5566AB50EC980921B7F85690D2FE10F73F8A7B23605BB28A2D8

/-- The public P-384 and SHA-384 example of RFC 6979 (message "sample"). -/
theorem test_ecdsa_p384_sample :
    ecdsaVerify
      (beBytes 48 0xEC3A4E415B4E19A4568618029F427FA5DA9A8BC4AE92E02E06AAE5286B300C64DEF8F0EA9055866064A254515480BC13 ++
       beBytes 48 0x8015D9B72D7D57244EA8EF9AC0C621896708A59367F9DFB9F54CA84B3F1C9DB1288B231C3AE0D4FE7344FD2533264720)
      (sha384 [0x73, 0x61, 0x6D, 0x70, 0x6C, 0x65])
      (beBytes 48 0x94EDBB92A5ECB8AAD4736E56C691916B3F88140666CE9FA73D64C4EA95AD133C81A648152E44ACF96E36DD1E80FABE46 ++
       beBytes 48 0x99EF4AEB15F178CEA1FE40DB2603138F130E740A19624526203B6351D0A3A94FA329C145786E679E7B82C71A38628AC8) = true := by
  decide +kernel

/-- SHA-384 of no bytes, and of the signed header (computed outside Lean). -/
def noDigest : List Byte :=
  [0x38, 0xB0, 0x60, 0xA7, 0x51, 0xAC, 0x96, 0x38, 0x4C, 0xD9, 0x32, 0x7E, 0xB1, 0xB1, 0xE3, 0x6A] ++
  [0x21, 0xFD, 0xB7, 0x11, 0x14, 0xBE, 0x07, 0x43, 0x4C, 0x0C, 0xC7, 0xBF, 0x63, 0xF6, 0xE1, 0xDA] ++
  [0x27, 0x4E, 0xDE, 0xBF, 0xE7, 0x6F, 0x65, 0xFB, 0xD5, 0x1A, 0xD2, 0xF1, 0x48, 0x98, 0xB9, 0x5B]

def signedHeader : List Byte :=
  [0x46, 0x46, 0x57, 0x49, 0x01, 0x00, 0x00, 0x00, 0x00, 0x00, 0x00, 0x00, 0x00, 0x00, 0x00, 0x00] ++
  [0x00, 0x00, 0x00, 0x00, 0x00, 0x00, 0x00, 0x00, 0x00, 0x00, 0x00, 0x00, 0x00, 0x00, 0x00, 0x00] ++ noDigest ++ noDigest ++ noDigest

def signedDigest : List Byte :=
  [0x38, 0xF1, 0x64, 0x0C, 0x40, 0xB3, 0x9C, 0x07, 0x35, 0x91, 0xDB, 0x48, 0x04, 0xC4, 0x6C, 0xD1] ++
  [0x4F, 0x11, 0x19, 0xA0, 0x06, 0x58, 0x8B, 0x60, 0xD1, 0x2C, 0x3C, 0x05, 0xF6, 0x04, 0x74, 0xCE] ++
  [0xEC, 0x26, 0x8A, 0xFA, 0x35, 0x53, 0x85, 0xB8, 0x5F, 0x80, 0x2E, 0x91, 0xB7, 0x33, 0x23, 0xAB]

theorem test_sha384 : sha384 [] = noDigest ∧ sha384 signedHeader = signedDigest := by decide +kernel

/-- An image with three empty parts and SVN 0: header, digests of nothing, signature. -/
def signedImage : Memory := Memory.putBytes [] 0 (signedHeader ++ imageSig)

theorem signed_bytes (k n : Nat) (h : k + n ≤ 272) : signedImage.bytes k n = ((signedHeader ++ imageSig).drop k).take n := by
  have e := Memory.bytes_putBytes [] 0 (signedHeader ++ imageSig) Memory.wf_nil k n (Nat.le_trans h (by decide +kernel))
  rwa [Nat.zero_add] at e

theorem signed_verifies : ecdsaVerify imageKey signedDigest imageSig = true := by decide +kernel

/-- A key, and an image that verifies under it. -/
theorem witness_verified_image : verifyImage imageKey 0 signedImage 4096 = 1 := by
  have parts : ((List.range 3).all fun i => sha384 (partBytes signedImage i) == signedImage.bytes (32 + 48 * i) 48) = true := by
    have empty : ∀ i < 3, partBytes signedImage i = [] ∧ ((signedHeader ++ imageSig).drop (32 + 48 * i)).take 48 = noDigest := by
      decide +kernel
    refine List.all_eq_true.mpr fun i h => ?_
    have l : i < 3 := List.mem_range.mp h
    rw [signed_bytes _ _ (by omega), (empty i l).1, (empty i l).2, test_sha384.1]
    exact beq_self_eq_true _
  have head : signedImage.bytes 0 176 = signedHeader := by rw [signed_bytes 0 176 (by decide)]; decide +kernel
  have sig : signedImage.bytes 176 96 = imageSig := by rw [signed_bytes 176 96 (by decide)]; decide +kernel
  simp only [verifyImage, head, sig, test_sha384.2, signed_verifies, parts]
  decide +kernel

theorem witness_unverified_image : verifyImage imageKey 0 [] 4096 = 2 := by decide +kernel

theorem witness_FirmwareAndTestCommandsComplete :
    (PortOpen (good .maker) 0 ∧ PortOpen (good .locked) 0) ∧
    (let s := good .maker
     s.ctl.recovery = false ∧ s.stageRefusal true = 0 ∧ s.stageRefusal false = 0 ∧ (s.img (!s.ctl.image)).valid = true ∧ s.ctl.size = 304 ∧
       (good .locked).stageRefusal true = 5 ∧ (good .locked).sector.state = .locked ∧ s.sector.trial = false ∧
       (({ s with images := Vector.replicate 2 { Image.reset with valid := false } } : State).img true).valid = false ∧
       ({ s with sector := { s.sector with trial := true } } : State).sector.trial = true ∧
       ({ s with pwr := { s.pwr with night := true } } : State).stageRefusal true = 7 ∧
       ({ s with ctl := { s.ctl with size := 300 } } : State).ctl.size ≠ 304) ∧
    (let s : State := { good .maker with ctl := { Ctl.reset with stageBusy := true, size := 4096 }
                                         sector := { Sector.reset with firmwareKey := imageKey }
                                         images := Vector.replicate 2 { Image.reset with bytes := signedImage } }
     s.ctl.stageBusy = true ∧ s.ctl.recovery = false ∧ s.sector.firmwareKey = imageKey ∧ s.sector.svnMin = 0 ∧ (s.img true).bytes = signedImage ∧
       s.ctl.size = 4096) ∧
    (on.ctl.storing = none ∧ ({ on with ctl := { on.ctl with storing := some [1] } } : State).ctl.storing = some [1]) ∧
    (let s := good .maker
     s.dawn.firstReady = true ∧ s.sector.state.testable = true ∧ s.testBlocked = false ∧ s.tst.busy = false ∧ s.tst.mode < 4 ∧ s.tst.tile < nTiles ∧
       ({ s with tst := { s.tst with busy := true } } : State).testBlocked = true ∧
       4 ≤ ({ s with tst := { s.tst with mode := 4 } } : State).tst.mode ∧ nTiles ≤ ({ s with tst := { s.tst with tile := 26880 } } : State).tst.tile) ∧
    (∀ c ∈ [(false, false), (false, true), (true, false), (true, true)],
      let s : State := { good .maker with tst := { Tst.reset with busy := true, refurb := c.1, abort := c.2 } }
      s.tst.busy = true ∧ s.tst.refurb = c.1 ∧ s.tst.abort = c.2 ∧ 0 ∈ s.tst.targets ∧ 1 ∉ s.tst.targets) :=
  ⟨⟨open_hosted _ 0 (by decide), open_hosted _ 0 (by decide)⟩, by decide +kernel, by decide +kernel, by decide +kernel, by decide +kernel, by decide +kernel⟩

/-- A request with an operation code, the nonce of reset (zeros) and a signature; the argument is zeros. -/
def request (op : Nat) (sig : List Byte) : List Byte := BitVec.ofNat 8 op :: List.replicate 135 0 ++ sig

/-- Which state takes an operation. -/
def takenIn (op : Nat) : LcState := (opStates op).headD .maker

theorem request_fields (op : Nat) (sig : List Byte) (s : State) (n : s.ctl.nonce = List.replicate 32 0) :
    (request op sig).take 136 = (request op []).take 136 ∧ reqNonce (request op sig) = s.ctl.nonce ∧ leAt (request op sig) 1 7 = 0 := by
  refine ⟨rfl, by rw [n]; rfl, rfl⟩

/-- Requests reach every result but 0 without a valid signature. A valid one depends on the fused serial number, which is
a free value; `witness_signed_request` shows that a valid signature is all that is left. -/
theorem witness_LifeCycleRequestsAreCheckedAndCarriedOut :
    (PortOpen (good .maker) 0 ∧ PortOpen (good .owned) 0) ∧
    (∀ x ∈ lcOps 0,
      let q := request x.2 (List.replicate 96 0)
      let s : State := { good (takenIn x.2) with ctl := { Ctl.reset with req := q } }
      s.ctl.recovery = false ∧ reqOp s.ctl.req = x.2 ∧ (opStates x.2).contains s.sector.state = true ∧ q.length = 232) ∧
    (let s : State := { good .maker with ctl := { Ctl.reset with req := request 2 [] } }
     reqOp s.ctl.req ≠ 1 ∧ (opStates 2).contains s.sector.state = false ∧ s.reqResult s.ctl.req = 2 ∧ s.ctl.change = none ∧
       reqNonce (request 2 [] |>.set 8 1) ≠ s.ctl.nonce ∧ leAt (request 2 [] |>.set 8 1) 1 7 = 0 ∧ s.reqResult (request 2 [] |>.set 8 1) = 3 ∧
       s.reqResult (request 14 []) = 5 ∧ s.sidebandUp = true ∧ (request 2 []).length ≠ 232) ∧
    (let x := Sector.reset.transition 1 []
     ∀ st ∈ [StackState.ready, .wipe, .failed],
       let s : State := { good .maker with ctl := { Ctl.reset with change := some x }, gates := stacksAt st }
       on.ctl.change = none ∧ s.ctl.change = some x ∧ s.pwr.coolStop = false ∧ s.dawn.modReset = false ∧ s.runActive = false ∧
         (∀ g < nGates, (s.gate g).stackState = st) ∧ 47 < nGates ∧ 47 ∉ ([] : List Nat) ∧ 47 ∈ [47]) :=
  ⟨⟨open_hosted _ 0 (by decide), open_hosted _ 0 (by decide)⟩, by decide +kernel, by decide +kernel, by decide +kernel⟩

/-- A change signed with a valid signature is accepted (LC_FINISH in MAKER). -/
theorem witness_signed_request (sig : List Byte) (signed : (good .maker).reqSigned (request 1 sig) = true) :
    (good .maker).reqResult (request 1 sig) = 0 := by
  have op : reqOp (request 1 sig) = 1 := rfl
  have z : leAt (request 1 sig) 1 7 = 0 := rfl
  have n : reqNonce (request 1 sig) = (good .maker).ctl.nonce := rfl
  unfold State.reqResult
  simp only [op, z, n, signed]
  generalize onCurve (reqArg (request 1 sig)) = b
  revert b
  decide +kernel

theorem witness_ScrapIsFinalAndSvnNeverFalls :
    ({ good .scrap with pending := [.confirm 0] } : State).scrapped ∧
      answers (step { good .scrap with pending := [.confirm 0] }) (fun t => t.sector.state == .scrap) = true :=
  ⟨⟨by decide +kernel, by decide +kernel, by decide +kernel⟩, by decide +kernel⟩

theorem witness_SidebandAndSpdmAnswer :
    State.reset.sidebandUp = false ∧
    (on.sidebandUp = true ∧ on.hostRegs.dynAddr = none ∧
      ({ on with hostRegs := { on.hostRegs with dynAddr := some 9 } } : State).hostRegs.dynAddr ≠ none ∧ on.ctl.recovery = false ∧ on.sector.trial = false ∧
      ({ on with sector := { on.sector with trial := true } } : State).sector.trial = true) ∧
    ((1 ≤ 1024 ∧ 1024 ≤ 1024 ∧ 39388 + 1024 ≤ 40412) ∧ 40412 < 39389 + 1024 ∧ (1 ≤ 1024 ∧ 1024 ≤ 1024 ∧ 0 + 1024 ≤ logSpace)) ∧
    (on.transportUp 2 = true ∧ (hosted on).transportUp 0 = true ∧ on.spdmState 2 = .start) ∧
    (∀ st ∈ [SpdmState.version, .capabilities, .negotiated],
      let s : State := { on with hostRegs := { on.hostRegs with spdm := Vector.replicate 3 st } }
      s.transportUp 2 = true ∧ s.spdmState 2 = st) ∧
    (on.measurement? 9 = some on.map.digest ∧ on.measurement? 10 = none) ∧ ((hosted on).hostPort 1).linkUp = true := by
  refine ⟨by decide +kernel, by decide +kernel, by decide +kernel, by decide +kernel, by decide +kernel, ⟨rfl, rfl⟩, by decide +kernel⟩

theorem witness_MemoriesStayCanonical :
    ({ on with stack := [(4096, 7)], tiles := [(0, { Tile.reset with deck := [(0, 1)] })], pending := [.confirm 0] } : State).memoriesCanonical ∧
      answers (step { on with stack := [(4096, 7)], pending := [.confirm 0] }) (fun t => t.stack.wf) = true :=
  ⟨⟨by decide +kernel, by decide +kernel⟩, by decide +kernel⟩

/-! ## Worked examples of the spec -/

/-- The value of a scaled number. -/
def re (m e : Int) : Val := .real (Q.scale2 m e)

/-- The encoding examples of 03 (R52 to R59). -/
theorem test_worked_encodings :
    roundT16 .rne (re 1 0) = (0x2000, 0) ∧ roundT16 .rne (re (-1) 0) = (0xA000, 0) ∧ roundT16 .rne (re 1 (-1)) = (0x1800, 0) ∧
      roundT16 .rne (.real ⟨1, 10⟩) = (0x04CD, 0) ∧ roundT16 .rne (re (-3000) 0) = (0xD777, 0) ∧
      roundT16 .rne (.real ⟨13, 10 * 2 ^ 30⟩) = (0x66CA, 0) ∧ roundT16 .rne (re 1 100) = (0x7880, 0) ∧
      toBf16 .rne (.real ⟨1, 10⟩) = (0x3DCD, 0) ∧ t16Val 0x04CD = .real (Q.scale2 3277 (-15)) := by decide +kernel

/-- The midpoint at a tier boundary, and the example of both modes (R59, R60). -/
theorem test_worked_roundings :
    roundT16 .rne (re 8191 (-9)) = (0x5000, 0) ∧ roundT16 .rne (re 16389 (-14)) = (0x2001, 0) ∧
      roundT16 (.sr 0x4000) (re 16389 (-14)) = (0x2001, 0) ∧ roundT16 (.sr 0xC000) (re 16389 (-14)) = (0x2000, 0) ∧
      roundT16 .rne (re 4097 (-12)) = (0x2000, 0) ∧
      roundT16 .rne (re 49151 (-22)) = (0x4D80, 0) ∧ roundT16 (.sr 65023) (re 49151 (-22)) = (0x4D80, 0) ∧
      roundT16 (.sr 65024) (re 49151 (-22)) = (0x4D7F, 0) := by decide +kernel

/-- An MXFP8 block whose largest element is 0.75 (R68): scale 119, 0.75 as 192 (0x74), and 0.0117 near 3.0 (0x44). -/
theorem test_worked_mxfp8 :
    (mxWrite [(roundT16 .rne (.real ⟨3, 4⟩)).1, (roundT16 .rne (.real ⟨117, 10000⟩)).1]).1 = 119 ∧
      (mxWrite [(roundT16 .rne (.real ⟨3, 4⟩)).1, (roundT16 .rne (.real ⟨117, 10000⟩)).1]).2.1 = [0x74, 0x44] ∧
      e4m3Val 0x74 = .real (Q.ofInt 192) := by decide +kernel

/-- The example of a sum with anchor 3 (R72 to R74): UNDER_WIN only, and 2^-150 exactly. -/
theorem test_worked_sum :
    let p := fun (a b : Code) => (t16Val a).mul (t16Val b)
    let x := [p 0x2C00 0x3000, p 0xAC00 0x3000, p 0x6120 0x6120, p 0x6080 0x6080].foldl (AccSum.add 3) ⟨0, 0, false⟩
    x.s = 64 ∧ x.st = Status.underWin ∧ accRound .t16 .rne 3 x.s = (0x75F0, 0) := by decide +kernel

/-- Exact results of the function unit, and EXP below the range (R116). -/
theorem test_worked_functions :
    fnValue .t16 .rne .sqrt (re 4 0) = some (0x2800, 0) ∧ fnValue .t16 .rne .log2 (re 8 0) = some (0x2C00, 0) ∧
      fnValue .t16 .rne .exp2 (re 3 0) = some (0x3800, 0) ∧ fnValue .t16 .rne .exp (re (-1000) 0) = some (0x7008, Status.satLo) := by
  decide +kernel

/-- Tile (37, 45): id, region, and its routes to gates 45 and 3 (R7, R18, R47, R48). -/
theorem test_worked_tile :
    Machine.tileAt 37 45 = 8677 ∧ regionOf 8677 = 26 ∧ gateHops 8677 45 = 10 ∧ gateCycles 8677 45 = 26 ∧ gateHops 8677 3 = 11 ∧
      gateCycles 8677 3 = 29 ∧ gateCycles (Machine.tileAt 96 63) 31 = 39 := by decide +kernel

/-- The layer of the worked update: RULE 1, x = 11 (R281). -/
def workedLayer : Layer := { aLayer with rule := 1, scaleX := 11, consts := [0x1E00, 0x1FE0, 0x66C0, 0x7000] }

/-- The worked update of 11 (R279 to R281): weight 0x17F8, planes 0x4F00 and 0x4900. -/
theorem test_worked_update :
    let r := twoMoment workedLayer (uCode 0x4A00 0) 1 (uCode 0x1800 0) (uCode 0x7000 0) (uCode 0x7000 0) (uCode 0x1000 (-11))
    (uStore .rne r.1 0).1 = 0x17F8 ∧ (uStore (.sr 3) r.1 0).1 = 0x17F9 ∧ (uStore (.sr 4) r.1 0).1 = 0x17F8 ∧
      (uStore .rne r.2.1 11).1 = 0x4F00 ∧ (uStore .rne r.2.2 22).1 = 0x4900 := by decide +kernel

/-- The cost of the worked gather (R114): base 0x10_0000, indices 0 to 63, shifts 7 and 6. -/
theorem test_worked_gather :
    let cost := fun shift => indexCycles ((List.range 64).flatMap fun i => [0x100000 + i * 2 ^ shift, 0x100000 + i * 2 ^ shift + 1])
    cost 7 = 4 ∧ cost 6 = 2 := by decide +kernel

/-- Stream B of the worked routing example (R157 to R163). -/
def workedRoute : GridOp :=
  { issue := 0, issueAt := 0, w8 := false, pendIssue := 0, drain := false, plane := 1, afmt := .t16, mode := .round, accIn := false, entry := 0, rows := 128, inBase := 0
    inStride := 96, outBase := 0, outStride := 96, statAddr := 0, anchor := 0, ofmt := .t16, sr := false, boulevard := false
    tensor := 0, col0 := 48, row0 := 4096
    sparse := { skip := false, s24 := false, route := true, first := false, last := true, cclr := false, k := 2, skipAddr := 0
                experts := 64, cap := 5, dispBase := 4096, sumBase := 65536, dropCap := 64 } }

/-- A tile in which the selection network has one pair of stream B to place on expert 57, with its fill counter. -/
def placing (fill token rank : Nat) : Tile :=
  { Tile.reset with fill := [(57, fill)], places := [.place workedRoute.sparse token rank 0x2C00 57] }

/-- Token 4,100 leaves expert 41 on the tie and takes place 1 of expert 57; token 4,171 is dropped at rank 1. -/
theorem test_worked_route :
    let placed := (((placing 1 4100 0).placeCycle 0 100).1.outCycle).1
    let dropped := (((placing 5 4171 1).placeCycle 0 100).1.outCycle).1
    bestK 2 ([((0x2A00 : Code), 9), (0x2A00, 41)] ++ candidates workedRoute (List.replicate 9 0x7000 ++ [0x2C00] ++ List.replicate 38 0x7000)) =
        [(0x2C00, 57), (0x2A00, 9)] ∧
      placed.deck.le (4096 + 0x8F0) 8 = 0x2C00000000001004 ∧ dropped.deck.le (65536 + 144) 8 = 0x003901000000104B ∧
      (dropped.drops, dropped.listed) = (1, 1) := by decide +kernel

/-- A lane sum with no active lane is 0x7000 in BF16 too (R115, R121). -/
theorem test_empty_sum_is_zero :
    (let w := enc 0x26 [(49, 1), (45, 1)]
     let x : Tile := { tileAt w with k := Vector.replicate 8 0 }
     answers (exec (.vred 0 ⟨[]⟩) (prog x)) fun u => (u.getTile 0).vDue.any fun y => laneAt y.lanes 0 == 0x7000) = true := by
  decide +kernel

/-- A CCLR stream clears the counters once the pairs of the streams before it are placed (R160). -/
theorem test_clear_follows_the_pairs_before_it :
    let t : Tile := { Tile.reset with
      fill := [(57, 1)]
      places := [.place workedRoute.sparse 4100 0 0x2C00 57, .clear, .place workedRoute.sparse 4101 0 0x2C00 57] }
    let a := (t.placeCycle 0 100).1
    let b := (a.placeCycle 0 101).1
    a.fill = [(57, 2)] ∧ b.fill = [(57, 1)] ∧ b.places = [] := by decide +kernel

/-! ## Ill-formed commands, one for each check -/

def noAccess : Access := ⟨[]⟩
def noEcc : EccReport := ⟨[], 0, [], 0, []⟩

theorem test_wf_units :
    ∀ c ∈ [Instr.nop 26880 noAccess, .regionPowerOffExpiry 84, .refreshSlot 48, .faultTimeout 0 1024, .linkWake 16, .load 2,
      .barrierComplete 4, .boulevardForward 6804, .getVersion 3, .dawnWave 14 [], .agingMeasurement 0 8 0, .ready 0 Flit.idle 15,
      .powerGood 16, .atsInvalidation 0 0 (2 ^ 20), .blockUpdate 0 65536 0, .setdasa 128], c.wf = false := by decide +kernel

theorem test_wf_bounds :
    ∀ c ∈ [Instr.registerWrite 0 0 (2 ^ 26) 8 0, .registerWrite 0 4 (2 ^ 22) 8 0, .registerWrite 0 2 0 8 0, .updStepWrite 0 8 8 0,
      .apertureRead 0 0 0 noEcc, .apertureRead 0 4095 2 noEcc, .apertureWrite 0 0 [] false, .apertureWrite 0 4095 [none, none] false,
      .lcRequest [], .dataFlitReceive 0 { Flit.idle with payload := [] } 0 0, .sensorConversion 0 [25], .challenge 0 [],
      .getMeasurements 0 1 []], c.wf = false := by decide +kernel

/-- At the last value of each range a command is well formed. -/
theorem test_wf_accepts :
    ∀ c ∈ [Instr.nop 26879 noAccess, .refreshSlot 47, .faultTimeout 47 1023, .linkWake 15, .load 1, .boulevardForward 6803,
      .registerWrite 1 4 (2 ^ 22 - 8) 8 0, .apertureRead 0 4095 1 noEcc, .dataFlitReceive 0 Flit.idle 0 0], c.wf = true := by decide +kernel

/-! ## The queue -/

theorem test_step_takes_the_front :
    answers (step { State.reset with pending := [.fsyncTransition, .frameEnd] }) (fun t => t.group.fsyncIn && t.pending == [.frameEnd]) = true := by
  decide +kernel

end Sys2Proof.Tests
end

section
/-! PROOFS. What relates the states before and after an operation, one core cycle, and how commands are taken from the queue
(R8, R22, R182, R202, R204, R297). -/

namespace Sys2Proof.Machine

/-! ## Relations between the states before and after an operation -/

/-- Both branches of a condition are related to the state before it. -/
theorem ite_related {α : Type} {R : α → α → Prop} {s a b : α} {c : Prop} [Decidable c] (ha : R s a) (hb : R s b) :
    R s (if c then a else b) := by
  split <;> assumption

/-! ## Deadline misses (R202, R204) -/

/-- Nothing changes but the miss registers, what the step counts of misses, and what a vector changes. -/
def State.MissOnly (s t : State) : Prop :=
  t = { s with
    frm := { s.frm with
      missLog := t.frm.missLog
      missHead := t.frm.missHead
      missCount := t.frm.missCount
      miss := t.frm.miss
      strictStop := t.frm.strictStop
      openMiss := t.frm.openMiss }
    plan := { s.plan with stepMiss := t.plan.stepMiss, stepMisses := t.plan.stepMisses }
    setAt := t.setAt
    host := t.host
    out := t.out }

theorem State.MissOnly.refl (s : State) : s.MissOnly s := rfl

theorem State.MissOnly.trans {s t u : State} (h : s.MissOnly t) (k : t.MissOnly u) : s.MissOnly u := by
  unfold State.MissOnly at *
  rw [k, h]

theorem State.MissOnly.raiseVector (s : State) (v : Nat) : s.MissOnly (s.raiseVector v) := by
  have h := s.raiseVector_frame v
  unfold State.MissOnly
  rw [h]

theorem State.MissOnly.addMiss (s : State) (source unit ring wait : Nat) : s.MissOnly (s.addMiss source unit ring wait) := by
  unfold State.addMiss
  refine ite_related (.trans ?_ (.raiseVector _ _)) ?_
  all_goals
    unfold State.MissOnly
    generalize s.runActive = run
    cases run <;> rfl

theorem State.MissOnly.logLinkMisses (s : State) : s.MissOnly s.logLinkMisses :=
  foldl_related State.MissOnly .refl .trans (fun s p => s.addMiss 3 p 0 0) (fun s p => .addMiss s 3 p 0 0) _ s

/-! ## One core cycle (R8, R22, R182, R202, R297) -/

theorem State.addChanDrop_frame (s : State) (r n : Nat) : s.addChanDrop r n = { s with regions := (s.addChanDrop r n).regions } := by
  unfold State.addChanDrop
  split <;> rfl

/-- Lines that no entry takes leave the mesh and are counted (R182, R183). -/
theorem State.dropStrays_frame (s : State) :
    s.dropStrays = { s with mesh := s.dropStrays.mesh, regions := s.dropStrays.regions } := by
  unfold State.dropStrays
  split
  · rfl
  · exact foldl_related (fun a b : State => b = { a with mesh := b.mesh, regions := b.regions }) (fun _ => rfl)
      (fun h k => by rw [k, h]) _
      (fun a f => ite_related (R := fun a b : State => b = { a with mesh := b.mesh, regions := b.regions }) rfl
        (by rw [a.addChanDrop_frame]))
      _ _

/-- A wake notes its time at the port and leaves the module (R297). -/
theorem State.sendWakes_frame (s : State) : s.sendWakes = { s with ports := s.sendWakes.ports, out := s.sendWakes.out } :=
  foldl_related (fun a b : State => b = { a with ports := b.ports, out := b.out }) (fun _ => rfl) (fun h k => by rw [k, h])
    _ (fun a _ => ite_related (R := fun a b : State => b = { a with ports := b.ports, out := b.out }) rfl rfl) _ s

/-- A cycle of the idle module takes no command and adds none (log 1). -/
theorem State.passCycle_pending (s : State) : s.passCycle.pending = s.pending := by
  have start : s.dropStrays.sendWakes.pending = s.pending := by rw [State.sendWakes_frame, State.dropStrays_frame]
  have synced : ∀ u : State, u.syncTiles.pending = u.pending := fun u => by rw [State.TilesOnly.syncTiles u]
  have missed : ∀ u : State, u.logLinkMisses.pending = u.pending := fun u => by rw [State.MissOnly.logLinkMisses u]
  have due : ∀ u : State, (if u.frm.dueAt.isNone then u.logLinkMisses else u).bumpMisses.pending = u.pending := by
    intro u
    split
    · exact missed u
    · rfl
  unfold State.passCycle
  split
  · rfl
  · dsimp only
    split
    · simp only [State.bumpMisses, start]
    · split
      · simp only [due, synced, start]
      · simp only [start]

theorem State.passCycle_unpowered {s : State} (h : s.dawn.powered = false) : s.passCycle = s := by
  simp [State.passCycle, h]

/-- Settles O14, by the queue's two forms. -/
theorem stepRunsFrontCommand : Obligations.StepRunsFrontCommand := by
  have idle : ∀ s : State, s.pending = [] → step s = .next s.passCycle := fun s h => by simp [step, h]
  refine ⟨fun _ _ _ => rfl, fun s h => ⟨_, idle s h, s.passCycle_pending.trans h⟩, fun s h off => ?_⟩
  rw [idle s h, State.passCycle_unpowered off]

end Sys2Proof.Machine
end

section
/-! PROOFS. Register writes of the host: shadowed fields, bits that a written 1 clears, and what each row does with a write
(R14 to R16, R79, R205, R228, R230, R286, R321, R324, R327, R364, R436, R437). -/

namespace Sys2Proof.Machine

/-! ## Shadowed fields (R15) -/

section
variable {α : Type} (p : Shadow α) (c d : Nat) (v old : α)

@[simp] theorem Shadow.get_write : (p.write c v).get old = v := rfl

theorem Shadow.due_write_ne (h : c ≠ d) : (p.write c v).due d old = v := by
  simp [Shadow.write, Shadow.due, h]

theorem Shadow.left_write_ne (h : c ≠ d) : (p.write c v).left d = Shadow.clear := by
  simp [Shadow.write, Shadow.left, h]

/-- After the tick of its own cycle a write is still pending. -/
theorem Shadow.get_left_write : ((p.write c v).left c).get old = v := by
  simp [Shadow.write, Shadow.left, Shadow.get]

/-- The tick of the write's own cycle commits what was pending before that cycle. -/
theorem Shadow.due_write_self (h : p.wrote ≠ c) : (p.write c v).due c old = p.get old := by
  simp [Shadow.write, Shadow.due, Shadow.get, h]

/-- A second write of one cycle leaves what was pending before that cycle. -/
theorem Shadow.due_write_write (w : α) : ((p.write c v).write c w).due c old = (p.write c v).due c old := by
  simp [Shadow.write, Shadow.due]

end

/-! ## Bits that a written 1 clears (R14, R16) -/

theorem State.clears_of_not_justSet {s : State} {r : W1cReg} {bit : Nat} (h : s.justSet r bit = false) (v : Nat) :
    s.clears r bit v = (v / 2 ^ bit % 2 == 1) := by
  simp [State.clears, h]

/-- An 8-byte register keeps 64 bits of the value, so each of its bits clears as in the value itself. -/
theorem State.clears_mod (s : State) (r : W1cReg) {bit : Nat} (h : bit < 64) (v : Nat) :
    s.clears r bit (v % 2 ^ 64) = s.clears r bit v := by
  have e := Nat.testBit_mod_two_pow v 64 bit
  simp only [h, decide_true, Bool.true_and, Nat.testBit_eq_decide_div_mod_eq] at e
  simp only [State.clears, beq_eq_decide, e]

theorem State.clearMask_mod (s : State) (r : W1cReg) {n : Nat} (h : n ≤ 64) (v : Nat) :
    s.clearMask r n (v % 2 ^ 64) = s.clearMask r n v := by
  refine List.foldl_ext _ _ _ fun a b hb => ?_
  rw [State.clears_mod s r (Nat.lt_of_lt_of_le (List.mem_range.mp hb) h)]

/-! ## Writes to BAR0 (R14, R15, R324, R436, R437) -/

theorem State.writeReg_badSize {s : State} {o size : Nat} (h : (size ≠ 4 ∧ size ≠ 8) ∨ o % size ≠ 0) (v : Nat) :
    s.writeReg o size v = .next s.badAccess := by
  unfold State.writeReg
  exact if_pos h

/-- A register that is not served discards the write (R322). -/
theorem State.writeReg_unserved {s : State} {o size : Nat} (hs : s.served (o / 8 * 8) = false)
    (ha : ¬ ((size ≠ 4 ∧ size ≠ 8) ∨ o % size ≠ 0)) (v : Nat) : s.writeReg o size v = .next s := by
  unfold State.writeReg
  dsimp only
  rw [if_neg ha, hs]
  rfl

/-- GLB_ and the blocks from LINK_ on, the test engine apart, are served outside recovery; the others from the first READY (R322). -/
theorem State.served_always {s : State} {o : Nat} (hr : s.ctl.recovery = false)
    (h : o < 0x20000 ∨ (0x1B0000 ≤ o ∧ o < 0x1C0000)) : s.served o = true := by
  have t : ¬ (0x1C0000 ≤ o ∧ o < 0x1C1000) := by omega
  have k : o < 0x20000 ∨ (0x190000 ≤ o ∧ o < 0x200000) := by omega
  simp [State.served, hr, t, k]

theorem State.served_late {s : State} {o : Nat} (hr : s.ctl.recovery = false) (h : 0x20000 ≤ o ∧ o < 0x190000) :
    s.served o = s.dawn.firstReady := by
  have t : ¬ (0x1C0000 ≤ o ∧ o < 0x1C1000) := by omega
  have k : ¬ (o < 0x20000 ∨ (0x190000 ≤ o ∧ o < 0x200000)) := by omega
  simp [State.served, hr, t, k]

/-- GLB_NUM_STATUS (R79). -/
theorem State.writeReg_numStatus {s : State} (hr : s.ctl.recovery = false) (v : Nat) :
    s.writeReg 0x20 8 v = .next { s with num := s.num &&& ~~~(BitVec.ofNat 8 (s.clearMask .num 7 v)) } := by
  have hs : s.served 0x20 = true := s.served_always hr (by omega)
  simp [State.writeReg, State.writeGlb, hs, mergeWrite_whole, ← s.clearMask_mod .num (by omega : 7 ≤ 64) v]

/-- PWR_EVENTS (R364). -/
theorem State.writeReg_powerEvents {s : State} (hr : s.ctl.recovery = false) (v : Nat) :
    s.writeReg 0x1B0020 8 v =
      .next { s with pwr := { s.pwr with events := s.pwr.events &&& ~~~(BitVec.ofNat 64 (s.clearMask .pwr 8 v)) } } := by
  have hs : s.served 0x1B0020 = true := s.served_always hr (by omega)
  simp [State.writeReg, State.writePwr, hs, mergeWrite_whole, ← s.clearMask_mod .pwr (by omega : 8 ≤ 64) v]

/-- FRM_HOLD_LIMIT (R205, R436). -/
theorem State.writeReg_holdLimit {s : State} (hr : s.ctl.recovery = false) (hf : s.dawn.firstReady = true) (v : Nat) :
    s.writeReg 0x20038 8 v =
      .next { s with frm := { s.frm with holdLimitPend := s.frm.holdLimitPend.write s.clk.now (v % 2 ^ 32) } } := by
  have hs : s.served 0x20038 = true := (s.served_late hr (by omega)).trans hf
  simp [State.writeReg, State.writeFrm, hs, mergeWrite_whole]

/-- UPD_STEP (R286). -/
theorem State.writeReg_updStep {s : State} (hr : s.ctl.recovery = false) (hf : s.dawn.firstReady = true) (v : Nat) :
    s.writeReg 0x180000 8 v = .next { s with upd := { s.upd with
      pend := s.upd.pend.write s.clk.now (v / 2 ^ 16 % 2 ^ 48, BitVec.ofNat 16 v) } } := by
  have hs : s.served 0x180000 = true := (s.served_late hr (by omega)).trans hf
  have value : (v % 2 ^ 64 / 2 ^ 16 % 2 ^ 48, BitVec.ofNat 16 (v % 2 ^ 64)) = (v / 2 ^ 16 % 2 ^ 48, BitVec.ofNat 16 v) := by
    refine Prod.ext (by dsimp only; omega) (BitVec.eq_of_toNat_eq ?_)
    simp only [BitVec.toNat_ofNat]
    omega
  simpa [State.writeReg, State.writeUpd, hs, mergeWrite_whole] using congrArg (s.upd.pend.write s.clk.now) value

/-- STRM_CMD of the ring that STRM_SEL names (R228, R230, R437). -/
theorem State.writeReg_streamCommand {s : State} (hr : s.ctl.recovery = false) (hf : s.dawn.firstReady = true) {g : Nat}
    (hg : g < nGates) (v : Nat) :
    s.writeReg (0x140008 + g * 0x1000) 8 v = .next (s.setRing g (s.gate g).strmSel
      { s.ring g (s.gate g).strmSel with
        pendCmd := (s.ring g (s.gate g).strmSel).pendCmd.write s.clk.now (v % 4) }) := by
  have b : g < 48 := hg
  have base : (0x140008 + g * 0x1000) / 8 * 8 = 0x140008 + g * 0x1000 := by omega
  have hs : s.served (0x140008 + g * 0x1000) = true := (s.served_late hr (by omega)).trans hf
  have aligned : ¬ (((8 : Nat) ≠ 4 ∧ (8 : Nat) ≠ 8) ∨ (0x140008 + g * 0x1000) % 8 ≠ 0) := by omega
  have page : (0x140008 + g * 0x1000 - 0x140000) / 0x1000 = g := by omega
  have reg : (0x140008 + g * 0x1000) % 0x1000 = 8 := by omega
  unfold State.writeReg
  dsimp only
  rw [base, if_neg aligned, hs, page, reg, if_neg (by simp), if_neg (by omega), if_neg (by omega), if_neg (by omega), if_pos (by omega)]
  simp [State.writeStrm, mergeWrite_whole, State.ring]

/-! ## Requests that do not act at once (R321, R327) -/

/-- A port in D3hot or without Memory Space Enable answers a memory request with Unsupported Request (R321). -/
theorem State.applyAccess_unsupported {s : State} {port : Nat}
    (h : (s.hostPort port).d3 = true ∨ (s.hostPort port).memSpace = false) (p bar off size v : Nat) :
    s.applyAccess port (.registerWrite p bar off size v) = .next (s.emit (.unsupported port)) := by
  have c : ((s.hostPort port).d3 || !(s.hostPort port).memSpace) = true := by simpa using h
  simp only [State.applyAccess, c, if_true]

/-- A request that meets no held doorbell write acts at once (R327). -/
theorem State.hostAccess_free {s : State} {port : Nat} (hp : port < 2) (up : (s.hostPort port).linkUp = true)
    (free : (s.hostPort port).held = none) (i : Instr) : s.hostAccess port i = s.applyAccess port i := by
  simp [State.hostAccess, Nat.not_le.mpr hp, up, free]

/-- A request behind a held doorbell write waits (R327). -/
theorem State.hostAccess_held {s : State} {port : Nat} (hp : port < 2) (up : (s.hostPort port).linkUp = true)
    (held : (s.hostPort port).held ≠ none) (i : Instr) :
    s.hostAccess port i =
      .next (s.setHost port { s.hostPort port with waiting := (s.hostPort port).waiting ++ [i] }) := by
  have h : (s.hostPort port).held.isSome = true := Option.isSome_iff_ne_none.mpr held
  simp [State.hostAccess, Nat.not_le.mpr hp, up, h]

/-- STRM_CMD through an open port: the command is pending at the ring that STRM_SEL names, and nothing else changes. -/
theorem State.streamCommand_spec {s : State} {port g : Nat} (hp : PortOpen s port) (hr : s.ctl.recovery = false)
    (hf : s.dawn.firstReady = true) (hg : g < nGates) {v : Nat} (hv : v < 4) :
    ∃ t, s.hostWrite8 port (0x140008 + g * 0x1000) v = .next t ∧
      (t.ring g (s.gate g).strmSel).pendCmd = (s.ring g (s.gate g).strmSel).pendCmd.write s.clk.now v ∧
      (∀ r, r ≠ (s.gate g).strmSel → t.ring g r = s.ring g r) ∧ (∀ k, k ≠ g → t.gate k = s.gate k) ∧
      t = { s with gates := t.gates } := by
  have b : g < 48 := hg
  refine ⟨_, (hp.registerWrite _ 8 v (by omega)).trans (State.writeReg_streamCommand hr hf hg v), ?_, ?_, ?_, rfl⟩
  · rw [State.ring_setRing, Nat.mod_eq_of_lt hv]
  · exact fun r h => State.ring_setRing_ne s _ g _ g r (.inr h)
  · exact fun k h => State.gate_setRing_ne s _ g _ k h

/-- Settles O51: each write goes through `hostAccess` to the row of `writeReg` that its offset names. -/
theorem registerWritesActByTheirRow : Obligations.RegisterWritesActByTheirRow := by
  refine ⟨?badSize, ?rows, ?commands, ?pending, ?w1c, ?unsupported, ?held⟩
  case badSize =>
    intro s port off size v hp bound bad
    exact (hp.registerWrite off size v bound).trans (State.writeReg_badSize bad v)
  case rows =>
    intro s port v hp hr
    have whole : ∀ off < 2 ^ 26, exec (.registerWrite port 0 off 8 v) s = s.writeReg off 8 v :=
      fun off h => hp.registerWrite off 8 v h
    have step : exec (.updStepWrite port 0 8 v) s = s.writeReg 0x180000 8 v := hp.registerWrite 0x180000 8 v (by omega)
    refine ⟨?_, ?_, fun hf => ⟨?_, ?_⟩, fun hf => ?_⟩
    · exact (whole 0x20 (by omega)).trans (State.writeReg_numStatus hr v)
    · exact (whole 0x1B0020 (by omega)).trans (State.writeReg_powerEvents hr v)
    · exact (whole 0x20038 (by omega)).trans (State.writeReg_holdLimit hr hf v)
    · exact step.trans (State.writeReg_updStep hr hf v)
    · exact step.trans (State.writeReg_unserved ((State.served_late hr (by omega)).trans hf) (by omega) v)
  case commands =>
    intro s port g hp hr hf hg
    have armed : exec (.arm port g) s = s.hostWrite8 port (0x140008 + g * 0x1000) 1 := if_pos hg
    have disarmed : exec (.disarm port g) s = s.hostWrite8 port (0x140008 + g * 0x1000) 2 := if_pos hg
    rw [armed, disarmed]
    exact ⟨State.streamCommand_spec hp hr hf hg (by omega), State.streamCommand_spec hp hr hf hg (by omega)⟩
  case pending =>
    exact fun α p c d v old => ⟨p.get_write c v old, fun h => ⟨p.due_write_ne c d v old h, p.left_write_ne c d v h⟩,
      p.get_left_write c v old, p.due_write_self c v old, p.due_write_write c v old v⟩
  case w1c =>
    exact fun s r bit v => ⟨s.clears_noteSet r bit v, fun h => State.clears_of_not_justSet h v⟩
  case unsupported =>
    intro s port bar off size v hp up free asleep
    exact (State.hostAccess_free hp up free _).trans (State.applyAccess_unsupported asleep _ bar off size v)
  case held =>
    intro s port bar off size v hp up held
    exact ⟨_, State.hostAccess_held hp up held _, by rw [State.hostPort_setHost _ _ _ hp], rfl⟩

end Sys2Proof.Machine
end

section
/-! PROOFS. The work of the stream engines: what arming, requests, completions, records and errors of the rings can change
(R208 to R246). -/

namespace Sys2Proof.Machine

/-- Nothing changes but gates, stacks, link ports, the numeric flags and error records of the frame, and what vectors change. -/
def State.GateWork (s t : State) : Prop :=
  t = { s with
    gates := t.gates
    stack := t.stack
    stackUe := t.stackUe
    numNow := t.numNow
    ports := t.ports
    host := t.host
    out := t.out
    err := { s.err with frame := t.err.frame }
    plan := { s.plan with failNext := t.plan.failNext } }

namespace State.GateWork

theorem refl (s : State) : s.GateWork s := rfl

theorem trans {s t u : State} (h : s.GateWork t) (k : t.GateWork u) : s.GateWork u := by
  unfold State.GateWork at *
  rw [k, h]

theorem of_gatesOnly {s t : State} (h : s.GatesOnly t) : s.GateWork t := by
  unfold State.GatesOnly at h
  unfold State.GateWork
  rw [h]

theorem fold {β : Type} (f : State → β → State) (each : ∀ (s : State) (x : β), s.GateWork (f s x)) (l : List β) (s : State) :
    s.GateWork (l.foldl f s) :=
  foldl_related State.GateWork refl trans f each l s

theorem foldRings (f : State → Nat → Nat → State) (each : ∀ (s : State) (g r : Nat), s.GateWork (f s g r))
    (l : List (Nat × Nat)) (s : State) : s.GateWork (l.foldl (fun s x => f s x.1 x.2) s) :=
  fold _ (fun s x => each s x.1 x.2) l s

theorem setRing (s : State) (g r : Nat) (x : Ring) : s.GateWork (s.setRing g r x) := rfl
theorem modRing (s : State) (g r : Nat) (f : Ring → Ring) : s.GateWork (s.modRing g r f) := rfl
theorem addFlags (s : State) (f : Status) : s.GateWork (s.addFlags f) := rfl
theorem addError (s : State) (k : ErrKind) (b : Bool) : s.GateWork (s.addError k b) := rfl

theorem postRecord (s : State) (g r status bytes seq : Nat) (irq : Bool) : s.GateWork (s.postRecord g r status bytes seq irq) :=
  of_gatesOnly (s.postRecord_frame g r status bytes seq irq)

/-! ## Errors of a ring -/

theorem ringError (s : State) (g r status : Nat) : s.GateWork (s.ringError g r status) := by
  obtain ⟨t, h, e⟩ := s.ringError_frame g r status
  rw [e]
  exact (of_gatesOnly h).trans (addError t _ _)

theorem addrError (s : State) (g r j elem : Nat) : s.GateWork (s.addrError g r j elem) := by
  unfold State.addrError
  exact ite_related (refl s) ((setRing s g r _).trans (ringError _ g r 4))

/-! ## Arming and the end of an arming -/

theorem endArming (s : State) (g r : Nat) : s.GateWork (s.endArming g r) := by
  unfold State.endArming
  dsimp only
  split
  · exact refl s
  · exact ite_related (setRing s g r _) ((setRing s g r _).trans (postRecord _ g r _ _ _ _))

theorem disarmRing (s : State) (g r : Nat) : s.GateWork (s.disarmRing g r) := by
  unfold State.disarmRing
  exact ite_related (refl s) ((endArming s g r).trans (setRing _ g r _))

theorem disarmAll (s : State) : s.GateWork s.disarmAll := foldRings State.disarmRing disarmRing _ s

theorem armRing (s : State) (g r origin : Nat) : s.GateWork (s.armRing g r origin) :=
  (endArming s g r).trans (setRing _ g r _)

theorem checkArming (s : State) (g r : Nat) : s.GateWork (s.checkArming g r) := by
  unfold State.checkArming
  dsimp only
  split
  · exact refl s
  · refine ite_related ?_ (ite_related ?_ (refl s))
    · exact ((setRing s g r _).trans (postRecord _ g r _ _ _ _)).trans (addError _ _ _)
    · exact (setRing s g r _).trans (postRecord _ g r _ _ _ _)

theorem checkArmings (s : State) (l : List (Nat × Nat)) : s.GateWork (s.checkArmings l) :=
  (foldRings State.checkArming checkArming _ s).trans (foldRings State.checkArming checkArming _ _)

theorem repeatRing (s : State) (g r origin : Nat) : s.GateWork (s.repeatRing g r origin) := by
  unfold State.repeatRing
  dsimp only
  split
  · exact refl s
  · exact ite_related (refl s) (ite_related ((setRing s g r _).trans (postRecord _ g r _ _ _ _)) (setRing s g r _))

theorem repeatRings (s : State) : s.GateWork s.repeatRings :=
  foldRings (fun s g r => s.repeatRing g r s.frm.count) (fun s g r => repeatRing s g r s.frm.count) _ s

/-! ## Blocks -/

theorem finishWalk (s : State) (g r : Nat) (a : Arming) : s.GateWork (s.finishWalk g r a) :=
  (setRing s g r _).trans (postRecord _ g r _ _ _ _)

theorem releaseBlock (s : State) (g r : Nat) : s.GateWork (s.releaseBlock g r) := by
  have walked : ∀ (u : State) (c : Prop) [Decidable c] (a : Arming), s.GateWork u →
      s.GateWork (if c then u.finishWalk g r a else u) :=
    fun u _ _ a h => ite_related (h.trans (finishWalk u g r a)) h
  unfold State.releaseBlock
  dsimp only
  split
  · exact refl s
  · exact walked _ _ _ (ite_related ((setRing s g r _).trans (setRing _ g _ _)) (setRing s g r _))

theorem releaseSent (s : State) (g r f n : Nat) : s.GateWork (s.releaseSent g r f n) := by
  induction n generalizing s with
  | zero => exact refl s
  | succ n ih =>
    unfold State.releaseSent
    dsimp only
    split
    · exact refl s
    · exact ite_related ((releaseBlock s g r).trans (ih _)) (refl s)

theorem releaseWritten (s : State) (g r n : Nat) : s.GateWork (s.releaseWritten g r n) := by
  induction n generalizing s with
  | zero => exact refl s
  | succ n ih =>
    unfold State.releaseWritten
    split
    · exact refl s
    · exact ite_related ((releaseBlock s g r).trans (ih _)) (refl s)

theorem completeInbound (s : State) (g r j : Nat) : s.GateWork (s.completeInbound g r j) := by
  unfold State.completeInbound
  dsimp only
  split
  · exact refl s
  · split
    · exact refl s
    · split
      · exact ((setRing s g r _).trans (addFlags _ _)).trans (addrError _ g r j _)
      · exact (setRing s g r _).trans (addFlags _ _)

theorem completeOutbound (s : State) (g r j : Nat) : s.GateWork (s.completeOutbound g r j) := by
  unfold State.completeOutbound
  dsimp only
  split
  · exact refl s
  · split
    · exact refl s
    · exact ite_related (setRing s g r _) ((setRing s g r _).trans (addFlags _ _))

theorem completeReads (s : State) (g r n : Nat) : s.GateWork (s.completeReads g r n) := by
  induction n generalizing s with
  | zero => exact refl s
  | succ n ih =>
    unfold State.completeReads
    dsimp only
    split
    · exact refl s
    · refine ite_related ?_ (ite_related ?_ (refl s))
      · split
        · exact (completeOutbound s g r _).trans (ih _)
        · exact refl s
      · split
        · exact ite_related ((completeInbound s g r _).trans (ih _)) (refl s)
        · exact refl s

theorem sweepOld (s : State) (g r : Nat) : s.GateWork (s.sweepOld g r) :=
  (setRing s g r _).trans (fold _ (fun s _ => postRecord s g r _ _ _ _) _ _)

/-! ## Requests -/

theorem requestBlock (s : State) (g r j : Nat) : s.GateWork (s.requestBlock g r j) := by
  unfold State.requestBlock
  dsimp only
  split
  · exact refl s
  · refine ite_related (refl s) (ite_related ?_ ?_)
    · split
      · exact refl s
      · exact setRing s g r _
    · split
      · exact (setRing s g r _).trans (addrError _ g r j _)
      · exact setRing s g r _

theorem requestRing (s : State) (g r : Nat) : s.GateWork (s.requestRing g r) := fold _ (fun s j => requestBlock s g r j) _ s

theorem advanceRing (s : State) (g r : Nat) : s.GateWork (s.advanceRing g r) :=
  (requestRing s g r).trans (fold _ (fun s c => requestRing s g c) _ _)

theorem settleRing (s : State) (g r : Nat) : s.GateWork (s.settleRing g r) := by
  unfold State.settleRing
  exact ((((completeReads s g r 6).trans (modRing _ g r _)).trans (releaseWritten _ g r 6)).trans (sweepOld _ g r)).trans
    (advanceRing _ g r)

/-! ## The tick at a ring -/

theorem ringFrameEnd (s : State) (g r : Nat) : s.GateWork (s.ringFrameEnd g r) := by
  have filled : ∀ l : List Block, s.GateWork (l.foldl (fun s b => s.completeInbound g r b.num) s) :=
    fun l => fold _ (fun s b => completeInbound s g r b.num) l s
  unfold State.ringFrameEnd
  dsimp only
  split
  · exact refl s
  · split
    · exact trans (filled _) (settleRing _ g r)
    · exact releaseSent s g r _ 5

theorem ringFrameStart (s : State) (g r : Nat) : s.GateWork (s.ringFrameStart g r) := by
  have slot : ∀ (u v : State), u.GateWork v → u.GateWork ((v.requestRing g r).settleRing g r) :=
    fun u v h => (h.trans (requestRing v g r)).trans (settleRing _ g r)
  unfold State.ringFrameStart
  refine slot s _ ?_
  split
  · exact refl s
  · split
    · exact ite_related (setRing s g r _) (refl s)
    · exact refl s

theorem markGo (s : State) (g r : Nat) : s.GateWork (s.markGo g r) := modRing s g r _

theorem markAllGo (s : State) : s.GateWork s.markAllGo := by
  refine fold _ (fun s p => ?_) s.gates s
  exact fold _ (fun s q => markGo s p.1 q.1) p.2.rings s

theorem handBlock (s : State) (g r : Nat) : s.GateWork (s.handBlock g r) := by
  unfold State.handBlock
  dsimp only
  split
  · exact refl s
  · split
    · exact refl s
    · exact ite_related (refl s) rfl

theorem handBlocks (s : State) : s.GateWork s.handBlocks := foldRings State.handBlock handBlock _ s

theorem linkedFaults (s : State) : s.GateWork s.linkedFaults := by
  refine fold _ (fun s x => ?_) _ s
  dsimp only
  split
  · exact ite_related ((releaseSent s x.1 x.2 _ 1).trans (ringError _ x.1 x.2 8)) (refl s)
  · exact refl s

theorem commitRings (s : State) : s.GateWork s.commitRings.1 := by
  refine GateWork.trans (fold _ (fun s x => setRing s x.1 x.2 _) s.allRings s) (fold _ (fun s c => ?_) _ _)
  exact ite_related (armRing s c.1.1 c.1.2 s.frm.count) (disarmRing s c.1.1 c.1.2)

end State.GateWork

end Sys2Proof.Machine
end

section
/-! PROOFS. What a tick counts and commits, and the operations of the tick that leave it alone (R15, R24, R44, R79, R436). -/

namespace Sys2Proof.Machine

/-- What a tick counts and commits: the cycle, FRM_COUNT, the end of the frame, GLB_NUM_STATUS, the hold limit and PWR_CAP with
what is pending for them, the generation of the map, and what the commits depend on. -/
structure TickFields where
  now : Nat
  cycle : Nat
  count : Nat
  ended : Bool
  num : Status
  holdLimit : Nat
  holdLimitPend : Shadow Nat
  cap : PwrCap
  capPend : Shadow PwrCap
  gen : Nat
  bistDone : Bool

def State.tickFields (s : State) : TickFields :=
  { now := s.clk.now, cycle := s.clk.cycle, count := s.frm.count, ended := s.frm.ended, num := s.num
    holdLimit := s.frm.holdLimit, holdLimitPend := s.frm.holdLimitPend, cap := s.pwr.cap, capPend := s.pwr.capPend
    gen := s.map.gen, bistDone := s.dawn.bistDone }

/-- Nothing that a tick counts or commits changes, and a live-map change that waits still does. -/
def State.KeepsTick (s t : State) : Prop := t.tickFields = s.tickFields ∧ (s.mapNext ≠ [] → t.mapNext ≠ [])

namespace State.KeepsTick

theorem refl (s : State) : s.KeepsTick s := ⟨rfl, id⟩

theorem trans {s t u : State} (h : s.KeepsTick t) (k : t.KeepsTick u) : s.KeepsTick u := ⟨k.1.trans h.1, k.2 ∘ h.2⟩

theorem fold {β : Type} (f : State → β → State) (each : ∀ (s : State) (x : β), s.KeepsTick (f s x)) (l : List β) (s : State) :
    s.KeepsTick (l.foldl f s) :=
  foldl_related State.KeepsTick refl trans f each l s

theorem foldRings (f : State → Nat → Nat → State) (each : ∀ (s : State) (g r : Nat), s.KeepsTick (f s g r))
    (l : List (Nat × Nat)) (s : State) : s.KeepsTick (l.foldl (fun s x => f s x.1 x.2) s) :=
  fold _ (fun s x => each s x.1 x.2) l s

theorem of_gateWork {s t : State} (h : s.GateWork t) : s.KeepsTick t := by
  unfold State.GateWork at h
  rw [h]
  exact ⟨rfl, id⟩

theorem of_tilesOnly {s t : State} (h : s.TilesOnly t) : s.KeepsTick t := by
  unfold State.TilesOnly at h
  rw [h]
  exact ⟨rfl, id⟩

theorem of_missOnly {s t : State} (h : s.MissOnly t) : s.KeepsTick t := by
  unfold State.MissOnly at h
  rw [h]
  exact ⟨rfl, id⟩

/-! ## Records, events and messages -/

theorem noteSet (s : State) (r : W1cReg) (n : Nat) : s.KeepsTick (s.noteSet r n) := ⟨rfl, id⟩
theorem addError (s : State) (k : ErrKind) (b : Bool) : s.KeepsTick (s.addError k b) := ⟨rfl, id⟩
theorem logRecord (s : State) (k : Nat) (d : List Byte) : s.KeepsTick (s.logRecord k d) := ⟨rfl, id⟩
theorem modRegion (s : State) (r : Nat) (f : Region → Region) : s.KeepsTick (s.modRegion r f) := ⟨rfl, id⟩
theorem setTile (s : State) (t : Nat) (x : Tile) : s.KeepsTick (s.setTile t x) := ⟨rfl, id⟩
theorem setPort (s : State) (p : Nat) (x : Port) : s.KeepsTick (s.setPort p x) := ⟨rfl, id⟩
theorem emit (s : State) (o : Out) : s.KeepsTick (s.emit o) := ⟨rfl, id⟩
theorem unform (s : State) : s.KeepsTick s.unform := ⟨rfl, id⟩

theorem raiseVector (s : State) (v : Nat) : s.KeepsTick (s.raiseVector v) := by
  rw [State.raiseVector_frame]
  exact ⟨rfl, id⟩

theorem powerEvent (s : State) (n : Nat) : s.KeepsTick (s.powerEvent n) := by
  rw [State.powerEvent_frame]
  exact ⟨rfl, id⟩

theorem linkStatus (s : State) (n : Nat) (f : Group → Group) : s.KeepsTick (s.linkStatus n f) := by
  rw [State.linkStatus_frame]
  exact ⟨rfl, id⟩

theorem flood (s : State) (m : SyncMsg) (skip : Option Nat) : s.KeepsTick (s.flood m skip) := by
  rw [State.flood_frame]
  exact ⟨rfl, id⟩

theorem floodAbort (s : State) (cause : Nat) : s.KeepsTick (s.floodAbort cause) := by
  rw [State.floodAbort_frame]
  exact ⟨rfl, id⟩

theorem addChanDrop (s : State) (r n : Nat) : s.KeepsTick (s.addChanDrop r n) := by
  rw [State.addChanDrop_frame]
  exact ⟨rfl, id⟩

theorem placeErrors (s : State) : s.KeepsTick s.placeErrors := by
  unfold State.placeErrors
  refine ite_related (refl s) (.trans ?_ (raiseVector _ _))
  have noted : s.KeepsTick (if s.err.frame.any fun r => r.uncorrected then s.noteSet .err 1 else s) :=
    ite_related (noteSet s .err 1) (refl s)
  exact (noted.trans (noteSet _ .err 0)).trans ⟨rfl, id⟩

/-! ## The frame that ends -/

theorem discardFlights (s : State) : s.KeepsTick s.discardFlights := by
  have lost : ∀ (l : List Flight) (u : State), u.KeepsTick (l.foldl (fun u f => u.addChanDrop (regionOf f.tile) 1) u) :=
    fold _ fun u f => addChanDrop u _ 1
  have lostAtRim : ∀ (l : List RimFlight) (u : State), u.KeepsTick (l.foldl (fun u f => u.addChanDrop (regionOf f.tile) 1) u) :=
    fold _ fun u f => addChanDrop u _ 1
  unfold State.discardFlights
  dsimp only
  refine .trans (.trans (.trans (t := { s with mesh := [], rim := [] }) ⟨rfl, id⟩ (lost _ _)) (lostAtRim _ _)) (fold _ (fun u p => ?_) _ _)
  exact ite_related (refl u) (.trans (setTile u p.1 _) (addChanDrop _ _ _))

end State.KeepsTick

/-! ## Measurement (R338, R345, R348, R401) -/

/-- A change of a region that is none of its dusk and dark flags leaves those of every region. -/
theorem State.gated_modRegion (s : State) (r : Nat) (f : Region → Region)
    (hf : ∀ x, (f x).duskPlan = x.duskPlan ∧ (f x).duskHeat = x.duskHeat ∧ (f x).dark = x.dark) (k : Nat) :
    (s.modRegion r f).isDusk k = s.isDusk k ∧ (s.modRegion r f).isDark k = s.isDark k := by
  by_cases h : k = r
  · subst h
    simp [State.isDusk, State.isDark, State.modRegion, hf]
  · simp [State.isDusk, State.isDark, State.modRegion, State.region_setRegion_ne _ _ _ _ h]

/-- Nothing changes but gates, regions apart from dusk and dark, the power controller apart from its cap, error records, the
log, the control registers, and what vectors change. -/
def State.PowerWork (s t : State) : Prop :=
  t = { s with
    regions := t.regions
    gates := t.gates
    pwr := { t.pwr with cap := s.pwr.cap, capPend := s.pwr.capPend }
    err := t.err
    plan := t.plan
    log := t.log
    ctl := t.ctl
    setAt := t.setAt
    host := t.host
    out := t.out } ∧
  ∀ r, t.isDusk r = s.isDusk r ∧ t.isDark r = s.isDark r

namespace State.PowerWork

theorem refl (s : State) : s.PowerWork s := ⟨rfl, fun _ => ⟨rfl, rfl⟩⟩

theorem trans {s t u : State} (h : s.PowerWork t) (k : t.PowerWork u) : s.PowerWork u := by
  obtain ⟨he, hr⟩ := h
  obtain ⟨ke, kr⟩ := k
  exact ⟨by rw [ke, he], fun r => ⟨(kr r).1.trans (hr r).1, (kr r).2.trans (hr r).2⟩⟩

theorem fold {β : Type} (f : State → β → State) (each : ∀ (s : State) (x : β), s.PowerWork (f s x)) (l : List β) (s : State) :
    s.PowerWork (l.foldl f s) :=
  foldl_related State.PowerWork refl trans f each l s

theorem keepsTick {s t : State} (h : s.PowerWork t) : s.KeepsTick t := by
  obtain ⟨he, -⟩ := h
  rw [he]
  exact ⟨rfl, id⟩

theorem addError (s : State) (k : ErrKind) (b : Bool) : s.PowerWork (s.addError k b) := ⟨rfl, fun _ => ⟨rfl, rfl⟩⟩

theorem modGate (s : State) (g : Nat) (f : Gate → Gate) : s.PowerWork (s.modGate g f) := ⟨rfl, fun _ => ⟨rfl, rfl⟩⟩

theorem raiseVector (s : State) (v : Nat) : s.PowerWork (s.raiseVector v) := by
  rw [State.raiseVector_frame]
  exact ⟨rfl, fun _ => ⟨rfl, rfl⟩⟩

theorem powerEvent (s : State) (n : Nat) : s.PowerWork (s.powerEvent n) := by
  rw [State.powerEvent_frame]
  exact ⟨rfl, fun _ => ⟨rfl, rfl⟩⟩

theorem noteRegion (s : State) (r watts : Nat) : s.PowerWork (s.noteRegion r watts) :=
  ⟨rfl, State.gated_modRegion s r _ fun _ => ⟨rfl, rfl, rfl⟩⟩

theorem addChanDrop (s : State) (r n : Nat) : s.PowerWork (s.addChanDrop r n) := by
  unfold State.addChanDrop
  exact ite_related (refl s) ⟨rfl, State.gated_modRegion s r _ fun _ => ⟨rfl, rfl, rfl⟩⟩

theorem measureFrame (s : State) (tel : Telemetry) (wall : Nat) : s.PowerWork (s.measureFrame tel wall) := by
  have noted : ∀ u : State, u.PowerWork (tel.regions.foldl (fun u x => u.noteRegion x.1 x.2) u) :=
    fold (fun u x => u.noteRegion x.1 x.2) (fun u x => noteRegion u x.1 x.2) tel.regions
  have learnt : ∀ (u : State) (c : Bool) (m : Map PhaseLearn), s.PowerWork u →
      s.PowerWork (if c then { u with pwr := { u.pwr with phases := m } } else u) :=
    fun u c m h => ite_related (h.trans ⟨rfl, fun _ => ⟨rfl, rfl⟩⟩) h
  have exceeded : ∀ (u : State) (c : Prop) [Decidable c] (n : Nat) (m : Map PhaseLearn), s.PowerWork u →
      s.PowerWork (if c then ({ u with pwr := { u.pwr with capExceed := n, phases := m } } : State).powerEvent 6 else u) :=
    fun u c _ n m h => ite_related ((h.trans ⟨rfl, fun _ => ⟨rfl, rfl⟩⟩).trans (powerEvent _ 6)) h
  exact exceeded _ _ _ _ (learnt _ _ _ ((noted s).trans ⟨rfl, fun _ => ⟨rfl, rfl⟩⟩))

theorem watchStage (s : State) : s.PowerWork s.watchStage := by
  unfold State.watchStage
  exact ite_related (trans (t := { s with ctl := { s.ctl with stageBusy := false, stageResult := 7 } }) ⟨rfl, fun _ => ⟨rfl, rfl⟩⟩
    (raiseVector _ _)) (refl s)

end State.PowerWork

end Sys2Proof.Machine
end

section
/-! PROOFS. Engines that have run up to a cycle do not run again in it, so a stop within the tick adds no numeric flag
(R22, R79, R86, R357, R359). -/

namespace Sys2Proof.Machine

/-! ## One tile -/

theorem Tile.le_at_runTo (x : TileCtx) (c : Nat) (t : Tile) : c ≤ (t.runTo x c).1.at_ := by
  unfold Tile.runTo
  dsimp only
  split
  · exact Nat.le_refl _
  · omega

/-- A tile that has run up to a cycle stays as it is. -/
theorem Tile.runTo_of_le (x : TileCtx) {c : Nat} {t : Tile} (h : c ≤ t.at_) : t.runTo x c = (t, Notes.none) := by
  have e : c - t.at_ = 0 := Nat.sub_eq_zero_of_le h
  simp [Tile.runTo, e, runCycles, Nat.not_lt.mpr h]

/-! ## All tiles -/

/-- The engines of a tile have run up to this cycle, if its clocks run. -/
def State.SyncedAt (s : State) (k : Nat) : Prop := s.tileClocked k = true → s.clk.now ≤ (s.getTile k).at_

/-- The engines of every tile have. -/
def State.Synced (s : State) : Prop := ∀ k ∈ s.tiles.map (·.1), s.SyncedAt k

/-- The engines stand as they stood: the cycle, which tiles are clocked and how far each has run; and the flags of the frame. -/
structure State.SameEngines (s t : State) : Prop where
  now : t.clk.now = s.clk.now
  clocked : ∀ k, t.tileClocked k = s.tileClocked k
  ran : ∀ k, (t.getTile k).at_ = (s.getTile k).at_
  listed : t.tiles.map (·.1) ⊆ s.tiles.map (·.1)
  flags : t.numNow = s.numNow

namespace State.SameEngines

theorem refl (s : State) : s.SameEngines s := ⟨rfl, fun _ => rfl, fun _ => rfl, List.Subset.refl _, rfl⟩

theorem trans {s t u : State} (h : s.SameEngines t) (k : t.SameEngines u) : s.SameEngines u :=
  ⟨k.now.trans h.now, fun n => (k.clocked n).trans (h.clocked n), fun n => (k.ran n).trans (h.ran n),
    List.Subset.trans k.listed h.listed, k.flags.trans h.flags⟩

theorem syncedAt {s t : State} (h : s.SameEngines t) {k : Nat} (hs : s.SyncedAt k) : t.SyncedAt k := by
  unfold State.SyncedAt at *
  rw [h.clocked, h.now, h.ran]
  exact hs

theorem synced {s t : State} (h : s.SameEngines t) (hs : s.Synced) : t.Synced := fun k hk => h.syncedAt (hs k (h.listed hk))

theorem of_powerWork {s t : State} (h : s.PowerWork t) : s.SameEngines t := by
  obtain ⟨e, gated⟩ := h
  refine ⟨by rw [e], fun k => ?_, fun k => ?_, by rw [e]; exact List.Subset.refl _, by rw [e]⟩
  · have run : t.clk = s.clk := by rw [e]
    have spare : t.isSpare = s.isSpare := by rw [e]; rfl
    simp only [State.tileClocked, State.coreRuns, State.gatedRegion, run, spare, (gated _).1, (gated _).2]
  · rw [State.getTile_congr s t k (by rw [e])]

end State.SameEngines

/-! ## What a tile reports -/

/-- Nothing changes but the frame's flags, error records and regions apart from dusk and dark. -/
def State.ReportOnly (s t : State) : Prop :=
  t = { s with regions := t.regions, numNow := t.numNow, err := t.err, plan := t.plan } ∧
  ∀ r, t.isDusk r = s.isDusk r ∧ t.isDark r = s.isDark r

theorem State.ReportOnly.trans {s t u : State} (h : s.ReportOnly t) (k : t.ReportOnly u) : s.ReportOnly u := by
  obtain ⟨he, hr⟩ := h
  obtain ⟨ke, kr⟩ := k
  exact ⟨by rw [ke, he], fun r => ⟨(kr r).1.trans (hr r).1, (kr r).2.trans (hr r).2⟩⟩

theorem State.applyEvent_frame (s : State) (t : Nat) (e : TileEvent) :
    s.ReportOnly (s.applyEvent t e) ∧ (s.applyEvent t e).numNow = s.numNow := by
  unfold State.applyEvent
  split <;> exact ⟨⟨rfl, fun _ => ⟨rfl, rfl⟩⟩, rfl⟩

theorem State.applyNotes_frame (s : State) (t : Nat) (n : Notes) :
    s.ReportOnly (s.applyNotes t n) ∧ (s.applyNotes t n).numNow = s.numNow ||| n.flags.visible := by
  have counted : ∀ f : Region → Region, (∀ x, (f x).duskPlan = x.duskPlan ∧ (f x).duskHeat = x.duskHeat ∧ (f x).dark = x.dark) →
      s.ReportOnly ((s.modRegion (regionOf t) f).addFlags n.flags) :=
    fun f hf => ⟨rfl, State.gated_modRegion s (regionOf t) f hf⟩
  have events := foldl_related (fun a b : State => a.ReportOnly b ∧ b.numNow = a.numNow) (fun a => ⟨⟨rfl, fun _ => ⟨rfl, rfl⟩⟩, rfl⟩)
    (fun h k => ⟨h.1.trans k.1, k.2.trans h.2⟩) (fun (a : State) e => a.applyEvent t e) (fun a e => a.applyEvent_frame t e) n.events
  refine ⟨State.ReportOnly.trans ?_ (events _).1, (events _).2⟩
  exact counted _ fun _ => ⟨rfl, rfl, rfl⟩

/-! ## Engines run up to this cycle -/

theorem State.syncTile_unclocked {s : State} {k : Nat} (h : s.tileClocked k = false) : s.syncTile k = s := by
  simp [State.syncTile, h]

/-- A tile that is clocked takes the state to which its engines have run. -/
theorem State.syncTile_clocked {s : State} {k : Nat} (h : s.tileClocked k = true) :
    (s.syncTile k).clk = s.clk ∧ (∀ n, (s.syncTile k).tileClocked n = s.tileClocked n) ∧
    (s.syncTile k).tiles = Map.set s.tiles k ((s.getTile k).runTo (s.ctx k) s.clk.now).1 ∧
    (s.syncTile k).numNow = s.numNow ||| ((s.getTile k).runTo (s.ctx k) s.clk.now).2.flags.visible := by
  have e : s.syncTile k = (s.setTile k ((s.getTile k).runTo (s.ctx k) s.clk.now).1).applyNotes k
      ((s.getTile k).runTo (s.ctx k) s.clk.now).2 := by
    unfold State.syncTile State.putTile
    rw [if_pos h]
  obtain ⟨⟨shape, gated⟩, flags⟩ := State.applyNotes_frame (s.setTile k ((s.getTile k).runTo (s.ctx k) s.clk.now).1) k
    ((s.getTile k).runTo (s.ctx k) s.clk.now).2
  rw [← e] at shape gated flags
  have clk : (s.syncTile k).clk = s.clk := by rw [shape]; rfl
  have spare : (s.syncTile k).isSpare = s.isSpare := by rw [shape]; rfl
  refine ⟨clk, fun n => ?_, by rw [shape]; rfl, flags⟩
  have dusk : (s.syncTile k).isDusk (regionOf n) = s.isDusk (regionOf n) := (gated _).1
  have dark : (s.syncTile k).isDark (regionOf n) = s.isDark (regionOf n) := (gated _).2
  simp only [State.tileClocked, State.coreRuns, State.gatedRegion, clk, spare, dusk, dark]

theorem State.syncedAt_syncTile_self (s : State) (k : Nat) : (s.syncTile k).SyncedAt k := by
  cases h : s.tileClocked k with
  | false =>
    rw [State.syncTile_unclocked h]
    intro run
    simp [h] at run
  | true =>
    obtain ⟨clk, -, tiles, -⟩ := State.syncTile_clocked h
    intro _
    simp only [State.getTile, tiles, Map.getD_set_self, clk]
    exact Tile.le_at_runTo _ _ _

theorem State.SyncedAt.syncTile {s : State} {n : Nat} (hs : s.SyncedAt n) (k : Nat) : (s.syncTile k).SyncedAt n := by
  by_cases e : n = k
  · subst e
    exact s.syncedAt_syncTile_self n
  · cases h : s.tileClocked k with
    | false =>
      rw [State.syncTile_unclocked h]
      exact hs
    | true =>
      obtain ⟨clk, clocked, tiles, -⟩ := State.syncTile_clocked h
      intro run
      rw [clocked] at run
      simp only [State.getTile, tiles, Map.getD_set_ne _ _ _ _ _ e, clk]
      exact hs run

theorem Map.mem_keys_set {α : Type} (m : Map α) (k : Nat) (x : α) {n : Nat} (h : n ∈ (Map.set m k x).map (·.1)) :
    n = k ∨ n ∈ m.map (·.1) := by
  obtain ⟨p, hp, rfl⟩ := List.mem_map.mp h
  rcases Map.mem_set m k x p hp with rfl | hp
  · exact .inl rfl
  · exact .inr (List.mem_map.mpr ⟨p, hp, rfl⟩)

theorem State.mem_tiles_syncTile {s : State} {k n : Nat} (h : n ∈ (s.syncTile k).tiles.map (·.1)) :
    n = k ∨ n ∈ s.tiles.map (·.1) := by
  cases c : s.tileClocked k with
  | false =>
    rw [State.syncTile_unclocked c] at h
    exact .inr h
  | true =>
    obtain ⟨-, -, tiles, -⟩ := State.syncTile_clocked c
    rw [tiles] at h
    exact Map.mem_keys_set _ _ _ h

/-- Engines that have run up to this cycle do not run again in it. -/
theorem State.SameEngines.syncTile {s t : State} (h : s.SameEngines t) {k : Nat} (hs : t.SyncedAt k)
    (hk : k ∈ s.tiles.map (·.1)) : s.SameEngines (t.syncTile k) := by
  have listed : (t.syncTile k).tiles.map (·.1) ⊆ s.tiles.map (·.1) := by
    intro n hn
    rcases State.mem_tiles_syncTile hn with rfl | hn
    · exact hk
    · exact h.listed hn
  cases c : t.tileClocked k with
  | false =>
    rw [State.syncTile_unclocked c]
    exact h
  | true =>
    obtain ⟨clk, clocked, tiles, flags⟩ := State.syncTile_clocked c
    rw [Tile.runTo_of_le (t.ctx k) (hs c)] at tiles flags
    have silent : t.numNow ||| Notes.none.flags.visible = t.numNow := BitVec.or_zero
    have ran : ∀ n, ((t.syncTile k).getTile n).at_ = (t.getTile n).at_ := by
      intro n
      by_cases e : n = k
      · subst e
        simp [State.getTile, tiles]
      · simp [State.getTile, tiles, e]
    exact ⟨by rw [clk, h.now], fun n => (clocked n).trans (h.clocked n), fun n => (ran n).trans (h.ran n), listed,
      (flags.trans silent).trans h.flags⟩

/-- A second synchronisation in one cycle changes no tile's progress and adds no flag. -/
theorem State.Synced.syncTiles {s : State} (hs : s.Synced) : s.SameEngines s.syncTiles := by
  have each : ∀ (l : List Nat), (∀ k ∈ l, k ∈ s.tiles.map (·.1)) → ∀ t, s.SameEngines t →
      s.SameEngines (l.foldl State.syncTile t) := by
    intro l
    induction l with
    | nil => exact fun _ _ h => h
    | cons k rest ih =>
      intro hl t h
      have hk := hl k List.mem_cons_self
      exact ih (fun n hn => hl n (List.mem_cons_of_mem _ hn)) _ (h.syncTile (h.syncedAt (hs k hk)) hk)
  exact each _ (fun _ h => h) s (.refl s)

theorem State.SyncedAt.foldl_syncTile {n : Nat} (l : List Nat) {s : State} (h : s.SyncedAt n) :
    (l.foldl State.syncTile s).SyncedAt n := by
  induction l generalizing s with
  | nil => exact h
  | cons k rest ih => exact ih (h.syncTile k)

theorem State.syncedAt_foldl_syncTile {n : Nat} {l : List Nat} (hn : n ∈ l) (s : State) :
    (l.foldl State.syncTile s).SyncedAt n := by
  induction l generalizing s with
  | nil => exact absurd hn List.not_mem_nil
  | cons k rest ih =>
    rcases List.mem_cons.mp hn with rfl | hn
    · exact State.SyncedAt.foldl_syncTile rest (s.syncedAt_syncTile_self n)
    · exact ih hn _

theorem State.mem_tiles_foldl_syncTile {n : Nat} (l : List Nat) {s : State}
    (h : n ∈ (l.foldl State.syncTile s).tiles.map (·.1)) : n ∈ l ∨ n ∈ s.tiles.map (·.1) := by
  induction l generalizing s with
  | nil => exact .inr h
  | cons k rest ih =>
    rcases ih h with h | h
    · exact .inl (List.mem_cons_of_mem _ h)
    · rcases State.mem_tiles_syncTile h with rfl | h
      · exact .inl List.mem_cons_self
      · exact .inr h

/-- After a synchronisation every tile's engines have run up to this cycle. -/
theorem State.synced_syncTiles (s : State) : s.syncTiles.Synced := by
  intro n hn
  exact State.syncedAt_foldl_syncTile ((State.mem_tiles_foldl_syncTile _ hn).elim id id) s

/-! ## Stops within a tick (R351, R357, R359) -/

theorem State.SameEngines.setTile {s t : State} (h : s.SameEngines t) {k : Nat} (hk : k ∈ s.tiles.map (·.1)) {x : Tile}
    (hx : x.at_ = (t.getTile k).at_) : s.SameEngines (t.setTile k x) := by
  refine ⟨h.now, h.clocked, fun n => ?_, fun n hn => ?_, h.flags⟩
  · by_cases e : n = k
    · subst e
      rw [State.getTile_setTile, hx, h.ran]
    · rw [State.getTile_setTile_ne _ _ _ _ e, h.ran]
  · rcases Map.mem_keys_set _ _ _ hn with rfl | hn
    · exact hk
    · exact h.listed hn

theorem State.SameEngines.addChanDrop (s : State) (r n : Nat) : s.SameEngines (s.addChanDrop r n) :=
  .of_powerWork (.addChanDrop s r n)

theorem State.SameEngines.discardFlights (s : State) : s.SameEngines s.discardFlights := by
  have lost : ∀ (l : List Flight) (u : State), u.SameEngines (l.foldl (fun u f => u.addChanDrop (regionOf f.tile) 1) u) :=
    foldl_related State.SameEngines .refl .trans _ fun u f => .addChanDrop u _ 1
  have lostAtRim : ∀ (l : List RimFlight) (u : State), u.SameEngines (l.foldl (fun u f => u.addChanDrop (regionOf f.tile) 1) u) :=
    foldl_related State.SameEngines .refl .trans _ fun u f => .addChanDrop u _ 1
  have tile : ∀ (u : State) (p : Nat × Tile), p ∈ s.tiles → s.SameEngines u → s.SameEngines (if p.2.rx.isEmpty then u
      else (u.modTile p.1 fun t => { t with rx := [] }).addChanDrop (regionOf p.1) p.2.rx.length) := by
    intro u p hp h
    refine ite_related h (.trans ?_ (.addChanDrop _ _ _))
    exact h.setTile (List.mem_map.mpr ⟨p, hp, rfl⟩) rfl
  have emptied : ∀ (l : List (Nat × Tile)), (∀ p ∈ l, p ∈ s.tiles) → ∀ u, s.SameEngines u →
      s.SameEngines (l.foldl (fun u p => if p.2.rx.isEmpty then u
        else (u.modTile p.1 fun t => { t with rx := [] }).addChanDrop (regionOf p.1) p.2.rx.length) u) := by
    intro l
    induction l with
    | nil => exact fun _ _ h => h
    | cons p rest ih =>
      exact fun hl u h => ih (fun q hq => hl q (List.mem_cons_of_mem _ hq)) _ (tile u p (hl p List.mem_cons_self) h)
  have cleared : s.SameEngines { s with mesh := [], rim := [] } :=
    ⟨rfl, fun _ => rfl, fun _ => rfl, List.Subset.refl _, rfl⟩
  exact emptied s.tiles (fun _ h => h) _ ((cleared.trans (lost s.mesh _)).trans (lostAtRim s.rim _))

/-- Nothing that a tick counts or commits changes, nor the numeric flags of the frame. -/
def State.KeepsFlags (s t : State) : Prop := s.KeepsTick t ∧ t.numNow = s.numNow

theorem State.KeepsFlags.trans {s t u : State} (h : s.KeepsFlags t) (k : t.KeepsFlags u) : s.KeepsFlags u :=
  ⟨h.1.trans k.1, k.2.trans h.2⟩

theorem State.PowerWork.keepsFlags {s t : State} (h : s.PowerWork t) : s.KeepsFlags t :=
  ⟨h.keepsTick, (State.SameEngines.of_powerWork h).flags⟩

theorem State.KeepsFlags.refl (s : State) : s.KeepsFlags s := ⟨.refl s, rfl⟩

theorem State.KeepsFlags.enterNight (s : State) : s.KeepsFlags s.enterNight := by
  rw [State.enterNight_frame]
  exact ⟨⟨rfl, id⟩, rfl⟩

theorem State.KeepsFlags.tellStop (s : State) (m : SyncMsg) :
    s.KeepsFlags (if s.grouped then ((s.floodAbort 1).flood m none).unform else s) := by
  refine ite_related ⟨((KeepsTick.floodAbort s 1).trans (.flood _ m none)).trans (.unform _), ?_⟩ (.refl s)
  rw [State.unform_numNow, State.flood_frame, State.floodAbort_frame]

/-- A stop for the cooling adds no flag where the engines have run up to this cycle (R357). -/
theorem State.Synced.coolStop {s : State} (hs : s.Synced) : s.KeepsFlags s.coolStop := by
  have synced : s.KeepsFlags s.syncTiles := ⟨.of_tilesOnly (.syncTiles s), hs.syncTiles.flags⟩
  have stopping : ∀ u : State, u.KeepsFlags { u with pwr := { u.pwr with coolStop := true } } := fun u => ⟨⟨rfl, id⟩, rfl⟩
  have stopped : ∀ (u : State) (c : Clock) (m : Map Region), c.now = u.clk.now → c.cycle = u.clk.cycle →
      u.KeepsFlags { u with clk := c, regions := m } := by
    intro u c m hn hc
    refine ⟨⟨?_, id⟩, rfl⟩
    simp only [State.tickFields, hn, hc]
  unfold State.coolStop
  refine ite_related (.refl s) ?_
  refine State.KeepsFlags.trans ?_ (stopped _ _ _ rfl rfl)
  refine State.KeepsFlags.trans ?_ (.tellStop _ _)
  refine State.KeepsFlags.trans ?_ (PowerWork.keepsFlags (.addError _ _ _))
  refine State.KeepsFlags.trans ?_ (PowerWork.keepsFlags (.powerEvent _ _))
  exact (synced.trans (.enterNight _)).trans (stopping _)

theorem State.Synced.thermTrip {s : State} (hs : s.Synced) (k : ErrKind) : s.KeepsFlags (s.thermTrip k) := by
  have tripping : s.PowerWork { s with pwr := { s.pwr with trip := true }, log := { s.log with trips := s.log.trips + 1 } } :=
    ⟨rfl, fun _ => ⟨rfl, rfl⟩⟩
  have tripped := (tripping.trans (.powerEvent _ 2)).trans (.addError _ k true)
  unfold State.thermTrip
  exact ite_related (.refl s) (tripped.keepsFlags.trans ((State.SameEngines.of_powerWork tripped).synced hs).coolStop)

/-- The stacks' temperatures add no flag to a frame that has ended (R247, R351, R359). -/
theorem State.Synced.stackTemps {s : State} (hs : s.Synced) (l : List (Nat × Int)) : s.KeepsFlags (s.stackTemps l) := by
  unfold State.stackTemps
  extract_lets u
  have noted : s.PowerWork u := State.PowerWork.fold _ (fun v x => ite_related (.modGate v x.1 _) (.refl v)) l s
  have logged : ∀ (v : State) (k : Nat) (d : List Byte), u.KeepsFlags v → u.KeepsFlags (v.logRecord k d) :=
    fun v k d h => h.trans ⟨.logRecord v k d, rfl⟩
  refine noted.keepsFlags.trans ?_
  split
  · exact ite_related (.refl _) (logged _ _ _ (((State.SameEngines.of_powerWork noted).synced hs).thermTrip _))
  · exact .refl _

end Sys2Proof.Machine
end

section
/-! PROOFS. The parts of the tick that leave alone what it counts and commits: dusk, ports, maps, the run and the frame that
begins (R24, R44, R146, R147, R299, R308, R340 to R354, R384, R389, R449). -/

namespace Sys2Proof.Machine

namespace State.KeepsTick

/-! ## Dusk (R273, R353, R354) -/

theorem dropNodes (s : State) (r : Nat) : s.KeepsTick (s.dropNodes r) :=
  trans (t := { s with blvd := _ }) ⟨rfl, id⟩
    (fold (fun s w => s.loseRow r w) (fun _ _ => ⟨rfl, id⟩) _ _)

theorem enterDusk (s : State) (r : Nat) (f : Region → Region) : s.KeepsTick (s.enterDusk r f) := by
  unfold State.enterDusk
  refine trans ?_ (modRegion _ r f)
  exact ite_related (refl s) (dropNodes s r)

theorem leaveDusk (s : State) (r : Nat) (f : Region → Region) : s.KeepsTick (s.leaveDusk r f) := by
  unfold State.leaveDusk
  exact ite_related (modRegion s r f) ⟨rfl, id⟩

theorem endRamps (s : State) (count : Nat) : s.KeepsTick (s.endRamps count) := by
  have left : ∀ (u v : State) (c : Bool) (r : Nat) (f : Region → Region), u.KeepsTick v →
      u.KeepsTick (if c then v.leaveDusk r f else v) :=
    fun u v c r f h => ite_related (h.trans (leaveDusk v r f)) h
  exact fold _ (fun u r => left u _ _ r _ (left u u _ r _ (refl u))) _ s

theorem heatEnter (s : State) (idle phaseBegins : Bool) (r : Nat) : s.KeepsTick (s.heatEnter idle phaseBegins r) := by
  unfold State.heatEnter
  refine ite_related (refl s) (ite_related ?_ (ite_related ?_ (refl s)))
  · refine trans ?_ (addError _ _ _)
    refine trans ?_ (powerEvent _ 4)
    exact (enterDusk s r _).trans ⟨rfl, id⟩
  · refine trans ?_ (powerEvent _ 4)
    exact addError s _ _

theorem heatTick (s : State) : s.KeepsTick s.heatTick := by
  unfold State.heatTick
  dsimp only
  split
  · exact fold _ (fun u r => heatEnter u _ _ r) _ s
  · exact fold _ (fun u r => heatEnter u true false r) _ s

theorem heatWatch (s : State) (r : Nat) : s.KeepsTick (s.heatWatch r) := by
  unfold State.heatWatch
  exact ite_related (refl s) (ite_related (ite_related (modRegion s r _) (refl s)) (ite_related (modRegion s r _) (refl s)))

theorem planDuskRegion (s : State) (r : Nat) : s.KeepsTick (s.planDuskRegion r) := by
  unfold State.planDuskRegion
  dsimp only
  split
  · exact refl s
  · exact ite_related (enterDusk s r _) (ite_related (leaveDusk s r _) (refl s))

theorem rampBack (s : State) : s.KeepsTick s.rampBack := ⟨rfl, id⟩

/-! ## Ports (R299, R300, R302, R314) -/

theorem portDrop (s : State) (p : Nat) (st : PortState) (result : Nat) : s.KeepsTick (s.portDrop p st result) := by
  have freed : ∀ (l : List Nat) (u : State), u.KeepsTick (l.foldl (fun u q => u.modPort q fun y => { y with freed := y.freed + 1 }) u) :=
    fold _ fun u q => setPort u q _
  have waits : ∀ (u : State) (c : MapChange), u.KeepsTick (u.mapChange c) := fun u c => ⟨rfl, fun _ => by simp⟩
  have broken : ∀ (l : List (Nat × Nat)) (u : State), u.KeepsTick (l.foldl (fun u x => u.ringError x.1 x.2 8) u) :=
    foldRings (fun u g r => u.ringError g r 8) fun u g r => of_gateWork (.ringError u g r 8)
  unfold State.portDrop
  extract_lets x wasUp held u1 x1 u2 u3 u4 u5 u6
  have k1 : s.KeepsTick u1 := freed held s
  have k3 : s.KeepsTick u3 := (k1.trans (setPort u1 p _)).trans (waits u2 _)
  have k6 : s.KeepsTick u6 := ((k3.trans (linkStatus u3 2 _)).trans (broken _ u4)).trans (addError u5 _ true)
  exact ite_related k3 (ite_related (k6.trans (floodAbort u6 1)) k6)

theorem commitPort (s : State) (p : Nat) : s.KeepsTick (s.commitPort p) := by
  have set := setPort s p
  unfold State.commitPort
  exact ite_related ((set _).trans (portDrop _ p _ _)) (set _)

theorem emitEofs (s : State) (p : Nat) : s.KeepsTick (s.emitEofs p) := by
  unfold State.emitEofs
  exact ite_related (setPort s p _) (refl s)

/-! ## Night, stops and resets that end (R356, R358, R389) -/

theorem resume (s : State) : s.KeepsTick s.resume := by
  have raised : ∀ (u v : State) (c : Bool), u.KeepsTick v → u.KeepsTick (if c then v.raiseVector vecReady else v) :=
    fun u v c h => ite_related (h.trans (raiseVector v vecReady)) h
  have told : ∀ (u v : State) (c : Bool) (m : SyncMsg), u.KeepsTick v → u.KeepsTick (if c then v.flood m none else v) :=
    fun u v c m h => ite_related (h.trans (flood v m none)) h
  unfold State.resume
  refine trans ?_ (ite_related (told _ _ _ _ (raised _ _ _ ⟨rfl, id⟩)) (refl _))
  refine trans ?_ (ite_related (told _ _ _ _ (raised _ _ _ ⟨rfl, id⟩)) (refl _))
  exact ite_related ⟨rfl, id⟩ (refl s)

/-! ## The stored map (R36) -/

theorem storeMap (s : State) : s.KeepsTick s.storeMap := by
  unfold State.storeMap
  refine ite_related (refl s) ?_
  have put : ∀ (u : State) (b : Bool) (f : CfgRecord → CfgRecord), u.KeepsTick (u.modCfg b f) := fun _ _ _ => ⟨rfl, id⟩
  have stored : s.KeepsTick (s.putStored s.map) := by
    unfold State.putStored
    exact ite_related ((put s _ _).trans (put _ _ _)) (put s _ _)
  exact stored.trans ⟨rfl, id⟩

theorem storeOld (s : State) : s.KeepsTick s.storeOld := by
  unfold State.storeOld
  split
  · exact ite_related (storeMap s) (refl s)
  · exact refl s

/-! ## The run (R146, R147, R288, R331, R345, R389, R449) -/

theorem setPlanState (s : State) (x : PlanState) : s.KeepsTick (s.setPlanState x) := by
  unfold State.setPlanState
  exact ite_related (refl s) (trans (t := { s with plan := { s.plan with state := x } }) ⟨rfl, id⟩ (raiseVector _ vecPlan))

theorem refusePlan (s : State) (code : Nat) : s.KeepsTick (s.refusePlan code) :=
  trans (t := { s with plan := { s.plan with refusal := code } }) ⟨rfl, id⟩ (raiseVector _ vecPlan)

theorem postStep (s : State) (r : List Byte) (ok : Bool) : s.KeepsTick (s.postStep r ok) := by
  have copied : ∀ (u : State) (h : HostRegs), u.KeepsTick { u with hostRegs := h } := fun _ _ => ⟨rfl, id⟩
  unfold State.postStep
  extract_lets h u
  refine trans (copied s _) (ite_related (copied u _) ?_)
  exact trans ((emit u _).trans (copied _ _)) (raiseVector _ vecStep)

theorem recordStep (s : State) (status : Nat) (stop : Bool) : s.KeepsTick (s.recordStep status stop) := postStep s _ _

theorem disarmAll (s : State) : s.KeepsTick s.disarmAll := of_gateWork (.disarmAll s)

theorem endRun (s : State) : s.KeepsTick s.endRun := by
  unfold State.endRun
  refine trans ?_ (setPlanState _ .stopped)
  refine trans ?_ (disarmAll _)
  exact ⟨rfl, id⟩

theorem abortSlice (s : State) (t : Nat) : s.KeepsTick (s.abortSlice t) := by
  unfold State.abortSlice
  exact ⟨rfl, id⟩

theorem abortSlices (s : State) : s.KeepsTick s.abortSlices := fold State.abortSlice abortSlice _ s

theorem forget (s : State) : s.KeepsTick s.forget := ⟨rfl, id⟩

theorem computeWipe (s : State) : s.KeepsTick s.computeWipe := by
  unfold State.computeWipe
  extract_lets u1 u2 u3
  have planned : ∀ (u : State) (p : PlanCtl), u.KeepsTick { u with plan := p } := fun _ _ => ⟨rfl, id⟩
  have k1 : s.KeepsTick u1 := (abortSlices s).trans (disarmAll _)
  have k2 : u1.KeepsTick u2 := ⟨rfl, id⟩
  have k3 : s.KeepsTick u3 := ((k1.trans k2).trans (forget u2)).trans (setPlanState _ .none)
  exact k3.trans (planned u3 _)

theorem applyLength (s : State) : s.KeepsTick s.applyLength := by
  have taken : s.KeepsTick s.takeLength := by
    unfold State.takeLength
    split
    · exact ite_related ⟨rfl, id⟩ (refl s)
    · exact refl s
  exact taken.trans ⟨rfl, id⟩

theorem failStep (s : State) (codes : List Nat) : s.KeepsTick (s.failStep codes) := by
  unfold State.failStep
  have failed : ∀ u : State, u.KeepsTick
      (if u.plan.failNext then ({ u with err := { u.err with stepFailed := true } } : State).noteSet .err 2 else u) :=
    fun u => ite_related ⟨rfl, id⟩ (refl u)
  have told : ∀ (u : State) (c : Bool), u.KeepsTick (if c then u.floodAbort 1 else u) :=
    fun u _ => ite_related (floodAbort u 1) (refl u)
  have wiped : ∀ u : State, u.KeepsTick (if u.dawn.cmpReset then u.computeWipe else u) :=
    fun u => ite_related (computeWipe u) (refl u)
  refine trans ?_ (wiped _)
  refine trans ?_ (unform _)
  refine trans ?_ (told _ _)
  refine trans ?_ (rampBack _)
  refine trans ?_ (endRun _)
  exact (recordStep s _ true).trans (failed _)

theorem closeStep (s : State) : s.KeepsTick s.closeStep := ⟨rfl, id⟩

theorem agree (s : State) : s.KeepsTick s.agree := by
  unfold State.agree
  extract_lets u others
  refine ite_related (refl s) ?_
  refine ite_related ⟨rfl, id⟩ (trans ?_ (addError _ _ false))
  refine trans ?_ (noteSet _ .upd 0)
  exact ⟨rfl, id⟩

theorem openStep (s : State) (first : Bool) : s.KeepsTick (s.openStep first) := by
  unfold State.openStep
  extract_lets u now ok fresh u1 u2
  have k1 : s.KeepsTick u1 := ⟨rfl, id⟩
  have k2 : u1.KeepsTick u2 := ite_related (flood u1 _ none) (refl u1)
  exact (k1.trans k2).trans (agree u2)

theorem modTile (s : State) (t : Nat) (f : Tile → Tile) : s.KeepsTick (s.modTile t f) := ⟨rfl, id⟩

theorem restartTiles (s : State) : s.KeepsTick s.restartTiles := by
  unfold State.restartTiles
  split
  · exact refl s
  · exact trans (fold (fun u (i : Nat × TileImage) => u.modTile i.1 id) (fun u i => modTile u i.1 id) _ s) ⟨rfl, id⟩

theorem beginStep (s : State) (first : Bool) : s.KeepsTick (s.beginStep first) := by
  unfold State.beginStep
  refine trans ?_ (restartTiles _)
  refine trans ?_ (openStep _ first)
  exact ⟨rfl, id⟩

theorem repeatRings (s : State) : s.KeepsTick s.repeatRings := of_gateWork (.repeatRings s)

theorem startRun (s : State) : s.KeepsTick s.startRun.1 := by
  have armed : ∀ (l : List RingTemplate) (u : State), u.KeepsTick (l.foldl (fun u t => u.armRing t.gate t.ring u.frm.count) u) :=
    fold _ fun u t => of_gateWork (.armRing u t.gate t.ring _)
  have fresh : ∀ (u : State) (l : List (Nat × Nat × Nat)), u.KeepsTick { u with group := { u.group with seen := l } } :=
    fun _ _ => ⟨rfl, id⟩
  unfold State.startRun
  split
  · exact ⟨rfl, id⟩
  · extract_lets
    split
    · refine trans ?_ (unform _)
      refine trans ?_ (floodAbort _ 2)
      exact trans ⟨rfl, id⟩ (refusePlan _ 11)
    · refine trans ?_ (beginStep _ true)
      refine trans ?_ (setPlanState _ .running)
      refine trans ?_ (armed _ _)
      refine trans ?_ (fresh _ _)
      refine trans ?_ (repeatRings _)
      exact trans ⟨rfl, id⟩ (applyLength _)

theorem runTick (s : State) (codes : List Nat) : s.KeepsTick (s.runTick codes).1 := by
  have counted : s.KeepsTick { s with plan := { s.plan with frameInStep := s.plan.frameInStep + 1 } } := ⟨rfl, id⟩
  unfold State.runTick
  split
  · split
    · exact (failStep s codes).trans (applyLength _)
    · split
      · extract_lets stop u
        have closed : s.KeepsTick u := (recordStep s 0 stop).trans (closeStep _)
        split
        · have ended : u.KeepsTick u.endRun.rampBack := (endRun u).trans (rampBack _)
          exact (closed.trans ended).trans (applyLength _)
        · exact (closed.trans (repeatRings u)).trans (beginStep _ false)
      · exact counted
  · split
    · exact startRun s
    · exact applyLength s

end State.KeepsTick

end Sys2Proof.Machine
end

section
/-! PROOFS. The frame that begins: what the tick's end leaves alone, and the tick as a whole (R15, R24, R44, R79, R201, R219,
R308, R340 to R344, R350, R384, R415, R436). -/

namespace Sys2Proof.Machine

namespace State.KeepsTick

/-! ## The frame that begins -/

theorem groupTick (s : State) : s.KeepsTick s.groupTick := by
  unfold State.groupTick
  extract_lets g code u
  exact ite_related ⟨rfl, id⟩ (ite_related ⟨rfl, id⟩ ⟨rfl, id⟩)

theorem startSlice (s : State) (r : Nat) (begun : List Nat) : s.KeepsTick (s.startSlice r begun) := by
  unfold State.startSlice
  extract_lets x gapOk
  refine ite_related (refl s) ?_
  split
  · exact refl s
  · exact ⟨rfl, id⟩

theorem startTiles (s : State) : s.KeepsTick s.startTiles := by
  unfold State.startTiles
  extract_lets begun u
  have started : s.KeepsTick u := ⟨rfl, id⟩
  exact ite_related started (started.trans (fold _ (fun v r => startSlice v r begun) _ u))

/-- The misses of an origin wait are noted for the frame that ended, and FRM_COUNT is as before (R219). -/
theorem openOrigin (s : State) (stretched : Bool) : s.KeepsTick (s.openOrigin stretched) := by
  have noted : ∀ (l : List (Nat × Nat)) (u : State), u.KeepsTick (l.foldl (fun u x => u.addMiss 1 x.1 x.2 0) u) :=
    foldRings (fun u g r => u.addMiss 1 g r 0) fun u g r => of_missOnly (.addMiss u 1 g r 0)
  have restored : ∀ (n : Nat) (u : State) (f : Frm), ({ s with frm := { s.frm with count := n } } : State).KeepsTick u →
      f.count = s.frm.count → f.ended = u.frm.ended → f.holdLimit = u.frm.holdLimit → f.holdLimitPend = u.frm.holdLimitPend →
      s.KeepsTick { u with frm := f } := by
    intro n u f h hc he hl hp
    obtain ⟨same, waits⟩ := h
    refine ⟨?_, waits⟩
    simp only [State.tickFields, TickFields.mk.injEq] at same ⊢
    simp only [hc, he, hl, hp, same, and_self]
  unfold State.openOrigin
  extract_lets hs n f u v f'
  exact ite_related (refl s) (restored (n - 1) v _ (noted hs u) rfl rfl rfl rfl)

theorem thermalUpdate (s : State) : s.KeepsTick s.thermalUpdate := by
  have limited : ∀ p : Pwr, p.cap = s.pwr.cap → p.capPend = s.pwr.capPend → s.KeepsTick { s with pwr := p } := by
    intro p hc hp
    refine ⟨?_, id⟩
    simp only [State.tickFields, hc, hp]
  unfold State.thermalUpdate
  extract_lets tj hot since was p p'
  have capped : p'.cap = s.pwr.cap ∧ p'.capPend = s.pwr.capPend := by
    unfold p'
    split_ifs <;> exact ⟨rfl, rfl⟩
  exact limited p' capped.1 capped.2

theorem formRequest (s : State) : s.KeepsTick s.formRequest := by
  unfold State.formRequest
  extract_lets keep q was u clk pwr v p w
  have fixed : u.KeepsTick v := ite_related (refl u) ⟨rfl, id⟩
  have limited : v.KeepsTick w := ite_related (powerEvent v 5) (refl v)
  have formed : s.KeepsTick w := (trans ⟨rfl, id⟩ fixed).trans limited
  exact ite_related formed (formed.trans (powerEvent w 7))

theorem moveRails (s : State) : s.KeepsTick s.moveRails := by
  have moved : ∀ m : Map Region, s.KeepsTick { s with regions := m } := fun _ => ⟨rfl, id⟩
  unfold State.moveRails
  exact moved _

theorem countTemp (s : State) : s.KeepsTick s.countTemp := by
  unfold State.countTemp
  extract_lets t i l
  exact ite_related ⟨rfl, id⟩ ⟨rfl, id⟩

theorem showWindows (s : State) : s.KeepsTick s.showWindows := ⟨rfl, id⟩

theorem noteBarriers (s : State) : s.KeepsTick s.noteBarriers :=
  fold (fun u d => if (Map.find? u.barriers d).isNone && u.barrierFull d
    then { u with barriers := Map.set u.barriers d u.clk.now } else u) (fun u _ => ite_related ⟨rfl, id⟩ (refl u)) _ s

end State.KeepsTick

/-! ## What the tick counts and commits -/

/-- The flags of the frame that ended reach GLB_NUM_STATUS (R79). -/
def TickFields.withFlags (x : TickFields) (flags : Status) : TickFields := { x with num := x.num ||| flags }

/-- The shadowed fields take what an earlier cycle wrote (R15, R436). -/
def TickFields.committed (x : TickFields) : TickFields :=
  { x with
    holdLimit := x.holdLimitPend.due x.now x.holdLimit
    holdLimitPend := x.holdLimitPend.left x.now
    cap := x.capPend.due x.now x.cap
    capPend := x.capPend.left x.now }

/-- The frame count rises and the cycle is 0 (R24). -/
def TickFields.counted (x : TickFields) : TickFields := { x with cycle := 0, count := wrap64 (x.count + 1) }

/-- A tick's operation does this to what it counts and commits, and a live-map change that waits still does. -/
def State.TickStep (f : TickFields → TickFields) (s t : State) : Prop :=
  t.tickFields = f s.tickFields ∧ (s.mapNext ≠ [] → t.mapNext ≠ [])

theorem State.KeepsTick.step {s t : State} (h : s.KeepsTick t) : State.TickStep id s t := h

theorem State.TickStep.trans {f g : TickFields → TickFields} {s t u : State} (h : State.TickStep f s t)
    (k : State.TickStep g t u) : State.TickStep (g ∘ f) s u :=
  ⟨k.1.trans (congrArg g h.1), k.2 ∘ h.2⟩

theorem State.closeFrame_step (s : State) : State.TickStep (·.withFlags s.numNow) s s.closeFrame := by
  have noted : ∀ l : List Nat, s.KeepsFlags (l.foldl (fun u b => u.noteSet .num b) s) :=
    fun l => foldl_related State.KeepsFlags .refl .trans _ (fun u b => ⟨.noteSet u .num b, rfl⟩) l s
  have closed : ∀ (u : State) (x : Frm) (p : PlanCtl), s.KeepsFlags u → x.count = s.frm.count → x.ended = s.frm.ended →
      x.holdLimit = s.frm.holdLimit → x.holdLimitPend = s.frm.holdLimitPend →
      State.TickStep (·.withFlags s.numNow) s { u with frm := x, num := u.num ||| u.numNow, numNow := 0, plan := p } := by
    intro u x p h hc he hl hp
    obtain ⟨⟨same, waits⟩, flags⟩ := h
    refine ⟨?_, waits⟩
    simp only [State.tickFields, TickFields.withFlags, TickFields.mk.injEq] at same ⊢
    simp only [hc, he, hl, hp, flags, same, and_self]
  unfold State.closeFrame
  extract_lets stretch was frm u
  refine closed u frm _ (noted _) ?_ ?_ ?_ ?_
  all_goals
    unfold frm
    split <;> rfl

theorem State.commitFields_step (s : State) : State.TickStep TickFields.committed s s.commitFields := by
  have ports : ∀ (l : List Nat) (u : State), u.KeepsTick (l.foldl State.commitPort u) := .fold _ .commitPort
  unfold State.commitFields
  extract_lets g frm pwr u
  have taken : State.TickStep TickFields.committed s u := ⟨rfl, id⟩
  exact taken.trans (ports _ u).step

theorem State.applyClock_step (s : State) : State.TickStep (fun x => { x with cycle := 0 }) s s.applyClock := ⟨rfl, id⟩

/-! ## The live map (R44) -/

theorem FloorMap.gen_apply (m : FloorMap) (c : MapChange) : (m.apply c).gen = m.gen := by
  cases c with
  | tile t b => exact ite_related (R := fun a b : FloorMap => b.gen = a.gen) rfl rfl
  | segment | flag | link | generation | rebuild | relight => rfl

theorem FloorMap.gen_foldl_apply (l : List MapChange) (m : FloorMap) : (l.foldl FloorMap.apply m).gen = m.gen :=
  foldl_related (fun a b : FloorMap => b.gen = a.gen) (fun _ => rfl) (fun h k => k.trans h) _ FloorMap.gen_apply l m

/-- A tick's operation does this to what it counts and commits apart from the generation, which rises by one where a change
waits after BIST_DONE. -/
def State.MapStep (f : TickFields → TickFields) (s t : State) : Prop :=
  t.tickFields = { f s.tickFields with gen := t.map.gen } ∧
  (s.mapNext ≠ [] → s.dawn.bistDone = true → t.map.gen = wrap32 (s.map.gen + 1))

theorem State.MapStep.keeps {f : TickFields → TickFields} {s t u : State} (h : State.MapStep f s t) (k : t.KeepsTick u) :
    State.MapStep f s u := by
  have gen : u.map.gen = t.map.gen := congrArg TickFields.gen k.1
  unfold State.MapStep
  rw [k.1, gen]
  exact h

/-- The generation rises in the map's own operation only. -/
theorem State.TickStep.thenMap {f g : TickFields → TickFields} {s t u : State} (h : State.TickStep f s t)
    (day : (f s.tickFields).bistDone = s.dawn.bistDone) (gen : (f s.tickFields).gen = s.map.gen) (k : State.MapStep g t u) :
    State.MapStep (g ∘ f) s u := by
  obtain ⟨same, waits⟩ := h
  obtain ⟨mapped, rises⟩ := k
  have day' : t.dawn.bistDone = s.dawn.bistDone := (congrArg TickFields.bistDone same).trans day
  have gen' : t.map.gen = s.map.gen := (congrArg TickFields.gen same).trans gen
  rw [same] at mapped
  rw [day', gen'] at rises
  exact ⟨mapped, fun hw => rises (waits hw)⟩

theorem State.mergeMap_step (s : State) : State.MapStep id s s.mergeMap := by
  unfold State.mergeMap
  split
  · next idle => exact ⟨rfl, fun waits => absurd (List.isEmpty_iff.mp idle) waits⟩
  · split
    · next early => exact ⟨rfl, fun _ day => by simp [day] at early⟩
    · refine ⟨rfl, fun _ _ => ?_⟩
      change wrap32 ((s.mapNext.foldl FloorMap.apply s.map).gen + 1) = _
      rw [FloorMap.gen_foldl_apply]

theorem State.mapTick_step (s : State) : State.MapStep id s s.mapTick := by
  have applied : State.MapStep id s s.applyMap := by
    unfold State.applyMap
    exact ite_related (R := State.MapStep id) (s.mergeMap_step.keeps (.raiseVector _ vecMap)) s.mergeMap_step
  unfold State.mapTick
  extract_lets l day old u c
  exact ite_related (R := State.MapStep id) applied (applied.keeps (.logRecord u 11 _))

/-! ## The tick (R24) -/

/-- A frame that has not ended. -/
def TickFields.begun (x : TickFields) : TickFields := { x with ended := false }

theorem State.MapStep.begins {f : TickFields → TickFields} {s t u : State} (h : State.MapStep f s t)
    (k : State.TickStep TickFields.begun t u) : State.MapStep (TickFields.begun ∘ f) s u := by
  obtain ⟨mapped, rises⟩ := h
  have gen : u.map.gen = t.map.gen := congrArg TickFields.gen k.1
  refine ⟨?_, fun hw hd => gen.trans (rises hw hd)⟩
  rw [k.1, mapped, gen]
  rfl

theorem State.Synced.tickEnd {s : State} (hs : s.Synced) (tel : Telemetry) :
    State.TickStep (·.withFlags s.numNow) s (s.tickEnd tel) := by
  have measured := (State.PowerWork.measureFrame s tel s.pwr.tickWall).trans (.watchStage _)
  have heated := measured.keepsFlags.trans (((State.SameEngines.of_powerWork measured).synced hs).stackTemps tel.stackTemps)
  unfold State.tickEnd
  extract_lets u v w
  have closed : State.TickStep (·.withFlags s.numNow) s v := by
    have h := heated.1.step.trans (State.closeFrame_step _)
    rw [heated.2] at h
    exact h
  have ramped : v.KeepsTick w := (State.KeepsTick.endRamps v _).trans (.heatTick _)
  exact closed.trans (ramped.trans (.of_gateWork (.linkedFaults w))).step

theorem State.tickTurn_step (s : State) : State.MapStep (fun x => x.committed.counted) s s.tickTurn.1 := by
  have ringsEnd : ∀ (l : List (Nat × Nat)) (u : State), u.KeepsTick (l.foldl (fun u x => u.ringFrameEnd x.1 x.2) u) :=
    .foldRings State.ringFrameEnd fun u g r => .of_gateWork (.ringFrameEnd u g r)
  have counts : ∀ u : State, State.TickStep (fun x => { x with count := wrap64 (x.count + 1) }) u
      { u with frm := { u.frm with count := wrap64 (u.frm.count + 1) } } := fun _ => ⟨rfl, id⟩
  have checked : ∀ (u : State) (l : List (Nat × Nat)), u.KeepsTick (u.checkArmings l) := fun u l => .of_gateWork (.checkArmings u l)
  unfold State.tickTurn
  extract_lets codes s1 s2 frm s3 s4 c s5 y armed
  have committed : State.TickStep TickFields.committed s s1 := (State.KeepsTick.placeErrors s).step.trans (State.commitFields_step _)
  have clocked := (State.KeepsTick.resume s1).step.trans (State.applyClock_step _)
  have rings : s3.KeepsTick c.1.storeOld := ((ringsEnd _ s3).trans (.of_gateWork (.commitRings s4))).trans (.storeOld _)
  have turned : State.TickStep (fun x => x.committed.counted) s c.1.storeOld :=
    ((committed.trans clocked).trans (counts s2)).trans rings.step
  have ran : s5.KeepsTick y.1 := .runTick s5 codes
  have mapped : State.MapStep (fun x => x.committed.counted) s s5 := turned.thenMap rfl rfl (State.mapTick_step _)
  dsimp only
  exact mapped.keeps (ran.trans (checked y.1 armed))

theorem State.tickBegin_step (s : State) (stretched : Bool) : State.TickStep TickFields.begun s (s.tickBegin stretched) := by
  have planned : ∀ u : State, u.KeepsTick
      (if u.runActive then (List.range nRegions).foldl State.planDuskRegion u else u) :=
    fun u => ite_related (.fold _ .planDuskRegion _ u) (.refl u)
  have watched : ∀ u : State, u.KeepsTick ((List.range nRegions).foldl State.heatWatch u) := .fold _ .heatWatch _
  have ringsStart : ∀ (l : List (Nat × Nat)) (u : State), u.KeepsTick (l.foldl (fun u x => u.ringFrameStart x.1 x.2) u) :=
    .foldRings State.ringFrameStart fun u g r => .of_gateWork (.ringFrameStart u g r)
  have handed : ∀ u : State, u.KeepsTick (if u.frm.originWait then u else u.markAllGo.handBlocks) :=
    fun u => ite_related (.refl u) ((State.KeepsTick.of_gateWork (.markAllGo u)).trans (.of_gateWork (.handBlocks _)))
  have emitted : ∀ u : State, u.KeepsTick ((List.range 16).foldl State.emitEofs u) := .fold _ .emitEofs _
  have counted : ∀ (u : State) (m : Map Region), u.KeepsTick { u with regions := m } := fun _ _ => ⟨rfl, id⟩
  unfold State.tickBegin
  extract_lets frm pwr s1 s2 s3 s4 s5 s6 s7 s8 s9
  have opened : State.TickStep TickFields.begun s s1 := ⟨rfl, id⟩
  have started : s1.KeepsTick s3 := (State.KeepsTick.groupTick s1).trans (.startTiles s2)
  have regions : s3.KeepsTick s6 := ((planned s3).trans (watched s4)).trans (counted s5 _)
  have rings : s6.KeepsTick s7 := (ringsStart _ s6).trans (.openOrigin _ stretched)
  have blocks : s7.KeepsTick s9 := (handed s7).trans (emitted _)
  have measured := (((State.KeepsTick.thermalUpdate s9).trans (.formRequest _)).trans (.moveRails _)).trans (.countTemp _)
  have shown := measured.trans (.showWindows _)
  exact opened.trans ((((started.trans regions).trans rings).trans blocks).trans shown).step

/-- The tick takes the flags of the frame that ended, commits the shadowed fields, counts the frame, brings the waiting map
changes into force and begins the next frame. -/
theorem State.Synced.tick {s : State} (hs : s.Synced) (tel : Telemetry) :
    State.MapStep (fun x => (x.withFlags s.numNow).committed.counted.begun) s (s.tick tel) := by
  have ended := hs.tickEnd tel
  have turned := (s.tickEnd tel).tickTurn_step
  have begun := (s.tickEnd tel).tickTurn.1.tickBegin_step (decide (s.dueCycle < s.clk.cycle))
  exact ((ended.thenMap rfl rfl turned).begins begun).keeps (.noteBarriers _)

/-- What a tick counts and commits, field by field. -/
theorem State.ticked_fields {s t : State} {flags : Status} {g : Nat}
    (h : t.tickFields = { (s.tickFields.withFlags flags).committed.counted.begun with gen := g }) :
    t.frm.count = wrap64 (s.frm.count + 1) ∧ t.clk.cycle = 0 ∧ t.frm.ended = false ∧ t.num = s.num ||| flags ∧
    t.pwr.cap = s.pwr.capPend.due s.clk.now s.pwr.cap ∧ t.pwr.capPend = s.pwr.capPend.left s.clk.now ∧
    t.frm.holdLimit = s.frm.holdLimitPend.due s.clk.now s.frm.holdLimit :=
  ⟨congrArg TickFields.count h, congrArg TickFields.cycle h, congrArg TickFields.ended h, congrArg TickFields.num h,
    congrArg TickFields.cap h, congrArg TickFields.capPend h, congrArg TickFields.holdLimit h⟩

/-- Where the tick is due with no hold source, its next state is the outcome. -/
theorem execFrameTick_due {tel : Telemetry} {s b : State}
    (hb : b = if s.syncTiles.frm.ended then s.syncTiles else s.syncTiles.discardFlights)
    (ready : s.syncTiles.tickReady = true) (free : s.syncTiles.holdMask = 0) (alive : s.syncTiles.startsDead (b.tick tel) = false)
    (apart : (b.tick tel).areasOverlap = false) : exec (.frameTick tel) s = .next (b.tick tel) := by
  change execFrameTick tel s = _
  simp only [execFrameTick, ready, free, State.tickOutcome, ← hb, alive, apart]
  rfl

/-- Settles O17: each part of the tick has one lemma that says what it does to the counted and committed fields, and the whole
tick is their composition. -/
theorem tickAdvancesTheFrame : Obligations.TickAdvancesTheFrame := by
  unfold Obligations.TickAdvancesTheFrame
  refine ⟨?_, ?_⟩
  · intro tel s z b hz hb ready free alive apart
    subst hz
    have synced : s.KeepsTick s.syncTiles := .of_tilesOnly (.syncTiles s)
    have discarded : s.syncTiles.KeepsTick b := by
      rw [hb]
      exact ite_related (.refl _) (.discardFlights _)
    have engines : s.syncTiles.SameEngines b := by
      rw [hb]
      exact ite_related (.refl _) (.discardFlights _)
    obtain ⟨same, waits⟩ := synced.trans discarded
    obtain ⟨ticked, gen⟩ := (engines.synced s.synced_syncTiles).tick tel
    have num : s.syncTiles.num = s.num := congrArg TickFields.num synced.1
    have day : b.dawn.bistDone = s.dawn.bistDone := congrArg TickFields.bistDone same
    have old : b.map.gen = s.map.gen := congrArg TickFields.gen same
    rw [same, engines.flags] at ticked
    rw [day, old] at gen
    obtain ⟨count, cycle, ended, flags, cap, capPend, limit⟩ := State.ticked_fields ticked
    rw [← num] at flags
    exact ⟨b.tick tel, execFrameTick_due hb ready free alive apart, count, cycle, ended, flags, cap, capPend, limit,
      fun hw => gen (waits hw)⟩
  · intro tel s held
    change execFrameTick tel s = _
    unfold execFrameTick
    refine if_neg ?_
    rcases held with held | held <;> simp [held]

end Sys2Proof.Machine
end

section
/-! PROOFS. The module before power good (R23, R119, R428, R435). -/

namespace Sys2Proof.Machine

/-- Every element of a vector that is filled with the default reads as the default, in range or not. -/
@[simp] theorem vget_replicate {α : Type} (n i : Nat) (d : α) : vget (Vector.replicate n d) i d = d := by
  simp [vget]

@[simp] theorem State.getTile_reset (t : Nat) : State.reset.getTile t = Tile.reset := rfl

/-! ## The registers of a tile at reset (R119) -/

@[simp] theorem Tile.vGet_reset (r : Nat) : Tile.reset.vGet r = Lanes.zero := vget_replicate 32 r Lanes.zero

@[simp] theorem Tile.kGet_reset (i : Nat) : Tile.reset.kGet i = BitVec.allOnes 64 :=
  (ite_eq_left_iff.mpr fun _ => vget_replicate 8 i _)

@[simp] theorem Tile.sGet_reset (i : Nat) : Tile.reset.sGet i = 0 := 
  (ite_eq_left_iff.mpr fun _ => vget_replicate 32 i _)

@[simp] theorem Tile.chanGet_reset (c : Nat) : Tile.reset.chanGet c = Channel.reset := vget_replicate 16 c Channel.reset

@[simp] theorem laneAt_zero (l : Nat) : laneAt Lanes.zero l = 0x7000 := vget_replicate 64 l codeZero

/-! ## The ports at reset -/

@[simp] theorem State.port_reset (p : Nat) : State.reset.port p = Port.reset := vget_replicate 16 p Port.reset

@[simp] theorem State.hostPort_reset (p : Nat) : State.reset.hostPort p = HostPort.reset := vget_replicate 2 p HostPort.reset

/-- Settles O5: ports and tiles go by what a vector filled with its default reads as, the rest is the definition of reset. -/
theorem resetStateIsUnpowered : Obligations.ResetStateIsUnpowered := by
  unfold Obligations.ResetStateIsUnpowered
  refine ⟨rfl, rfl, rfl, rfl, rfl, rfl, rfl, rfl, rfl, rfl, ?links, ?host, ?lanes, ?masks, ?scalars, ?channels, ?halted, ?memories⟩
  case links => exact fun p _ => by simp [Port.reset]
  case host => exact fun p _ => by simp [HostPort.reset, HostPort.canRequest]
  case lanes => exact fun t r l _ _ => by simp
  case masks => exact fun t k => by simp
  case scalars => exact fun t i => by simp
  case channels => exact fun t c => by simp [Channel.reset]
  case halted => exact fun t => ⟨rfl, rfl⟩
  case memories => exact ⟨Memory.wf_nil, fun x h => absurd h List.not_mem_nil⟩

end Sys2Proof.Machine
end

section
/-! PROOFS. The host's aperture on the stacks: which bytes a write with byte enables stores, and what reads return
(R32, R251, R257, R325, R453). -/

namespace Sys2Proof.Machine

/-! ## Stores with byte enables -/

/-- An address that a list of stores names with one byte only reads as that byte. -/
theorem Memory.read_writeList_of_mem (m : Memory) (l : List (Nat × Byte)) (h : m.wf = true) {a : Nat} {b : Byte}
    (mem : (a, b) ∈ l) (one : ∀ c, (a, c) ∈ l → c = b) : (m.writeList l).read a = b := by
  induction l generalizing m with
  | nil => exact absurd mem List.not_mem_nil
  | cons p rest ih =>
    have wf := Memory.wf_write m p.1 p.2 h
    by_cases again : ∃ c, (a, c) ∈ rest
    · obtain ⟨c, hc⟩ := again
      obtain rfl := one c (List.mem_cons_of_mem p hc)
      exact ih _ wf hc fun d hd => one d (List.mem_cons_of_mem p hd)
    · obtain rfl : (a, b) = p := (List.mem_cons.mp mem).resolve_right fun hb => again ⟨b, hb⟩
      exact Memory.read_writeList_append m [] rest a b h fun q hq e => again ⟨q.2, e ▸ hq⟩

/-- Byte enables select the bytes of a request at their offsets. -/
theorem mem_enabled {a x : Nat} {b : Byte} {data : List (Option Byte)} :
    (x, b) ∈ enabled a data ↔ ∃ i, data[i]? = some (some b) ∧ x = a + i := by
  have pair : ∀ i o, (i, o) ∈ (List.range data.length).zip data ↔ data[i]? = some o := by
    intro i o
    simp only [List.mem_iff_getElem?, List.getElem?_zip_eq_some]
    refine ⟨fun ⟨k, hk, ho⟩ => ?_, fun h => ⟨i, List.getElem?_range (List.getElem?_eq_some_iff.mp h).1, h⟩⟩
    obtain ⟨_, rfl⟩ := List.getElem?_eq_some_iff.mp hk
    rwa [List.getElem_range]
  simp only [enabled, List.mem_filterMap, Prod.exists, pair, Option.map_eq_some_iff, Prod.mk.injEq]
  constructor
  · rintro ⟨i, o, hi, c, rfl, rfl, rfl⟩
    exact ⟨i, hi, rfl⟩
  · rintro ⟨i, hi, rfl⟩
    exact ⟨i, some b, hi, b, rfl, rfl, rfl⟩

theorem State.read_apertureStore_enabled {s : State} (h : s.stack.wf = true) (a : Nat) {data : List (Option Byte)} {i : Nat} {b : Byte}
    (hi : data[i]? = some (some b)) : (s.apertureStore a data).stack.read (a + i) = b := by
  refine Memory.read_writeList_of_mem _ _ h (mem_enabled.mpr ⟨i, hi, rfl⟩) fun c hc => ?_
  obtain ⟨j, hj, e⟩ := mem_enabled.mp hc
  obtain rfl : i = j := Nat.add_left_cancel e
  exact Option.some.inj (Option.some.inj (hj.symm.trans hi))

theorem State.read_apertureStore_other {s : State} (h : s.stack.wf = true) (a : Nat) {data : List (Option Byte)} {x : Nat}
    (hx : ∀ i b, data[i]? = some (some b) → x ≠ a + i) : (s.apertureStore a data).stack.read x = s.stack.read x := by
  refine Memory.read_writeList_of_notMem _ _ h x fun p hp e => ?_
  obtain ⟨i, hi, hp⟩ := mem_enabled.mp (show (p.1, p.2) ∈ _ from hp)
  exact hx i p.2 hi (e.symm.trans hp)

/-! ## The state of the stack behind an access (R251, R263, R264) -/

/-- Only a stack whose own state says so is READY: the phases of its power-up are others (R263). -/
theorem State.stackNow_ready {s : State} {g : Nat} (h : s.stackNow g = .ready) :
    (s.gate g).stackState = .ready ∧ s.stackPhase g = .ready := by
  have phase : s.stackPhase g = .ready := by
    unfold State.stackNow at h
    dsimp only at h
    split at h
    · exact absurd h (by decide)
    · exact h
  refine ⟨?_, phase⟩
  unfold State.stackPhase at phase
  dsimp only at phase
  split at phase
  · exact phase
  · repeat' split at phase
    all_goals exact absurd phase (by decide)

theorem State.aperture_ready {s : State} {a : Nat} (hp : populated a = true) (h : s.stackNow (ownerGate a) = .ready) :
    s.apertureVoid a = false ∧ s.apertureBlank a = false := by
  obtain ⟨state, phase⟩ := State.stackNow_ready h
  constructor
  · simp [State.apertureVoid, hp, state]
  · simp [State.apertureBlank, phase]

theorem State.apertureVoid_unpopulated {s : State} {a : Nat} (hp : populated a = false) : s.apertureVoid a = true := by
  simp [State.apertureVoid, hp]

/-! ## Requests through an open port (R321, R325) -/

theorem PortOpen.apertureRead {s : State} {port : Nat} (h : PortOpen s port) (off len : Nat) (e : EccReport) :
    exec (.apertureRead port off len e) s = .next (s.apertureRead port off len e) := by
  refine (h.hostAccess _).trans ?_
  simp [State.applyAccess, h.awake, h.memory]

theorem PortOpen.apertureWrite {s : State} {port : Nat} (h : PortOpen s port) (off : Nat) (data : List (Option Byte)) (poisoned : Bool) :
    exec (.apertureWrite port off data poisoned) s = s.apertureWrite port off data poisoned := by
  refine (h.hostAccess _).trans ?_
  simp [State.applyAccess, h.awake, h.memory]

/-! ## Reads (R251, R257, R325) -/

/-- A report that names no burst leaves its count of on-die corrections at the gate, and nothing else. -/
theorem State.loadReport_clean (s : State) (a n : Nat) {e : EccReport} (hard : e.hard = []) (corrected : e.corrected = []) (fails : Bool) :
    s.loadReport a n [] e fails = (s.modGate (ownerGate a) fun x => { x with eccOdc := satAdd x.eccOdc e.onDie }, []) := by
  simp only [State.loadReport, hard, corrected]
  rfl

/-- A read that meets no uncorrectable burst and whose report names none returns the bytes of the stacks; the on-die count of the
stack's gate is all that changes. -/
theorem State.apertureLoad_clean {s : State} {port a len : Nat} {e : EccReport} (known : s.badBursts a len = []) (hard : e.hard = [])
    (corrected : e.corrected = []) :
    s.apertureLoad port a len e =
      (s.modGate (ownerGate a) fun x => { x with eccOdc := satAdd x.eccOdc e.onDie }).emit (.apertureData port (s.stack.bytes a len)) := by
  simp only [State.apertureLoad, State.stackLoad, known, State.loadReport_clean s a len hard corrected]
  rfl

theorem State.apertureRead_ready {s : State} {port off len : Nat} (hr : s.ctl.recovery = false) (fits : apertureFits off len = true)
    (hp : populated (s.apertureAddr port off) = true) (ready : s.stackNow (ownerGate (s.apertureAddr port off)) = .ready) (e : EccReport) :
    s.apertureRead port off len e = s.apertureLoad port (s.apertureAddr port off) len e := by
  obtain ⟨void, blank⟩ := State.aperture_ready hp ready
  simp [State.apertureRead, hr, fits, void, blank, ready]

theorem State.apertureRead_unpopulated {s : State} {port off len : Nat} (hr : s.ctl.recovery = false) (fits : apertureFits off len = true)
    (hp : populated (s.apertureAddr port off) = false) (e : EccReport) :
    s.apertureRead port off len e =
      (s.countAddr (s.apertureAddr port off)).emit (.apertureData port (List.replicate len 0)) := by
  simp [State.apertureRead, hr, fits, State.apertureVoid_unpopulated hp]

/-! ## Writes (R32, R325, R453) -/

theorem State.apertureWrite_poisoned {s : State} {port off : Nat} {data : List (Option Byte)} (fits : apertureFits off data.length = true) :
    s.apertureWrite port off data true = .next (s.emit (.poisoned port)) := by
  simp [State.apertureWrite, fits]

theorem State.apertureWrite_run {s : State} {port off : Nat} {data : List (Option Byte)} (hr : s.ctl.recovery = false)
    (fits : apertureFits off data.length = true) (run : s.runActive = true) :
    s.apertureWrite port off data false = .fault (.undefined .apertureWrite) := by
  simp [State.apertureWrite, fits, hr, run]

theorem State.apertureWrite_ready {s : State} {port off : Nat} {data : List (Option Byte)} (hr : s.ctl.recovery = false)
    (fits : apertureFits off data.length = true) (run : s.runActive = false) (hp : populated (s.apertureAddr port off) = true)
    (ready : s.stackNow (ownerGate (s.apertureAddr port off)) = .ready) :
    s.apertureWrite port off data false = .next (s.apertureStore (s.apertureAddr port off) data) := by
  obtain ⟨void, blank⟩ := State.aperture_ready hp ready
  simp [State.apertureWrite, hr, fits, run, void, blank, ready]

/-- Settles O54: an open port's request acts at once, and each of its forms is one branch of the aperture's read or write. -/
theorem apertureReadsAndWritesTheStack : Obligations.ApertureReadsAndWritesTheStack := by
  unfold Obligations.ApertureReadsAndWritesTheStack
  refine ⟨?reads, ?writes⟩
  case reads =>
    rintro s port off len _ e open_ hr fits rfl
    refine ⟨fun hp ready known hard corrected => ?_, fun hp => ?_⟩
    · have read := (State.apertureRead_ready hr fits hp ready e).trans (State.apertureLoad_clean known hard corrected)
      exact ⟨_, (open_.apertureRead off len e).trans (congrArg _ read), rfl, rfl, fun k hk => State.gate_setGate_ne s _ _ k hk⟩
    · have read := State.apertureRead_unpopulated hr fits hp e
      exact ⟨_, (open_.apertureRead off len e).trans (congrArg _ read), rfl,
        congrArg Gate.addrErr (State.gate_setGate s _ _), rfl⟩
  case writes =>
    rintro s port off _ data open_ hr fits rfl
    refine ⟨?_, fun run => ?_, fun run hp ready wf => ?_⟩
    · exact (open_.apertureWrite off data true).trans (State.apertureWrite_poisoned fits)
    · exact (open_.apertureWrite off data false).trans (State.apertureWrite_run hr fits run)
    · exact ⟨_, (open_.apertureWrite off data false).trans (State.apertureWrite_ready hr fits run hp ready), rfl,
        fun i b hi => State.read_apertureStore_enabled wf _ hi, fun x hx => State.read_apertureStore_other wf _ hx⟩

end Sys2Proof.Machine
end

section
/-! PROOFS. A core cycle of the idle module (R8, R22, R23, R182, R201 to R203, R219, R297). -/

namespace Sys2Proof.Machine

/-! ## Lines that no entry takes (R182) -/

/-- With the spines running, no line is left that has reached a crossing which does not run. -/
theorem State.notMem_mesh_dropStrays {s : State} (run : s.clk.running = true) {f : Flight} (due : f.due ≤ s.clk.now)
    (stays : s.crossingRuns f.tile = false) : f ∉ s.dropStrays.mesh := by
  have counted : ∀ (l : List Flight) (u : State), (l.foldl (fun u f => if u.thoroughfareLost (regionOf f.tile) then u
      else u.addChanDrop (regionOf f.tile) 1) u).mesh = u.mesh := fun l u =>
    foldl_related (fun a b : State => b.mesh = a.mesh) (fun _ => rfl) (fun h k => k.trans h) _
      (fun a f => ite_related (R := fun a b : State => b.mesh = a.mesh) rfl (by rw [State.addChanDrop_frame])) l u
  have core : s.coreRuns = true := run
  unfold State.dropStrays
  dsimp only
  rw [core, if_neg (by decide), counted]
  simp [due, stays]

/-! ## Misses and holds (R201 to R203) -/

theorem State.MissOnly.bumpMisses (s : State) : s.MissOnly s.bumpMisses := rfl

/-- What the tick due at this cycle records of misses leaves the hold sources as they are. -/
theorem State.MissOnly.holdMask {s t : State} (h : s.MissOnly t) : t.holdMask = s.holdMask := by
  unfold State.MissOnly at h
  rw [h]
  rfl

/-! ## The forms of a cycle (R201 to R203, R219) -/

/-- The clock after a cycle, the cycle of the frame apart (R8, R22). -/
def State.elapsed (s : State) : Clock := { s.clk with now := s.clk.now + 1, wall := s.clk.wall + cycleWall s.cycleCode }

/-- A cycle of the wait of an origin frame, its clock apart: a stretch cycle more (R219). -/
def State.cycleInWait (s : State) : State :=
  { s.bumpMisses with
    frm := { s.bumpMisses.frm with stretchCycles := wrap64 (s.frm.stretchCycles + 1) }
    plan := if s.runActive then { s.plan with stepStretch := wrap64 (s.plan.stepStretch + 1) } else s.plan }

/-- The misses that a cycle past the due cycle records: those of the links at the first such cycle, and one more cycle of every
miss that lasts (R202). -/
def State.noteMisses (s : State) : State := (if s.frm.dueAt.isNone then s.logLinkMisses else s).bumpMisses

theorem State.MissOnly.noteMisses (s : State) : s.MissOnly s.noteMisses :=
  State.MissOnly.trans (ite_related (R := State.MissOnly) (.logLinkMisses s) (.refl s)) (.bumpMisses _)

/-- A cycle past the due cycle, its clock apart: misses, hold sources, and when the tick fell due (R201 to R203). -/
def State.cyclePastDue (s : State) : State :=
  { s.noteMisses with frm := { s.noteMisses.frm with
      heldMask := s.noteMisses.frm.heldMask ||| s.noteMisses.holdMask
      dueAt := match s.noteMisses.frm.dueAt with
        | some w => some w
        | none => some s.noteMisses.clk.wall } }

/-- A cycle, its clock apart: it is one of the wait of an origin frame, one past the due cycle, or one before it. -/
def State.cycleBody (s : State) : State :=
  if s.frm.originWait then s.cycleInWait else if s.tickDue then s.syncTiles.cyclePastDue else s

/-! ## What each form changes -/

/-- Nothing changes but what engines and misses change, and what a cycle notes in the frame and the step. -/
def State.CycleWork (s t : State) : Prop :=
  t = { s with
    frm := { s.frm with
      missLog := t.frm.missLog
      missHead := t.frm.missHead
      missCount := t.frm.missCount
      miss := t.frm.miss
      strictStop := t.frm.strictStop
      openMiss := t.frm.openMiss
      stretchCycles := t.frm.stretchCycles
      heldMask := t.frm.heldMask
      dueAt := t.frm.dueAt }
    plan := t.plan
    err := { s.err with frame := t.err.frame }
    setAt := t.setAt
    numNow := t.numNow
    tiles := t.tiles
    regions := t.regions
    host := t.host
    out := t.out }

namespace State.CycleWork

theorem trans {s t u : State} (h : s.CycleWork t) (k : t.CycleWork u) : s.CycleWork u := by
  unfold State.CycleWork at *
  rw [k, h]

theorem of_missOnly {s t : State} (h : s.MissOnly t) : s.CycleWork t := by
  unfold State.MissOnly at h
  unfold State.CycleWork
  rw [h]

theorem of_tilesOnly {s t : State} (h : s.TilesOnly t) : s.CycleWork t := by
  unfold State.TilesOnly at h
  unfold State.CycleWork
  rw [h]

theorem cycleInWait (s : State) : s.CycleWork s.cycleInWait := rfl

theorem cyclePastDue (s : State) : s.CycleWork s.cyclePastDue :=
  (of_missOnly (.noteMisses s)).trans rfl

theorem cycleBody (s : State) : s.CycleWork s.cycleBody := by
  unfold State.cycleBody
  exact ite_related rfl (ite_related ((of_tilesOnly (.syncTiles s)).trans (cyclePastDue _)) rfl)

end State.CycleWork

theorem State.cyclePastDue_spec (s : State) :
    s.cyclePastDue.tiles = s.tiles ∧ s.cyclePastDue.frm.heldMask = s.frm.heldMask ||| s.holdMask ∧
      s.cyclePastDue.frm.dueAt = some (s.frm.dueAt.getD s.clk.wall) := by
  have missed := State.MissOnly.noteMisses s
  have holds := missed.holdMask
  unfold State.MissOnly at missed
  unfold State.cyclePastDue
  rw [holds, missed]
  refine ⟨rfl, rfl, ?_⟩
  cases s.frm.dueAt <;> rfl

section
variable {s : State}

theorem State.cycleBody_inWait (wait : s.frm.originWait = true) : s.cycleBody = s.cycleInWait := if_pos wait

theorem State.cycleBody_pastDue (wait : s.frm.originWait = false) (due : s.dueCycle ≤ s.clk.cycle) :
    s.cycleBody = s.syncTiles.cyclePastDue := by
  have reached : s.tickDue = true := decide_eq_true due
  simp [State.cycleBody, wait, reached]

theorem State.cycleBody_early (wait : s.frm.originWait = false) (early : s.clk.cycle < s.dueCycle) : s.cycleBody = s := by
  have reached : s.tickDue = false := decide_eq_false (Nat.not_le.mpr early)
  simp [State.cycleBody, wait, reached]

/-- Engines run up to the cycle only where the tick is due. -/
theorem State.cycleBody_tiles (h : s.frm.originWait = true ∨ s.clk.cycle < s.dueCycle) : s.cycleBody.tiles = s.tiles := by
  cases wait : s.frm.originWait with
  | true => rw [State.cycleBody_inWait wait]; rfl
  | false => rw [State.cycleBody_early wait (h.resolve_left (by simp [wait]))]

end

section
variable {s z : State}

/-- Lines leave the mesh and wakes are sent; nothing else of the module changes before the cycle passes (R182, R297). -/
theorem State.sendWakes_dropStrays_frame (s : State) : s.dropStrays.sendWakes = { s with
    mesh := s.dropStrays.mesh
    regions := s.dropStrays.regions
    ports := s.dropStrays.sendWakes.ports
    out := s.dropStrays.sendWakes.out } := by
  rw [State.sendWakes_frame, State.dropStrays_frame]

/-- On a powered module lines and wakes leave first; then the cycle passes, and outside the wait of an origin frame the cycle of
the frame rises by one (R8, R22, R219). -/
theorem State.passCycle_powered (on : s.dawn.powered = true) (hz : z = s.dropStrays.sendWakes) :
    s.passCycle = { z.cycleBody with
      clk := { s.elapsed with cycle := if s.frm.originWait then s.clk.cycle else s.clk.cycle + 1 } } := by
  have frame := s.sendWakes_dropStrays_frame
  rw [← hz] at frame
  have elapsed : z.elapsed = s.elapsed := by rw [frame]; rfl
  have clk : z.clk = s.clk := by rw [frame]
  have body : z.cycleBody.clk = z.clk := by rw [State.CycleWork.cycleBody z]
  have wait : z.frm.originWait = s.frm.originWait := by rw [frame]
  have forms : s.passCycle = if z.frm.originWait then { z.cycleBody with clk := z.elapsed } else
      { z.cycleBody with clk := { z.elapsed with cycle := z.cycleBody.clk.cycle + 1 } } := by
    unfold State.passCycle
    rw [if_neg (by simp [on]), ← hz]
    clear hz frame
    unfold State.cycleBody
    by_cases w : z.frm.originWait = true
    · simp only [if_pos w]
      rfl
    · simp only [if_neg w]
      rfl
  rw [forms, body, elapsed, clk, wait]
  by_cases w : s.frm.originWait = true
  · simp only [if_pos w]
    rfl
  · simp only [if_neg w]

end

/-- Settles O15: every form of the cycle keeps what `State.CycleWork` names, and each clause on the frame and the tiles is of one
form. -/
theorem cyclesPassAndTheTickFallsDue : Obligations.CyclesPassAndTheTickFallsDue := by
  unfold Obligations.CyclesPassAndTheTickFallsDue
  intro s z idle on hz
  have passed := State.passCycle_powered on hz
  have frame := s.sendWakes_dropStrays_frame
  rw [← hz] at frame
  have work := State.CycleWork.cycleBody z
  have mesh : z.cycleBody.mesh = s.dropStrays.mesh := by rw [work, frame]
  have frm : z.frm = s.frm := by rw [frame]
  have clk : z.clk = s.clk := by rw [frame]
  have tiles : z.tiles = s.tiles := by rw [frame]
  have due : z.dueCycle = s.dueCycle := by rw [frame]; rfl
  refine ⟨s.passCycle, by simp [step, idle], ?_⟩
  rw [passed, ← frm, ← clk, ← due, ← tiles]
  refine ⟨?now, ?wall, ?code, ?gates, ?stack, ?map, ?count, ?strays, ?cycles, ?waits, ?due, ?tiles, ?early⟩
  case now => rw [clk]; rfl
  case wall => rw [clk]; rfl
  case code => rw [clk]; rfl
  case gates => rw [work, frame]
  case stack => rw [work, frame]
  case map => rw [work, frame]
  case count => rw [work]
  case strays =>
    intro run f _ reached stays left
    rw [clk] at run reached
    exact State.notMem_mesh_dropStrays run reached stays (mesh ▸ left)
  case cycles => exact fun w => by simp [w]
  case waits => exact fun w => ⟨if_pos w, by rw [State.cycleBody_inWait w]; rfl⟩
  case due =>
    intro w reached
    have synced := State.TilesOnly.syncTiles z
    have same : z.syncTiles.frm = z.frm ∧ z.syncTiles.clk = z.clk := by rw [synced]; exact ⟨rfl, rfl⟩
    rw [State.cycleBody_pastDue w reached, ← same.1, ← same.2]
    exact State.cyclePastDue_spec _
  case tiles => exact State.cycleBody_tiles
  case early => exact fun w early => by rw [State.cycleBody_early w early]

end Sys2Proof.Machine
end

section
/-! PROOFS. Dawn begins at power good, at the end of a full reset and at a lockstep mismatch: what the writes before it and the
boot and configuration read after it leave alone (R23, R36, R367, R388, R390, R393, R396, R404, R405). -/

namespace Sys2Proof.Machine

/-! ## What a boot can change -/

/-- Nothing changes but the map and its stored copies, images, the module's sector, the registers of the firmware and life-cycle
control, link ports and the group, the frequency code, regions, the power controller, the service log apart from what power good
counts, update messages, error records, what vectors change, and Dawn's findings. -/
def State.BootWork (s t : State) : Prop :=
  t = { s with
    clk := { s.clk with code := t.clk.code, nextCode := t.clk.nextCode }
    map := t.map
    mapNext := t.mapNext
    mapDirty := t.mapDirty
    plan := { s.plan with mapChanged := t.plan.mapChanged, failNext := t.plan.failNext }
    err := { s.err with frame := t.err.frame }
    setAt := t.setAt
    regions := t.regions
    upd := t.upd
    ports := t.ports
    group := t.group
    host := t.host
    pwr := t.pwr
    dawn := { s.dawn with
      on := t.dawn.on
      added := t.dawn.added
      belowFloor := t.dawn.belowFloor
      fellBack := t.dawn.fellBack
      lenRead := t.dawn.lenRead }
    images := t.images
    sector := t.sector
    ctl := t.ctl
    log := { t.log with lifeBase := s.log.lifeBase, powerCycles := s.log.powerCycles }
    free := t.free
    out := t.out }

namespace State.BootWork

theorem refl (s : State) : s.BootWork s := rfl

theorem trans {s t u : State} (h : s.BootWork t) (k : t.BootWork u) : s.BootWork u := by
  unfold State.BootWork at *
  rw [k, h]

theorem noteSet (s : State) (r : W1cReg) (n : Nat) : s.BootWork (s.noteSet r n) := rfl
theorem addError (s : State) (k : ErrKind) (b : Bool) : s.BootWork (s.addError k b) := rfl
theorem unform (s : State) : s.BootWork s.unform := rfl
theorem setImage (s : State) (b : Bool) (x : Image) : s.BootWork (s.setImg b x) := rfl

/-- Room that a full log makes leaves what power good counts (R413, R416). -/
theorem logRecord (s : State) (k : Nat) (d : List Byte) : s.BootWork (s.logRecord k d) := by
  have room : s.log.makeRoom.lifeBase = s.log.lifeBase ∧ s.log.makeRoom.powerCycles = s.log.powerCycles := by
    unfold Log.makeRoom
    extract_lets first
    split <;> exact ⟨rfl, rfl⟩
  unfold State.BootWork State.logRecord
  dsimp only
  rw [room.1, room.2]

theorem logFirmware (s : State) (e : Nat) (b : Bool) : s.BootWork (s.logFirmware e b) := logRecord s 10 _

theorem powerEvent (s : State) (n : Nat) : s.BootWork (s.powerEvent n) := by
  rw [State.powerEvent_frame]
  rfl

theorem flood (s : State) (m : SyncMsg) (skip : Option Nat) : s.BootWork (s.flood m skip) := by
  rw [State.flood_frame]
  rfl

theorem floodAbort (s : State) (cause : Nat) : s.BootWork (s.floodAbort cause) := by
  rw [State.floodAbort_frame]
  rfl

theorem enterNight (s : State) : s.BootWork s.enterNight := by
  rw [State.enterNight_frame]
  rfl

/-! ## Writes that end before Dawn (R36, R388, R406) -/

theorem mergeMap (s : State) : s.BootWork s.mergeMap := by
  unfold State.mergeMap
  exact ite_related (refl s) (ite_related rfl rfl)

theorem settleMap (s : State) : s.BootWork s.settleMap := by
  have closed : ∀ u : State, u.BootWork u.closeDawnMap := by
    intro u
    unfold State.closeDawnMap
    exact ite_related rfl (refl u)
  unfold State.settleMap
  exact ite_related (mergeMap s) ((mergeMap s).trans (closed _))

theorem modCfg (s : State) (b : Bool) (f : CfgRecord → CfgRecord) : s.BootWork (s.modCfg b f) := rfl

theorem storeMap (s : State) : s.BootWork s.storeMap := by
  have put : s.BootWork (s.putStored s.map) := by
    unfold State.putStored
    extract_lets f u
    exact ite_related ((modCfg s _ f).trans (modCfg u _ f)) (modCfg s _ f)
  unfold State.storeMap
  exact ite_related (refl s) (put.trans rfl)

theorem storeOwner (s : State) : s.BootWork s.storeOwner := by
  unfold State.storeOwner
  split
  · exact refl s
  · next o _ =>
    extract_lets u seq
    have stored : u.BootWork { u with ctl := { u.ctl with storing := none } } := rfl
    exact ((modCfg s _ _).trans stored).trans (logRecord _ 13 _)

theorem finishWrites (s : State) : s.BootWork s.finishWrites := (storeOwner s).trans (storeMap _)

/-! ## The boot and the configuration read (R304, R396, R402, R403, R405) -/

theorem selectImage (s : State) : s.BootWork s.selectImage.1 := by
  have logged : ∀ (c : Bool) (b : Bool) (u : State), s.BootWork u →
      s.BootWork (if c then (u.noteSet .fw 5).logFirmware 5 b else u) :=
    fun c b u h => ite_related (h.trans ((noteSet u .fw 5).trans (logFirmware _ 5 b))) h
  unfold State.selectImage
  dsimp only
  split
  · rfl
  · split
    · exact logged _ _ _ rfl
    · rfl

theorem readRecord (s : State) : s.BootWork s.readRecord.1 := by
  unfold State.readRecord
  extract_lets run usable
  split
  · split
    · exact setImage s run _
    · exact refl s
  · exact refl s

theorem installMap (s : State) (m : List Byte) : s.BootWork (s.installMap m) := by
  unfold State.installMap
  exact ite_related rfl rfl

theorem readConfig (s : State) : s.BootWork s.readConfig := by
  have logged : ∀ (c : Bool) (d : List Byte) (u : State), s.BootWork u → s.BootWork (if c then u.logRecord 13 d else u) :=
    fun c d u h => ite_related (h.trans (logRecord u 13 d)) h
  have configured : ∀ (u : State) (f : FloorMap) (cap : PwrCap) (regions : Map Region) (floor : Bool) (len : Option Nat) (ctl : Ctl),
      u.BootWork { u with
        map := f
        pwr := { u.pwr with cap := cap }
        regions := regions
        dawn := { u.dawn with belowFloor := floor, lenRead := len }
        ctl := ctl } := fun _ _ _ _ _ _ _ => rfl
  have read := readRecord s
  unfold State.readConfig
  generalize s.readRecord = y at read ⊢
  obtain ⟨u, record⟩ := y
  extract_lets _ _ owner map pwr dawn ctl taken installed
  have kept : u.BootWork taken := configured u _ _ _ _ _ _
  have work : s.BootWork installed := (read.trans kept).trans (installMap taken _)
  clear_value installed
  exact logged _ _ installed work

/-! ## The lines at the start of Dawn (R355, R357, R359) -/

/-- Where no spine runs a COOL_OK stop stops no engine. -/
theorem coolStop {s : State} (h : s.clk.running = false) : s.BootWork s.coolStop := by
  have told : ∀ (u : State) (m : SyncMsg), u.BootWork (if u.grouped then ((u.floodAbort 1).flood m none).unform else u) :=
    fun u m => ite_related (((floodAbort u 1).trans (flood _ m none)).trans (unform _)) (refl u)
  have stopping : ∀ u : State, u.BootWork { u with pwr := { u.pwr with coolStop := true } } := fun _ => rfl
  have stopped : ∀ (u : State) (m : Map Region), s.BootWork u →
      s.BootWork { u with clk := { u.clk with running := false }, regions := m } := by
    intro u m k
    have off : u.clk.running = false := by rw [k]; exact h
    refine k.trans ?_
    unfold State.BootWork
    rw [← off]
  unfold State.coolStop
  rw [State.syncTiles_stopped s h]
  refine ite_related (refl s) (stopped _ _ ?_)
  exact ((((enterNight s).trans (stopping _)).trans (powerEvent _ 1)).trans (addError _ _ _)).trans (told _ _)

theorem dawnLines {s : State} (h : s.clk.running = false) : s.BootWork s.dawnLines := by
  have night : s.BootWork (if s.pwr.alertHigh then s else s.enterNight) := ite_related (refl s) (enterNight s)
  have off : (if s.pwr.alertHigh then s else s.enterNight).clk.running = false := by rw [night]; exact h
  unfold State.dawnLines
  exact ite_related (R := State.BootWork) night (night.trans (coolStop off))

end State.BootWork

/-! ## The assertion of a full reset (R388) -/

/-- The growth of stack counters reaches the log only (R258, R415). -/
theorem State.addTotals_frame (s : State) : s.addTotals = { s with log := s.addTotals.log } := by
  refine foldl_related (fun a b : State => b = { a with log := b.log }) (fun _ => rfl) (fun h k => by rw [k, h]) _
    (fun a g => ?_) _ s
  exact ite_related (R := fun a b : State => b = { a with log := b.log }) rfl rfl

/-- Slices that are aborted change tiles, regions and the test engine only (R387). -/
theorem State.abortSlices_frame (s : State) :
    s.abortSlices = { s with tiles := s.abortSlices.tiles, regions := s.abortSlices.regions, tst := s.abortSlices.tst } :=
  foldl_related (fun a b : State => b = { a with tiles := b.tiles, regions := b.regions, tst := b.tst }) (fun _ => rfl)
    (fun h k => by rw [k, h]) State.abortSlice (fun _ _ => rfl) _ s

/-- A full reset stops neither time nor the count of frames (R388). -/
theorem State.fullReset_time (s : State) (cause : Nat) :
    (s.fullReset cause).clk.wall = s.clk.wall ∧ (s.fullReset cause).frm.count = s.frm.count := by
  unfold State.fullReset
  dsimp only
  rw [State.unform_clk, State.unform_frm, State.abortSlices_frame, State.addTotals_frame, State.BootWork.finishWrites s]
  exact ⟨rfl, rfl⟩

/-! ## The beginning of Dawn (R367, R390) -/

/-- The gates at time 0 of Dawn: at reset but for the time from which refreshes fall due (R252, R390). -/
theorem State.gate_dawnState (s : State) (straps cause g : Nat) :
    ∃ w, (s.dawnState straps cause).gate g = { Gate.reset with debtAt := w } := by
  have listed : ∀ (d : Gate) (l : List Nat), Map.find? (l.map fun g => (g, d)) g = none ∨
      Map.find? (l.map fun g => (g, d)) g = some d := by
    intro d l
    induction l with
    | nil => exact .inl rfl
    | cons k rest ih =>
      simp only [List.map_cons, Map.find?]
      split
      · exact .inr rfl
      · exact ih
  unfold State.gate Map.getD
  rcases listed { Gate.reset with debtAt := s.clk.wall + wallMs 1100 } (List.range nGates) with h | h
  · exact ⟨_, by rw [show Map.find? (s.dawnState straps cause).gates g = none from h]; rfl⟩
  · exact ⟨_, by rw [show Map.find? (s.dawnState straps cause).gates g = some _ from h]; rfl⟩

/-- Dawn begins from the time 0 state, once pending writes have ended; the boot keeps the volatile parts of the module (R36, R390). -/
theorem State.beginDawn_work (s : State) (straps cause : Nat) :
    (s.settleMap.finishWrites.dawnState straps cause).BootWork (s.beginDawn straps cause) := by
  unfold State.beginDawn
  generalize e : s.settleMap.finishWrites.dawnState straps cause = d
  have off : d.clk.running = false := by rw [← e]; rfl
  have selected : d.BootWork d.freshNonce.selectImage.1 := State.BootWork.trans (t := d.freshNonce) rfl (.selectImage _)
  generalize d.freshNonce.selectImage = y at selected ⊢
  dsimp only
  split
  · have ended : d.BootWork { y.1 with dawn := { y.1.dawn with on := false } } := selected.trans rfl
    exact ended.trans (.logFirmware _ 6 _)
  · have read := selected.trans (.readConfig y.1)
    have measured : d.BootWork { y.1.readConfig with ctl := { y.1.readConfig.ctl with chain := y.1.readConfig.measureChain } } :=
      read.trans rfl
    exact measured.trans (.dawnLines (by rw [read]; exact off))

/-- Dawn has begun at the wall time, with the straps and the cause given (R367, R390). -/
theorem State.beginDawn_begun (s : State) (straps cause : Nat) :
    DawnBegun (s.beginDawn straps cause) s.clk.wall (straps % 16) cause := by
  have ended := State.BootWork.trans (.settleMap s) (.finishWrites _)
  have wall : s.settleMap.finishWrites.clk.wall = s.clk.wall := by rw [ended]
  have work := s.beginDawn_work straps cause
  have gates : (s.beginDawn straps cause).gates = (s.settleMap.finishWrites.dawnState straps cause).gates := by rw [work]
  exact {
    powered := by rw [work]; rfl
    started := by rw [work]; exact wall
    straps := by rw [work]; rfl
    cause := by rw [work]; rfl
    notReady := by rw [work]; exact ⟨rfl, rfl, rfl⟩
    tiles := by rw [work]; rfl
    gates := fun g => by
      obtain ⟨w, h⟩ := s.settleMap.finishWrites.gate_dawnState straps cause g
      rw [State.gate_congr _ _ g gates, h]
      exact ⟨rfl, rfl, rfl, rfl⟩
    stack := by rw [work]; rfl
    plan := by rw [work]; exact ⟨rfl, rfl⟩
    spines := by rw [work]; rfl }

/-- FRM_COUNT and what power good counts in the log are as they were when Dawn began (R23, R413). -/
theorem State.beginDawn_counts (s : State) (straps cause : Nat) :
    (s.beginDawn straps cause).frm.count = s.frm.count ∧ (s.beginDawn straps cause).log.powerCycles = s.log.powerCycles ∧
      (s.beginDawn straps cause).log.lifeBase = s.log.lifeBase := by
  have ended := State.BootWork.trans (.settleMap s) (.finishWrites _)
  have kept : s.settleMap.finishWrites.frm.count = s.frm.count ∧ s.settleMap.finishWrites.log.powerCycles = s.log.powerCycles ∧
      s.settleMap.finishWrites.log.lifeBase = s.log.lifeBase := by rw [ended]; exact ⟨rfl, rfl, rfl⟩
  rw [s.beginDawn_work straps cause]
  exact kept

/-- The counters at power good, before Dawn begins (R23, R413, R415). -/
def State.atPowerGood (s : State) : State :=
  { s with
    frm := Frm.reset
    log := { s.log with lifeBase := s.log.lifeStored, powerCycles := wrap32 (s.log.powerCycles + 1) } }

/-- Settles O6: each of the three commands begins Dawn from a state whose wall time and counters are known. -/
theorem powerGoodAndFullResetBeginDawn : Obligations.PowerGoodAndFullResetBeginDawn := by
  unfold Obligations.PowerGoodAndFullResetBeginDawn
  refine ⟨?powerGood, ?powered, ?modReset, ?lockstep⟩
  case powerGood =>
    intro straps s off
    have run : exec (.powerGood straps) s = .next (s.atPowerGood.beginDawn straps 0) := if_neg (by simp [off])
    obtain ⟨count, cycles, base⟩ := s.atPowerGood.beginDawn_counts straps 0
    exact ⟨_, run, s.atPowerGood.beginDawn_begun straps 0, count, cycles, base⟩
  case powered => exact fun straps s on => if_pos on
  case modReset =>
    intro straps s on held
    have run : exec (.modResetDeassert straps) s = .next (s.beginDawn straps s.dawn.resetCause) := if_pos (by simp [on, held])
    exact ⟨_, run, State.beginDawn_begun s straps _, (State.beginDawn_counts s straps _).1⟩
  case lockstep =>
    intro s on free
    have run : exec .lockstepMismatch s = .next ((s.fullReset 2).beginDawn s.hostRegs.straps 2) := if_neg (by simp [on, free])
    obtain ⟨wall, count⟩ := s.fullReset_time 2
    have begun := (s.fullReset 2).beginDawn_begun s.hostRegs.straps 2
    rw [wall] at begun
    exact ⟨_, run, begun, ((s.fullReset 2).beginDawn_counts _ 2).1.trans count⟩

end Sys2Proof.Machine
end

section
/-! PROOFS. The stored map, the owner section and the records of the service log, at a power-down, a MAP_STORE, the end of an
origin wait, and a measurement of aging (R36, R206, R219, R340, R406, R413, R414, R416, R463). -/

namespace Sys2Proof.Machine

/-! ## The service log (R416) -/

/-- A full log makes room by its oldest records; its summary and lists stay. -/
theorem Log.makeRoom_frame (l : Log) :
    l.makeRoom = { l with firstSeq := l.makeRoom.firstSeq, base := l.makeRoom.base, records := l.makeRoom.records } := by
  have forms : l.makeRoom = l ∨ ∃ n h m, l.makeRoom = { l with firstSeq := n, base := h, records := m } := by
    unfold Log.makeRoom
    extract_lets first
    split
    · exact .inl rfl
    · exact .inr ⟨_, _, _, rfl⟩
  rcases forms with same | ⟨n, h, m, room⟩
  · rw [same]
  · rw [room]

/-- A record leaves the summary and the lists of the log. -/
theorem State.logRecord_log (s : State) (kind : Nat) (data : List Byte) :
    (s.logRecord kind data).log = { s.log with
      firstSeq := (s.logRecord kind data).log.firstSeq
      base := (s.logRecord kind data).log.base
      records := (s.logRecord kind data).log.records
      nextSeq := (s.logRecord kind data).log.nextSeq
      head := (s.logRecord kind data).log.head } := by
  unfold State.logRecord
  dsimp only
  rw [Log.makeRoom_frame]

/-! ## Images (R395, R399) -/

theorem imageIdx_lt (b : Bool) : imageIdx b < 2 := by cases b <;> decide

theorem imageIdx_not_ne (b : Bool) : imageIdx b ≠ imageIdx (!b) := by cases b <;> decide

@[simp] theorem State.img_modImg (s : State) (b : Bool) (f : Image → Image) : (s.modImg b f).img b = f (s.img b) :=
  vget_vset_self _ _ _ _ (imageIdx_lt b)

theorem State.img_modImg_other (s : State) (b : Bool) (f : Image → Image) : (s.modImg (!b) f).img b = s.img b :=
  vget_vset_ne _ _ _ _ _ (imageIdx_not_ne b)

theorem State.img_congr {s t : State} (h : t.images = s.images) (b : Bool) : t.img b = s.img b := by
  simp only [State.img, h]

/-! ## Writes of the records (R36, R406) -/

theorem State.putStored_frame (s : State) (m : FloorMap) : s.putStored m = { s with images := (s.putStored m).images } := by
  unfold State.putStored
  extract_lets put u
  exact ite_related (R := fun a b : State => b = { a with images := b.images }) rfl rfl

/-- The stored map of the running image is the one that was put, in a trial too. -/
theorem State.map_putStored (s : State) (m : FloorMap) : ((s.putStored m).img s.ctl.image).cfg.map (·.map) = some m.toStore := by
  have put : ∀ f : CfgRecord → CfgRecord, (∀ c, (f c).map = m.toStore) →
      ((s.modCfg s.ctl.image f).img s.ctl.image).cfg.map (·.map) = some m.toStore := by
    intro f hf
    simp only [State.modCfg, State.img_modImg, Option.map_some, hf]
  unfold State.putStored
  extract_lets f u
  have running : (u.img s.ctl.image).cfg.map (·.map) = some m.toStore := put f fun _ => rfl
  refine ite_related (R := fun _ t : State => (t.img s.ctl.image).cfg.map (·.map) = some m.toStore) (s := u) ?_ running
  exact (congrArg (fun x : Image => x.cfg.map (·.map)) (State.img_modImg_other u s.ctl.image _)).trans running

theorem State.storeMap_frame (s : State) :
    s.storeMap = { s with images := s.storeMap.images, mapDirty := s.storeMap.mapDirty } := by
  unfold State.storeMap
  refine ite_related (R := fun a b : State => b = { a with images := b.images, mapDirty := b.mapDirty }) rfl ?_
  rw [State.putStored_frame]

theorem State.storeMap_clean {s : State} (h : s.mapDirty = none) : s.storeMap = s := by
  simp [State.storeMap, h]

/-- A map that is due is written, and is due no more (R36). -/
theorem State.storeMap_due {s : State} (h : s.mapDirty ≠ none) :
    s.storeMap.mapDirty = none ∧ (s.storeMap.img s.ctl.image).cfg.map (·.map) = some s.map.toStore := by
  have store : s.storeMap = { s.putStored s.map with mapDirty := none } := if_neg (by simpa using h)
  rw [store]
  exact ⟨rfl, s.map_putStored s.map⟩

theorem State.storeOwner_frame (s : State) : s.storeOwner = { s with
    images := s.storeOwner.images
    ctl := { s.ctl with storing := none }
    log := s.storeOwner.log } := by
  unfold State.storeOwner
  split
  · next none =>
    rw [← none]
  · rfl

theorem State.storeOwner_idle {s : State} (h : s.ctl.storing = none) : s.storeOwner = s := by
  simp [State.storeOwner, h]

/-! ## Changes of the map that wait (R36, R44) -/

theorem State.mergeMap_frame (s : State) : s.mergeMap = { s with
    map := s.mergeMap.map
    mapNext := []
    mapDirty := s.mergeMap.mapDirty
    dawn := { s.dawn with added := s.mergeMap.dawn.added, belowFloor := s.mergeMap.dawn.belowFloor }
    plan := { s.plan with mapChanged := s.mergeMap.plan.mapChanged } } := by
  unfold State.mergeMap
  split
  · next none =>
    rw [← List.isEmpty_iff.mp none]
  · split <;> rfl

theorem State.closeDawnMap_frame (s : State) : s.closeDawnMap = { s with
    map := s.closeDawnMap.map
    mapDirty := s.closeDawnMap.mapDirty
    dawn := { s.dawn with added := s.closeDawnMap.dawn.added } } := by
  unfold State.closeDawnMap
  split <;> rfl

theorem State.settleMap_frame (s : State) : s.settleMap = { s with
    map := s.settleMap.map
    mapNext := []
    mapDirty := s.settleMap.mapDirty
    dawn := { s.dawn with added := s.settleMap.dawn.added, belowFloor := s.settleMap.dawn.belowFloor }
    plan := { s.plan with mapChanged := s.settleMap.plan.mapChanged } } := by
  unfold State.settleMap
  split
  · exact s.mergeMap_frame
  · rw [State.closeDawnMap_frame, State.mergeMap_frame]

/-- A waiting change that is one to store makes the map one to store (R36). -/
theorem State.settleMap_dirty {s : State} (waits : s.mapNext ≠ []) (day : s.dawn.bistDone = true)
    (stored : s.mapNext.any MapChange.stored = true) : s.settleMap.mapDirty ≠ none := by
  have some_ : s.mapNext.isEmpty = false := by simpa using waits
  simp only [State.settleMap, State.mergeMap, day, some_, stored, if_true, Bool.false_eq_true, if_false, Bool.not_true]
  split <;> exact Option.some_ne_none _

/-! ## The power-down (R36, R258, R413, R414, R463) -/

/-- What the pending writes before a loss of power leave alone: the sector and the count of lifetime frames. -/
theorem State.finishWrites_keeps (s : State) :
    s.finishWrites.sector = s.sector ∧ s.finishWrites.lifeFrames = s.lifeFrames := by
  constructor
  · unfold State.finishWrites
    rw [State.storeMap_frame, State.storeOwner_frame]
  · unfold State.lifeFrames
    rw [State.BootWork.finishWrites s]

theorem State.BootWork.addTotals (s : State) : s.BootWork s.addTotals := by
  refine foldl_related State.BootWork .refl .trans _ (fun a g => ?_) _ s
  extract_lets x old d t l
  have counted : a.BootWork { a with log := l } := rfl
  exact ite_related (.refl a) (counted.trans (.logRecord _ 6 _))

/-- What an input voltage out of range leaves: the sector, the images with their pending writes, and the summary of the log. -/
theorem State.powerDown_keeps (s : State) :
    s.powerDown.sector = s.sector ∧ s.powerDown.images = s.settleMap.finishWrites.images ∧
      s.powerDown.log.lifeStored = s.lifeFrames := by
  have settled : s.settleMap.sector = s.sector ∧ s.settleMap.lifeFrames = s.lifeFrames := by
    rw [State.settleMap_frame]
    exact ⟨rfl, rfl⟩
  obtain ⟨written, life⟩ := s.settleMap.finishWrites_keeps
  have total : s.settleMap.finishWrites.addTotals.lifeFrames = s.settleMap.finishWrites.lifeFrames := by
    unfold State.lifeFrames
    rw [State.BootWork.addTotals s.settleMap.finishWrites]
  have sector : s.settleMap.finishWrites.addTotals.sector = s.sector := by
    rw [State.addTotals_frame]
    exact written.trans settled.1
  have images : s.settleMap.finishWrites.addTotals.images = s.settleMap.finishWrites.images := by rw [State.addTotals_frame]
  have frames := (total.trans life).trans settled.2
  unfold State.powerDown
  generalize s.settleMap.finishWrites.addTotals = u at sector images frames ⊢
  exact ⟨sector, images, frames⟩

/-- Everything volatile is lost (R414). -/
theorem State.powerDown_loses (s : State) :
    s.powerDown.dawn.powered = false ∧ s.powerDown.tiles = [] ∧ s.powerDown.gates = [] ∧ s.powerDown.stack = [] ∧
      s.powerDown.plan = PlanCtl.reset ∧ s.powerDown.ports = State.reset.ports := by
  unfold State.powerDown
  generalize s.settleMap.finishWrites.addTotals = u
  exact ⟨rfl, rfl, rfl, rfl, rfl, rfl⟩

/-- The stored map after the pending writes, where the map was one to store (R36). -/
theorem State.finishWrites_due {s : State} (h : s.mapDirty ≠ none) :
    (s.finishWrites.img s.ctl.image).cfg.map (·.map) = some s.map.toStore := by
  have dirty : s.storeOwner.mapDirty ≠ none := by rw [State.storeOwner_frame]; exact h
  have same : s.storeOwner.ctl.image = s.ctl.image ∧ s.storeOwner.map = s.map := by
    rw [State.storeOwner_frame]
    exact ⟨rfl, rfl⟩
  obtain ⟨-, stored⟩ := State.storeMap_due dirty
  rwa [same.1, same.2] at stored

/-- Settles O12: the power-down's pending writes are those of R36; the rest of the state is that of reset. -/
theorem inputVoltageOutOfRangePowersDown : Obligations.InputVoltageOutOfRangePowersDown := by
  unfold Obligations.InputVoltageOutOfRangePowersDown
  intro c s command on
  have run : exec c s = .next s.powerDown := by
    rcases command with rfl | rfl <;> exact congrArg Host.Outcome.next (if_pos on)
  have ctl : s.settleMap.ctl = s.ctl := by rw [State.settleMap_frame]
  have old : s.settleMap.images = s.images := by rw [State.settleMap_frame]
  obtain ⟨sector, images, life⟩ := s.powerDown_keeps
  obtain ⟨off, tiles, gates, stack, plan, ports⟩ := s.powerDown_loses
  have quiet : ∀ p, s.powerDown.port p = Port.reset := fun p => (State.port_congr _ _ p ports).trans (State.port_reset p)
  refine ⟨_, run, off, tiles, gates, stack, plan, fun p _ => quiet p, sector, life, ?_, ?_, State.settleMap_dirty⟩
  · intro clean idle
    rw [images, State.finishWrites, State.storeOwner_idle (by rw [ctl]; exact idle), State.storeMap_clean clean, old]
  · intro dirty
    have stored := State.finishWrites_due dirty
    rw [State.img_congr images, ← stored, ctl]

/-! ## The end of an origin wait (R206, R219) -/

theorem State.markAllGo_frame (s : State) : s.markAllGo = { s with gates := s.markAllGo.gates } := by
  have refl : ∀ a : State, a = { a with gates := a.gates } := fun _ => rfl
  refine foldl_related (fun a b : State => b = { a with gates := b.gates }) refl (fun h k => by rw [k, h]) _ (fun a p => ?_) _ s
  exact foldl_related (fun a b : State => b = { a with gates := b.gates }) refl (fun h k => by rw [k, h])
    (fun (u : State) (q : Nat × Ring) => u.markGo p.1 q.1) (fun _ _ => rfl) p.2.rings a

theorem State.handBlocks_frame (s : State) : s.handBlocks = { s with gates := s.handBlocks.gates, ports := s.handBlocks.ports } := by
  refine foldl_related (fun a b : State => b = { a with gates := b.gates, ports := b.ports }) (fun _ => rfl)
    (fun h k => by rw [k, h]) _ (fun a x => ?_) _ s
  unfold State.handBlock
  dsimp only
  split
  · rfl
  · split
    · rfl
    · exact ite_related (R := fun a b : State => b = { a with gates := b.gates, ports := b.ports }) rfl rfl

theorem State.emitEofs_frame (s : State) (p : Nat) : s.emitEofs p = { s with ports := (s.emitEofs p).ports } := by
  unfold State.emitEofs
  exact ite_related (R := fun a b : State => b = { a with ports := b.ports }) rfl rfl

theorem State.releaseOrigin_keeps (s : State) :
    s.releaseOrigin.frm.originWait = false ∧ s.releaseOrigin.frm.count = s.frm.count ∧ s.releaseOrigin.stack = s.stack := by
  have ends : ∀ (l : List Nat) (u : State), l.foldl State.emitEofs u = { u with ports := (l.foldl State.emitEofs u).ports } :=
    foldl_related (fun a b : State => b = { a with ports := b.ports }) (fun _ => rfl) (fun h k => by rw [k, h]) State.emitEofs
      State.emitEofs_frame
  unfold State.releaseOrigin
  rw [ends, State.handBlocks_frame, State.markAllGo_frame]
  exact ⟨rfl, rfl, rfl⟩

/-! ## Measurements of aging (R340) -/

theorem getD_set_default {α : Type} (l : List α) (i : Nat) (d : α) : (l.set i d).getD i d = d := by
  simp only [List.getD_eq_getElem?_getD, List.getElem?_set_self']
  cases l[i]? <;> rfl

/-- A new measurement is the newest of its point, and is counted. -/
theorem execAgingMeasurement_due {r point mv : Nat} {s : State} (hr : r < nRegions) (hp : point < 8)
    (due : 65536 ≤ (s.region r).near.getD point 0) :
    ∃ t, exec (.agingMeasurement r point mv) s = .next t ∧ (t.region r).near = (s.region r).near.set point 0 ∧
      Map.getD t.log.aging (8 * r + point) ([], 0) =
        ((mv :: s.measured r point).take 16, min ((Map.getD s.log.aging (8 * r + point) ([], 0)).2 + 1) 65535) ∧
      (∀ k, k ≠ r → t.region k = s.region k) ∧ t.stack = s.stack := by
  have run : exec (.agingMeasurement r point mv) s = execAgingMeasurement r point mv s := rfl
  unfold execAgingMeasurement at run
  rw [if_pos ⟨hr, hp, due⟩] at run
  refine ⟨_, run, ?_, ?_, fun k hk => ?_, rfl⟩
  · exact congrArg Region.near (State.region_setRegion _ r _)
  · rw [State.logRecord_log]
    exact Map.getD_set_self _ _ _ _
  · exact State.region_setRegion_ne _ _ r k hk

/-- Settles O19, command by command. -/
theorem originWaitAndLifetimeRecords : Obligations.OriginWaitAndLifetimeRecords := by
  unfold Obligations.OriginWaitAndLifetimeRecords
  refine ⟨?origin, ?aging, fun s => ⟨fun due => if_pos due, fun early => if_neg (Nat.not_le.mpr early)⟩, ?store⟩
  case origin =>
    intro s wait ends
    have ended : (s.failing || !s.coreRuns || !(s.allRings.any fun x => s.ringHoldsOrigin x.1 x.2)) = true := by
      rcases ends with failing | stopped | free
      · simp [failing]
      · simp [State.coreRuns, stopped]
      · have none_ : (s.allRings.any fun x => s.ringHoldsOrigin x.1 x.2) = false := by
          rw [List.any_eq_false]
          exact fun x hx => by simp [free x hx]
        simp [none_]
    exact ⟨_, if_pos (by rw [wait, ended]; rfl), s.releaseOrigin_keeps⟩
  case aging =>
    intro r point mv s hr hp due
    obtain ⟨t, run, near, aging, others, stack⟩ := execAgingMeasurement_due (mv := mv) hr hp due
    have kept : t.measured r point = (mv :: s.measured r point).take 16 := congrArg Prod.fst aging
    refine ⟨t, run, ?_, ?_, ?_, congrArg Prod.snd aging, others, stack⟩
    · rw [near, getD_set_default]
    · rw [kept]
      rfl
    · rw [kept]
      exact List.length_take_le _ _
  case store =>
    intro s on due
    have run : exec .mapStore s = .next s.storeMap := congrArg Host.Outcome.next (if_pos on)
    obtain ⟨clean, stored⟩ := State.storeMap_due due
    refine ⟨_, run, clean, ?_, ?_, ?_, stored⟩
    all_goals rw [State.storeMap_frame]

end Sys2Proof.Machine
end

section
/-! PROOFS. A region that loses its power or its thoroughfare: what is lost in it, and that the other regions stay as they are
(R41, R194, R195, R273, R360, R361). -/

namespace Sys2Proof.Machine

/-! ## Folds and maps over tiles -/

/-- A relation that the steps of a fold keep for the elements of its list holds of the whole fold. -/
theorem foldl_related_mem {α β : Type} {R : α → α → Prop} (refl : ∀ s, R s s) (trans : ∀ {a b c}, R a b → R b c → R a c)
    {f : α → β → α} (l : List β) (each : ∀ x ∈ l, ∀ s, R s (f s x)) (s : α) : R s (l.foldl f s) := by
  induction l generalizing s with
  | nil => exact refl s
  | cons x rest ih =>
    exact trans (each x List.mem_cons_self s) (ih (fun y hy => each y (List.mem_cons_of_mem x hy)) _)

/-- A change of the tiles of a region acts on each of them, listed or not, if it leaves a tile at reset as it is. -/
theorem State.getTile_mapRegion {s t : State} {f : Tile → Tile} {r : Nat}
    (tiles : t.tiles = Map.mapVals (fun k x => if regionOf k = r then f x else x) s.tiles) (reset : f Tile.reset = Tile.reset)
    (k : Nat) : t.getTile k = if regionOf k = r then f (s.getTile k) else s.getTile k := by
  simp only [State.getTile, Map.getD, tiles, Map.find?_mapVals]
  cases Map.find? s.tiles k with
  | none => simp [reset]
  | some x => rfl

/-! ## Other regions -/

/-- The other regions and their tiles stay as they are. -/
def State.OtherRegions (r : Nat) (s t : State) : Prop :=
  (∀ k, k ≠ r → t.region k = s.region k) ∧ ∀ k, regionOf k ≠ r → t.getTile k = s.getTile k

namespace State.OtherRegions

variable {r : Nat} {s t u : State}

theorem refl (s : State) : s.OtherRegions r s := ⟨fun _ _ => rfl, fun _ _ => rfl⟩

theorem trans (h : State.OtherRegions r s t) (k : State.OtherRegions r t u) : State.OtherRegions r s u :=
  ⟨fun n hn => (k.1 n hn).trans (h.1 n hn), fun n hn => (k.2 n hn).trans (h.2 n hn)⟩

/-- It rests on the tables of regions and tiles only. -/
theorem of_eq (regions : t.regions = s.regions) (tiles : t.tiles = s.tiles) : State.OtherRegions r s t :=
  ⟨fun k _ => State.region_congr s t k regions, fun k _ => State.getTile_congr s t k tiles⟩

theorem modRegion (s : State) (f : Region → Region) : State.OtherRegions r s (s.modRegion r f) :=
  ⟨fun k hk => State.region_setRegion_ne s _ r k hk, fun _ _ => rfl⟩

/-- What a tile's step reports reaches its own region only. -/
theorem applyNotes (s : State) (t : Nat) (n : Notes) : State.OtherRegions (regionOf t) s (s.applyNotes t n) := by
  have event : ∀ (u : State) (e : TileEvent), State.OtherRegions (regionOf t) u (u.applyEvent t e) := by
    intro u e
    unfold State.applyEvent
    split <;> exact of_eq rfl rfl
  unfold State.applyNotes
  extract_lets u
  have counted : State.OtherRegions (regionOf t) s u := modRegion s _
  have flagged : State.OtherRegions (regionOf t) u (u.addFlags n.flags) := of_eq rfl rfl
  exact (counted.trans flagged).trans (foldl_related (State.OtherRegions (regionOf t)) refl trans _ event n.events _)

theorem syncTile (s : State) (t : Nat) : State.OtherRegions (regionOf t) s (s.syncTile t) := by
  have put : ∀ (x : Tile), State.OtherRegions (regionOf t) s (s.setTile t x) := fun x =>
    ⟨fun _ _ => rfl, fun k hk => State.getTile_setTile_ne s x t k fun e => hk (congrArg regionOf e)⟩
  unfold State.syncTile
  exact ite_related ((put _).trans (applyNotes _ t _)) (refl s)

theorem syncRegion (s : State) (r : Nat) : State.OtherRegions r s (s.syncRegion r) := by
  refine foldl_related_mem refl trans _ (fun t ht u => ?_) s
  obtain ⟨-, mine⟩ := List.mem_filter.mp ht
  rw [← beq_iff_eq.mp mine]
  exact syncTile u t

theorem mapRegion {f : Tile → Tile} (regions : t.regions = s.regions)
    (tiles : t.tiles = Map.mapVals (fun k x => if regionOf k = r then f x else x) s.tiles) (reset : f Tile.reset = Tile.reset) :
    State.OtherRegions r s t :=
  ⟨fun k _ => State.region_congr s t k regions, fun k hk => (State.getTile_mapRegion tiles reset k).trans (if_neg hk)⟩

end State.OtherRegions

theorem State.TilesOnly.syncRegion (s : State) (r : Nat) : s.TilesOnly (s.syncRegion r) :=
  foldl_related State.TilesOnly .refl .trans _ State.TilesOnly.syncTile _ s

/-! ## What a short circuit reports (R360, R361, R416) -/

/-- A power event sets its bit. -/
theorem State.powerEvent_sets (s : State) (n : Nat) (h : n < 64) :
    (s.powerEvent n).pwr.events &&& BitVec.ofNat 64 (2 ^ n) = BitVec.ofNat 64 (2 ^ n) := by
  have bit : BitVec.ofNat 64 (2 ^ n) = BitVec.twoPow 64 n := BitVec.eq_of_toNat_eq (by simp [BitVec.toNat_twoPow])
  have on : (s.powerEvent n).pwr.events.getLsbD n = true := by
    unfold State.powerEvent
    dsimp only
    rw [bit]
    split
    · rw [State.raiseVector_pwr]
      simp [h]
    · next held =>
      rw [BitVec.and_twoPow] at held
      by_contra off
      exact held (if_neg off)
  rw [bit, BitVec.and_twoPow, if_pos on]

/-- A short circuit has been reported: it is recorded and fails the step, SHORT is counted, logged and shown, a LOAD needs a reset
first; of the rest only barriers and what a vector changes may differ. -/
structure State.ShortReported (s t : State) : Prop where
  frame : t = { s with
    barriers := t.barriers, log := t.log, plan := t.plan, err := t.err, setAt := t.setAt, pwr := t.pwr, host := t.host, out := t.out }
  resetNeeded : t.plan.resetNeeded = true
  fails : s.runActive = true → t.plan.failNext = true
  shorts : t.log.shorts = s.log.shorts + 1
  shown : t.pwr.events &&& 8 = 8

/-- SHORT is counted, and a LOAD needs a reset first. -/
def State.countShort (s : State) : State :=
  { s with log := { s.log with shorts := s.log.shorts + 1 }, plan := { s.plan with resetNeeded := true } }

theorem State.noteShort_eq (s : State) (r rail : Nat) :
    s.noteShort r rail = (s.countShort.logRecord 8 [BitVec.ofNat 8 r, BitVec.ofNat 8 rail]).powerEvent 3 := rfl

theorem State.ShortReported.noteShort (s : State) (k : ErrKind) (r rail : Nat) :
    s.ShortReported ((s.addError k true).noteShort r rail) := by
  rw [State.noteShort_eq]
  have failed : s.runActive = true → (s.addError k true).plan.failNext = true := State.addError_failNext s k
  refine ⟨?_, ?_, fun run => ?_, ?_, State.powerEvent_sets _ 3 (by decide)⟩
  · rw [State.powerEvent_frame]
    rfl
  · rw [State.powerEvent_plan]
    rfl
  · rw [State.powerEvent_plan]
    exact failed run
  · rw [State.powerEvent_log, State.logRecord_log]
    rfl

theorem State.noteBarriers_frame (s : State) : s.noteBarriers = { s with barriers := s.noteBarriers.barriers } :=
  foldl_related (fun a b : State => b = { a with barriers := b.barriers }) (fun _ => rfl) (fun h k => by rw [k, h]) _
    (fun _ _ => ite_related (R := fun a b : State => b = { a with barriers := b.barriers }) rfl rfl) _ s

theorem State.ShortReported.noteBarriers {s t : State} (h : s.ShortReported t) : s.ShortReported t.noteBarriers := by
  obtain ⟨frame, resetNeeded, fails, shorts, shown⟩ := h
  refine ⟨?_, ?_, fun run => ?_, ?_, ?_⟩ <;> rw [State.noteBarriers_frame]
  · rw [frame]
  · exact resetNeeded
  · exact fails run
  · exact shorts
  · exact shown

/-! ## A region goes dark (R273, R360) -/

theorem State.dropNodes_frame (s : State) (r : Nat) : s.dropNodes r = { s with
    blvd := (s.dropNodes r).blvd
    upd := (s.dropNodes r).upd
    setAt := (s.dropNodes r).setAt
    err := { s.err with frame := (s.dropNodes r).err.frame }
    plan := { s.plan with failNext := (s.dropNodes r).plan.failNext } } := by
  have lost : ∀ (l : List WideRow) (u : State), l.foldl (fun u w => u.loseRow r w) u = { u with
      upd := (l.foldl (fun u w => u.loseRow r w) u).upd
      setAt := (l.foldl (fun u w => u.loseRow r w) u).setAt
      err := { u.err with frame := (l.foldl (fun u w => u.loseRow r w) u).err.frame }
      plan := { u.plan with failNext := (l.foldl (fun u w => u.loseRow r w) u).plan.failNext } } :=
    foldl_related (fun a b : State => b = { a with
      upd := b.upd, setAt := b.setAt, err := { a.err with frame := b.err.frame }, plan := { a.plan with failNext := b.plan.failNext } })
      (fun _ => rfl) (fun h k => by rw [k, h]) _ (fun _ _ => rfl)
  unfold State.dropNodes
  extract_lets mine rows u
  rw [lost]

/-- The region has no power: it is dark and its tiles have lost their work (R194, R360). -/
def State.unpowerRegion (s : State) (r : Nat) : State :=
  let u := ((s.syncRegion r).dropNodes r).modRegion r fun x => { x with dark := true }
  { u with tiles := Map.mapVals (fun k (x : Tile) => if regionOf k = r then x.goDark else x) u.tiles }

theorem State.darken_eq (s : State) (r : Nat) :
    s.darken r = ((((s.unpowerRegion r).mapChange (.flag r 0)).addError (.regionDark r) true).noteShort r 0).noteBarriers := rfl

/-- What a region that has lost its power leaves alone beside its own tiles. -/
theorem State.unpowerRegion_keeps (s : State) (r : Nat) :
    (s.unpowerRegion r).stack = s.stack ∧ (s.unpowerRegion r).log.shorts = s.log.shorts ∧
      (s.unpowerRegion r).runActive = s.runActive := by
  have synced := State.TilesOnly.syncRegion s r
  have dropped := (s.syncRegion r).dropNodes_frame r
  have kept : ((s.syncRegion r).dropNodes r).stack = s.stack ∧ ((s.syncRegion r).dropNodes r).log = s.log ∧
      ((s.syncRegion r).dropNodes r).plan.run = s.plan.run := by
    rw [dropped, synced]
    exact ⟨rfl, rfl, rfl⟩
  obtain ⟨stack, log, run⟩ := kept
  exact ⟨stack, congrArg Log.shorts log, run⟩

theorem State.OtherRegions.unpowerRegion (s : State) (r : Nat) : State.OtherRegions r s (s.unpowerRegion r) := by
  have dropped : State.OtherRegions r (s.syncRegion r) ((s.syncRegion r).dropNodes r) := by
    rw [State.dropNodes_frame]
    exact of_eq rfl rfl
  unfold State.unpowerRegion
  extract_lets u
  have dark : State.OtherRegions r s u := ((syncRegion s r).trans dropped).trans (modRegion _ _)
  exact dark.trans (mapRegion (f := Tile.goDark) rfl rfl rfl)

theorem State.isDark_unpowerRegion (s : State) (r : Nat) : (s.unpowerRegion r).isDark r = true := by
  have region : (s.unpowerRegion r).region r = { ((s.syncRegion r).dropNodes r).region r with dark := true } :=
    State.region_setRegion _ r _
  simp only [State.isDark, region]

/-- The deck of a tile without power reads 0 (log 51). -/
theorem State.deck_unpowerRegion (s : State) {r k : Nat} (h : regionOf k = r) (a : Nat) :
    ((s.unpowerRegion r).getTile k).deck.read a = 0 := by
  unfold State.unpowerRegion
  extract_lets u
  rw [State.getTile_mapRegion (s := u) (f := Tile.goDark) rfl rfl, if_pos h]
  rfl

/-! ## A region loses its thoroughfare (R41, R195, R361) -/

/-- The changes that mark a region's segments dead wait behind those that wait already. -/
theorem State.mapChanges_frame (l : List (SegKind × Nat)) (s : State) :
    ∃ cs, l.foldl (fun s g => s.mapChange (.segment (segKey g))) s = { s with mapNext := s.mapNext ++ cs } := by
  refine foldl_related (fun a b : State => ∃ cs, b = { a with mapNext := a.mapNext ++ cs }) (fun a => ⟨[], by rw [List.append_nil]⟩)
    ?_ _ (fun a g => ⟨[.segment (segKey g)], rfl⟩) l s
  rintro a b c ⟨cs, rfl⟩ ⟨ds, rfl⟩
  exact ⟨cs ++ ds, by rw [List.append_assoc]⟩

/-- The region's crossings have stopped and it has lost its thoroughfare. -/
def State.stopRegion (s : State) (r : Nat) : State := (s.stopCrossings r).modRegion r fun x => { x with thorLost := true }

theorem State.loseThoroughfare_eq (s : State) (r : Nat) :
    s.loseThoroughfare r = (((segmentsOfRegion r).foldl (fun s g => s.mapChange (.segment (segKey g)))
      ((s.stopRegion r).mapChange (.flag r 1))).addError (.thoroughfareLost r) true).noteShort r 1 := rfl

theorem State.OtherRegions.stopRegion (s : State) (r : Nat) : State.OtherRegions r s (s.stopRegion r) :=
  trans (t := s.stopCrossings r) (mapRegion (f := fun x => { x with rx := [], wq := [] }) rfl rfl rfl) (modRegion _ _)

theorem State.thoroughfareLost_stopRegion (s : State) (r : Nat) : (s.stopRegion r).thoroughfareLost r = true := by
  have region : (s.stopRegion r).region r = { (s.stopCrossings r).region r with thorLost := true } := State.region_setRegion _ r _
  simp only [State.thoroughfareLost, region]

theorem State.getTile_stopRegion (s : State) {r k : Nat} (h : regionOf k = r) :
    (s.stopRegion r).getTile k = { s.getTile k with rx := [], wq := [] } :=
  (State.getTile_mapRegion (f := fun x => { x with rx := [], wq := [] }) rfl rfl k).trans (if_pos h)

theorem State.mesh_stopRegion {s : State} {r : Nat} {f : Flight} (h : f ∈ (s.stopRegion r).mesh) : regionOf f.tile ≠ r := by
  obtain ⟨-, stays⟩ := List.mem_filter.mp h
  intro e
  simp [e] at stays

/-- Settles O13: the loss itself is `State.unpowerRegion` or `State.stopRegion`; what follows reports it and changes no tile and
no region. -/
theorem efuseOpenDarkensTheRegion : Obligations.EfuseOpenDarkensTheRegion := by
  unfold Obligations.EfuseOpenDarkensTheRegion
  refine ⟨?compute, ?thoroughfare⟩
  case compute =>
    intro r s hr on lit
    have run : exec (.computeEfuseOpen r) s = .next (s.darken r) := if_neg (by simp [on, lit, Nat.not_le.mpr hr])
    obtain ⟨stack, shorts, active⟩ := s.unpowerRegion_keeps r
    have reported := (State.ShortReported.noteShort ((s.unpowerRegion r).mapChange (.flag r 0)) (.regionDark r) r 0).noteBarriers
    rw [← State.darken_eq] at reported
    have regions : (s.darken r).regions = (s.unpowerRegion r).regions := by rw [reported.frame]; rfl
    have tiles : (s.darken r).tiles = (s.unpowerRegion r).tiles := by rw [reported.frame]; rfl
    have others := (State.OtherRegions.unpowerRegion s r).trans (.of_eq regions tiles)
    refine ⟨_, run, ?_, others.1, fun k a hk => ?_, others.2, reported.resetNeeded, ?_, reported.shown, ?_, fun h => ?_, ?_⟩
    · exact (congrArg Region.dark (State.region_congr _ _ r regions)).trans (s.isDark_unpowerRegion r)
    · rw [State.getTile_congr _ _ k tiles, s.deck_unpowerRegion hk]
    · exact reported.shorts.trans (congrArg (· + 1) shorts)
    · rw [reported.frame]
      exact List.mem_append_right _ List.mem_cons_self
    · exact reported.fails (active.trans h)
    · rw [reported.frame]
      exact stack
  case thoroughfare =>
    intro r s hr on whole
    have run : exec (.thoroughfareEfuseOpen r) s = .next (s.loseThoroughfare r) := if_neg (by simp [on, whole, Nat.not_le.mpr hr])
    obtain ⟨cs, marked⟩ := State.mapChanges_frame (segmentsOfRegion r) ((s.stopRegion r).mapChange (.flag r 1))
    have reported := State.ShortReported.noteShort { (s.stopRegion r).mapChange (.flag r 1) with
      mapNext := ((s.stopRegion r).mapChange (.flag r 1)).mapNext ++ cs } (.thoroughfareLost r) r 1
    rw [← marked, ← State.loseThoroughfare_eq, marked] at reported
    have regions : (s.loseThoroughfare r).regions = (s.stopRegion r).regions := by rw [reported.frame]; rfl
    have tiles : (s.loseThoroughfare r).tiles = (s.stopRegion r).tiles := by rw [reported.frame]; rfl
    have mesh : (s.loseThoroughfare r).mesh = (s.stopRegion r).mesh := by rw [reported.frame]; rfl
    have others := (State.OtherRegions.stopRegion s r).trans (.of_eq regions tiles)
    refine ⟨_, run, ?_, others.1, reported.resetNeeded, reported.shorts, reported.fails, ?_, others.2, fun k hk => ?_,
      fun f hf => State.mesh_stopRegion (mesh ▸ hf), ?_⟩
    · exact (congrArg Region.thorLost (State.region_congr _ _ r regions)).trans (s.thoroughfareLost_stopRegion r)
    · rw [reported.frame]
      exact List.mem_append_left _ (List.mem_append_right _ List.mem_cons_self)
    · rw [State.getTile_congr _ _ k tiles, s.getTile_stopRegion hk]
    · rw [reported.frame]
      rfl

end Sys2Proof.Machine
end

section
/-! PROOFS. What the stages of Dawn record in the live map, the end of Dawn, and READY
(R36, R37, R39, R40, R373, R374, R378 to R380, R382). -/

namespace Sys2Proof.Machine

/-! ## Marks in the live map (R39, R40) -/

/-- A tile that is dead keeps its first cause, and stays dead whatever tile is marked (R36, R39). -/
theorem FloorMap.tileDead_apply {m : FloorMap} {k : Nat} (dead : m.tileDead k = true) (t b : Nat) :
    (m.apply (.tile t b)).tileDead k = true := by
  by_cases e : k = t
  · subst e
    rw [show m.apply (.tile k b) = m from if_pos dead]
    exact dead
  · refine ite_related (R := fun _ n : FloorMap => n.tileDead k = true) (s := m) dead ?_
    simpa [FloorMap.tileDead, FloorMap.tileByte, e] using dead

theorem FloorMap.tileDead_apply_self (m : FloorMap) (k : Nat) {b : Nat} (dead : b / 64 = 2) :
    (m.apply (.tile k b)).tileDead k = true := by
  cases h : m.tileDead k with
  | true => exact FloorMap.tileDead_apply h k b
  | false =>
    rw [show m.apply (.tile k b) = { m with tiles := Map.set m.tiles k b } from if_neg (by simp [h])]
    simp [FloorMap.tileDead, FloorMap.tileByte, dead]

theorem FloorMap.segs_apply_tile (m : FloorMap) (t b : Nat) : (m.apply (.tile t b)).segs = m.segs :=
  ite_related (R := fun a n : FloorMap => n.segs = a.segs) rfl rfl

/-- A dead segment stays dead. -/
theorem FloorMap.segs_apply_segment {m : FloorMap} {k : Nat} (dead : Map.find? m.segs k = some true) (j : Nat) :
    Map.find? (m.apply (.segment j)).segs k = some true := by
  by_cases e : k = j
  · subst e
    exact Map.find?_set_self _ _ _
  · exact (Map.find?_set_ne _ _ _ _ e).trans dead

/-- What every change of a list keeps holds after the list. -/
theorem FloorMap.foldl_apply_keeps {P : FloorMap → Prop} {l : List MapChange}
    (keeps : ∀ c ∈ l, ∀ m : FloorMap, P m → P (m.apply c)) {m : FloorMap} (h : P m) : P (l.foldl FloorMap.apply m) :=
  foldl_related_mem (R := fun a b : FloorMap => P a → P b) (fun _ => id) (fun h k => k ∘ h) l keeps m h

/-- What one change of a list brings about holds after the list, if every change of it keeps it. -/
theorem FloorMap.foldl_apply_of_mem {P : FloorMap → Prop} {l : List MapChange} (keeps : ∀ c ∈ l, ∀ m : FloorMap, P m → P (m.apply c))
    {c : MapChange} (mem : c ∈ l) (sets : ∀ m : FloorMap, P (m.apply c)) (m : FloorMap) : P (l.foldl FloorMap.apply m) := by
  obtain ⟨l₁, l₂, rfl⟩ := List.append_of_mem mem
  rw [List.foldl_append, List.foldl_cons]
  exact FloorMap.foldl_apply_keeps (fun x hx => keeps x (List.mem_append_right _ (List.mem_cons_of_mem _ hx))) (sets _)

/-! ## Findings of Dawn (R36, R380) -/

/-- Nothing changes but the live map, what Dawn counts, and the log. -/
def State.DawnFinds (s t : State) : Prop := t = { s with map := t.map, dawn := t.dawn, log := t.log }

namespace State.DawnFinds

theorem refl (s : State) : s.DawnFinds s := rfl

theorem trans {s t u : State} (h : s.DawnFinds t) (k : t.DawnFinds u) : s.DawnFinds u := by
  unfold State.DawnFinds at *
  rw [k, h]

theorem fold {β : Type} (f : State → β → State) (each : ∀ (s : State) (x : β), s.DawnFinds (f s x)) (l : List β) (s : State) :
    s.DawnFinds (l.foldl f s) :=
  foldl_related State.DawnFinds refl trans f each l s

theorem mapDawn (s : State) (l : List MapChange) : s.DawnFinds (s.mapDawn l) := rfl
theorem dawnDead (s : State) (ts : List Nat) (cause : Nat) : s.DawnFinds (s.dawnDead ts cause) := rfl
theorem wipeFails (s : State) (r : Nat) : s.DawnFinds (s.wipeFails r) := rfl
theorem logRecord (s : State) (k : Nat) (d : List Byte) : s.DawnFinds (s.logRecord k d) := rfl

theorem addRepair (s : State) (x : SramRepair) : s.DawnFinds (s.addRepair x) := by
  unfold State.addRepair
  extract_lets fits u
  exact (logRecord s 4 _).trans (ite_related rfl (dawnDead u _ _))

theorem repairMacro (s : State) (t m : Nat) (cells : List (Nat × Nat)) (retention : Bool) :
    s.DawnFinds (s.repairMacro t m cells retention) := by
  unfold State.repairMacro
  extract_lets done bad
  refine ite_related (refl s) ?_
  split
  · exact dawnDead s [t] 1
  · exact fold State.addRepair addRepair _ s

theorem repairTile (s : State) (t : Nat) (cells : List BadCell) (retention : Bool) : s.DawnFinds (s.repairTile t cells retention) :=
  fold _ (fun u m => repairMacro u t m _ retention) _ s

end State.DawnFinds

/-- The changes that mark tiles dead. -/
def State.deaths (s : State) (ts : List Nat) (cause : Nat) : List MapChange :=
  (ts.filter fun t => !s.map.tileDead t).map fun t => .tile t (128 + cause)

theorem State.map_dawnDead (s : State) (ts : List Nat) (cause : Nat) :
    (s.dawnDead ts cause).map = (s.deaths ts cause).foldl FloorMap.apply s.map := rfl

theorem State.mem_deaths {s : State} {ts : List Nat} {cause : Nat} {c : MapChange} (h : c ∈ s.deaths ts cause) :
    ∃ t, c = .tile t (128 + cause) := by
  obtain ⟨t, -, rfl⟩ := List.mem_map.mp h
  exact ⟨t, rfl⟩

/-- A tile that is dead stays dead whatever Dawn finds of others. -/
theorem State.tileDead_dawnDead_of_dead {s : State} {k : Nat} (dead : s.map.tileDead k = true) (ts : List Nat) (cause : Nat) :
    (s.dawnDead ts cause).map.tileDead k = true := by
  rw [State.map_dawnDead]
  refine FloorMap.foldl_apply_keeps (P := fun m => m.tileDead k = true) (fun c hc m known => ?_) dead
  obtain ⟨t, rfl⟩ := State.mem_deaths hc
  exact FloorMap.tileDead_apply known t _

/-- Tiles that Dawn finds dead are dead in the live map. -/
theorem State.tileDead_dawnDead (s : State) {ts : List Nat} {k : Nat} (h : k ∈ ts) : (s.dawnDead ts 1).map.tileDead k = true := by
  cases known : s.map.tileDead k with
  | true => exact State.tileDead_dawnDead_of_dead known ts 1
  | false =>
    rw [State.map_dawnDead]
    have mem : MapChange.tile k 129 ∈ s.deaths ts 1 :=
      List.mem_map.mpr ⟨k, List.mem_filter.mpr ⟨h, by simp [known]⟩, rfl⟩
    refine FloorMap.foldl_apply_of_mem (P := fun m => m.tileDead k = true) (fun c hc m dead => ?_) mem
      (fun m => m.tileDead_apply_self k rfl) _
    obtain ⟨t, rfl⟩ := State.mem_deaths hc
    exact FloorMap.tileDead_apply dead t _

/-- They change no segment. -/
theorem State.segs_dawnDead (s : State) (ts : List Nat) (cause : Nat) : (s.dawnDead ts cause).map.segs = s.map.segs := by
  rw [State.map_dawnDead]
  refine FloorMap.foldl_apply_keeps (P := fun m => m.segs = s.map.segs) (fun c hc m same => ?_) rfl
  obtain ⟨t, rfl⟩ := State.mem_deaths hc
  exact (m.segs_apply_tile t _).trans same

/-! ## The interconnect test (R40, R379) -/

/-- Segments are marked dead by their keys in the map. -/
def State.killSegments (s : State) (ks : List Nat) : State := s.mapDawn (ks.map MapChange.segment)

theorem State.segs_killSegments_of_dead {s : State} {k : Nat} (dead : Map.find? s.map.segs k = some true) (ks : List Nat) :
    Map.find? (s.killSegments ks).map.segs k = some true := by
  refine FloorMap.foldl_apply_keeps (P := fun m => Map.find? m.segs k = some true) (fun c hc m known => ?_) dead
  obtain ⟨j, -, rfl⟩ := List.mem_map.mp hc
  exact FloorMap.segs_apply_segment known j

theorem State.segs_killSegments (s : State) {ks : List Nat} {k : Nat} (h : k ∈ ks) :
    Map.find? (s.killSegments ks).map.segs k = some true := by
  have mem : MapChange.segment k ∈ ks.map MapChange.segment := List.mem_map.mpr ⟨k, h, rfl⟩
  refine FloorMap.foldl_apply_of_mem (P := fun m => Map.find? m.segs k = some true) (fun c hc m known => ?_) mem
    (fun m => Map.find?_set_self _ _ _) _
  obtain ⟨j, -, rfl⟩ := List.mem_map.mp hc
  exact FloorMap.segs_apply_segment known j

theorem State.segs_killSegments_other (s : State) {ks : List Nat} {k : Nat} (h : k ∉ ks) :
    Map.find? (s.killSegments ks).map.segs k = Map.find? s.map.segs k := by
  refine FloorMap.foldl_apply_keeps (P := fun m => Map.find? m.segs k = Map.find? s.map.segs k) (fun c hc m same => ?_) rfl
  obtain ⟨j, hj, rfl⟩ := List.mem_map.mp hc
  have other : k ≠ j := fun e => h (e ▸ hj)
  exact (Map.find?_set_ne _ _ _ _ other).trans same

/-- The keys of the failed segments that the floor plan has. -/
def segmentKeys (res : InterconnectResult) : List Nat :=
  (res.segments.filter segmentOk).map fun p => 32768 * p.1 + p.2

/-- The tiles with a failed rim lane, in regions that still have their thoroughfare. -/
def State.failedRims (s : State) (res : InterconnectResult) : List Nat :=
  res.rims.filter fun t => decide (t < nTiles) && !s.thoroughfareLost (regionOf t)

/-- The keys of the segments at those tiles. -/
def State.rimKeys (s : State) (res : InterconnectResult) : List Nat :=
  ((s.failedRims res).flatMap fun t => (List.range 12).filterMap (segmentOf t)).map segKey

/-- The regions with a failed sync part. -/
def State.failedSyncs (s : State) (res : InterconnectResult) : List Nat :=
  res.syncs.filter fun r => decide (r < nRegions) && !s.thoroughfareLost r

/-- What the interconnect test records outside SCRAP. -/
def State.interconnectFound (s : State) (res : InterconnectResult) : State :=
  (((s.killSegments (segmentKeys res)).killSegments (s.rimKeys res)).dawnDead (s.failedRims res) 1).dawnDead
    ((s.failedSyncs res).flatMap tilesOfRegion) 1

/-- The state after the interconnect test. -/
def State.interconnectEnded (s : State) (res : InterconnectResult) : State :=
  let u := if s.sector.state = .scrap then s else s.interconnectFound res
  { u with dawn := { u.dawn with interconnect := true, stageEnd := u.clk.wall } }

theorem execInterconnectTest_due {res : InterconnectResult} {s : State} (goes : s.dawnGoes = true) (waves : s.wavesDone = true)
    (first : s.dawn.interconnect = false) (time : s.dawn.started + wallMs 1060 ≤ s.clk.wall) :
    exec (.interconnectTest res) s = .next (s.interconnectEnded res) := by
  have run : exec (.interconnectTest res) s = execInterconnectTest res s := rfl
  unfold execInterconnectTest at run
  rw [if_pos ⟨goes, waves, by simp [first], time⟩] at run
  rw [run]
  unfold State.interconnectEnded State.interconnectFound State.killSegments segmentKeys State.rimKeys
    State.failedRims State.failedSyncs
  simp only [List.map_map]
  rfl

theorem State.DawnFinds.interconnectFound (s : State) (res : InterconnectResult) : s.DawnFinds (s.interconnectFound res) :=
  (((mapDawn s _).trans (mapDawn _ _)).trans (dawnDead _ _ _)).trans (dawnDead _ _ _)

theorem State.segs_interconnectFound {s : State} {res : InterconnectResult} {k : Nat} (h : k ∈ segmentKeys res) :
    Map.find? (s.interconnectFound res).map.segs k = some true := by
  unfold State.interconnectFound
  rw [State.segs_dawnDead, State.segs_dawnDead]
  exact State.segs_killSegments_of_dead (s.segs_killSegments h) _

theorem State.segs_interconnectFound_other {s : State} {res : InterconnectResult} (rims : res.rims = []) {k : Nat}
    (h : k ∉ segmentKeys res) : Map.find? (s.interconnectFound res).map.segs k = Map.find? s.map.segs k := by
  have none_ : s.rimKeys res = [] := by simp [State.rimKeys, State.failedRims, rims]
  unfold State.interconnectFound
  rw [State.segs_dawnDead, State.segs_dawnDead, none_, State.segs_killSegments_other _ List.not_mem_nil,
    State.segs_killSegments_other _ h]

theorem mem_segmentKeys {res : InterconnectResult} {k : Nat} :
    k ∈ segmentKeys res ↔ ∃ p ∈ res.segments, segmentOk p = true ∧ k = 32768 * p.1 + p.2 := by
  simp only [segmentKeys, List.mem_map, List.mem_filter, and_assoc, eq_comm]

/-- The bounds of the four bitmaps (R40). -/
theorem segmentOk_of_bounds {p : Nat × Nat}
    (h : p.1 = 0 ∧ p.2 < 26740 ∨ p.1 = 1 ∧ p.2 < 26688 ∨ p.1 = 2 ∧ p.2 < 25760 ∨ p.1 = 3 ∧ p.2 < 25344) : segmentOk p = true := by
  unfold segmentOk
  rcases h with ⟨e, b⟩ | ⟨e, b⟩ | ⟨e, b⟩ | ⟨e, b⟩ <;> rw [e] <;> exact decide_eq_true b

/-! ## The retention read-back (R378, R379) -/

/-- The cells of a region that the read-back found are repaired with the retention flag. -/
def State.retentionRepaired (s : State) (r : Nat) (res : RetentionResult) : State :=
  ((tilesOfRegion r).filter fun t => (res.cells.any fun c => c.1 == t) && !s.storedMap.tileDead t).foldl
    (fun s t => s.repairTile t ((res.cells.filter fun c => c.1 == t).map (·.2)) true) s

/-- What the read-back of a region records of its cells and links outside SCRAP. -/
def State.retentionFound (s : State) (r : Nat) (res : RetentionResult) : State :=
  if res.links.isEmpty then s.retentionRepaired r res
  else ((s.retentionRepaired r res).dawnDead (tilesOfRegion r) 1).dawnDead
    ((res.links.filter fun x => decide (x < nRegions)).flatMap tilesOfRegion) 1

/-- The state after the read-back of a region. -/
def State.readBackEnded (s : State) (r : Nat) (res : RetentionResult) : State :=
  let u := if s.sector.state = .scrap then s else s.retentionFound r res
  let v := if res.wipeFail then u.wipeFails r else u
  { v with dawn := { v.dawn with readBack := v.dawn.readBack ++ [r], stageEnd := v.clk.wall } }

theorem execRetentionReadback_due {r w : Nat} {res : RetentionResult} {s : State} (goes : s.dawnGoes = true)
    (kept : s.ctl.retention = true) (first : r ∉ s.dawn.readBack) (lit : s.isDark r = false)
    (ended : Map.find? s.dawn.waveEnd r = some w) (time : w + wallMs 1300 ≤ s.clk.wall) :
    exec (.retentionReadback r res) s = .next (s.readBackEnded r res) := by
  have run : exec (.retentionReadback r res) s = execRetentionReadback r res s := rfl
  unfold execRetentionReadback at run
  rw [ended] at run
  exact run.trans (if_pos ⟨goes, kept, by simpa using first, by simp [lit], decide_eq_true time⟩)

theorem State.DawnFinds.retentionFound (s : State) (r : Nat) (res : RetentionResult) : s.DawnFinds (s.retentionFound r res) := by
  have repaired : s.DawnFinds (s.retentionRepaired r res) := fold _ (fun u t => repairTile u t _ true) _ s
  unfold State.retentionFound
  exact ite_related repaired ((repaired.trans (dawnDead _ _ _)).trans (dawnDead _ _ _))

theorem State.tileDead_retentionFound {s : State} {r : Nat} {res : RetentionResult} (links : res.links ≠ []) {k : Nat}
    (h : k ∈ tilesOfRegion r) : (s.retentionFound r res).map.tileDead k = true := by
  unfold State.retentionFound
  rw [if_neg (by simpa using links)]
  exact State.tileDead_dawnDead_of_dead (State.tileDead_dawnDead _ h) _ 1

theorem State.readBackEnded_spec (s : State) (r : Nat) (res : RetentionResult) :
    r ∈ (s.readBackEnded r res).dawn.readBack ∧ (s.readBackEnded r res).stack = s.stack ∧
      (res.links ≠ [] → s.sector.state ≠ .scrap → ∀ k ∈ tilesOfRegion r, (s.readBackEnded r res).map.tileDead k = true) ∧
      (res.wipeFail = true → r ∈ (s.readBackEnded r res).dawn.powerOff) := by
  have found : s.DawnFinds (if s.sector.state = .scrap then s else s.retentionFound r res) :=
    ite_related (.refl s) (.retentionFound s r res)
  have dead : res.links ≠ [] → s.sector.state ≠ .scrap → ∀ k ∈ tilesOfRegion r,
      (if s.sector.state = .scrap then s else s.retentionFound r res).map.tileDead k = true := by
    intro links alive k hk
    rw [if_neg alive]
    exact State.tileDead_retentionFound links hk
  unfold State.readBackEnded
  generalize (if s.sector.state = .scrap then s else s.retentionFound r res) = u at found dead ⊢
  have stack : u.stack = s.stack := by rw [found]
  cases res.wipeFail with
  | false => exact ⟨List.mem_append_right _ List.mem_cons_self, stack, dead, Bool.noConfusion⟩
  | true =>
    exact ⟨List.mem_append_right _ List.mem_cons_self, stack, dead, fun _ => List.mem_append_right _ List.mem_cons_self⟩

/-- Settles O2: outside SCRAP the first two stages are `State.interconnectFound` and `State.retentionFound`. -/
theorem dawnStageEventsRecord : Obligations.DawnStageEventsRecord := by
  unfold Obligations.DawnStageEventsRecord
  refine ⟨?interconnect, ?retention, ?powerOff⟩
  case interconnect =>
    intro res s goes waves first time
    refine ⟨_, execInterconnectTest_due goes waves first time, rfl, ?_, fun alive p hp bounds => ?_, fun rims k others => ?_⟩
    · have found : s.DawnFinds (if s.sector.state = .scrap then s else s.interconnectFound res) :=
        ite_related (.refl s) (.interconnectFound s res)
      change (if s.sector.state = .scrap then s else s.interconnectFound res).stack = s.stack
      rw [found]
    · change Map.find? (if s.sector.state = .scrap then s else s.interconnectFound res).map.segs _ = some true
      rw [if_neg alive]
      exact State.segs_interconnectFound (mem_segmentKeys.mpr ⟨p, hp, segmentOk_of_bounds bounds, rfl⟩)
    · have other : k ∉ segmentKeys res := by
        intro h
        obtain ⟨p, hp, ok, e⟩ := mem_segmentKeys.mp h
        exact others p hp ok e
      exact ite_related (R := fun a b : State => Map.find? b.map.segs k = Map.find? a.map.segs k) (s := s) rfl
        (State.segs_interconnectFound_other rims other)
  case retention =>
    intro r w res s goes kept first lit ended time
    exact ⟨_, execRetentionReadback_due goes kept first lit ended time, s.readBackEnded_spec r res⟩
  case powerOff =>
    intro r s goes due stages time
    refine ⟨_, if_pos ⟨goes, by simpa using due, stages, time⟩, ?_, rfl, fun k hk => s.tileDead_dawnDead hk⟩
    simp

/-! ## The end of Dawn (R36, R37, R380) -/

/-- Before BIST_DONE the changes that wait join those of Dawn. -/
theorem State.mergeMap_night {s : State} (night : s.dawn.bistDone = false) :
    s.mergeMap = ({ s with mapNext := [] } : State).mapDawn s.mapNext := by
  unfold State.mergeMap
  split
  · next none_ =>
    have idle := List.isEmpty_iff.mp none_
    have same : ({ s with mapNext := [] } : State) = s := by rw [← idle]
    rw [same, idle]
    simp [State.mapDawn, FloorMap.gains]
  · exact if_pos (by simp [night])

/-- The map that Dawn leaves has one generation more exactly where an entry was added. -/
theorem State.settleMap_gen {s : State} (night : s.dawn.bistDone = false) :
    s.settleMap.map.gen = if s.dawn.added || s.map.gains s.mapNext then wrap32 (s.map.gen + 1) else s.map.gen := by
  have gen : (s.mapNext.foldl FloorMap.apply s.map).gen = s.map.gen := FloorMap.gen_foldl_apply _ _
  unfold State.settleMap
  rw [if_neg (by simp [night]), State.mergeMap_night night]
  unfold State.closeDawnMap
  change FloorMap.gen (State.map (if s.dawn.added || s.map.gains s.mapNext then _ else _)) = _
  split
  · exact congrArg (fun n => wrap32 (n + 1)) gen
  · exact gen

/-- The end of a life-cycle change leaves the live map and the progress of Dawn (R410 to R412). -/
theorem State.finishChange_frame (s : State) (t : Transition) (failed : List Nat) (wipeOk : Bool) :
    (s.finishChange t failed wipeOk).map = s.map ∧ (s.finishChange t failed wipeOk).mapNext = s.mapNext ∧
      (s.finishChange t failed wipeOk).stack = s.stack ∧
      (s.finishChange t failed wipeOk).dawn.on = s.dawn.on ∧ (s.finishChange t failed wipeOk).dawn.bistDone = s.dawn.bistDone := by
  unfold State.finishChange
  extract_lets old u v seq w
  rw [State.raiseVector_frame]
  refine ite_related (R := fun a b : State => b.map = a.map ∧ b.mapNext = a.mapNext ∧ b.stack = a.stack ∧ b.dawn.on = a.dawn.on ∧
    b.dawn.bistDone = a.dawn.bistDone) ?_ ?_ <;> exact ⟨rfl, rfl, rfl, rfl, rfl⟩

/-- Dawn is over: the map is closed and BIST_DONE set (R380). -/
def State.dawnClosed (s : State) : State :=
  { s.settleMap with dawn := { s.settleMap.dawn with on := false, bistDone := true, belowFloor := !s.settleMap.map.meetsFloor } }

/-- The final stage closes Dawn; after that only a record and the end of an interrupted change are left to do. -/
theorem execDawnFinalStage_due {s : State} (goes : s.dawnGoes = true) (stages : s.stagesDone = true) (idle : s.dawn.powerOff = [])
    (alive : s.sector.state ≠ .scrap) :
    ∃ t, exec .dawnFinalStage s = .next t ∧ t.map = s.dawnClosed.map ∧ t.mapNext = s.dawnClosed.mapNext ∧
      t.stack = s.dawnClosed.stack ∧ t.dawn.on = false ∧ t.dawn.bistDone = true := by
  have run : exec .dawnFinalStage s = execDawnFinalStage s := rfl
  unfold execDawnFinalStage at run
  rw [if_pos ⟨goes, stages, by simp [idle], alive⟩] at run
  dsimp only at run
  split at run
  · exact ⟨_, run, State.finishChange_frame _ _ _ _⟩
  · exact ⟨_, run, rfl, rfl, rfl, rfl, rfl⟩

/-- Nothing changes but pending bits and what has left the module, as for a vector (R329). -/
def State.VectorOnly (s t : State) : Prop := t = { s with host := t.host, out := t.out }

theorem State.VectorOnly.trans {s t u : State} (h : s.VectorOnly t) (k : t.VectorOnly u) : s.VectorOnly u := by
  unfold State.VectorOnly at *
  rw [k, h]

theorem State.VectorOnly.raiseVector (s : State) (v : Nat) : s.VectorOnly (s.raiseVector v) := s.raiseVector_frame v

/-- READY has risen on the final map; the spines start at the next tick (R382). -/
def State.atReady (s : State) : State :=
  { s.mergeMap with dawn := { s.mergeMap.dawn with ready := true, firstReady := true, release := true } }

/-- With its conditions met, READY rises and vectors report it. -/
theorem execReadyReached_due {s : State} (on : s.dawn.powered = true) (free : s.dawn.modReset = false) (first : s.dawn.firstReady = false)
    (day : s.dawn.bistDone = true) (settled : s.stacksReady = true) (trained : s.trainDone = true) (reset : s.dawn.cmpReset = false)
    (pin : s.dawn.cmpPin = false) :
    ∃ t, exec .readyReached s = .next t ∧ s.atReady.VectorOnly t := by
  have run : exec .readyReached s = execReadyReached s := rfl
  unfold execReadyReached at run
  rw [if_pos ⟨on, day, settled, trained, by simp [reset, pin, first, free]⟩] at run
  have told : s.atReady.VectorOnly (s.atReady.raiseVector vecReady) := .raiseVector _ _
  exact ⟨_, run, ite_related (R := State.VectorOnly) (told.trans (.raiseVector _ vecFirmware)) told⟩

/-- Without one of them nothing happens. -/
theorem execReadyReached_early {s : State}
    (h : s.dawn.bistDone = false ∨ s.stacksReady = false ∨ s.trainDone = false ∨ s.dawn.cmpReset = true ∨ s.dawn.cmpPin = true) :
    exec .readyReached s = .next s := by
  refine if_neg ?_
  rintro ⟨-, day, settled, trained, reset, pin, -⟩
  simp_all

/-- Settles O4: the final stage goes by `State.settleMap`, READY by `State.mergeMap`. -/
theorem dawnEndsAndReadyRises : Obligations.DawnEndsAndReadyRises := by
  unfold Obligations.DawnEndsAndReadyRises
  refine ⟨?final, ?ready⟩
  case final =>
    intro s goes stages idle alive night
    obtain ⟨t, run, map, waiting, stack, ended, done⟩ := execDawnFinalStage_due goes stages idle alive
    have settled : s.dawnClosed.stack = s.stack ∧ s.dawnClosed.mapNext = [] := by
      unfold State.dawnClosed
      rw [State.settleMap_frame]
      exact ⟨rfl, rfl⟩
    exact ⟨t, run, done, ended, stack.trans settled.1, waiting.trans settled.2,
      (congrArg FloorMap.gen map).trans (State.settleMap_gen night)⟩
  case ready =>
    intro s on free first
    refine ⟨fun day settled trained reset pin => ?_, execReadyReached_early⟩
    obtain ⟨t, run, frame⟩ := execReadyReached_due on free first day settled trained reset pin
    have merged := s.mergeMap_frame
    have map : t.map = s.mergeMap.map := by rw [frame]; rfl
    have kept : s.mergeMap.stack = s.stack ∧ s.mergeMap.tiles = s.tiles ∧ s.mergeMap.mapNext = [] := by
      rw [merged]
      exact ⟨rfl, rfl, rfl⟩
    obtain ⟨stack, tiles, waiting⟩ := kept
    refine ⟨t, run, ?_, ?_, ?_, ?_, ?_, ?_, fun idle => ?_, fun waits => map ▸ s.mergeMap_step.2 waits day⟩
    · rw [frame]; rfl
    · rw [frame]; rfl
    · rw [frame]; rfl
    · rw [frame]; exact stack
    · rw [frame]; exact tiles
    · rw [frame]; exact waiting
    · rw [map, show s.mergeMap = s from if_pos (by simp [idle])]

end Sys2Proof.Machine
end

section
/-! PROOFS. The commands of FW_CMD and TST_CMD: staging, activation, the end of a trial, stored configurations, runs of the test
engine and refurbishments (R44, R257, R400 to R406, R418, R433, R434). -/

namespace Sys2Proof.Machine

/-! ## Requests through an open port (R322, R324) -/

/-- FW_CMD. -/
theorem PortOpen.firmwareCommand {s : State} {port : Nat} (h : PortOpen s port) (hr : s.ctl.recovery = false) {c : Nat} (hc : c < 8) :
    s.hostWrite8 port 0x1E0008 c = .next (s.fwCommand c) := by
  have hs : s.served 0x1E0008 = true := by simp [State.served, hr]
  have command : c % 2 ^ 64 % 8 = c := by omega
  refine (h.registerWrite _ 8 c (by omega)).trans ?_
  simp only [State.writeReg, State.writeFw, hs, mergeWrite_whole, command]
  rfl

/-- TST_CMD, in the states in which its block is served. -/
theorem PortOpen.testCommand {s : State} {port : Nat} (h : PortOpen s port) (hr : s.ctl.recovery = false)
    (hf : s.dawn.firstReady = true) (ht : s.sector.state.testable = true) {c : Nat} (hc : c < 4) :
    s.hostWrite8 port 0x1C0000 c = .next (s.testCommand c) := by
  have hs : s.served 0x1C0000 = true := by simp [State.served, hr, hf, ht]
  have command : c % 2 ^ 64 % 4 = c := by omega
  refine (h.registerWrite _ 8 c (by omega)).trans ?_
  simp only [State.writeReg, State.writeTst, hs, mergeWrite_whole, command]
  rfl

/-! ## Reads of a source in the stacks (R257, R259) -/

/-- Nothing changes but what a read of the stacks reports: counters of gates, bursts known to be bad, the log, error records, and
free values. -/
def State.ReadWork (s t : State) : Prop :=
  t = { s with gates := t.gates, stackUe := t.stackUe, log := t.log, err := t.err, plan := t.plan, free := t.free }

namespace State.ReadWork

theorem refl (s : State) : s.ReadWork s := rfl

theorem trans {s t u : State} (h : s.ReadWork t) (k : t.ReadWork u) : s.ReadWork u := by
  unfold State.ReadWork at *
  rw [k, h]

theorem fold {β : Type} (f : State → β → State) (each : ∀ (s : State) (x : β), s.ReadWork (f s x)) (l : List β) (s : State) :
    s.ReadWork (l.foldl f s) :=
  foldl_related State.ReadWork refl trans f each l s

theorem listRow (s : State) (g row cause : Nat) : s.ReadWork (s.listRow g row cause) := by
  unfold State.listRow
  extract_lets l u
  exact ite_related (refl s) (ite_related (ite_related (refl s) rfl) rfl)

theorem countCorrected (s : State) (g a : Nat) : s.ReadWork (s.countCorrected g a) := by
  unfold State.countCorrected
  extract_lets x n u
  have counted : s.ReadWork u := rfl
  exact ite_related (counted.trans (listRow u g _ 2)) counted

theorem countHard (s : State) (g ring b : Nat) (fails : Bool) : s.ReadWork (s.countHard g ring b fails) := by
  unfold State.countHard
  extract_lets u v
  have counted : s.ReadWork v := rfl
  have recorded : ∀ w : State, w.ReadWork (w.addError (.stackUe g ring (32 * b)) fails) := fun _ => rfl
  exact (counted.trans (listRow v g _ 1)).trans (recorded _)

theorem loadReport (s : State) (a n : Nat) (known : List Nat) (e : EccReport) (fails : Bool) :
    s.ReadWork (s.loadReport a n known e fails).1 := by
  unfold State.loadReport
  extract_lets mine hard u v w
  have counted : s.ReadWork u := rfl
  have freed : w.ReadWork { w with free := w.free + hard.length } := rfl
  exact ((counted.trans (fold _ (fun z x => countCorrected z _ x) _ u)).trans
    (fold _ (fun z b => countHard z _ _ b fails) _ v)).trans freed

theorem stackLoad (s : State) (a n : Nat) (e : EccReport) (fails : Bool) : s.ReadWork (s.stackLoad a n e fails).1 :=
  loadReport s a n _ e fails

end State.ReadWork

/-! ## STAGE (R400, R401) -/

theorem State.stageSource_work {s : State} (hr : s.ctl.recovery = false) : s.ReadWork s.stageSource.1 := by
  unfold State.stageSource
  rw [if_neg (by simp [hr])]
  exact .stackLoad s _ _ _ _

/-- The inactive image has taken the source's bytes and awaits its verification (R400). -/
def State.staged (s : State) : State :=
  let u := s.stageSource.1.modImg (!s.ctl.image) fun x => { x with bytes := s.stageSource.2, valid := false }
  { u with ctl := { u.ctl with stageBusy := true, stageResult := 0, fwAuthStaged := u.sector.state == LcState.owned } }

theorem State.staged_keeps {s : State} (hr : s.ctl.recovery = false) :
    s.staged.sector = s.sector ∧ s.staged.stack = s.stack ∧ s.staged.img s.ctl.image = s.img s.ctl.image := by
  have work := State.stageSource_work hr
  have images : s.stageSource.1.images = s.images := by rw [work]
  have copied : s.staged.images = (s.stageSource.1.modImg (!s.ctl.image) fun x =>
      { x with bytes := s.stageSource.2, valid := false }).images := rfl
  refine ⟨?_, ?_, (State.img_congr copied _).trans ((State.img_modImg_other _ _ _).trans (State.img_congr images _))⟩
  · change s.stageSource.1.sector = s.sector
    rw [work]
  · change s.stageSource.1.stack = s.stack
    rw [work]

theorem State.img_staged (s : State) : s.staged.img (!s.ctl.image) =
    { s.stageSource.1.img (!s.ctl.image) with bytes := s.stageSource.2, valid := false } :=
  State.img_modImg s.stageSource.1 _ fun x => { x with bytes := s.stageSource.2, valid := false }

section
variable {s : State} {auth : Bool}

theorem State.stageCommand_accepted (hr : s.ctl.recovery = false)
    (ha : auth = (!s.ctl.fwAuthStaged && s.ctl.fwAuth == some (headerDigest s.stageSource.2))) (ok : s.stageRefusal auth = 0) :
    s.stageCommand = s.staged.logFirmware 1 (!s.ctl.image) := by
  unfold State.stageCommand
  dsimp only
  rw [hr, ← ha, ok]
  rfl

theorem State.stageCommand_refused (hr : s.ctl.recovery = false)
    (ha : auth = (!s.ctl.fwAuthStaged && s.ctl.fwAuth == some (headerDigest s.stageSource.2))) (no : s.stageRefusal auth ≠ 0) :
    s.stageCommand = (s.fwResult (s.stageRefusal auth)).raiseVector vecFirmware := by
  unfold State.stageCommand
  dsimp only
  rw [hr, ← ha]
  exact if_pos no

theorem State.stageCommand_spec (hr : s.ctl.recovery = false)
    (ha : auth = (!s.ctl.fwAuthStaged && s.ctl.fwAuth == some (headerDigest s.stageSource.2))) :
    s.stageCommand.sector = s.sector ∧ s.stageCommand.stack = s.stack ∧
      (s.stageRefusal auth = 0 → s.stageCommand.ctl.stageBusy = true ∧ s.stageCommand.ctl.stageResult = 0 ∧
        (s.stageCommand.img (!s.ctl.image)).bytes = s.stageSource.2 ∧ (s.stageCommand.img (!s.ctl.image)).valid = false ∧
        s.stageCommand.img s.ctl.image = s.img s.ctl.image) ∧
      (s.stageRefusal auth ≠ 0 → s.stageCommand.ctl = { s.ctl with stageResult := s.stageRefusal auth } ∧
        s.stageCommand.images = s.images) ∧
      (s.sector.state = .locked ∨ s.sector.state = .transit ∨ s.sector.state = .scrap → s.stageCommand.ctl.stageResult = 5) := by
  have barred : s.sector.state = .locked ∨ s.sector.state = .transit ∨ s.sector.state = .scrap → s.stageRefusal auth = 5 :=
    fun h => if_pos h
  by_cases ok : s.stageRefusal auth = 0
  · rw [State.stageCommand_accepted hr ha ok]
    obtain ⟨sector, stack, other⟩ := State.staged_keeps hr
    have logged : ∀ c, (s.staged.logFirmware 1 (!s.ctl.image)).img c = s.staged.img c := State.img_congr rfl
    refine ⟨sector, stack, fun _ => ⟨rfl, rfl, ?_, ?_, (logged _).trans other⟩, fun no => absurd ok no, fun h => ?_⟩
    · rw [logged, State.img_staged]
    · rw [logged, State.img_staged]
    · rw [barred h] at ok
      exact absurd ok (by decide)
  · rw [State.stageCommand_refused hr ha ok, State.raiseVector_frame]
    exact ⟨rfl, rfl, fun h => absurd h ok, fun _ => ⟨rfl, rfl⟩, barred⟩

/-! ## ACTIVATE, CONFIRM and REVERT (R401, R402) -/

theorem State.activateCommand_spec (hr : s.ctl.recovery = false)
    (ha : auth = (s.ctl.fwAuthStaged && s.ctl.fwAuth == some (headerDigest (s.img (!s.ctl.image)).bytes))) :
    s.activateCommand.images = s.images ∧ s.activateCommand.stack = s.stack ∧
      (s.stageRefusal auth = 0 → (s.img (!s.ctl.image)).valid = true →
        s.activateCommand.sector = { s.sector with activation := true } ∧ s.activateCommand.ctl.stageResult = 1) ∧
      (s.stageRefusal auth = 0 → (s.img (!s.ctl.image)).valid = false →
        s.activateCommand.sector = s.sector ∧ s.activateCommand.ctl.stageResult = 2) ∧
      (s.stageRefusal auth ≠ 0 → s.activateCommand.sector = s.sector ∧
        s.activateCommand.ctl = { s.ctl with stageResult := s.stageRefusal auth }) := by
  unfold State.activateCommand
  dsimp only
  rw [← ha, if_neg (by simp [hr])]
  by_cases ok : s.stageRefusal auth = 0
  · rw [if_neg (not_not_intro ok)]
    cases valid : (s.img (!s.ctl.image)).valid with
    | true => exact ⟨rfl, rfl, fun _ _ => ⟨rfl, rfl⟩, fun _ h => Bool.noConfusion h, fun no => absurd ok no⟩
    | false => exact ⟨rfl, rfl, fun _ h => Bool.noConfusion h, fun _ _ => ⟨rfl, rfl⟩, fun no => absurd ok no⟩
  · rw [if_pos ok]
    exact ⟨rfl, rfl, fun h => absurd h ok, fun h => absurd h ok, fun _ => ⟨rfl, rfl⟩⟩

theorem State.confirmCommand_spec (hr : s.ctl.recovery = false) :
    s.confirmCommand.images = s.images ∧
      (s.sector.trial = true → s.confirmCommand.sector = { s.sector with
        active := s.ctl.image, trial := false, activation := false
        svnMin := max s.sector.svnMin (imgSvn (s.img s.ctl.image).bytes) }) ∧
      (s.sector.trial = false → s.confirmCommand = s) := by
  unfold State.confirmCommand
  cases trial : s.sector.trial with
  | true =>
    rw [hr]
    exact ⟨rfl, fun _ => rfl, fun h => Bool.noConfusion h⟩
  | false => exact ⟨rfl, fun h => Bool.noConfusion h, fun _ => rfl⟩

theorem State.revertCommand_spec (hr : s.ctl.recovery = false) :
    s.revertCommand.images = s.images ∧
      (s.sector.trial = true → s.revertCommand.sector = { s.sector with
        active := !s.ctl.image, trial := false, activation := false }) ∧
      (s.sector.trial = false → s.revertCommand = s) := by
  unfold State.revertCommand
  cases trial : s.sector.trial with
  | true =>
    rw [hr]
    exact ⟨rfl, fun _ => rfl, fun h => Bool.noConfusion h⟩
  | false => exact ⟨rfl, fun h => Bool.noConfusion h, fun _ => rfl⟩

/-! ## CFG_STORE (R406) -/

theorem State.cfgStoreCommand_spec (hr : s.ctl.recovery = false) {o : List Byte}
    (ho : o = (s.stackLoad s.ctl.src 304 cleanReport true).2.bytes s.ctl.src 304) (ha : auth = (s.ctl.cfgAuth == some (sha384 o))) :
    s.cfgStoreCommand.images = s.images ∧ s.cfgStoreCommand.sector = s.sector ∧
      (s.stageRefusal auth = 0 ∨ s.stageRefusal auth = 7 → s.ctl.size = 304 →
        s.cfgStoreCommand.ctl.storing = some o ∧ s.cfgStoreCommand.ctl.stageResult = 0) ∧
      (s.stageRefusal auth = 0 ∨ s.stageRefusal auth = 7 → s.ctl.size ≠ 304 →
        s.cfgStoreCommand.ctl = { s.ctl with stageResult := 2 }) ∧
      (s.stageRefusal auth ≠ 0 → s.stageRefusal auth ≠ 7 →
        s.cfgStoreCommand.ctl = { s.ctl with stageResult := s.stageRefusal auth }) := by
  have work := State.ReadWork.stackLoad s s.ctl.src 304 cleanReport true
  unfold State.cfgStoreCommand
  dsimp only
  rw [← ho, ← ha, if_neg (by simp [hr])]
  by_cases no : s.stageRefusal auth ≠ 0 ∧ s.stageRefusal auth ≠ 7
  · rw [if_pos no]
    have never : ¬ (s.stageRefusal auth = 0 ∨ s.stageRefusal auth = 7) := fun h => h.elim no.1 no.2
    exact ⟨rfl, rfl, fun h => absurd h never, fun h => absurd h never, fun _ _ => rfl⟩
  · rw [if_neg no]
    by_cases size : s.ctl.size = 304
    · rw [if_neg (not_not_intro size)]
      refine ⟨?_, ?_, fun _ _ => ⟨rfl, rfl⟩, fun _ h => absurd size h, fun h k => absurd ⟨h, k⟩ no⟩
      all_goals
        dsimp only
        rw [work]
    · rw [if_pos size]
      exact ⟨rfl, rfl, fun _ h => absurd h size, fun _ _ => rfl, fun h k => absurd ⟨h, k⟩ no⟩

end

/-! ## STAGE_COMPLETE (R257, R400) -/

/-- The inactive image with what the read of its source reported. -/
def State.stageRead (s : State) (e : EccReport) : State :=
  (s.loadReport s.ctl.src s.ctl.size [] e true).1.modImg (!s.ctl.image) fun x =>
    { x with bytes := (spoil x.bytes s.ctl.src s.free (s.loadReport s.ctl.src s.ctl.size [] e true).2).slice 0 s.ctl.size }

/-- The verification's result for the bytes read. -/
def State.stageVerdict (s : State) (e : EccReport) : Nat :=
  verifyImage s.sector.firmwareKey s.sector.svnMin ((s.stageRead e).img (!s.ctl.image)).bytes s.ctl.size

/-- STAGE_RESULT of a verification's result and the end of the programming. -/
def stageCode (v : Nat) (flashOk : Bool) : Nat := if v ≠ 1 then v else if flashOk then 1 else 9

/-- The image is valid if both are good. -/
def State.stageJudged (s : State) (e : EccReport) (code : Nat) : State :=
  if code ≠ 1 then s.stageRead e else (s.stageRead e).modImg (!s.ctl.image) fun x => { x with valid := true }

theorem State.stageRead_keeps (s : State) (e : EccReport) :
    (s.stageRead e).sector = s.sector ∧ (s.stageRead e).ctl = s.ctl ∧ (s.stageRead e).stack = s.stack ∧
      (s.stageRead e).img s.ctl.image = s.img s.ctl.image := by
  have work := State.ReadWork.loadReport s s.ctl.src s.ctl.size [] e true
  have images : (s.loadReport s.ctl.src s.ctl.size [] e true).1.images = s.images := by rw [work]
  refine ⟨?_, ?_, ?_, (State.img_modImg_other _ _ _).trans (State.img_congr images _)⟩
  all_goals
    unfold State.stageRead State.modImg State.setImg
    dsimp only
    rw [work]

/-- A read that reports nothing leaves the bytes as they were taken. -/
theorem State.img_stageRead_clean (s : State) :
    (s.stageRead cleanReport).img (!s.ctl.image) =
      { s.img (!s.ctl.image) with bytes := (s.img (!s.ctl.image)).bytes.slice 0 s.ctl.size } := by
  unfold State.stageRead
  rw [State.img_modImg, State.loadReport_clean s _ _ rfl rfl]
  rfl

theorem State.stageDone_eq {s : State} (hr : s.ctl.recovery = false) (ok : Bool) (e : EccReport) :
    s.stageDone ok e = (({ s.stageJudged e (stageCode (s.stageVerdict e) ok) with
      ctl := { (s.stageJudged e (stageCode (s.stageVerdict e) ok)).ctl with stageBusy := false } } : State).fwResult
        (stageCode (s.stageVerdict e) ok)).raiseVector vecFirmware := by
  obtain ⟨sector, ctl, -, -⟩ := s.stageRead_keeps e
  have read : ((s.loadReport s.ctl.src s.ctl.size [] e true).1.modImg (!s.ctl.image) fun x =>
      { x with bytes := (spoil x.bytes s.ctl.src s.free (s.loadReport s.ctl.src s.ctl.size [] e true).2).slice 0 s.ctl.size }) =
    s.stageRead e := rfl
  have kept : ∀ f : Image → Image, ((s.stageRead e).modImg (!s.ctl.image) f).ctl.recovery = false := fun _ => (congrArg Ctl.recovery ctl).trans hr
  unfold State.stageDone
  simp only [hr, read, sector, ctl, kept, Bool.false_eq_true, if_false]
  rfl

theorem State.stageJudged_keeps (s : State) (e : EccReport) (code : Nat) :
    (s.stageJudged e code).sector = s.sector ∧ (s.stageJudged e code).stack = s.stack ∧
      (s.stageJudged e code).img s.ctl.image = s.img s.ctl.image := by
  obtain ⟨sector, -, stack, other⟩ := s.stageRead_keeps e
  unfold State.stageJudged
  split
  · exact ⟨sector, stack, other⟩
  · exact ⟨sector, stack, (State.img_modImg_other _ _ _).trans other⟩

/-- With a read that reports nothing, the code alone decides whether the image becomes valid. -/
theorem State.img_stageJudged_clean (s : State) (code : Nat) :
    (s.stageJudged cleanReport code).img (!s.ctl.image) = { s.img (!s.ctl.image) with
      bytes := (s.img (!s.ctl.image)).bytes.slice 0 s.ctl.size
      valid := if code = 1 then true else (s.img (!s.ctl.image)).valid } := by
  unfold State.stageJudged
  by_cases good : code = 1
  · rw [if_neg (not_not_intro good), if_pos good, State.img_modImg, State.img_stageRead_clean]
  · rw [if_pos good, if_neg good, State.img_stageRead_clean]

theorem State.stageVerdict_clean (s : State) : s.stageVerdict cleanReport =
    verifyImage s.sector.firmwareKey s.sector.svnMin ((s.img (!s.ctl.image)).bytes.slice 0 s.ctl.size) s.ctl.size := by
  rw [State.stageVerdict, State.img_stageRead_clean]

/-- What the end of a staging leaves, by the code that it shows. -/
theorem execStageComplete_busy {s : State} (busy : s.ctl.stageBusy = true) (hr : s.ctl.recovery = false) (ok : Bool) (e : EccReport)
    {code : Nat} (hc : code = stageCode (s.stageVerdict e) ok) :
    ∃ t, exec (.stageComplete ok e) s = .next t ∧ t.ctl.stageBusy = false ∧ t.ctl.stageResult = code ∧ t.sector = s.sector ∧
      t.stack = s.stack ∧ t.images = (s.stageJudged e code).images := by
  subst hc
  obtain ⟨sector, stack, -⟩ := s.stageJudged_keeps e (stageCode (s.stageVerdict e) ok)
  refine ⟨_, congrArg Host.Outcome.next (if_pos busy), ?_⟩
  rw [State.stageDone_eq hr, State.raiseVector_frame]
  exact ⟨rfl, rfl, sector, stack, rfl⟩

/-! ## CFG_STORE_COMPLETE (R257, R406) -/

/-- The record of the running image takes the owner section that waits to be stored. -/
theorem State.cfg_storeOwner {s : State} {o : List Byte} (h : s.ctl.storing = some o) :
    ∃ c, (s.storeOwner.img s.ctl.image).cfg = some c ∧ c.owner = o := by
  have stored : s.storeOwner.images = (s.modCfg s.ctl.image fun c =>
      { c with storeSeq := wrap32 (c.storeSeq + 1), owner := o }).images := by
    unfold State.storeOwner
    rw [h]
    rfl
  rw [State.img_congr stored, State.modCfg, State.img_modImg]
  exact ⟨_, rfl, rfl⟩

/-- The owner section that is to be stored, with what the read of its source reported. -/
def State.ownerRead (s : State) (o : List Byte) (e : EccReport) : List Byte :=
  (spoil (Memory.putBytes [] 0 o) s.ctl.src s.free (s.loadReport s.ctl.src 304 [] e true).2).bytes 0 304

theorem State.ownerRead_clean (s : State) {o : List Byte} (h : o.length = 304) : s.ownerRead o cleanReport = o := by
  have bytes := Memory.bytes_putBytes [] 0 o Memory.wf_nil 0 304 (by omega)
  rw [List.drop_zero, List.take_of_length_le (by omega)] at bytes
  unfold State.ownerRead
  rw [State.loadReport_clean s _ _ rfl rfl]
  exact bytes

/-- The state in which the section read is to be stored. -/
def State.ownerTaken (s : State) (o : List Byte) (e : EccReport) : State :=
  { (s.loadReport s.ctl.src 304 [] e true).1 with
    ctl := { (s.loadReport s.ctl.src 304 [] e true).1.ctl with storing := some (s.ownerRead o e) } }

theorem State.ownerTaken_frame (s : State) (o : List Byte) (e : EccReport) :
    (s.ownerTaken o e).sector = s.sector ∧ (s.ownerTaken o e).stack = s.stack ∧ (s.ownerTaken o e).images = s.images ∧
      (s.ownerTaken o e).ctl = { s.ctl with storing := some (s.ownerRead o e) } := by
  have work := State.ReadWork.loadReport s s.ctl.src 304 [] e true
  unfold State.ownerTaken
  refine ⟨?_, ?_, ?_, ?_⟩
  all_goals
    dsimp only
    rw [work]

theorem execCfgStoreComplete_storing {s : State} {o : List Byte} (h : s.ctl.storing = some o) (ok : Bool) (e : EccReport) :
    ∃ t, exec (.cfgStoreComplete ok e) s = .next t ∧ t.ctl.storing = none ∧ t.sector = s.sector ∧ t.stack = s.stack ∧
      (ok = true → t.ctl.stageResult = 1 ∧ ∃ c, (t.img s.ctl.image).cfg = some c ∧ c.owner = s.ownerRead o e) ∧
      (ok = false → t.ctl.stageResult = 9 ∧ t.images = s.images) := by
  obtain ⟨sector, stack, images, ctl⟩ := s.ownerTaken_frame o e
  cases ok with
  | true =>
    have run : exec (.cfgStoreComplete true e) s = .next ((s.ownerTaken o e).storeOwner.fwResult 1) := by
      change Host.Outcome.next (s.cfgStoreDone true e) = _
      unfold State.cfgStoreDone
      rw [h]
      rfl
    have frame := (s.ownerTaken o e).storeOwner_frame
    obtain ⟨c, stored, owner⟩ := State.cfg_storeOwner (s := s.ownerTaken o e) (o := s.ownerRead o e) (by rw [ctl])
    rw [ctl] at stored
    refine ⟨_, run, ?_, ?_, ?_, fun _ => ⟨rfl, c, stored, owner⟩, fun h => Bool.noConfusion h⟩
    · change (s.ownerTaken o e).storeOwner.ctl.storing = none
      rw [frame]
    · change (s.ownerTaken o e).storeOwner.sector = s.sector
      rw [frame]
      exact sector
    · change (s.ownerTaken o e).storeOwner.stack = s.stack
      rw [frame]
      exact stack
  | false =>
    have run : exec (.cfgStoreComplete false e) s = .next (s.cfgStoreDone false e) := rfl
    unfold State.cfgStoreDone at run
    rw [h] at run
    exact ⟨_, run, rfl, sector, stack, fun h => Bool.noConfusion h, fun _ => ⟨rfl, images⟩⟩

/-! ## The end of a RUN (R433, R434) -/

/-- A tile that is not reset stays as it is. -/
theorem State.getTile_foldl_modTile_other {f : Tile → Tile} {k : Nat} {l : List Nat} (h : k ∉ l) (s : State) :
    (l.foldl (fun s t => s.modTile t f) s).getTile k = s.getTile k := by
  refine foldl_related_mem (R := fun a b : State => b.getTile k = a.getTile k) (fun _ => rfl) (fun h k => k.trans h) l
    (fun t ht u => State.getTile_setTile_ne u _ t k fun e => h (e ▸ ht)) s

/-- A tile that is listed has been changed, perhaps more than once. -/
theorem State.getTile_foldl_modTile {f : Tile → Tile} {k : Nat} {l : List Nat} (h : k ∈ l) (s : State) :
    ∃ x, (l.foldl (fun s t => s.modTile t f) s).getTile k = f x := by
  induction l generalizing s with
  | nil => exact absurd h List.not_mem_nil
  | cons t rest ih =>
    by_cases later : k ∈ rest
    · exact ih later _
    · obtain rfl : k = t := (List.mem_cons.mp h).resolve_right later
      exact ⟨s.getTile k, (State.getTile_foldl_modTile_other later _).trans (State.getTile_setTile _ _ _)⟩

/-- The tiles of the run are reset. -/
def State.targetsReset (s : State) : State := s.tst.targets.foldl (fun s t => s.modTile t Tile.afterReset) s

theorem State.targetsReset_frame (s : State) : s.targetsReset = { s with tiles := s.targetsReset.tiles } :=
  foldl_related (fun a b : State => b = { a with tiles := b.tiles }) (fun _ => rfl) (fun h k => by rw [k, h]) _ (fun _ _ => rfl) _ s

theorem execTestComplete_run {s : State} (busy : s.tst.busy = true) (run : s.tst.refurb = false) (res : TestResult) :
    ∃ t, exec (.testComplete res) s = .next t ∧ t = { s.targetsReset with tst := t.tst } ∧ t.tst.busy = false ∧
      (s.tst.abort = true → t.tst.result = 3) ∧ (s.tst.abort = false → res.pass = true → t.tst.result = 1) := by
  have outcome : exec (.testComplete res) s = .next (s.runDone res) := by
    change Host.Outcome.next (if !s.tst.busy then s else if s.tst.refurb then s.refurbDone res else s.runDone res) = _
    rw [busy, run]
    rfl
  refine ⟨_, outcome, rfl, rfl, fun abort => if_pos abort, fun whole pass => ?_⟩
  unfold State.runDone
  dsimp only
  rw [whole, pass]
  rfl

/-! ## The end of a REFURB (R44, R418, R434) -/

/-- The changes of the map that a refurbishment leaves for the tick. -/
def State.refurbChanges (s : State) (res : TestResult) : List MapChange :=
  rebuildOf res :: (res.rails.filter fun r => decide (r < nRegions) && s.isDark r).map MapChange.relight

/-- The end of a refurbishment is counted and recorded; a passed one is remembered. -/
theorem State.closeRefurb_spec (s : State) (pass : Bool) (fuses rails better result : Nat) :
    (s.closeRefurb pass fuses rails better result).tst.busy = false ∧
      (s.closeRefurb pass fuses rails better result).tst.result = result ∧
      (s.closeRefurb pass fuses rails better result).log.refurbs = s.log.refurbs + 1 ∧
      (s.closeRefurb pass fuses rails better result).sector =
        { s.sector with refurbPassed := s.sector.refurbPassed || pass } := by
  refine ⟨rfl, rfl, ?_, rfl⟩
  unfold State.closeRefurb
  rw [State.logRecord_log]

theorem State.closeRefurb_keeps (s : State) (pass : Bool) (fuses rails better result : Nat) :
    (s.closeRefurb pass fuses rails better result).stack = s.stack ∧ (s.closeRefurb pass fuses rails better result).map = s.map ∧
      (s.closeRefurb pass fuses rails better result).mapNext = s.mapNext := ⟨rfl, rfl, rfl⟩

/-- One that was not aborted leaves the rebuilt map as changes for the tick, and passes only if that map meets its floor. -/
theorem State.refurbDone_whole {s : State} (whole : s.tst.abort = false) (res : TestResult) :
    ∃ (u : State) (pass : Bool) (fuses rails better : Nat),
      s.refurbDone res = u.closeRefurb pass fuses rails better (if pass then 1 else 2) ∧
      u.sector = s.sector ∧ u.stack = s.stack ∧ u.map = s.map ∧ u.log.refurbs = s.log.refurbs ∧
      u.mapNext = s.mapNext ++ s.refurbChanges res ∧
      (pass = true → ((s.mapNext ++ s.refurbChanges res).foldl FloorMap.apply s.map).meetsFloor = true) := by
  have lit : ∀ (l : List Nat) (u : State), l.foldl (fun s r => s.modRegion r fun x => { x with dark := false }) u =
      { u with regions := (l.foldl (fun s r => s.modRegion r fun x => { x with dark := false }) u).regions } :=
    foldl_related (fun a b : State => b = { a with regions := b.regions }) (fun _ => rfl) (fun h k => by rw [k, h]) _ fun _ _ => rfl
  unfold State.refurbDone
  rw [if_neg (by simp [whole])]
  extract_lets rails l now m better n pass log v w x tst y
  have relit : w = { v with regions := w.regions } := lit rails v
  have stored : x = { w with images := x.images } := w.putStored_frame _
  have kept : x.sector = s.sector ∧ x.stack = s.stack ∧ x.map = s.map ∧ x.log.refurbs = s.log.refurbs ∧ x.mapNext = s.mapNext ++ l := by
    rw [stored, relit]
    exact ⟨rfl, rfl, rfl, rfl, rfl⟩
  obtain ⟨sector, stack, map, refurbs, waiting⟩ := kept
  refine ⟨y, pass, n, rails.length, better, rfl, sector, stack, map, refurbs, waiting, fun h => ?_⟩
  rw [List.foldl_append]
  exact (Bool.and_eq_true_iff.mp h).1

theorem execTestComplete_refurb {s : State} (busy : s.tst.busy = true) (refurb : s.tst.refurb = true) (res : TestResult) :
    ∃ t, exec (.testComplete res) s = .next t ∧ t.tst.busy = false ∧ t.log.refurbs = s.log.refurbs + 1 ∧
      t.sector.state = s.sector.state ∧ t.stack = s.stack ∧
      t.map = s.map ∧ (s.tst.abort = true → t.tst.result = 3 ∧ t.mapNext = s.mapNext) ∧
      (s.tst.abort = false → (t.tst.result = 1 ∨ t.tst.result = 2) ∧ t.mapNext = s.mapNext ++ s.refurbChanges res ∧
        (t.tst.result = 1 → t.sector.refurbPassed = true ∧ (t.mapNext.foldl FloorMap.apply s.map).meetsFloor = true)) := by
  have outcome : exec (.testComplete res) s = .next (s.refurbDone res) := by
    change Host.Outcome.next (if !s.tst.busy then s else if s.tst.refurb then s.refurbDone res else s.runDone res) = _
    rw [busy, refurb]
    rfl
  cases abort : s.tst.abort with
  | true =>
    have done : s.refurbDone res = s.closeRefurb false 0 0 0 3 := if_pos abort
    rw [done] at outcome
    obtain ⟨idle, result, refurbs, sector⟩ := s.closeRefurb_spec false 0 0 0 3
    obtain ⟨stack, map, waiting⟩ := s.closeRefurb_keeps false 0 0 0 3
    exact ⟨_, outcome, idle, refurbs, by rw [sector], stack, map, fun _ => ⟨result, waiting⟩, fun h => Bool.noConfusion h⟩
  | false =>
    obtain ⟨u, pass, fuses, rails, better, done, sector, stack, map, refurbs, waiting, floor⟩ := State.refurbDone_whole abort res
    rw [done] at outcome
    obtain ⟨idle, result, counted, closed⟩ := u.closeRefurb_spec pass fuses rails better (if pass then 1 else 2)
    obtain ⟨stack', map', waiting'⟩ := u.closeRefurb_keeps pass fuses rails better (if pass then 1 else 2)
    have shown : (if pass then 1 else 2) = 1 ∧ pass = true ∨ (if pass then 1 else 2) = 2 ∧ pass = false := by
      cases pass <;> simp
    refine ⟨_, outcome, idle, counted.trans (congrArg (· + 1) refurbs), ?_, stack'.trans stack, map'.trans map,
      fun h => Bool.noConfusion h, fun _ => ⟨?_, waiting'.trans waiting, fun passed => ?_⟩⟩
    · rw [closed, sector]
    · rw [result]
      exact shown.imp And.left And.left
    · rw [result] at passed
      have good : pass = true := by
        rcases shown with ⟨-, good⟩ | ⟨two, -⟩
        · exact good
        · rw [two] at passed
          exact absurd passed (by decide)
      rw [closed, waiting', waiting]
      exact ⟨by simp [good], floor good⟩

/-- Settles O56, command by command. -/
theorem firmwareAndTestCommandsComplete : Obligations.FirmwareAndTestCommandsComplete := by
  unfold Obligations.FirmwareAndTestCommandsComplete
  refine ⟨?commands, ?stageComplete, ?cfgStoreComplete, ?test, ?testComplete⟩
  case commands =>
    intro s port auth open_ hr
    have acts : ∀ c < 8, s.hostWrite8 port 0x1E0008 c = .next (s.fwCommand c) := fun c hc => open_.firmwareCommand hr hc
    refine ⟨fun ha => ?_, fun ha => ?_, ?_, ?_, fun o ho ha => ?_⟩
    · exact ⟨s.stageCommand, acts 1 (by decide), State.stageCommand_spec hr ha⟩
    · exact ⟨s.activateCommand, acts 2 (by decide), State.activateCommand_spec hr ha⟩
    · exact ⟨s.confirmCommand, acts 3 (by decide), State.confirmCommand_spec hr⟩
    · exact ⟨s.revertCommand, acts 4 (by decide), State.revertCommand_spec hr⟩
    · exact ⟨s.cfgStoreCommand, acts 5 (by decide), State.cfgStoreCommand_spec hr ho ha⟩
  case stageComplete =>
    intro s ok e m v busy hr hm hv
    obtain ⟨t, run, idle, shown, sector, stack, images⟩ := execStageComplete_busy busy hr ok e rfl
    obtain ⟨-, -, other⟩ := s.stageJudged_keeps e (stageCode (s.stageVerdict e) ok)
    refine ⟨t, run, idle, sector, stack, (State.img_congr images _).trans other, ?_⟩
    rintro rfl
    have verdict : s.stageVerdict cleanReport = v := by rw [State.stageVerdict_clean, hv, hm]
    have image := (State.img_congr images (!s.ctl.image)).trans (s.img_stageJudged_clean (stageCode (s.stageVerdict cleanReport) ok))
    rw [verdict] at image shown
    rw [image, shown, hm]
    refine ⟨rfl, fun good done => ?_, fun bad => ?_, fun good lost => ?_⟩
    · simp [stageCode, good, done]
    · simp [stageCode, bad]
    · simp [stageCode, good, lost]
  case cfgStoreComplete =>
    intro s ok e
    refine ⟨fun idle => ?_, fun o storing => ?_⟩
    · change Host.Outcome.next (s.cfgStoreDone ok e) = _
      unfold State.cfgStoreDone
      rw [idle]
    · obtain ⟨t, run, idle, sector, stack, stored, failed⟩ := execCfgStoreComplete_storing storing ok e
      refine ⟨t, run, idle, sector, stack, fun h => ?_, failed⟩
      obtain ⟨shown, c, cfg, owner⟩ := stored h
      refine ⟨shown, c, cfg, ?_⟩
      rintro rfl whole
      rw [owner, State.ownerRead_clean s whole]
  case test =>
    intro s port open_ hr hf ht
    have acts : ∀ c < 4, s.hostWrite8 port 0x1C0000 c = .next (s.testCommand c) := fun c hc => open_.testCommand hr hf ht hc
    have run : exec (.tstRun port) s = .next (s.testCommand 1) := acts 1 (by decide)
    have refurb : exec (.tstRefurb port) s = .next (s.testCommand 2) := acts 2 (by decide)
    have abort : exec (.tstAbort port) s = .next (s.testCommand 3) := acts 3 (by decide)
    rw [run, refurb, abort]
    refine ⟨fun blocked => ?_, fun free => ⟨fun bad => ?_, fun mode tile => ?_, ?_⟩, fun busy => ?_, fun idle => ?_⟩
    · exact ⟨congrArg _ (if_pos blocked), congrArg _ (if_pos blocked)⟩
    · exact congrArg _ ((if_neg (by simp [free])).trans (if_pos bad))
    · exact congrArg _ ((if_neg (by simp [free])).trans (if_neg (by omega)))
    · exact congrArg _ (if_neg (by simp [free]))
    · exact congrArg _ (if_pos busy)
    · exact congrArg _ (if_neg (by simp [idle]))
  case testComplete =>
    intro s res
    refine ⟨fun idle => congrArg _ (if_pos (by simp [idle])), fun busy run => ?_, fun busy refurb => ?_⟩
    · obtain ⟨t, outcome, frame, idle, aborted, passed⟩ := execTestComplete_run busy run res
      have tiles : t.tiles = s.targetsReset.tiles := by rw [frame]
      refine ⟨t, outcome, idle, ?_, ?_, aborted, passed, fun k hk => ?_, fun k hk => ?_⟩
      · rw [frame, State.targetsReset_frame]
      · rw [frame, State.targetsReset_frame]
      · obtain ⟨x, reset⟩ := State.getTile_foldl_modTile (f := Tile.afterReset) hk s
        rw [State.getTile_congr _ _ k tiles, State.targetsReset, reset]
        exact ⟨rfl, rfl, rfl⟩
      · rw [State.getTile_congr _ _ k tiles, State.targetsReset, State.getTile_foldl_modTile_other hk]
    · exact execTestComplete_refurb busy refurb res

end Sys2Proof.Machine
end

section
/-! PROOFS. What the state holds after an instruction of a tile has issued: the tile, the counters of its region and the flags of
the frame (R79, R90, R431). -/

namespace Sys2Proof.Machine

/-! ## What an instruction reports -/

theorem Notes.none_add (n : Notes) : Notes.none.add n = n := by
  simp [Notes.add, Notes.none]

/-- Reading words of the staging SRAM without errors reports nothing (R90). -/
theorem Tile.stagingNotes_clean {x : Tile} (ce : x.stagingCe = []) (ue : x.stagingUe = []) (addrs : List Nat) :
    x.stagingNotes addrs = Notes.none := by
  simp [Tile.stagingNotes, eccNotes, ce, ue, Notes.none]

/-! ## Where the report goes -/

/-- The counters of a region after a report (R90, R183, R431). -/
def Region.counted (x : Region) (n : Notes) : Region :=
  { x with
    ce := satAdd x.ce n.ce
    ue := satAdd x.ue n.ue
    chanDrop := satAdd x.chanDrop n.chanDrop
    routeDrop := satAdd x.routeDrop n.routeDrop }

theorem State.applyEvent_regions (s : State) (t : Nat) (e : TileEvent) : (s.applyEvent t e).regions = s.regions := by
  unfold State.applyEvent
  split <;> rfl

/-- The region of the tile counts the report; the events add records and no count. -/
theorem State.region_applyNotes (s : State) (t : Nat) (n : Notes) :
    (s.applyNotes t n).region (regionOf t) = (s.region (regionOf t)).counted n := by
  have events : (s.applyNotes t n).regions = (s.modRegion (regionOf t) (·.counted n)).regions :=
    foldl_related (fun a b : State => b.regions = a.regions) (fun _ => rfl) (fun h k => k.trans h) (fun u e => u.applyEvent t e)
      (fun u e => u.applyEvent_regions t e) n.events _
  rw [State.region_congr _ _ _ events, State.modRegion, State.region_setRegion]

theorem State.getTile_putTile (s : State) (t : Nat) (x : Tile) (n : Notes) (k : Nat) :
    (s.putTile t x n).getTile k = (s.setTile t x).getTile k := by
  refine State.getTile_congr _ _ k ?_
  rw [State.putTile, (State.applyNotes_frame (s.setTile t x) t n).1.1]

/-! ## The state after an issue -/

theorem State.noteWait_frame (s : State) (t : Nat) : s.noteWait t = { s with frm := (s.noteWait t).frm } := by
  unfold State.noteWait
  exact ite_related (R := fun a b : State => b = { a with frm := b.frm }) rfl rfl

/-- Beside the tile and its report, an issue touches the last frame wait and the barriers only (R198, R203). -/
theorem State.finishIssue_frame (s : State) (t : Nat) (x : Tile) (n : Notes) :
    s.finishIssue t x n =
      { s.putTile t x n with frm := (s.finishIssue t x n).frm, barriers := (s.finishIssue t x n).barriers } := by
  rw [State.finishIssue, State.noteBarriers_frame, State.noteWait_frame]

theorem State.getTile_finishIssue (s : State) (t : Nat) (x : Tile) (n : Notes) (k : Nat) :
    (s.finishIssue t x n).getTile k = (s.setTile t x).getTile k := by
  rw [← State.getTile_putTile s t x n k]
  refine State.getTile_congr _ _ k ?_
  rw [State.finishIssue_frame]

theorem State.region_finishIssue (s : State) (t : Nat) (x : Tile) (n : Notes) :
    (s.finishIssue t x n).region (regionOf t) = (s.region (regionOf t)).counted n := by
  have put : (s.finishIssue t x n).regions = (s.putTile t x n).regions := by rw [State.finishIssue_frame]
  rw [State.region_congr _ _ _ put, State.putTile, State.region_applyNotes]
  rfl

theorem State.stack_finishIssue (s : State) (t : Nat) (x : Tile) (n : Notes) : (s.finishIssue t x n).stack = s.stack := by
  rw [State.finishIssue_frame, State.TilesOnly.putTile s t x n]

theorem State.numNow_finishIssue (s : State) (t : Nat) (x : Tile) (n : Notes) :
    (s.finishIssue t x n).numNow = s.numNow ||| n.flags.visible := by
  rw [State.finishIssue_frame]
  exact (State.applyNotes_frame (s.setTile t x) t n).2

/-- Where no result was due and the instruction word is without errors, the state after an issue holds the issue's own report. -/
theorem State.issued_of_silent {s : State} {t : Nat} {a : Access} (silent : (s.tileNow t a.upsets).2 = Notes.none)
    (ce : (s.tileNow t a.upsets).1.stagingCe = []) (ue : (s.tileNow t a.upsets).1.stagingUe = []) (x : Tile) (n : Notes) :
    s.issued t a x n = s.finishIssue t x n := by
  rw [State.issued, silent, Tile.stagingNotes_clean ce ue, Notes.none_add, Notes.none_add]

/-- Settles O22: the tile and the stacks go by the frame of `State.finishIssue`, the counters and flags by what it is given to
report. -/
theorem issuedTileIsStored : Obligations.IssuedTileIsStored := by
  unfold Obligations.IssuedTileIsStored
  intro s t a x n
  refine ⟨?_, fun k hk => ?_, State.stack_finishIssue _ _ _ _, fun silent ce ue => ?_⟩
  · rw [State.issued, State.getTile_finishIssue, State.getTile_setTile]
  · rw [State.issued, State.getTile_finishIssue, State.getTile_setTile_ne s x t k hk]
  · rw [State.issued_of_silent silent ce ue, State.region_finishIssue]
    exact ⟨rfl, rfl, rfl, State.numNow_finishIssue s t x n⟩

end Sys2Proof.Machine
end

section
/-! PROOFS. The instructions of the vector row that compute lane by lane: what each issues (R109, R110, R112, R138). -/

namespace Sys2Proof.Machine

/-! ## Words from a predicate on lanes -/

theorem getLsbD_oneBit {n : Nat} (hn : n < 64) (l : Nat) : ((1 <<< n : Nat) : Word).getLsbD l = decide (l = n) := by
  rw [BitVec.natCast_eq_ofNat, BitVec.getLsbD_ofNat, Nat.one_shiftLeft, Nat.testBit_two_pow]
  by_cases h : l = n
  · simp [h, hn]
  · simp [h, Ne.symm h]

theorem getLsbD_foldl_or (f : Nat → Bool) (l : Nat) : ∀ n ≤ 64,
    ((List.range n).foldl (fun (w : Word) k => if f k then w ||| (1 <<< k) else w) 0).getLsbD l = (decide (l < n) && f l) := by
  intro n
  induction n with
  | zero => simp
  | succ n ih =>
    intro hn
    rw [List.range_succ, List.foldl_append, List.foldl_cons, List.foldl_nil, apply_ite (BitVec.getLsbD · l), BitVec.getLsbD_or,
      ih (by omega), getLsbD_oneBit (by omega)]
    by_cases h : l = n
    · subst h
      simp
    · simp [h, show l < n + 1 ↔ l < n by omega]

/-- Bit l of the word of a predicate is the predicate at l. -/
theorem getLsbD_bitsOf (f : Nat → Bool) {l : Nat} (h : l < 64) : (bitsOf f).getLsbD l = f l := by
  rw [bitsOf, getLsbD_foldl_or f l 64 (Nat.le_refl _), decide_eq_true h, Bool.true_and]


/-! ## The shared operand (R112) -/

/-- A deck operand adds four cycles of latency. -/
theorem sharedCost_latency (t : Tile) (v : VFields) : (sharedCost t v).1 = if v.sh = 2 then 4 else 0 := by
  unfold sharedCost sharedOperand
  by_cases scalar : v.sh = 1
  · simp [scalar]
  · by_cases deck : v.sh = 2
    · simp [deck, wrapAddrs, List.range_succ]
    · simp [scalar, deck]

/-- Only a deck operand reports corrected or uncorrectable words. -/
theorem sharedCost_notes (t : Tile) {v : VFields} (h : v.sh ≠ 2) : (sharedCost t v).2 = Notes.none := by
  unfold sharedCost sharedOperand
  by_cases scalar : v.sh = 1
  · simp [scalar]
  · simp [scalar, h]

/-- The cycle in which a result is due, with a register or a deck operand. -/
theorem due_sharedCost (t : Tile) (v : VFields) (now base : Nat) :
    now + (base + (sharedCost t v).1) = now + (if v.sh = 2 then base + 4 else base) := by
  rw [sharedCost_latency]
  split <;> rfl

/-! ## The ends of the vector row's instructions -/

section
variable {x : TileCtx} {t : Tile} {n : Notes} (room : t.pc < 8191)
include room

theorem finVector_done (cycles due vd : Nat) (mask : Word) (l : Lanes) :
    finVector x t cycles due vd mask l n = .done ((t.pushV ⟨x.now + due, vd, mask, l⟩).advance x.now cycles) n :=
  Tile.fin_done room

theorem finMask_done (due kd : Nat) (mask bits : Word) :
    finMask x t due kd mask bits n = .done ((t.pushK ⟨x.now + due, kd, mask, bits⟩).advance x.now 1) n :=
  Tile.fin_done room

theorem finScalar_done (due rd : Nat) (val : Word) (cycles : Nat) :
    finScalar x t due rd val cycles n = .done ((t.pushS ⟨x.now + due, rd, val⟩).advance x.now cycles) n :=
  Tile.fin_done room

end

/-! ## What each instruction issues -/

/-- A lane of VARITH: its exact result rounded once, with the flags (R77, R138). -/
def arithLane (x : TileCtx) (t : Tile) (v : VFields) (f : Fmt) (l : Nat) : Code × Status :=
  f.round (x.rounding t v.sr v.rc l)
    ((arithVal v.op (f.val (laneAt (t.vGet v.va) l)) (f.val (sourceB t v v.vb l)) (f.val (laneAt (t.vGet v.vc) l))).getD .nar)

theorem arithLane_of_exact {x : TileCtx} {t : Tile} {v : VFields} {f : Fmt} {l : Nat} {e : Val}
    (h : arithVal v.op (f.val (laneAt (t.vGet v.va) l)) (f.val (sourceB t v v.vb l)) (f.val (laneAt (t.vGet v.vc) l)) = some e) :
    arithLane x t v f l = f.round (x.rounding t v.sr v.rc l) e := by
  rw [arithLane, h, Option.getD_some]

/-- A lane of VCMP (R138). -/
def cmpLane (t : Tile) (v : VFields) (f : Fmt) (l : Nat) : Bool :=
  if v.op = 0 then valEq (f.val (laneAt (t.vGet v.va) l)) (f.val (sourceB t v v.vb l))
  else if v.op = 1 then valLt (f.val (laneAt (t.vGet v.va) l)) (f.val (sourceB t v v.vb l))
  else !valLt (f.val (sourceB t v v.vb l)) (f.val (laneAt (t.vGet v.va) l))

/-- A lane of a VINT comparison (R138). -/
def intCmpLane (t : Tile) (v : VFields) (l : Nat) : Bool :=
  if v.op = 6 then decide ((laneAt (t.vGet v.va) l).toNat < (sourceB t v v.vb l).toNat)
  else laneAt (t.vGet v.va) l == sourceB t v v.vb l

section
variable {x : TileCtx} {t : Tile} {w : Nat} {v : VFields} {f : Fmt} (hv : v = vFields t w)
include hv

/-! ### VARITH and VCMP -/

theorem issueVarith_held (fmt : arithFmt v.fmt = some f) (sh : v.sh < 3) (op : v.op < 8) (held : sharedHeld t v = true) :
    issueVarith x t w = .held := by
  simp [issueVarith, ← hv, fmt, show v.sh ≠ 3 by omega, Nat.not_le.mpr op, held]

theorem issueVarith_done (room : t.pc < 8191) (fmt : arithFmt v.fmt = some f) (sh : v.sh < 3) (op : v.op < 8)
    (free : sharedHeld t v = false) :
    issueVarith x t w =
      .done (((t.takeShared v).pushV
          ⟨x.now + (if v.sh = 2 then 8 else 4), v.vd, v.mask, lanesOf fun l => (arithLane x t v f l).1⟩).advance x.now 1)
        ((sharedCost t v).2.add (Notes.ofFlags (laneFlags v.mask fun l => (arithLane x t v f l).2))) := by
  simp only [issueVarith, ← hv, fmt]
  rw [if_neg (by omega), if_neg (by simp [free]), finVector_done (t := t.takeShared v) room, due_sharedCost]
  rfl

theorem issueVcmp_done (room : t.pc < 8191) (fmt : arithFmt v.fmt = some f) (sh : v.sh < 3) (op : v.op < 3)
    (free : sharedHeld t v = false) :
    issueVcmp x t w =
      .done (((t.takeShared v).pushK
          ⟨x.now + (if v.sh = 2 then 7 else 3), v.vd % 8, v.mask, bitsOf (cmpLane t v f)⟩).advance x.now 1) (sharedCost t v).2 := by
  simp only [issueVcmp, ← hv, fmt]
  rw [if_neg (by omega), if_neg (by simp [free]), finMask_done (t := t.takeShared v) room, due_sharedCost]
  rfl

/-! ### VINT -/

theorem issueVint_vector (room : t.pc < 8191) (sh : v.sh < 3) (op : v.op < 6) (free : sharedHeld t v = false) :
    issueVint x t w =
      .done (((t.takeShared v).pushV ⟨x.now + (if v.sh = 2 then 6 else 2), v.vd, v.mask,
          lanesOf fun l => intLane v.op (laneAt (t.vGet v.va) l) (sourceB t v v.vb l)⟩).advance x.now 1) (sharedCost t v).2 := by
  simp only [issueVint, ← hv]
  rw [if_neg (by omega), if_neg (by simp [free]), if_neg (by omega), if_neg (by omega),
    finVector_done (t := t.takeShared v) room, due_sharedCost]

theorem issueVint_mask (room : t.pc < 8191) (sh : v.sh < 3) (op : v.op = 6 ∨ v.op = 7) (free : sharedHeld t v = false) :
    issueVint x t w =
      .done (((t.takeShared v).pushK
          ⟨x.now + (if v.sh = 2 then 6 else 2), v.vd % 8, v.mask, bitsOf (intCmpLane t v)⟩).advance x.now 1)
        (sharedCost t v).2 := by
  have lanes : intCmpLane t v = if v.op = 6 then fun l => decide (laneAt (t.vGet v.va) l < sourceB t v v.vb l)
      else fun l => laneAt (t.vGet v.va) l == sourceB t v v.vb l := by
    funext l
    rw [intCmpLane]
    split <;> rfl
  simp only [issueVint, ← hv]
  rw [if_neg (by omega), if_neg (by simp [free]), lanes]
  rcases op with op | op
  · rw [if_pos op, if_pos op, finMask_done (t := t.takeShared v) room, due_sharedCost]
  · rw [if_neg (by omega), if_pos op, if_neg (by omega : v.op ≠ 6), finMask_done (t := t.takeShared v) room, due_sharedCost]

/-! ### VMOVE -/

/-- The forms of VMOVE that write a vector register. -/
theorem issueVmove_vector (room : t.pc < 8191) (sh : v.sh = 0) {lanes : Nat → Code} {m : Word}
    (form : v.op = 0 ∧ m = BitVec.allOnes 64 ∧
        lanes = (fun l => if maskBit v.mask l then laneAt (t.vGet v.va) l else laneAt (t.vGet v.vb) l) ∨
      v.op = 1 ∧ m = v.mask ∧ lanes = (fun l => laneAt (t.vGet v.va) ((l + v.imm % 64) % 64)) ∨
      v.op = 2 ∧ m = v.mask ∧ lanes = (fun _ => laneAt (t.vGet v.va) (v.imm % 64)) ∨
      v.op = 3 ∧ m = v.mask ∧ lanes = fun _ => BitVec.ofNat 16 v.imm) :
    issueVmove x t w = .done ((t.pushV ⟨x.now + 2, v.vd, m, lanesOf lanes⟩).advance x.now 1) Notes.none := by
  rw [← finVector_done room]
  rcases form with ⟨op, rfl, rfl⟩ | ⟨op, rfl, rfl⟩ | ⟨op, rfl, rfl⟩ | ⟨op, rfl, rfl⟩ <;>
    simp [issueVmove, ← hv, sh, op]

/-- The forms of VMOVE that name a scalar register issue once it is ready. -/
theorem issueVmove_scalar (room : t.pc < 8191) (sh : v.sh = 0) (ready : t.sReady [v.rs] = true) :
    (v.op = 4 → issueVmove x t w =
      .done ((t.pushS ⟨x.now + 2, v.rs, (laneAt (t.vGet v.va) (v.imm % 64)).setWidth 64⟩).advance x.now 1) Notes.none) ∧
    (v.op = 5 → issueVmove x t w = .done ((t.pushS ⟨x.now + 2, v.rs, t.kGet (v.va % 8)⟩).advance x.now 1) Notes.none) ∧
    (v.op = 6 → issueVmove x t w =
      .done ((t.pushK ⟨x.now + 2, v.vd % 8, v.mask, t.sGet v.rs⟩).advance x.now 1) Notes.none) := by
  refine ⟨fun op => ?_, fun op => ?_, fun op => ?_⟩
  · simp [issueVmove, ← hv, sh, op, ready, finScalar_done room]
  · simp [issueVmove, ← hv, sh, op, ready, finScalar_done room]
  · simp [issueVmove, ← hv, sh, op, ready, finMask_done room]

/-! ### VCVT -/

theorem issueVcvt_done (room : t.pc < 8191) (fmt : Fmt.ofCode v.fmt = some f) (low : 1 ≤ v.fmt) (high : v.fmt < 4)
    (sh : v.sh = 0) (op : v.op < 2) {r : Nat → Code × Status}
    (lanes : ∀ l, r l = if v.op = 0 then toT16 (x.rounding t v.sr v.rc l) f (laneAt (t.vGet v.va) l)
      else f.round (x.rounding t v.sr v.rc l) (t16Val (laneAt (t.vGet v.va) l))) :
    issueVcvt x t w = .done ((t.pushV ⟨x.now + 4, v.vd, v.mask, lanesOf fun l => (r l).1⟩).advance x.now 1)
      (Notes.ofFlags (laneFlags v.mask fun l => (r l).2)) := by
  obtain rfl := funext lanes
  simp only [issueVcvt, ← hv, fmt]
  rw [if_neg (by omega), finVector_done room]

end

/-- Settles O29: each instruction's issue is done with the result of its lanes, and `State.runTile_done` puts it into the state. -/
theorem vectorLaneInstructionsComplete : Obligations.VectorLaneInstructionsComplete := by
  unfold Obligations.VectorLaneInstructionsComplete
  refine ⟨?varith, ?vcmp, ?vintVector, ?vintMask, ?vmoveVector, ?vmoveScalar, ?vcvt⟩
  case varith =>
    intro s t a x w v f h hv fmt sh op
    refine ⟨fun held => State.runTile_held h (by decide) (issueVarith_held hv fmt sh op held), fun free => ?_⟩
    refine ⟨arithLane (s.ctx t) x v f, _, fun _ _ _ he => arithLane_of_exact he, fun reg => ?_,
      State.runTile_done h (by decide) (issueVarith_done hv h.room fmt sh op free)⟩
    rw [sharedCost_notes x reg, Notes.none_add]
  case vcmp =>
    intro s t a x w v f h hv fmt sh op free
    exact ⟨_, _, sharedCost_notes x, fun _ => getLsbD_bitsOf (cmpLane x v f),
      State.runTile_done h (by decide) (issueVcmp_done hv h.room fmt sh op free)⟩
  case vintVector =>
    intro s t a x w v h hv sh op free
    exact ⟨_, sharedCost_notes x, State.runTile_done h (by decide) (issueVint_vector hv h.room sh op free)⟩
  case vintMask =>
    intro s t a x w v h hv sh op free
    exact ⟨_, _, sharedCost_notes x, fun _ => getLsbD_bitsOf (intCmpLane x v),
      State.runTile_done h (by decide) (issueVint_mask hv h.room sh op free)⟩
  case vmoveVector =>
    intro s t a x w v lanes m h hv sh form
    exact State.runTile_done h (by decide) (issueVmove_vector hv h.room sh form)
  case vmoveScalar =>
    intro s t a x w v h hv sh ready
    obtain ⟨lane, mask, scalar⟩ := issueVmove_scalar (x := s.ctx t) hv h.room sh ready
    exact ⟨fun op => State.runTile_done h (by decide) (lane op), fun op => State.runTile_done h (by decide) (mask op),
      fun op => State.runTile_done h (by decide) (scalar op)⟩
  case vcvt =>
    intro s t a x w v f r h hv fmt low high sh op lanes
    exact State.runTile_done h (by decide) (issueVcvt_done hv h.room fmt low high sh op lanes)

end Sys2Proof.Machine
end

section
/-! PROOFS. The memories of a tile: which of its engines' operations leave the deck and the staging SRAM as they are, and that
those which store keep their canonical form (R85, R86, R89, R95, R106). -/

namespace Sys2Proof.Machine

/-- The deck and the staging SRAM of a tile (R82, R83). -/
def Tile.memories (t : Tile) : Memory × Memory := (t.deck, t.staging)

/-- Both memories of a tile are in the canonical form. -/
def Tile.Canonical (t : Tile) : Prop := t.deck.wf = true ∧ t.staging.wf = true

theorem Tile.Canonical.congr {t u : Tile} (h : t.Canonical) (same : u.memories = t.memories) : u.Canonical := by
  obtain ⟨deck, staging⟩ := Prod.mk.inj same
  exact ⟨deck ▸ h.1, staging ▸ h.2⟩

theorem Tile.deck_of_memories {t u : Tile} (same : u.memories = t.memories) : u.deck = t.deck := (Prod.mk.inj same).1

/-- A fold of operations that leave the memories leaves them. -/
theorem Tile.foldl_memories {α : Type} {f : Tile → α → Tile} (h : ∀ t a, (f t a).memories = t.memories) (l : List α) (t : Tile) :
    (l.foldl f t).memories = t.memories :=
  foldl_related (fun a b : Tile => b.memories = a.memories) (fun _ => rfl) (fun h k => k.trans h) f (fun t a => h t a) l t

/-! ## Operations that store nothing -/

@[simp] theorem Tile.applyV_memories (t : Tile) (w : VWrite) : (t.applyV w).memories = t.memories := rfl

@[simp] theorem Tile.applyK_memories (t : Tile) (w : KWrite) : (t.applyK w).memories = t.memories := by
  unfold Tile.applyK
  split <;> rfl

@[simp] theorem Tile.sSet_memories (t : Tile) (i : Nat) (v : Word) : (t.sSet i v).memories = t.memories := by
  unfold Tile.sSet
  split <;> rfl

/-- Results reach registers and channels only (R111, R127, R133). -/
@[simp] theorem Tile.settleRegs_memories (t : Tile) (now : Nat) : (t.settleRegs now).memories = t.memories := by
  have chan := Tile.foldl_memories (f := fun (t : Tile) (w : ChanWrite) => { t with chan := vset t.chan w.chan w.val })
    fun _ _ => rfl
  have scalar := Tile.foldl_memories (f := fun (t : Tile) (w : SWrite) => t.sSet w.reg w.val) fun t w => t.sSet_memories w.reg w.val
  exact (chan _ _).trans ((scalar _ _).trans
    ((Tile.foldl_memories Tile.applyK_memories _ _).trans (Tile.foldl_memories Tile.applyV_memories _ _)))

@[simp] theorem Tile.setPlane_memories (t : Tile) (p : Nat) (l : List PlaneLoad) : (t.setPlane p l).memories = t.memories := by
  unfold Tile.setPlane
  split <;> rfl

@[simp] theorem Tile.loadBegin_memories (t : Tile) (g : Nat) : (t.loadBegin g).memories = t.memories := by
  unfold Tile.loadBegin
  split
  · rfl
  · split
    · rfl
    · exact Tile.setPlane_memories ..

@[simp] theorem Tile.streamBegin_memories (t : Tile) (g : Nat) : (t.streamBegin g).memories = t.memories := by
  unfold Tile.streamBegin
  split
  · rfl
  · split <;> rfl

@[simp] theorem Tile.drainBegin_memories (t : Tile) (g : Nat) : (t.drainBegin g).memories = t.memories := by
  unfold Tile.drainBegin
  split
  · split <;> rfl
  · rfl

@[simp] theorem Tile.enterCycle_memories (t : Tile) (g : Nat) : (t.enterCycle g).1.memories = t.memories := rfl

@[simp] theorem Tile.columnsCycle_memories (t : Tile) (g : Nat) : (t.columnsCycle g).1.memories = t.memories := rfl

@[simp] theorem Tile.pushWrites_memories (t : Tile) (w : List OutWrite) : (t.pushWrites w).memories = t.memories := by
  unfold Tile.pushWrites
  split <;> rfl

@[simp] theorem Tile.placeOne_memories (t : Tile) (sp : SparseBlock) (token rank : Nat) (score : Code) (e : Nat) :
    (t.placeOne sp token rank score e).1.memories = t.memories := by
  simp only [Tile.placeOne]
  split
  · exact Tile.pushWrites_memories ..
  · split
    · exact Tile.pushWrites_memories ..
    · rfl

@[simp] theorem Tile.clearRoutes_memories (t : Tile) (l : List RouteItem) : (t.clearRoutes l).memories = t.memories := by
  induction t, l using Tile.clearRoutes.induct with
  | case1 t rest ih => rw [Tile.clearRoutes, ih]; rfl
  | case2 t l h => rw [Tile.clearRoutes]; rfl; exact h

@[simp] theorem Tile.placeCycle_memories (t : Tile) (n g : Nat) : (t.placeCycle n g).1.memories = t.memories := by
  simp only [Tile.placeCycle]
  split
  · exact (Tile.placeOne_memories ..).trans (Tile.clearRoutes_memories t t.places)
  · split
    · exact Tile.clearRoutes_memories t t.places
    · exact (Tile.pushWrites_memories ..).trans (Tile.clearRoutes_memories t t.places)
  · exact Tile.clearRoutes_memories t t.places

@[simp] theorem Tile.routeRow_memories (t : Tile) (op : GridOp) (g r : Nat) (skipped isLast : Bool) (codes : List Code) :
    (t.routeRow op g r skipped isLast codes).memories = t.memories := rfl

@[simp] theorem emitRow_memories (x : TileCtx) (g : Nat) (t : Tile) (a : GridActive) (r : Nat) (skipped : Bool)
    (sums : List AccSum) : (emitRow x g t a r skipped sums).1.memories = t.memories := by
  simp only [emitRow]
  split
  · rfl
  · split <;> rfl
  · rfl

@[simp] theorem Tile.rowOutput_memories (x : TileCtx) (t : Tile) (g : Nat) : (t.rowOutput x g).memories = t.memories := by
  simp only [Tile.rowOutput]
  split
  · rfl
  · split
    · rfl
    · split
      · exact emitRow_memories ..
      · split
        · rfl
        · exact emitRow_memories ..

/-- The grid writes no memory: its rows reach the deck through the output queue (R82, R86). -/
@[simp] theorem Tile.gridCycle_memories (x : TileCtx) (t : Tile) (c : Nat) : (t.gridCycle x c).1.memories = t.memories := by
  simp only [Tile.gridCycle]
  split
  · rfl
  · simp

@[simp] theorem Tile.reserveRow_memories (t : Tile) (j : FeedJob) (rest : List FeedJob) :
    (t.reserveRow j rest).memories = t.memories := rfl

theorem Tile.feedLine_memories {t : Tile} {c : Nat} {y : Tile × Notes} (h : t.feedLine c = some y) : y.1.memories = t.memories := by
  unfold Tile.feedLine at h
  split at h
  · cases h
  · dsimp only at h
    split at h
    · cases h
    · cases h
      rfl

@[simp] theorem Tile.feedOne_memories (t : Tile) (c : Nat) : (t.feedOne c).1.memories = t.memories := by
  simp only [Tile.feedOne]
  split
  · split
    · exact Tile.feedLine_memories ‹_›
    · rfl
  · split
    · rfl
    · split
      · rfl
      · split
        · split <;> rfl
        · split
          · exact (Tile.feedLine_memories ‹_›).trans (t.reserveRow_memories _ _)
          · rfl

@[simp] theorem feedMany_memories (c k : Nat) (t : Tile) (n : Notes) : (feedMany c k t n).1.memories = t.memories := by
  induction k generalizing t n with
  | zero => rfl
  | succ k ih =>
    simp only [feedMany]
    split
    · exact (ih _ _).trans (t.feedOne_memories c)
    · exact t.feedOne_memories c

/-- The feeder fill reads the deck and writes no byte of it (R99). -/
@[simp] theorem Tile.feedCycle_memories (t : Tile) (c : Nat) : (t.feedCycle c).1.memories = t.memories := feedMany_memories ..

@[simp] theorem Tile.upset_memories (t : Tile) (u : Upset) : (t.upset u).memories = t.memories := by
  unfold Tile.upset
  split <;> rfl

@[simp] theorem Tile.upsetAll_memories (t : Tile) (l : List Upset) : (t.upsetAll l).memories = t.memories :=
  Tile.foldl_memories Tile.upset_memories l t

/-! ## Operations that store -/

theorem Tile.Canonical.deckWrite {t : Tile} (h : t.Canonical) (l : List (Nat × Byte)) : (t.deckWrite l).Canonical :=
  ⟨Memory.wf_writeList _ _ h.1, h.2⟩

theorem Tile.Canonical.weightPut {t : Tile} (h : t.Canonical) (l : List (Nat × Byte × Bool)) : (t.weightPut l).Canonical :=
  ⟨h.1, Memory.wf_writeList _ _ h.2⟩

/-- A fold of operations that keep the canonical form keeps it. -/
theorem Tile.Canonical.foldl {α β : Type} {tile : β → Tile} {f : β → α → β}
    (each : ∀ b a, (tile b).Canonical → (tile (f b a)).Canonical) (l : List α) (b : β) (h : (tile b).Canonical) :
    (tile (l.foldl f b)).Canonical :=
  foldl_related (fun b c : β => (tile b).Canonical → (tile c).Canonical) (fun _ => id) (fun hab hbc => hbc ∘ hab) f
    (fun b a => each b a) l b h

/-- The writes that are due reach the weight buffer (R89, R95). -/
theorem Tile.Canonical.lateCycle {t : Tile} (h : t.Canonical) (c : Nat) : (t.lateCycle c).Canonical :=
  Tile.Canonical.foldl (tile := id) (fun _ (w : LateWrite) k => Tile.Canonical.weightPut k w.cells) _ t h

/-- The output queue writes its lines (R86, R101 to R103). -/
theorem Tile.Canonical.outCycle {t : Tile} (h : t.Canonical) : t.outCycle.1.Canonical :=
  Tile.Canonical.foldl (tile := id) (fun _ (_ : OutWrite) k => Tile.Canonical.deckWrite k _) _ t h

theorem Tile.Canonical.serveVec {y : Tile × VecAcc × Notes} (h : y.1.Canonical) (l : Nat) : (serveVec y l).1.Canonical := by
  simp only [Machine.serveVec]
  split
  · exact h.deckWrite _
  · exact h

@[simp] theorem finishVec_memories (t : Tile) (c : Nat) (a : VecAcc) (rest : List VecAcc) :
    (finishVec t c a rest).1.memories = t.memories := by
  simp only [finishVec]
  split <;> rfl

/-- The vector row makes the accesses of a cycle (R110). -/
theorem Tile.Canonical.vecCycle {t : Tile} (h : t.Canonical) (c : Nat) : (t.vecCycle c).1.Canonical := by
  simp only [Tile.vecCycle]
  split
  · exact h
  · next a rest _ =>
    have served := Tile.Canonical.foldl (tile := fun y : Tile × VecAcc × Notes => y.1) (fun _ l k => k.serveVec l)
      (serveLines t.busy (a.steps.headD [])).1 (t, a, Notes.none) h
    split
    · exact served
    · split
      · exact served.congr (finishVec_memories ..)
      · exact served

theorem Tile.Canonical.copyRead {y : Tile × CopyJob × Notes} (h : y.1.Canonical) (c l : Nat) : (copyRead c y l).1.Canonical := by
  simp only [Machine.copyRead]
  split <;> exact h

theorem Tile.Canonical.copyWrite {y : Tile × CopyJob} (h : y.1.Canonical) (l : Nat) : (copyWrite y l).1.Canonical :=
  h.deckWrite _

/-- A cycle of the copy engine at or after its first reads some lines and then writes some. -/
theorem Tile.copyCycle_running {t : Tile} {j : CopyJob} (job : t.copy = some j) {c : Nat} (begun : ¬c < j.start) :
    ∃ (rd wr busy : List Nat) (copy : Option CopyJob), (t.copyCycle c).1 =
      { (wr.foldl copyWrite ((rd.foldl (copyRead c) (t, j, Notes.none)).1, (rd.foldl (copyRead c) (t, j, Notes.none)).2.1)).1 with
        busy := busy, copy := copy } := by
  unfold Tile.copyCycle
  rw [job]
  dsimp only
  rw [if_neg begun]
  generalize hr : serveLines t.busy j.rd = r
  generalize (if r.2.1.isEmpty = true then serveLines r.2.2 j.wr else ([], j.wr, r.2.2)) = w
  refine ⟨r.1, w.1, w.2.2, ?_⟩
  split
  · exact ⟨_, rfl⟩
  · split <;> exact ⟨_, rfl⟩

/-- The copy engine reads and writes the lines of its chunk (R95, R137). -/
theorem Tile.Canonical.copyCycle {t : Tile} (h : t.Canonical) (c : Nat) : (t.copyCycle c).1.Canonical := by
  cases job : t.copy with
  | none =>
    unfold Tile.copyCycle
    rwa [job]
  | some j =>
    by_cases begun : c < j.start
    · unfold Tile.copyCycle
      rw [job]
      dsimp only
      rwa [if_pos begun]
    · obtain ⟨rd, wr, busy, copy, cycle⟩ := Tile.copyCycle_running job begun
      have read := Tile.Canonical.foldl (tile := fun y : Tile × CopyJob × Notes => y.1) (fun _ l k => k.copyRead c l) rd
        (t, j, Notes.none) h
      have written := Tile.Canonical.foldl (tile := fun y : Tile × CopyJob => y.1) (fun _ l k => k.copyWrite l) wr
        (_, (rd.foldl (Machine.copyRead c) (t, j, Notes.none)).2.1) read
      rw [cycle]
      exact written

/-! ## The engines cycle by cycle -/

/-- The part of a cycle before the issue decision: registers, grid, weight buffer, output queue, vector row (R86). -/
theorem Tile.openCycle_running {t : Tile} (running : t.half = false) (x : TileCtx) (c : Nat) :
    (t.openCycle x c).1 =
      { ((((t.settleRegs c).gridCycle x c).1.lateCycle c).outCycle.1.vecCycle c).1 with half := true } := by
  unfold Tile.openCycle
  rw [running]
  rfl

theorem Tile.Canonical.openCycle {t : Tile} (h : t.Canonical) (x : TileCtx) (c : Nat) : (t.openCycle x c).1.Canonical := by
  cases running : t.half with
  | true => rwa [Tile.openCycle, if_pos running]
  | false =>
    have grid := h.congr ((Tile.gridCycle_memories x _ c).trans (t.settleRegs_memories c))
    rw [Tile.openCycle_running running]
    generalize ((t.settleRegs c).gridCycle x c).1 = u at grid ⊢
    have row := ((grid.lateCycle c).outCycle).vecCycle c
    generalize ((u.lateCycle c).outCycle.1.vecCycle c).1 = y at row ⊢
    exact row

theorem Tile.Canonical.closeCycle {t : Tile} (h : t.Canonical) (c : Nat) : (t.closeCycle c).1.Canonical :=
  (h.copyCycle c).congr ((t.copyCycle c).1.feedCycle_memories c)

theorem Tile.Canonical.runCycles (x : TileCtx) (k : Nat) {t : Tile} (h : t.Canonical) (n : Notes) :
    (runCycles x k t n).1.Canonical := by
  induction k generalizing t n with
  | zero => exact h
  | succ k ih =>
    simp only [Machine.runCycles]
    split
    · exact h
    · exact ih ((h.openCycle x _).closeCycle _) _

theorem Tile.Canonical.runTo {t : Tile} (h : t.Canonical) (x : TileCtx) (c : Nat) : (t.runTo x c).1.Canonical := by
  simp only [Tile.runTo]
  split <;> exact h.runCycles x _ _

theorem Tile.Canonical.toNow {t : Tile} (h : t.Canonical) (x : TileCtx) (ups : List Upset) : (t.toNow x ups).1.Canonical :=
  ((h.runTo x x.now).congr (Tile.upsetAll_memories _ ups)).openCycle x x.now

theorem Tile.Canonical.toPort {t : Tile} (h : t.Canonical) (x : TileCtx) (ups : List Upset) : (t.toPort x ups).1.Canonical :=
  (h.runTo x x.now).congr ((Tile.settleRegs_memories _ _).trans (Tile.upsetAll_memories _ ups))

end Sys2Proof.Machine
end

section
/-! PROOFS. What the issue of a tile instruction leaves in the memories, the queues and the copy engine of its tile (R84, R95, R105,
R110, R114, R130, R137, R138). -/

namespace Sys2Proof.Machine

/-! ## Tiles that differ in stores within given addresses -/

/-- Every byte of a copy job goes to one of the deck addresses, or of the weight buffer's, given. -/
def CopyJob.storesWithin (j : CopyJob) (deck weights : List Nat) : Prop :=
  ∀ i, i < j.bytes →
    match j.kind with
    | .wfill off _ _ => weightBase + (off + i) % weightBytes ∈ weights
    | _ => j.dstAddr i ∈ deck

/-- Tile y holds the memories, the late writes and the output queue of x, and every access and copy job that x does not have
stores only at the addresses given. -/
structure Tile.StoresWithin (x : Tile) (stored filled : List Nat) (y : Tile) : Prop where
  deck : y.deck = x.deck
  staging : y.staging = x.staging
  late : y.late = x.late
  outQ : y.outQ = x.outQ
  vq : ∀ acc ∈ y.vq, acc ∈ x.vq ∨ ∀ b ∈ acc.use.stores, b ∈ stored
  copy : ∀ j, y.copy = some j → x.copy = some j ∨ j.storesWithin stored filled

namespace Tile.StoresWithin

variable {x y : Tile} {D W : List Nat}

/-- A tile with the memories, the queues and the copy job of another. -/
theorem of_eq (h : (y.deck, y.staging, y.late, y.outQ, y.vq, y.copy) = (x.deck, x.staging, x.late, x.outQ, x.vq, x.copy)) :
    x.StoresWithin D W y := by
  obtain ⟨deck, staging, late, outQ, vq, copy⟩ : y.deck = x.deck ∧ y.staging = x.staging ∧ y.late = x.late ∧ y.outQ = x.outQ ∧
      y.vq = x.vq ∧ y.copy = x.copy := by
    simpa only [Prod.mk.injEq] using h
  exact ⟨deck, staging, late, outQ, fun _ hacc => .inl (vq ▸ hacc), fun _ hj => .inl (copy ▸ hj)⟩

/-- One more access in the queue of the vector row. -/
theorem queued {acc : VecAcc} (stores : ∀ b ∈ acc.use.stores, b ∈ D) : x.StoresWithin D W { x with vq := x.vq ++ [acc] } := by
  refine ⟨rfl, rfl, rfl, rfl, fun e he => ?_, fun _ hj => .inl hj⟩
  rcases List.mem_append.mp he with old | new
  · exact .inl old
  · exact .inr (List.mem_singleton.mp new ▸ stores)

/-- A copy job begins. -/
theorem copying {c : TileCtx} {k : CopyKind} {src dst bytes : Nat}
    (stores : ∀ i, i < bytes →
      match k with
      | .wfill off _ _ => weightBase + (off + i) % weightBytes ∈ W
      | _ => (dst + i) % deckSize ∈ D) : x.StoresWithin D W (x.startCopy c k src dst bytes) := by
  refine ⟨rfl, rfl, rfl, rfl, fun _ hacc => .inl hacc, fun j hj => .inr ?_⟩
  cases Option.some.inj hj
  cases k <;> exact stores

end Tile.StoresWithin

/-! ## Issues -/

/-- An issue that, where it is done, leaves a tile that differs from x in stores within the addresses given. -/
inductive Tile.IssuesWithin (x : Tile) (deck weights : List Nat) : Issue → Prop where
  | held : x.IssuesWithin deck weights .held
  | undef (u : Undef) : x.IssuesWithin deck weights (.undef u)
  | done {y : Tile} (n : Notes) (h : x.StoresWithin deck weights y) : x.IssuesWithin deck weights (.done y n)

namespace Tile.IssuesWithin

variable {x y : Tile} {D W : List Nat}

theorem branch {c : Prop} [Decidable c] {a b : Issue} (ha : x.IssuesWithin D W a) (hb : x.IssuesWithin D W b) :
    x.IssuesWithin D W (if c then a else b) := by
  split <;> assumption

theorem fin (h : x.StoresWithin D W y) (now cycles : Nat) (n : Notes) : x.IssuesWithin D W (y.fin now cycles n) :=
  .branch (.undef _) (.done n ⟨h.deck, h.staging, h.late, h.outQ, h.vq, h.copy⟩)

/-- An instruction that only moves on, after a change of registers. -/
theorem next {now cycles : Nat} {n : Notes}
    (h : (y.deck, y.staging, y.late, y.outQ, y.vq, y.copy) = (x.deck, x.staging, x.late, x.outQ, x.vq, x.copy) := by rfl) :
    x.IssuesWithin D W (y.fin now cycles n) :=
  .fin (.of_eq h) now cycles n

end Tile.IssuesWithin

/-! ## Control and scalar instructions, channels (R126 to R134) -/

section
variable (c : TileCtx) (x : Tile) (w : Nat) (D W : List Nat)

theorem issueHalt_within : x.IssuesWithin D W (issueHalt c x w) :=
  .branch (.undef _) (.branch .held (.branch (.undef _) (.done _ (.of_eq (by rfl)))))

theorem issueNop_within : x.IssuesWithin D W (issueNop c x w) := .branch (.undef _) .next

theorem issueGfence_within : x.IssuesWithin D W (issueGfence c x w) := .branch (.undef _) (.branch .held .next)

theorem issueFwait_within : x.IssuesWithin D W (issueFwait c x w) :=
  .branch (.undef _) (.branch .held (.branch .next .next))

theorem issueTestw_within : x.IssuesWithin D W (issueTestw c x w) :=
  .branch (.undef _) (.branch .next (.branch .held .next))

theorem issueSync_within (isMember : Nat → Bool) : x.IssuesWithin D W (issueSync c x w isMember) := by
  unfold issueSync
  refine .branch (.undef _) (.branch .held ?_)
  split <;> exact .branch .next .next

theorem issueCwait_within : x.IssuesWithin D W (issueCwait c x w) := .branch (.undef _) (.branch .held .next)

theorem issueSli_within : x.IssuesWithin D W (issueSli c x w) := .branch (.undef _) (.branch .held .next)

theorem issueSlih_within : x.IssuesWithin D W (issueSlih c x w) := .branch (.undef _) (.branch .held .next)

theorem issueSalu_within : x.IssuesWithin D W (issueSalu c x w) := by
  unfold issueSalu
  refine .branch (.undef _) ?_
  split
  · exact .undef _
  · exact .branch .held .next

theorem issueSmovs_within : x.IssuesWithin D W (issueSmovs c x w) := by
  unfold issueSmovs
  refine .branch (.undef _) ?_
  split
  · exact .undef _
  · exact .branch .held .next

theorem finBranch_within {y : Tile} (h : x.StoresWithin D W y) (taken : Bool) (target : Nat) :
    x.IssuesWithin D W (finBranch c y taken target) :=
  .branch (.done _ ⟨h.deck, h.staging, h.late, h.outQ, h.vq, h.copy⟩) (.fin h _ _ _)

theorem issueBr_within : x.IssuesWithin D W (issueBr c x w) := by
  unfold issueBr
  refine .branch (.undef _) ?_
  split
  · exact .undef _
  · exact .branch .held (finBranch_within c x D W (.of_eq (by rfl)) _ _)

theorem issueDbnz_within : x.IssuesWithin D W (issueDbnz c x w) :=
  .branch (.undef _) (.branch .held (finBranch_within c x D W (.of_eq (by rfl)) _ _))

theorem issueSetrc_within : x.IssuesWithin D W (issueSetrc c x w) := .branch (.undef _) (.branch .held .next)

theorem issueCsend_within : x.IssuesWithin D W (issueCsend c x w) := .branch (.undef _) (.branch .held .next)

theorem issueCrecv_within : x.IssuesWithin D W (issueCrecv c x w) := .branch (.undef _) (.branch .held .next)

/-! ## The grid (R105, R135, R136) -/

theorem issueLoadw_within : x.IssuesWithin D W (issueLoadw c x w) := by
  unfold issueLoadw
  dsimp only
  split
  · exact .undef _
  · exact .branch (.undef _) (.branch .held .next)

theorem issueGrid_within (drain : Bool) (mode : GridMode) (rows : Nat) (afmt : Fmt) :
    x.IssuesWithin D W (issueGrid c x w drain mode rows afmt) := by
  unfold issueGrid
  split
  · next bad =>
    unfold recordBad at bad
    extract_lets addrs at bad
    split at bad
    · cases bad
      exact .done _ (.of_eq (by rfl))
    · cases bad
  · split
    · exact .undef _
    · dsimp only
      refine .branch .held ?_
      split <;> exact .next

theorem issueStream_within : x.IssuesWithin D W (issueStream c x w) := by
  unfold issueStream
  split
  · exact .branch (.undef _) (issueGrid_within ..)
  · exact .undef _

theorem issueDrain_within : x.IssuesWithin D W (issueDrain c x w) := by
  unfold issueDrain
  split
  · exact .branch (.undef _) (issueGrid_within ..)
  · exact .undef _

/-! ## The vector row's results (R109, R110, R112, R138) -/

theorem issueVarith_within : x.IssuesWithin D W (issueVarith c x w) := by
  unfold issueVarith
  dsimp only
  split
  · exact .undef _
  · exact .branch (.undef _) (.branch .held .next)

theorem issueVcmp_within : x.IssuesWithin D W (issueVcmp c x w) := by
  unfold issueVcmp
  dsimp only
  split
  · exact .undef _
  · exact .branch (.undef _) (.branch .held .next)

theorem issueVint_within : x.IssuesWithin D W (issueVint c x w) :=
  .branch (.undef _) (.branch .held (.branch .next (.branch .next .next)))

theorem issueVmove_within : x.IssuesWithin D W (issueVmove c x w) := by
  unfold issueVmove
  refine .branch (.undef _) ?_
  dsimp only
  split
  · exact .next
  · exact .next
  · exact .next
  · exact .next
  · exact .branch .held .next
  · exact .branch .held .next
  · exact .branch .held .next
  · exact .undef _

theorem issueVcvt_within : x.IssuesWithin D W (issueVcvt c x w) := by
  unfold issueVcvt
  dsimp only
  split
  · exact .undef _
  · exact .branch (.undef _) .next

theorem issueVfunc_within (free : Nat → Code) : x.IssuesWithin D W (issueVfunc c x w free) := by
  unfold issueVfunc
  dsimp only
  split
  · exact .branch (.undef _) (.branch .held .next)
  · exact .undef _

theorem issueVred_within : x.IssuesWithin D W (issueVred c x w) := by
  unfold issueVred
  dsimp only
  split
  · exact .undef _
  · exact .branch (.undef _) .next

end

/-! ## Loads and stores (R110, R113, R114, R130, R138) -/

theorem mod_of_mem_wrapAddrs {size a n b : Nat} (h : b ∈ wrapAddrs size a n) : b % size = b := by
  obtain ⟨i, -, rfl⟩ := List.mem_map.mp h
  exact Nat.mod_mod _ _

/-- The bytes stored at consecutive addresses store there. -/
theorem mod_fst_mem_wrapAddrs {a n : Nat} {l : List Byte} {p : Nat × Byte} (h : p ∈ (wrapAddrs deckSize a n).zip l) :
    p.1 % deckSize ∈ wrapAddrs deckSize a n := by
  have mem := (List.of_mem_zip h).1
  rwa [mod_of_mem_wrapAddrs mem]

theorem laneBytes_stores (v : VFields) (f : Fmt) (addr : Nat → Nat) (r : Nat → Code) :
    ∀ b ∈ (VecUse.store (laneBytes v f addr r)).stores, b ∈ activeAddrs v f addr := by
  intro b hb
  obtain ⟨p, hp, rfl⟩ := List.mem_map.mp hb
  obtain ⟨l, hl, mem⟩ := List.mem_flatMap.mp hp
  split at mem
  · next active => exact List.mem_flatMap.mpr ⟨l, hl, by simpa only [if_pos active] using mod_fst_mem_wrapAddrs mem⟩
  · cases mem

theorem addUse_stores (c : TileCtx) (x : Tile) (v : VFields) (f : Fmt) :
    ∀ b ∈ (addUse c x v f).stores, b ∈ activeAddrs v f (indexAddr x v) := by
  intro b hb
  obtain ⟨p, hp, mem⟩ := List.mem_flatMap.mp hb
  obtain ⟨l, hl, lane⟩ := List.mem_filterMap.mp hp
  split at lane
  · next active =>
    cases lane
    exact List.mem_flatMap.mpr ⟨l, hl, by simpa only [if_pos active] using mem⟩
  · cases lane

theorem ofCode_of_arithFmt {n : Nat} {f : Fmt} (h : arithFmt n = some f) : Fmt.ofCode n = some f := by
  unfold arithFmt at h
  split at h <;> cases h <;> rfl

theorem finAccess_within {x : Tile} {D W : List Nat} {u : VecUse} (stores : ∀ b ∈ u.stores, b ∈ D) (c : TileCtx) (cycles : Nat)
    (steps : List (List Nat)) (n : Notes) : x.IssuesWithin D W (finAccess c x cycles steps u n) :=
  .fin (.queued stores) _ _ _

section
variable (c : TileCtx) (x : Tile) (w t : Nat) (a : Access) (W : List Nat)

theorem issueLds_within (D : List Nat) : x.IssuesWithin D W (issueLds c x w) :=
  .branch (.undef _) (.branch .held (.fin (.queued fun _ hb => absurd hb List.not_mem_nil) _ _ _))

theorem issueVld_within (D : List Nat) : x.IssuesWithin D W (issueVld c x w) := by
  unfold issueVld
  dsimp only
  split
  · exact .undef _
  · exact .branch (.undef _) (.branch .held (finAccess_within (fun _ hb => absurd hb List.not_mem_nil) _ _ _ _))

theorem issueVgather_within (D : List Nat) : x.IssuesWithin D W (issueVgather c x w) := by
  unfold issueVgather
  dsimp only
  split
  · exact .undef _
  · exact .branch (.undef _) (.branch .held (finAccess_within (fun _ hb => absurd hb List.not_mem_nil) _ _ _ _))

theorem issueSts_within : x.IssuesWithin (deckStores (.sts t a) x w) W (issueSts c x w) := by
  unfold issueSts
  refine .branch (.undef _) (.branch .held (.fin (.queued fun b hb => ?_) _ _ _))
  obtain ⟨p, hp, rfl⟩ := List.mem_map.mp hb
  exact mod_fst_mem_wrapAddrs hp

theorem issueVst_within : x.IssuesWithin (deckStores (.vst t a) x w) W (issueVst c x w) := by
  unfold issueVst
  dsimp only
  split
  · exact .undef _
  · next f fmt =>
    have fmt : Fmt.ofCode (fld w 51 49) = some f := fmt
    have addrs : deckStores (.vst t a) x w = activeAddrs (vFields x w) f (contigAddr x (vFields x w) f) := by
      simp only [deckStores, fmt]
    exact .branch (.undef _) (.branch .held (finAccess_within (addrs ▸ laneBytes_stores _ _ _ _) _ _ _ _))

theorem issueVscatter_within : x.IssuesWithin (deckStores (.vscatter t a) x w) W (issueVscatter c x w) := by
  unfold issueVscatter
  dsimp only
  split
  · exact .undef _
  · next f fmt =>
    have fmt : Fmt.ofCode (fld w 51 49) = some f := fmt
    have addrs : deckStores (.vscatter t a) x w = activeAddrs (vFields x w) f (indexAddr x (vFields x w)) := by
      simp only [deckStores, fmt]
    exact .branch (.undef _) (.branch .held (finAccess_within (addrs ▸ laneBytes_stores _ _ _ _) _ _ _ _))

theorem issueVscadd_within : x.IssuesWithin (deckStores (.vscadd t a) x w) W (issueVscadd c x w) := by
  unfold issueVscadd
  dsimp only
  split
  · exact .undef _
  · next f fmt =>
    have fmt : Fmt.ofCode (fld w 51 49) = some f := ofCode_of_arithFmt fmt
    have addrs : deckStores (.vscadd t a) x w = activeAddrs (vFields x w) f (indexAddr x (vFields x w)) := by
      simp only [deckStores, fmt]
    exact .branch (.undef _) (.branch .held (finAccess_within (addrs ▸ addUse_stores _ _ _ _) _ _ _ _))

/-! ## The copy engine (R95, R137) -/

theorem issueWfill_within (D : List Nat) : x.IssuesWithin D (weightStores x w) (issueWfill c x w) := by
  unfold issueWfill
  refine .branch (.undef _) (.branch .held (.branch .next (.fin (.copying fun i hi => ?_) _ _ _)))
  exact List.mem_map.mpr ⟨i, List.mem_range.mpr hi, rfl⟩

theorem issueDfill_within : x.IssuesWithin (deckStores (.dfill t a) x w) W (issueDfill c x w) := by
  unfold issueDfill
  refine .branch (.undef _) (.branch .held (.branch .next (.fin (.copying fun i hi => ?_) _ _ _)))
  exact List.mem_map.mpr ⟨i, List.mem_range.mpr hi, rfl⟩

theorem issueDcopy_within : x.IssuesWithin (deckStores (.dcopy t a) x w) W (issueDcopy c x w) := by
  unfold issueDcopy
  refine .branch (.undef _) (.branch .held (.branch .next (.fin (.copying fun i hi => ?_) _ _ _)))
  exact List.mem_map.mpr ⟨i, List.mem_range.mpr hi, rfl⟩

end

end Sys2Proof.Machine
end

section
/-! PROOFS. A command of a tile program changes its tile as its issue says (R84, R95, R114, R122, R130, R137, R138). -/

namespace Sys2Proof.Machine

/-- A state after a command of tile t: as it was, or with t as its issue left it, in stores within the addresses given. -/
def State.TileIssued (s : State) (t : Nat) (x : Tile) (stored filled : List Nat) (u : State) : Prop :=
  u = s ∨ ∃ y n, u = s.finishIssue t y n ∧ x.StoresWithin stored filled y

theorem State.runTile_within {s u : State} {t op : Nat} {a : Access} {issue : Tile → Nat → Issue} {x : Tile} {D W : List Nat}
    (tile : x = (s.tileNow t a.upsets).1) (run : s.runTile t op a issue = .next u)
    (within : x.IssuesWithin D W (issue x (x.instrAt x.pc))) : s.TileIssued t x D W u := by
  unfold State.runTile at run
  extract_lets y z fetch w at run
  have same : z = x := tile.symm
  split at run
  · exact .inl (Host.Outcome.next.inj run).symm
  · split at run
    · exact .inr ⟨_, _, (Host.Outcome.next.inj run).symm, .of_eq (by rw [← same])⟩
    · split at run
      · cases run
      · split at run
        · exact .inl (Host.Outcome.next.inj run).symm
        · have left : x.IssuesWithin D W (issue z w) := by
            rw [show w = x.instrAt x.pc from same ▸ rfl, same]
            exact within
          revert run left
          generalize issue z w = i
          intro run left
          cases left with
          | held => exact .inl (Host.Outcome.next.inj run).symm
          | undef u => cases run
          | done n h => exact .inr ⟨_, _, (Host.Outcome.next.inj run).symm, h⟩

/-- A command that is an instruction of a tile program runs its tile by an issue of its own. VFUNC takes a free value first
(log 9). -/
theorem exec_tileOp {c : Instr} {t op : Nat} {a : Access} (named : tileOp c = some (t, op, a)) (s : State) :
    ∃ (s' : State) (issue : Tile → Nat → Issue), (s' = s ∨ s' = s.useFree) ∧ exec c s = s'.runTile t op a issue ∧
      ∀ (x : Tile) (w : Nat), x.IssuesWithin (deckStores c x w) (weightStores x w) (issue x w) := by
  cases c
  case halt => cases named; exact ⟨s, _, .inl rfl, (rfl : execHalt t a s = _), fun _ _ => issueHalt_within ..⟩
  case nop => cases named; exact ⟨s, _, .inl rfl, (rfl : execNop t a s = _), fun _ _ => issueNop_within ..⟩
  case fwait => cases named; exact ⟨s, _, .inl rfl, (rfl : execFwait t a s = _), fun _ _ => issueFwait_within ..⟩
  case testw => cases named; exact ⟨s, _, .inl rfl, (rfl : execTestw t a s = _), fun _ _ => issueTestw_within ..⟩
  case sync => cases named; exact ⟨s, _, .inl rfl, (rfl : execSync t a s = _), fun _ _ => issueSync_within ..⟩
  case gfence => cases named; exact ⟨s, _, .inl rfl, (rfl : execGfence t a s = _), fun _ _ => issueGfence_within ..⟩
  case cwait => cases named; exact ⟨s, _, .inl rfl, (rfl : execCwait t a s = _), fun _ _ => issueCwait_within ..⟩
  case sli => cases named; exact ⟨s, _, .inl rfl, (rfl : execSli t a s = _), fun _ _ => issueSli_within ..⟩
  case slih => cases named; exact ⟨s, _, .inl rfl, (rfl : execSlih t a s = _), fun _ _ => issueSlih_within ..⟩
  case salu => cases named; exact ⟨s, _, .inl rfl, (rfl : execSalu t a s = _), fun _ _ => issueSalu_within ..⟩
  case smovs => cases named; exact ⟨s, _, .inl rfl, (rfl : execSmovs t a s = _), fun _ _ => issueSmovs_within ..⟩
  case br => cases named; exact ⟨s, _, .inl rfl, (rfl : execBr t a s = _), fun _ _ => issueBr_within ..⟩
  case dbnz => cases named; exact ⟨s, _, .inl rfl, (rfl : execDbnz t a s = _), fun _ _ => issueDbnz_within ..⟩
  case setrc => cases named; exact ⟨s, _, .inl rfl, (rfl : execSetrc t a s = _), fun _ _ => issueSetrc_within ..⟩
  case lds => cases named; exact ⟨s, _, .inl rfl, (rfl : execLds t a s = _), fun _ _ => issueLds_within ..⟩
  case sts => cases named; exact ⟨s, _, .inl rfl, (rfl : execSts t a s = _), fun _ _ => issueSts_within ..⟩
  case loadw => cases named; exact ⟨s, _, .inl rfl, (rfl : execLoadw t a s = _), fun _ _ => issueLoadw_within ..⟩
  case wfill => cases named; exact ⟨s, _, .inl rfl, (rfl : execWfill t a s = _), fun _ _ => issueWfill_within ..⟩
  case stream => cases named; exact ⟨s, _, .inl rfl, (rfl : execStream t a s = _), fun _ _ => issueStream_within ..⟩
  case drain => cases named; exact ⟨s, _, .inl rfl, (rfl : execDrain t a s = _), fun _ _ => issueDrain_within ..⟩
  case dfill => cases named; exact ⟨s, _, .inl rfl, (rfl : execDfill t a s = _), fun _ _ => issueDfill_within ..⟩
  case dcopy => cases named; exact ⟨s, _, .inl rfl, (rfl : execDcopy t a s = _), fun _ _ => issueDcopy_within ..⟩
  case varith => cases named; exact ⟨s, _, .inl rfl, (rfl : execVarith t a s = _), fun _ _ => issueVarith_within ..⟩
  case vcmp => cases named; exact ⟨s, _, .inl rfl, (rfl : execVcmp t a s = _), fun _ _ => issueVcmp_within ..⟩
  case vint => cases named; exact ⟨s, _, .inl rfl, (rfl : execVint t a s = _), fun _ _ => issueVint_within ..⟩
  case vmove => cases named; exact ⟨s, _, .inl rfl, (rfl : execVmove t a s = _), fun _ _ => issueVmove_within ..⟩
  case vcvt => cases named; exact ⟨s, _, .inl rfl, (rfl : execVcvt t a s = _), fun _ _ => issueVcvt_within ..⟩
  case vfunc => cases named; exact ⟨s.useFree, _, .inr rfl, (rfl : execVfunc t a s = _), fun _ _ => issueVfunc_within ..⟩
  case vred => cases named; exact ⟨s, _, .inl rfl, (rfl : execVred t a s = _), fun _ _ => issueVred_within ..⟩
  case vld => cases named; exact ⟨s, _, .inl rfl, (rfl : execVld t a s = _), fun _ _ => issueVld_within ..⟩
  case vst => cases named; exact ⟨s, _, .inl rfl, (rfl : execVst t a s = _), fun _ _ => issueVst_within ..⟩
  case vgather => cases named; exact ⟨s, _, .inl rfl, (rfl : execVgather t a s = _), fun _ _ => issueVgather_within ..⟩
  case vscatter => cases named; exact ⟨s, _, .inl rfl, (rfl : execVscatter t a s = _), fun _ _ => issueVscatter_within ..⟩
  case vscadd => cases named; exact ⟨s, _, .inl rfl, (rfl : execVscadd t a s = _), fun _ _ => issueVscadd_within ..⟩
  case csend => cases named; exact ⟨s, _, .inl rfl, (rfl : execCsend t a s = _), fun _ _ => issueCsend_within ..⟩
  case crecv => cases named; exact ⟨s, _, .inl rfl, (rfl : execCrecv t a s = _), fun _ _ => issueCrecv_within ..⟩
  all_goals cases named

/-- The state after such a command. -/
theorem exec_tileIssued {c : Instr} {t op : Nat} {a : Access} {s u : State} {x : Tile} (named : tileOp c = some (t, op, a))
    (tile : x = (s.tileNow t a.upsets).1) (run : exec c s = .next u) :
    ∃ s' : State, (s' = s ∨ s' = s.useFree) ∧
      s'.TileIssued t x (deckStores c x (x.instrAt x.pc)) (weightStores x (x.instrAt x.pc)) u := by
  obtain ⟨s', issue, free, runs, within⟩ := exec_tileOp named s
  refine ⟨s', free, State.runTile_within ?_ (runs.symm.trans run) (within x _)⟩
  rcases free with rfl | rfl <;> exact tile

end Sys2Proof.Machine
end

section
/-! PROOFS. A cycle of the vector row, of the copy engine and of the output queue changes no deck byte but those they store to
(R84, R86, R95, R110, R114, R137). -/

namespace Sys2Proof.Machine

/-! ## A deck byte that is kept -/

/-- From tile t to tile u the deck keeps its canonical form and the byte at b. -/
def Tile.KeepsByte (b : Nat) (t u : Tile) : Prop :=
  t.deck.wf = true → u.deck.wf = true ∧ u.deck.read b = t.deck.read b

namespace Tile.KeepsByte

variable {b : Nat} {t u v : Tile}

theorem of_deck (h : u.deck = t.deck) : t.KeepsByte b u := fun wf => ⟨h ▸ wf, by rw [h]⟩

theorem refl (t : Tile) : t.KeepsByte b t := of_deck rfl

theorem trans (h : t.KeepsByte b u) (k : u.KeepsByte b v) : t.KeepsByte b v := fun wf =>
  ⟨(k (h wf).1).1, (k (h wf).1).2.trans (h wf).2⟩

/-- Bytes stored elsewhere leave a byte of the deck as it was. -/
theorem deckWrite {l : List (Nat × Byte)} (away : ∀ p ∈ l, p.1 % deckSize ≠ b) : t.KeepsByte b (t.deckWrite l) := fun wf => by
  refine ⟨Memory.wf_writeList _ _ wf, Memory.read_writeList_of_notMem _ _ wf b fun p hp => ?_⟩
  obtain ⟨q, hq, rfl⟩ := List.mem_map.mp hp
  exact away q hq

end Tile.KeepsByte

/-! ## The vector row (R86, R110, R114) -/

theorem mem_of_mem_dedup {l : List Nat} {b : Nat} (h : b ∈ dedup l) : b ∈ l := by
  have add : ∀ (l acc : List Nat), b ∈ l.foldl (fun acc x => if acc.contains x then acc else acc ++ [x]) acc → b ∈ acc ∨ b ∈ l := by
    intro l
    induction l with
    | nil => exact fun _ h => .inl h
    | cons x rest ih =>
      intro acc h
      rcases ih _ h with old | new
      · dsimp only at old
        split at old
        · exact .inl old
        · rcases List.mem_append.mp old with old | one
          · exact .inl old
          · exact .inr (List.mem_singleton.mp one ▸ List.mem_cons_self)
      · exact .inr (List.mem_cons_of_mem x new)
  exact (add l [] h).resolve_left List.not_mem_nil

/-- The addresses of a scatter-add lie within the deck. -/
theorem mod_of_mem_scadd {f : Fmt} {ls : List (Nat × Code × Rounding)} {b : Nat} (h : b ∈ (VecUse.scadd f ls).addrs) :
    b % deckSize = b := by
  obtain ⟨p, -, mem⟩ := List.mem_flatMap.mp h
  exact mod_of_mem_wrapAddrs mem

/-- Lines served for an access keep what the access is, and each byte that it does not store to. -/
theorem serveVec_foldl (b : Nat) (lines : List Nat) (y : Tile × VecAcc × Notes) :
    (lines.foldl serveVec y).2.1.use = y.2.1.use ∧
      (b ∉ y.2.1.use.stores → y.1.KeepsByte b (lines.foldl serveVec y).1) := by
  refine foldl_related (fun y z : Tile × VecAcc × Notes => z.2.1.use = y.2.1.use ∧ (b ∉ y.2.1.use.stores → y.1.KeepsByte b z.1))
    (fun _ => ⟨rfl, fun _ => .refl _⟩) (fun h k => ⟨k.1.trans h.1, fun out => (h.2 out).trans (k.2 (h.1 ▸ out))⟩) serveVec
    (fun y l => ?_) lines y
  unfold serveVec
  extract_lets t a
  split
  · next bs use =>
    refine ⟨rfl, fun out => .deckWrite fun p hp at_b => out ?_⟩
    rw [show y.2.1.use = .store bs from use]
    exact List.mem_map.mpr ⟨p, (List.mem_filter.mp hp).1, at_b⟩
  · exact ⟨rfl, fun _ => .refl _⟩

/-- An access that ends leaves the queue behind it, or the writes of a scatter-add to the addresses that it read. -/
theorem finishVec_stores {b : Nat} {t : Tile} {c : Nat} {a : VecAcc} {rest : List VecAcc} (ends : b ∉ a.use.stores)
    (others : ∀ acc ∈ rest, b ∉ acc.use.stores) : ∀ acc ∈ (finishVec t c a rest).1.vq, b ∉ acc.use.stores := by
  unfold finishVec
  split
  · exact others
  · exact others
  · exact others
  · next f ls use =>
    refine List.forall_mem_cons.mpr ⟨fun mem => ends ?_, others⟩
    obtain ⟨p, hp, rfl⟩ := List.mem_map.mp mem
    obtain ⟨d, hd, rfl⟩ := List.mem_map.mp hp
    rw [use] at hd ⊢
    have one := mem_of_mem_dedup hd
    exact (mod_of_mem_scadd one).symm ▸ one

/-- A cycle of the vector row keeps each deck byte that no queued access stores to, and queues no store to it. -/
theorem Tile.vecCycle_keeps {t : Tile} {b : Nat} (out : ∀ acc ∈ t.vq, b ∉ acc.use.stores) (c : Nat) :
    t.KeepsByte b (t.vecCycle c).1 ∧ ∀ acc ∈ (t.vecCycle c).1.vq, b ∉ acc.use.stores := by
  unfold Tile.vecCycle
  split
  · exact ⟨.refl t, out⟩
  · next a rest queue =>
    obtain ⟨first, others⟩ := List.forall_mem_cons.mp (queue ▸ out)
    extract_lets y z _ served _ w
    obtain ⟨use, kept⟩ := serveVec_foldl b y.1 (t, a, Notes.none)
    have kept : t.KeepsByte b z.1 := kept first
    have left : ∀ {steps : List (List Nat)}, b ∉ ({ z.2.1 with steps := steps } : VecAcc).use.stores := fun mem => first (use ▸ mem)
    split
    · exact ⟨kept, List.forall_mem_cons.mpr ⟨left, others⟩⟩
    · split
      · have deck : w.1.deck = z.1.deck := Tile.deck_of_memories (finishVec_memories served c z.2.1 rest)
        exact ⟨kept.trans (.of_deck deck), finishVec_stores (fun mem => first (use ▸ mem)) others⟩
      · exact ⟨kept, List.forall_mem_cons.mpr ⟨left, others⟩⟩

/-! ## The copy engine (R95, R137) -/

/-- Reads of a copy leave the deck, and the job's bytes and destination. -/
theorem copyRead_foldl (c : Nat) (lines : List Nat) (y : Tile × CopyJob × Notes) :
    (lines.foldl (copyRead c) y).1.deck = y.1.deck ∧ (lines.foldl (copyRead c) y).2.1.chunk = y.2.1.chunk ∧
      (lines.foldl (copyRead c) y).2.1.dstAddr = y.2.1.dstAddr := by
  refine foldl_related (fun y z : Tile × CopyJob × Notes => z.1.deck = y.1.deck ∧ z.2.1.chunk = y.2.1.chunk ∧
    z.2.1.dstAddr = y.2.1.dstAddr) (fun _ => ⟨rfl, rfl, rfl⟩)
    (fun h k => ⟨k.1.trans h.1, k.2.1.trans h.2.1, k.2.2.trans h.2.2⟩) _ (fun y l => ?_) lines y
  unfold copyRead
  dsimp only
  split <;> exact ⟨rfl, rfl, rfl⟩

theorem mod_dstAddr (j : CopyJob) (i : Nat) : j.dstAddr i % deckSize = j.dstAddr i := Nat.mod_mod _ _

/-- Writes of a copy keep each byte that its chunk does not go to. -/
theorem copyWrite_foldl {b : Nat} (lines : List Nat) (y : Tile × CopyJob) (out : ∀ i ∈ y.2.chunk, y.2.dstAddr i ≠ b) :
    y.1.KeepsByte b (lines.foldl copyWrite y).1 := by
  refine (foldl_related (fun y z : Tile × CopyJob => z.2 = y.2 ∧ ((∀ i ∈ y.2.chunk, y.2.dstAddr i ≠ b) → y.1.KeepsByte b z.1))
    (fun _ => ⟨rfl, fun _ => .refl _⟩) (fun h k => ⟨k.1.trans h.1, fun out => (h.2 out).trans (k.2 (h.1 ▸ out))⟩) copyWrite
    (fun y l => ⟨rfl, fun out => ?_⟩) lines y).2 out
  have away : y.1.KeepsByte b (y.1.deckWrite ((y.2.chunk.filter fun i => lineOf (y.2.dstAddr i) == l).map fun i =>
      (y.2.dstAddr i, (y.2.byteAt i).1))) := by
    refine .deckWrite fun p hp => ?_
    obtain ⟨i, hi, rfl⟩ := List.mem_map.mp hp
    rw [mod_dstAddr]
    exact out i (List.mem_filter.mp hi).1
  exact away

theorem CopyJob.lt_of_mem_chunk {j : CopyJob} {i : Nat} (h : i ∈ j.chunk) : i < j.bytes := by
  obtain ⟨k, hk, rfl⟩ := List.mem_map.mp h
  have := List.mem_range.mp hk
  omega

/-- A cycle of the copy engine keeps each deck byte that its job does not go to. -/
theorem Tile.copyCycle_keeps {t : Tile} {b : Nat} (out : ∀ j, t.copy = some j → ∀ i, i < j.bytes → b ≠ j.dstAddr i) (c : Nat) :
    t.KeepsByte b (t.copyCycle c).1 := by
  cases job : t.copy with
  | none =>
    refine .of_deck ?_
    unfold Tile.copyCycle
    rw [job]
  | some j =>
    by_cases begun : c < j.start
    · refine .of_deck ?_
      unfold Tile.copyCycle
      rw [job]
      dsimp only
      rw [if_pos begun]
    · obtain ⟨rd, wr, busy, copy, cycle⟩ := Tile.copyCycle_running job begun
      obtain ⟨deck, chunk, dst⟩ := copyRead_foldl c rd (t, j, Notes.none)
      have away : ∀ i ∈ (rd.foldl (copyRead c) (t, j, Notes.none)).2.1.chunk,
          (rd.foldl (copyRead c) (t, j, Notes.none)).2.1.dstAddr i ≠ b := fun i hi => by
        rw [chunk] at hi
        rw [dst]
        exact (out j job i (CopyJob.lt_of_mem_chunk hi)).symm
      have written := copyWrite_foldl wr ((rd.foldl (copyRead c) (t, j, Notes.none)).1, (rd.foldl (copyRead c) (t, j, Notes.none)).2.1) away
      rw [cycle]
      exact (Tile.KeepsByte.of_deck deck).trans written

/-! ## The output queue (R86) -/

theorem servePrefix_mem (l : List OutWrite) (busy : List Nat) : ∀ p ∈ (servePrefix busy l).1, p ∈ l := by
  induction l generalizing busy with
  | nil => exact fun _ h => h
  | cons w rest ih =>
    unfold servePrefix
    split
    · exact fun _ h => absurd h List.not_mem_nil
    · exact List.forall_mem_cons.mpr ⟨List.mem_cons_self, fun p hp => List.mem_cons_of_mem w (ih _ p hp)⟩

/-- The writes served are of rows of the queue. -/
theorem serveRows_mem (l : List OutRow) (busy : List Nat) : ∀ p ∈ (serveRows busy l).1, ∃ r ∈ l, p ∈ r.writes := by
  induction l generalizing busy with
  | nil => exact fun _ h => absurd h List.not_mem_nil
  | cons r rest ih =>
    have here : ∀ p ∈ (servePrefix busy r.writes).1, ∃ q ∈ r :: rest, p ∈ q.writes := fun p hp =>
      ⟨r, List.mem_cons_self, servePrefix_mem _ _ p hp⟩
    unfold serveRows
    split
    · exact fun _ h => absurd h List.not_mem_nil
    · dsimp only
      split
      · intro p hp
        rcases List.mem_append.mp hp with first | later
        · exact here p first
        · obtain ⟨q, hq, mem⟩ := ih _ p later
          exact ⟨q, List.mem_cons_of_mem r hq, mem⟩
      · exact here

/-- A cycle of the output queue keeps each deck byte that no queued row stores to. -/
theorem Tile.outCycle_keeps {t : Tile} {b : Nat} (out : ∀ r ∈ t.outQ, ∀ p ∈ r.writes, b ∉ wrapAddrs deckSize p.addr p.data.length) :
    t.KeepsByte b t.outCycle.1 := by
  have written : t.KeepsByte b ((serveRows t.busy t.outQ).1.foldl (fun t w => t.deckPut w.addr w.data) t) := by
    refine foldl_related_mem (R := Tile.KeepsByte b) .refl .trans _ (fun p hp u => .deckWrite fun q hq at_b => ?_) t
    obtain ⟨r, hr, mem⟩ := serveRows_mem t.outQ t.busy p hp
    exact out r hr p mem (at_b ▸ mod_fst_mem_wrapAddrs hq)
  exact written

/-- Settles O32: an issue adds stores within its own addresses alone (`exec_tileIssued`), and each engine's cycle keeps the bytes
that it does not store to. -/
theorem tileStoresOnlyWhereTheyStore : Obligations.TileStoresOnlyWhereTheyStore := by
  unfold Obligations.TileStoresOnlyWhereTheyStore
  refine ⟨?issue, fun y c b wf _ out => ?_, fun y c b wf _ out => ?_, fun y c => ?_, fun y b wf _ out => ?_⟩
  case issue =>
    intro c t op a s u x w named tile word run
    subst word
    obtain ⟨s', free, issued⟩ := exec_tileIssued named tile run
    have tiles : s'.getTile t = s.getTile t := by
      rcases free with rfl | rfl <;> rfl
    rcases issued with rfl | ⟨y, n, rfl, h⟩
    · exact .inl tiles
    · right
      rw [State.getTile_finishIssue, State.getTile_setTile]
      exact ⟨h.deck, h.staging, h.late, h.outQ, h.vq, h.copy⟩
  · obtain ⟨kept, queue⟩ := Tile.vecCycle_keeps out c
    exact ⟨(kept wf).2, queue⟩
  · exact (Tile.copyCycle_keeps out c wf).2
  · exact Tile.deck_of_memories (Tile.feedCycle_memories y c)
  · exact (Tile.outCycle_keeps out wf).2

end Sys2Proof.Machine
end

section
/-! PROOFS. The canonical form of the stacks and tile memories under the shared operations of the state: tiles, errors, interrupts,
the live map, the log, the messages of the group and the stacks (R85, R248, R257, R262). -/

namespace Sys2Proof.Machine

theorem Map.mem_of_find? {α : Type} {m : Map α} {k : Nat} {x : α} (h : Map.find? m k = some x) : (k, x) ∈ m := by
  induction m with
  | nil => cases h
  | cons p rest ih =>
    obtain ⟨j, v⟩ := p
    unfold Map.find? at h
    split at h
    · next hj =>
      cases h
      exact hj ▸ List.mem_cons_self
    · exact List.mem_cons_of_mem _ (ih h)

/-- An outcome whose next state, if it has one, holds its memories in the canonical form. -/
structure CanonicalOutcome (o : Outcome) : Prop where
  kept : match o with
    | .next s => s.memoriesCanonical
    | _ => True

theorem Tile.Canonical.reset : Tile.reset.Canonical := ⟨rfl, rfl⟩

namespace State.memoriesCanonical

variable {s : State}

theorem branch {c : Prop} [Decidable c] {a b : State} (ha : a.memoriesCanonical) (hb : b.memoriesCanonical) :
    (if c then a else b).memoriesCanonical := by
  split <;> assumption

/-! ## Tiles -/

section
variable (h : s.memoriesCanonical)
include h

theorem congr {t : State} (stack : t.stack = s.stack) (tiles : t.tiles = s.tiles) : t.memoriesCanonical := by
  rw [State.memoriesCanonical, stack, tiles]
  exact h

/-- A fold of operations that keep the form keeps it. -/
theorem foldl {α : Type} {f : State → α → State}
    (each : ∀ {s : State} (a : α), s.memoriesCanonical → (f s a).memoriesCanonical) (l : List α) : (l.foldl f s).memoriesCanonical :=
  foldl_related (fun a b : State => a.memoriesCanonical → b.memoriesCanonical) (fun _ => id) (fun hab hbc => hbc ∘ hab) f
    (fun _ a => each a) l s h

theorem getTile (t : Nat) : (s.getTile t).Canonical := by
  unfold State.getTile Map.getD
  cases found : Map.find? s.tiles t with
  | none => exact .reset
  | some x => exact h.2 _ (Map.mem_of_find? found)

theorem setTile {x : Tile} (hx : x.Canonical) (t : Nat) : (s.setTile t x).memoriesCanonical := by
  refine ⟨h.1, fun p hp => ?_⟩
  rcases Map.mem_set s.tiles t x p hp with rfl | hp
  · exact hx
  · exact h.2 p hp

theorem modTile (t : Nat) {f : Tile → Tile} (each : ∀ {x : Tile}, x.Canonical → (f x).Canonical) :
    (s.modTile t f).memoriesCanonical := h.setTile (each (h.getTile t)) t

/-- A change of every tile that keeps the form of its memories. -/
theorem mapTiles {f : Nat → Tile → Tile} (each : ∀ (t : Nat) {x : Tile}, x.Canonical → (f t x).Canonical) :
    ({ s with tiles := Map.mapVals f s.tiles } : State).memoriesCanonical := by
  refine ⟨h.1, fun p hp => ?_⟩
  obtain ⟨q, hq, rfl⟩ := List.mem_map.mp hp
  exact each q.1 (h.2 q hq)

/-! ## Updates of other parts of the state -/

theorem noteSet (r : W1cReg) (b : Nat) : (s.noteSet r b).memoriesCanonical := h
theorem emit (o : Out) : (s.emit o).memoriesCanonical := h
theorem useFree : s.useFree.memoriesCanonical := h
theorem addFlags (f : Status) : (s.addFlags f).memoriesCanonical := h
theorem addError (k : ErrKind) (fails : Bool) : (s.addError k fails).memoriesCanonical := h
theorem setRegion (r : Nat) (x : Region) : (s.setRegion r x).memoriesCanonical := h
theorem modRegion (r : Nat) (f : Region → Region) : (s.modRegion r f).memoriesCanonical := h
theorem setGate (g : Nat) (x : Gate) : (s.setGate g x).memoriesCanonical := h
theorem modGate (g : Nat) (f : Gate → Gate) : (s.modGate g f).memoriesCanonical := h
theorem setRing (g r : Nat) (x : Ring) : (s.setRing g r x).memoriesCanonical := h
theorem modRing (g r : Nat) (f : Ring → Ring) : (s.modRing g r f).memoriesCanonical := h
theorem setPort (p : Nat) (x : Port) : (s.setPort p x).memoriesCanonical := h
theorem modPort (p : Nat) (f : Port → Port) : (s.modPort p f).memoriesCanonical := h
theorem setHost (p : Nat) (x : HostPort) : (s.setHost p x).memoriesCanonical := h
theorem modHost (p : Nat) (f : HostPort → HostPort) : (s.modHost p f).memoriesCanonical := h
theorem setUnit (g : Nat) (x : UpdUnit) : (s.setUnit g x).memoriesCanonical := h
theorem modUnit (g : Nat) (f : UpdUnit → UpdUnit) : (s.modUnit g f).memoriesCanonical := h
theorem setNode (n : Nat) (l : List WideRow) : (s.setNode n l).memoriesCanonical := h
theorem setFree (k c : Nat) : (s.setFree k c).memoriesCanonical := h
theorem mapChange (c : MapChange) : (s.mapChange c).memoriesCanonical := h
theorem mapDawn (l : List MapChange) : (s.mapDawn l).memoriesCanonical := h
theorem unform : s.unform.memoriesCanonical := h
theorem logRecord (kind : Nat) (data : List Byte) : (s.logRecord kind data).memoriesCanonical := h

/-! ## Errors, interrupts and the notes of a tile -/

theorem addChanDrop (r n : Nat) : (s.addChanDrop r n).memoriesCanonical := by
  rw [State.addChanDrop_frame]
  exact h

theorem raiseOn (p v : Nat) : (s.raiseOn p v).memoriesCanonical := by
  rw [State.raiseOn_frame]
  exact h

theorem raiseVector (v : Nat) : (s.raiseVector v).memoriesCanonical := by
  rw [State.raiseVector_frame]
  exact h

theorem sendPending (p : Nat) : (s.sendPending p).memoriesCanonical := by
  rw [State.sendPending_frame]
  exact h

theorem powerEvent (b : Nat) : (s.powerEvent b).memoriesCanonical := by
  rw [State.powerEvent_frame]
  exact h

theorem placeErrors : s.placeErrors.memoriesCanonical := by
  simp only [State.placeErrors]
  split
  · exact h
  · refine raiseVector ?_ _
    split <;> exact h

theorem applyNotes (t : Nat) (n : Notes) : (s.applyNotes t n).memoriesCanonical := by
  rw [(State.applyNotes_frame s t n).1.1]
  exact h

theorem putTile {x : Tile} (hx : x.Canonical) (t : Nat) (n : Notes) : (s.putTile t x n).memoriesCanonical :=
  (h.setTile hx t).applyNotes t n

theorem syncTile (t : Nat) : (s.syncTile t).memoriesCanonical := by
  unfold State.syncTile
  split
  · exact h.putTile ((h.getTile t).runTo _ _) t _
  · exact h

theorem syncRegion (r : Nat) : (s.syncRegion r).memoriesCanonical := h.foldl (fun t k => k.syncTile t) _

theorem syncTiles : s.syncTiles.memoriesCanonical := h.foldl (fun t k => k.syncTile t) _

theorem tileNow (t : Nat) (ups : List Upset) : (s.tileNow t ups).1.Canonical := by
  unfold State.tileNow
  split
  · exact (h.getTile t).toNow _ _
  · exact (h.getTile t).congr (Tile.upsetAll_memories _ _)

theorem tilePort (t : Nat) (ups : List Upset) : (s.tilePort t ups).1.Canonical := by
  unfold State.tilePort
  split
  · exact (h.getTile t).toPort _ _
  · exact (h.getTile t).congr (Tile.upsetAll_memories _ _)

/-! ## Stacks -/

theorem stackPut (a : Nat) (l : List Byte) : (s.stackPut a l).memoriesCanonical := ⟨Memory.wf_writeList _ _ h.1, h.2⟩

theorem stackPutMarked (a : Nat) (l : List Byte) (bad : List Nat) : (s.stackPutMarked a l bad).memoriesCanonical := h.stackPut a l

theorem blankSlice (g : Nat) : (s.blankSlice g).memoriesCanonical := ⟨Memory.wf_erase _ _ _ h.1, h.2⟩

theorem stackUp (g : Nat) : (s.stackUp g).memoriesCanonical := h.blankSlice g

theorem stackPowerOff (g : Nat) : (s.stackPowerOff g).memoriesCanonical := h.blankSlice g

/-! ## The live map, the log and the messages of the group -/

/-- The work of a boot and of the writes before a loss of power touches no memory. -/
theorem bootWork {t : State} (k : s.BootWork t) : t.memoriesCanonical := by
  rw [k]
  exact h

theorem powerWork {t : State} (k : s.PowerWork t) : t.memoriesCanonical := by
  rw [k.1]
  exact h

theorem dawnFinds {t : State} (k : s.DawnFinds t) : t.memoriesCanonical := by
  rw [k]
  exact h

theorem missOnly {t : State} (k : s.MissOnly t) : t.memoriesCanonical := by
  rw [k]
  exact h

theorem readWork {t : State} (k : s.ReadWork t) : t.memoriesCanonical := by
  rw [k]
  exact h

theorem settleMap : s.settleMap.memoriesCanonical := h.bootWork (.settleMap s)

theorem mergeMap : s.mergeMap.memoriesCanonical := h.bootWork (.mergeMap s)

theorem applyMap : s.applyMap.memoriesCanonical := by
  unfold State.applyMap
  split
  · exact h.mergeMap.raiseVector _
  · exact h.mergeMap

theorem noteBarriers : s.noteBarriers.memoriesCanonical := by
  rw [State.noteBarriers_frame]
  exact h

theorem flood (m : SyncMsg) (skip : Option Nat) : (s.flood m skip).memoriesCanonical := by
  rw [State.flood_frame]
  exact h

theorem linkStatus (b : Nat) (f : Group → Group) : (s.linkStatus b f).memoriesCanonical := by
  rw [State.linkStatus_frame]
  exact h

theorem floodAbort (cause : Nat) : (s.floodAbort cause).memoriesCanonical := by
  rw [State.floodAbort_frame]
  exact h

theorem detectSyncLost : s.detectSyncLost.memoriesCanonical :=
  (((h.addError .syncLost true).linkStatus 0 _).floodAbort 3).unform

theorem sendReduction (g c src : Nat) (msg : List Byte) : (s.sendReduction g c src msg).memoriesCanonical := by
  have put : ∀ {s : State} (ports : List Nat) (dest : Nat), s.memoriesCanonical →
      (match ports[c % ports.length]? with
        | some p => s.queueData p (cutFlits dest src (0xFFF0 + g % 16) none msg)
        | none => s).memoriesCanonical := by
    intro s ports dest h
    split <;> exact h
  simp only [State.sendReduction]
  split
  · exact put _ _ h
  · exact h.foldl (fun m k => put _ _ k) _

theorem listRow (g row cause : Nat) : (s.listRow g row cause).memoriesCanonical := h.readWork (.listRow s g row cause)

theorem countHard (g ring b : Nat) (fails : Bool) : (s.countHard g ring b fails).memoriesCanonical :=
  h.readWork (.countHard s g ring b fails)

theorem readReport (g : Nat) (e : EccReport) : (s.readReport g e).memoriesCanonical :=
  foldl (h.modGate g _) (fun a k => k.readWork (.countCorrected _ g a)) _

theorem loadReport (a n : Nat) (known : List Nat) (e : EccReport) (fails : Bool) :
    (s.loadReport a n known e fails).1.memoriesCanonical := by
  have corrected := foldl (h.modGate (ownerGate a) fun x => { x with eccOdc := satAdd x.eccOdc e.onDie })
    (fun x k => k.readWork (.countCorrected _ (ownerGate x) x))
  exact foldl (corrected _) (fun b k => k.countHard (ownerGate (32 * b)) 0xFFFF b fails) _

theorem stackLoad (a n : Nat) (e : EccReport) (fails : Bool) : (s.stackLoad a n e fails).1.memoriesCanonical :=
  h.loadReport a n _ e fails

/-! ## The boulevard, the update units and their slots -/

theorem dropNodes (r : Nat) : (s.dropNodes r).memoriesCanonical := by
  rw [State.dropNodes_frame]
  exact h

theorem noteTaken (n src : Nat) : (s.noteTaken n src).memoriesCanonical := by
  unfold State.noteTaken
  split <;> exact h

theorem discardRow (g cause : Nat) (w : WideRow) : (s.discardRow g cause w).memoriesCanonical := by
  simp only [State.discardRow]
  split <;> exact h

theorem askPlane (g : Nat) (l : Layer) (x : UpdSlot) (p : Nat) : (s.askPlane g l x p).memoriesCanonical := by
  unfold State.askPlane
  split <;> exact h

theorem compressBlock (g : Nat) (l : Layer) (c : Nat) : (s.compressBlock g l c).memoriesCanonical := by
  unfold State.compressBlock
  extract_lets un els done blocks us z pay resid paid noted after
  have kept : after.memoriesCanonical := h
  refine branch h ?_
  exact branch kept (kept.sendReduction g c _ _)

theorem noteReady (g : Nat) : (s.noteReady g).memoriesCanonical := by
  refine h.foldl (fun l k => ?_) _
  refine k.foldl (fun u k => ?_) _
  split
  · exact k
  · exact foldl (by exact k) (fun q k => k.askPlane g l _ q.1) _

theorem noteAllReady : s.noteAllReady.memoriesCanonical := h.foldl (fun g k => k.noteReady g) _

theorem noteGradient (g : Nat) (l : Layer) (blk : Nat) : (s.noteGradient g l blk).memoriesCanonical := by
  refine noteReady (branch ?_ h) g
  exact h.foldl (fun c k => k.compressBlock g l c) _

theorem updateBlock (g : Nat) (l : Layer) (u : Nat) : (s.updateBlock g l u).memoriesCanonical := by
  simp only [State.updateBlock]
  split <;> exact h

theorem captureInto (g : Nat) (l : Layer) (u addr : Nat) (bytes : List (Nat × Nat)) :
    (s.captureInto g l u addr bytes).memoriesCanonical := by
  simp only [State.captureInto]
  split
  · exact h
  · split
    · exact h
    · split <;> exact h

theorem captureRead (g addr : Nat) (bytes : List Byte) : (s.captureRead g addr bytes).memoriesCanonical := by
  refine h.foldl (fun l k => ?_) _
  refine branch k ?_
  exact k.foldl (fun u k => k.captureInto g l u addr _) _

end

end State.memoriesCanonical

end Sys2Proof.Machine
end

section
/-! PROOFS. The canonical form of the stacks and tile memories under the streaming rings: records posted, armings, requests, and what
a frame's begin and end do at a gate (R216 to R245, R262). -/

namespace Sys2Proof.Machine

namespace State.memoriesCanonical

variable {s : State} (h : s.memoriesCanonical)
include h

/-! ## Records and errors of a ring -/

theorem postRecord (g r status bytes seq : Nat) (irq : Bool) : (s.postRecord g r status bytes seq irq).memoriesCanonical := by
  unfold State.postRecord
  extract_lets x rec_ stored posted
  have kept : stored.memoriesCanonical := by
    refine branch h ?_
    exact (h.setGate g _).stackPut _ _
  exact branch ((kept.modRing g r _).raiseVector _) (kept.modRing g r _)

theorem ringError (g r status : Nat) : (s.ringError g r status).memoriesCanonical :=
  ((h.setRing g r _).postRecord g r status _ _ _).addError _ _

theorem addrError (g r j elem : Nat) : (s.addrError g r j elem).memoriesCanonical := by
  unfold State.addrError
  extract_lets x keep
  exact branch h ((h.setRing g r _).ringError g r 4)

/-! ## Arming and ending (R228 to R232) -/

theorem endArming (g r : Nat) : (s.endArming g r).memoriesCanonical := by
  unfold State.endArming
  extract_lets x
  split
  · exact h
  · extract_lets retired ended
    have kept : ended.memoriesCanonical := h
    exact branch kept (kept.postRecord g r 2 _ _ _)

theorem disarmRing (g r : Nat) : (s.disarmRing g r).memoriesCanonical := by
  unfold State.disarmRing
  exact branch h (h.endArming g r)

theorem armRing (g r origin : Nat) : (s.armRing g r origin).memoriesCanonical := h.endArming g r

theorem checkArming (g r : Nat) : (s.checkArming g r).memoriesCanonical := by
  unfold State.checkArming
  extract_lets x
  split
  · exact h
  · refine branch ?_ (branch ?_ h)
    · exact ((h.setRing g r _).postRecord g r 3 0 _ _).addError _ _
    · exact (h.setRing g r _).postRecord g r 1 0 _ _

theorem checkArmings (l : List (Nat × Nat)) : (s.checkArmings l).memoriesCanonical :=
  foldl (h.foldl (fun (x : Nat × Nat) k => k.checkArming x.1 x.2) _) (fun (x : Nat × Nat) k => k.checkArming x.1 x.2) _

theorem finishWalk (g r : Nat) (a : Arming) : (s.finishWalk g r a).memoriesCanonical :=
  (h.setRing g r _).postRecord g r _ _ _ _

theorem releaseBlock (g r : Nat) : (s.releaseBlock g r).memoriesCanonical := by
  unfold State.releaseBlock
  extract_lets x stay
  split
  · exact h
  · extract_lets d j dropped a moved freed
    have kept : freed.memoriesCanonical := branch ((h.setRing g r _).modRing _ _ _) (h.setRing g r _)
    exact branch (kept.finishWalk g r a) kept

/-! ## Requests (R217, R222, R223) -/

theorem requestBlock (g r j : Nat) : (s.requestBlock g r j).memoriesCanonical := by
  unfold State.requestBlock
  extract_lets x
  split
  · exact h
  · extract_lets d add y t
    refine branch h (branch ?_ ?_)
    · split <;> exact h
    · split
      · exact addrError (s := t) h g r j _
      · exact h

theorem requestRing (g r : Nat) : (s.requestRing g r).memoriesCanonical := h.foldl (fun j k => k.requestBlock g r j) _

theorem advanceRing (g r : Nat) : (s.advanceRing g r).memoriesCanonical :=
  (h.requestRing g r).foldl (fun c k => k.requestRing g c) _

/-! ## Blocks that complete (R220, R222, R241, R245) -/

theorem completeInbound (g r j : Nat) : (s.completeInbound g r j).memoriesCanonical := by
  unfold State.completeInbound
  extract_lets x
  split
  · exact h
  · split
    · exact h
    · extract_lets y old b done
      have kept : done.memoriesCanonical := h
      split
      · exact kept.addrError g r j _
      · exact kept

theorem completeOutbound (g r j : Nat) : (s.completeOutbound g r j).memoriesCanonical := by
  unfold State.completeOutbound
  extract_lets x
  split
  · exact h
  · split
    · exact h
    · exact branch h h

theorem completeReads (g r n : Nat) : (s.completeReads g r n).memoriesCanonical := by
  induction n generalizing s with
  | zero => exact h
  | succ n ih =>
    unfold State.completeReads
    split
    · exact h
    · refine branch ?_ (branch ?_ h)
      · split
        · exact ih (h.completeOutbound g r _)
        · exact h
      · split
        · exact branch (ih (h.completeInbound g r _)) h
        · exact h

theorem releaseWritten (g r n : Nat) : (s.releaseWritten g r n).memoriesCanonical := by
  induction n generalizing s with
  | zero => exact h
  | succ n ih =>
    unfold State.releaseWritten
    split
    · exact h
    · exact branch (ih (h.releaseBlock g r)) h

theorem sweepOld (g r : Nat) : (s.sweepOld g r).memoriesCanonical :=
  foldl (h.setRing g r _) (fun _ k => k.postRecord g r _ _ _ _) _

theorem settleRing (g r : Nat) : (s.settleRing g r).memoriesCanonical := by
  have noted := releaseWritten (s := (s.completeReads g r 6).modRing g r fun x =>
    x.modCurrent fun a => if a.d.outbound then a else a.noteWritten) (h.completeReads g r 6) g r 6
  exact (noted.sweepOld g r).advanceRing g r

/-! ## The frame tick at a gate (R216 to R221, R231) -/

theorem releaseSent (g r f n : Nat) : (s.releaseSent g r f n).memoriesCanonical := by
  induction n generalizing s with
  | zero => exact h
  | succ n ih =>
    unfold State.releaseSent
    split
    · exact h
    · exact branch (ih (h.releaseBlock g r)) h

theorem ringFrameEnd (g r : Nat) : (s.ringFrameEnd g r).memoriesCanonical := by
  unfold State.ringFrameEnd
  split
  · exact h
  · exact branch ((h.foldl (fun b k => k.completeInbound g r b.num) _).settleRing g r) (h.releaseSent g r _ 5)

theorem repeatRing (g r origin : Nat) : (s.repeatRing g r origin).memoriesCanonical := by
  unfold State.repeatRing
  extract_lets x
  split
  · exact h
  · extract_lets d ends fresh retired again
    have kept : again.memoriesCanonical := h
    exact branch h (branch (kept.postRecord g r 1 _ _ _) kept)

theorem repeatRings : s.repeatRings.memoriesCanonical := h.foldl (fun (x : Nat × Nat) k => k.repeatRing x.1 x.2 _) _

theorem ringFrameStart (g r : Nat) : (s.ringFrameStart g r).memoriesCanonical := by
  unfold State.ringFrameStart
  extract_lets x begun
  have kept : begun.memoriesCanonical := by
    unfold begun
    split
    · exact h
    · split
      · exact branch h h
      · exact h
  exact (kept.requestRing g r).settleRing g r

theorem markAllGo : s.markAllGo.memoriesCanonical := by
  rw [State.markAllGo_frame]
  exact h

theorem disarmAll : s.disarmAll.memoriesCanonical := h.foldl (fun (x : Nat × Nat) k => k.disarmRing x.1 x.2) _

theorem linkedFaults : s.linkedFaults.memoriesCanonical := by
  refine h.foldl (fun x k => ?_) _
  dsimp only
  split
  · exact branch ((k.releaseSent x.1 x.2 _ 1).ringError x.1 x.2 8) k
  · exact k

/-! ## Transfers of the stacks (R245, R252) -/

theorem issueRing (g : Nat) (c : Candidate) : (s.issueRing g c).memoriesCanonical := by
  unfold State.issueRing
  extract_lets x ring pop
  split
  · exact h
  · split
    · exact h
    · extract_lets wd fl issued
      have kept : issued.memoriesCanonical := h
      exact branch (kept.stackPutMarked _ _ _) kept

theorem issueUpdate (g : Nat) (y : UpdXfer) (rest : List UpdXfer) : (s.issueUpdate g y rest).memoriesCanonical := by
  unfold State.issueUpdate
  extract_lets x fl busy un more taken
  have kept : taken.memoriesCanonical := h
  exact branch (kept.stackPut _ _) kept

theorem bufferReport (g ring addr : Nat) (e : EccReport) : (s.bufferReport g ring addr e).memoriesCanonical :=
  foldl (h.modGate g _) (fun _ k => k.addError _ true) _

theorem checkRead (g ring : Nat) (fl : StackFlight) (e : EccReport) : (s.checkRead g ring fl e).1.memoriesCanonical :=
  (h.readReport g e).foldl (fun b k => k.countHard g ring b true) _

theorem readArrives (g r gen j : Nat) (fl : StackFlight) (e : EccReport) : (s.readArrives g r gen j fl e).memoriesCanonical := by
  unfold State.readArrives
  extract_lets c reported spoiled x take outbound stored captured
  have kept : stored.memoriesCanonical := (h.checkRead g r fl e).bufferReport g r fl.addr e
  exact settleRing (s := captured) (branch (kept.captureRead g fl.addr _) kept) g r

theorem writeAccepted (g r gen j : Nat) (fl : StackFlight) (e : EccReport) :
    (s.writeAccepted g r gen j fl e).memoriesCanonical := by
  unfold State.writeAccepted
  extract_lets reported new marked noted
  exact settleRing (s := noted) (h.bufferReport g r fl.addr e) g r

theorem updateAccepted (g layer blk : Nat) : (s.updateAccepted g layer blk).memoriesCanonical := by
  unfold State.updateAccepted
  extract_lets un more
  exact branch h h

theorem updateRead (g layer blk plane : Nat) (fl : StackFlight) (e : EccReport) :
    (s.updateRead g layer blk plane fl e).memoriesCanonical := by
  unfold State.updateRead
  extract_lets c bytes kept
  have read : kept.memoriesCanonical := h.checkRead g 0xFFFF fl e
  split
  · exact branch (read.noteGradient g _ blk) read
  · exact read

theorem endTransfer (g : Nat) (fl : StackFlight) (e : EccReport) : (s.endTransfer g fl e).memoriesCanonical := by
  unfold State.endTransfer
  split
  · exact branch (h.writeAccepted g _ _ _ fl e) (h.readArrives g _ _ _ fl e)
  · exact branch (h.updateAccepted g _ _) (h.updateRead g _ _ _ fl e)

/-! ## Reads of the host and page faults (R235 to R237, R330) -/

theorem issueHost (g : Nat) (c : Candidate) : (s.issueHost g c).memoriesCanonical := by
  unfold State.issueHost
  extract_lets x
  split
  · exact h
  · exact branch h h

theorem settleInval (p : Nat) : (s.settleInval p).memoriesCanonical :=
  foldl (h.setHost p _) (fun _ k => k.emit _) _

theorem endHostRead (g : Nat) (f : HostFlight) : (s.endHostRead g f).memoriesCanonical :=
  (h.modGate g _).settleInval f.port

theorem partialWrite (g r : Nat) : (s.partialWrite g r).memoriesCanonical := by
  unfold State.partialWrite
  extract_lets x
  split
  · exact h
  · split
    · exact h
    · split
      · exact h
      · refine branch h ?_
        extract_lets z written
        have kept : written.memoriesCanonical := h
        split
        · exact kept.addrError g r _ _
        · exact kept

theorem hostData (g : Nat) (f : HostFlight) (addr : Nat) (data : List Byte) : (s.hostData g f addr data).memoriesCanonical := by
  unfold State.hostData
  extract_lets got ended stored
  have kept : ended.memoriesCanonical := branch (h.endHostRead g f) h
  exact (settleRing (s := stored) kept g f.ring).partialWrite g f.ring

theorem hostFails (g : Nat) (f : HostFlight) : (s.hostFails g f).memoriesCanonical := by
  unfold State.hostFails
  extract_lets ended x
  have kept : ended.memoriesCanonical := h.endHostRead g f
  exact branch (kept.ringError g f.ring 6) kept

theorem faultPage (g r page : Nat) : (s.faultPage g r page).memoriesCanonical := by
  unfold State.faultPage
  extract_lets x ring
  split
  · refine branch h ?_
    exact partialWrite (by exact h) g r
  · exact h

theorem translated (g r page : Nat) : (s.translated g r page).memoriesCanonical := by
  unfold State.translated
  extract_lets x
  split
  · exact h
  · exact branch h h

/-! ## Doorbells (R238, R326) -/

theorem acceptDoorbell (g r a : Nat) : (s.acceptDoorbell g r a).memoriesCanonical := (h.setRing g r _).requestRing g r

theorem doorbell (p g r a : Nat) : (s.doorbell p g r a).memoriesCanonical := by
  unfold State.doorbell
  exact branch h (branch h (branch (h.acceptDoorbell g r a) h))

end State.memoriesCanonical

end Sys2Proof.Machine
end

section
/-! PROOFS. The canonical form of the stacks and tile memories under the crossings, the misses, the passing cycle, the ports, the run
of a plan, power and Night, resets and Dawn, and the frame tick (R22, R24, R120, R132, R185 to R189, R232, R262, R355 to R361). -/

namespace Sys2Proof.Machine

/-! ## What the operations of a tile beside its engines do to its memories -/

namespace Tile.Canonical

variable {x : Tile}

theorem wipe (x : Tile) : x.wipe.Canonical := ⟨rfl, rfl⟩

theorem afterReset (x : Tile) : x.afterReset.Canonical := ⟨rfl, rfl⟩

theorem putStaging (h : x.Canonical) (a : Nat) (l : List Byte) : ({ x with staging := x.staging.putBytes a l } : Tile).Canonical := by
  have stored : (x.staging.putBytes a l).wf = true := Memory.wf_putBytes _ _ _ h.2
  simp only [Tile.Canonical]
  exact ⟨h.1, stored⟩

theorem wake (h : x.Canonical) (now : Nat) : (x.wake now).Canonical := ⟨h.1, h.2⟩

theorem restart (h : x.Canonical) (img : Option TileImage) (now : Nat) : (x.restart img now).Canonical := by
  unfold Tile.restart
  split <;> exact ⟨h.1, h.2⟩

theorem leaveWindow (h : x.Canonical) : x.leaveWindow.Canonical := by
  unfold Tile.leaveWindow
  split <;> exact h

theorem frameStart (h : x.Canonical) (now : Nat) : (x.frameStart now).Canonical := by
  simp only [Tile.frameStart]
  split
  · split <;> exact h
  · exact h
  · exact h
  · exact h

theorem goDark (h : x.Canonical) : x.goDark.Canonical :=
  ⟨rfl, Memory.wf_erase _ _ _ (Memory.wf_erase _ _ _ h.2)⟩

theorem portTaken (h : x.Canonical) : x.portTaken.Canonical := by
  unfold Tile.portTaken
  split <;> exact h

theorem receive (h : x.Canonical) (now : Nat) (dusk : Bool) (data : List Byte) : (x.receive now dusk data).1.Canonical := by
  simp only [Tile.receive]
  split
  · exact h
  · split
    · exact h
    · split
      · exact h
      · split <;> exact h

theorem drainWrites (h : x.Canonical) (now : Nat) (picks : List Nat) : (x.drainWrites now picks).1.Canonical :=
  Tile.Canonical.foldl (tile := id) (fun _ (_ : QueuedLine) k => Tile.Canonical.deckWrite k _) _ _ h

end Tile.Canonical

namespace State.memoriesCanonical

variable {s : State} (h : s.memoriesCanonical)
include h

/-! ## The crossings (R182, R185, R193) -/

theorem forward (t d : Nat) (data : List Byte) : (s.forward t d data).memoriesCanonical := by
  unfold State.forward
  split
  · exact h.modTile t (fun k => k)
  · split
    · exact h
    · split
      · exact branch h h
      · exact h

theorem sendAll {t : Nat} {l : List (Nat × List Byte)} {u : State} (sent : s.sendAll t l = some u) : u.memoriesCanonical := by
  induction l generalizing s with
  | nil =>
    cases sent
    exact h
  | cons p rest ih =>
    unfold State.sendAll at sent
    split at sent
    · cases sent
    · exact ih (h.forward t p.1 p.2) sent

theorem discardPresent (t : Nat) : (s.discardPresent t).memoriesCanonical := addChanDrop (by exact h) _ _

theorem localSend {x : Tile} (hx : x.Canonical) (t : Nat) (n : Notes) (c : Nat) (ch : Channel) :
    (s.localSend t x n c ch).memoriesCanonical := h.putTile (by exact hx) t _

theorem discardFlights : s.discardFlights.memoriesCanonical := by
  unfold State.discardFlights
  extract_lets s1 s2 s3
  have mesh : s2.memoriesCanonical := foldl (s := s1) h (fun f k => k.addChanDrop _ 1) _
  have rim : s3.memoriesCanonical := mesh.foldl (fun f k => k.addChanDrop _ 1) _
  refine rim.foldl (fun p k => branch k ?_) _
  refine addChanDrop ?_ _ _
  exact k.modTile p.1 (fun j => j)

/-! ## The misses and the passing cycle (R22, R203 to R205) -/

theorem addMiss (source unit ring wait : Nat) : (s.addMiss source unit ring wait).memoriesCanonical :=
  h.missOnly (.addMiss s source unit ring wait)

theorem logMisses : s.logMisses.memoriesCanonical := h.foldl (fun (x : Nat × Nat) k => k.addMiss 1 x.1 x.2 0) _

theorem logLinkMisses : s.logLinkMisses.memoriesCanonical := h.missOnly (.logLinkMisses s)

theorem bumpMisses : s.bumpMisses.memoriesCanonical := h.missOnly (.bumpMisses s)

theorem dropStrays : s.dropStrays.memoriesCanonical := by
  rw [State.dropStrays_frame]
  exact h

theorem sendWakes : s.sendWakes.memoriesCanonical := by
  rw [State.sendWakes_frame]
  exact ⟨h.1, h.2⟩

theorem passCycle : s.passCycle.memoriesCanonical := by
  unfold State.passCycle
  extract_lets body _ clk missed _ _ synced misses _ due
  have kept : body.memoriesCanonical := h.dropStrays.sendWakes
  have waits : missed.memoriesCanonical := kept.bumpMisses
  have engines : synced.memoriesCanonical := kept.syncTiles
  have noted : misses.memoriesCanonical := bumpMisses (branch engines.logLinkMisses engines)
  clear_value misses
  have ticks : due.memoriesCanonical := branch ⟨noted.1, noted.2⟩ kept
  clear_value due missed body
  exact branch h (branch ⟨waits.1, waits.2⟩ ⟨ticks.1, ticks.2⟩)

/-! ## The ports (R297 to R306) -/

theorem portDrop (p : Nat) (st : PortState) (result : Nat) : (s.portDrop p st result).memoriesCanonical := by
  unfold State.portDrop
  extract_lets x wasUp held freed now dropped changed told failed reported
  have free : freed.memoriesCanonical := h.foldl (fun q k => k.modPort q _) _
  have kept : changed.memoriesCanonical := (free.setPort p _).mapChange _
  have rings : failed.memoriesCanonical := (kept.linkStatus 2 _).foldl (fun (x : Nat × Nat) k => k.ringError x.1 x.2 8) _
  have noted : reported.memoriesCanonical := rings.addError _ true
  exact branch kept (branch (noted.floodAbort 1) noted)

theorem emitEofs (p : Nat) : (s.emitEofs p).memoriesCanonical := by
  rw [State.emitEofs_frame]
  exact h

theorem handBlocks : s.handBlocks.memoriesCanonical := by
  rw [State.handBlocks_frame]
  exact h

/-! ## Plans (R145 to R147, R429) -/

theorem setPlanState (x : PlanState) : (s.setPlanState x).memoriesCanonical := by
  unfold State.setPlanState
  exact branch h (raiseVector (by exact h) _)

theorem refusePlan (code : Nat) : (s.refusePlan code).memoriesCanonical := raiseVector (by exact h) _

theorem wipeTiles : s.wipeTiles.memoriesCanonical := h.mapTiles (fun _ x _ => .wipe x)

theorem loadCommand : s.loadCommand.memoriesCanonical := by
  unfold State.loadCommand
  refine branch (h.refusePlan 1) (branch (h.refusePlan 12) (branch (h.refusePlan 13) ?_))
  exact setPlanState (wipeTiles (by exact h)) _

theorem writeStores (m : Memory) (b : Nat) : (s.writeStores m b).memoriesCanonical := by
  unfold State.writeStores
  refine foldl (h.foldl (fun a k => ?_) _) (fun a k => ?_) _
  · exact k.modTile _ (fun j => j.putStaging _ _)
  · exact k.modTile _ (fun j => j.putStaging _ _)

theorem installTemplates (p : Plan) : (s.installTemplates p).memoriesCanonical :=
  h.foldl (fun (t : RingTemplate) k => k.setRing t.gate t.ring _) _

theorem loadComplete (ecc : EccReport) : (s.loadComplete ecc).memoriesCanonical := by
  unfold State.loadComplete
  extract_lets y loaded _ plan written _
  have kept : loaded.memoriesCanonical := h.stackLoad _ _ ecc true
  have stored : written.memoriesCanonical := (kept.writeStores _ _).installTemplates plan
  clear_value written loaded
  split
  · exact setPlanState (by exact kept) _
  · exact setPlanState (by exact stored) _

theorem startCommand : s.startCommand.memoriesCanonical := by
  unfold State.startCommand
  exact branch h (branch (h.refusePlan 1) (branch (h.refusePlan 1) (branch (h.refusePlan 12) (branch (h.refusePlan 10) h))))

theorem stopCommand : s.stopCommand.memoriesCanonical := by
  unfold State.stopCommand
  exact branch h (branch h h)

theorem restartTiles : s.restartTiles.memoriesCanonical := by
  unfold State.restartTiles
  split
  · exact h
  · exact mapTiles (h.foldl (fun i k => k.modTile i.1 (fun j => j)) _) (fun _ _ j => j.restart _ _)

theorem haltTiles : s.haltTiles.memoriesCanonical := h.mapTiles (fun _ _ j => j.leaveWindow)

theorem postStep (r : List Byte) (ok : Bool) : (s.postStep r ok).memoriesCanonical := by
  unfold State.postStep
  exact branch h (raiseVector (by exact h) _)

theorem recordStep (status : Nat) (stop : Bool) : (s.recordStep status stop).memoriesCanonical := h.postStep _ _

theorem endRun : s.endRun.memoriesCanonical := setPlanState (disarmAll (haltTiles (by exact h))) _

/-! ## Power, dusk and Night (R344 to R359) -/

theorem formRequest : s.formRequest.memoriesCanonical := by
  unfold State.formRequest
  extract_lets keep q _ asked _ _ coded p limited
  have code : coded.memoriesCanonical := branch (c := asked.group.formed = true) h h
  have limit : limited.memoriesCanonical := branch (code.powerEvent 5) code
  exact branch limit (limit.powerEvent 7)

theorem enterDusk (r : Nat) (f : Region → Region) : (s.enterDusk r f).memoriesCanonical := branch h (h.dropNodes r)

theorem leaveDusk (r : Nat) (f : Region → Region) : (s.leaveDusk r f).memoriesCanonical := by
  unfold State.leaveDusk
  extract_lets changed
  have kept : changed.memoriesCanonical := h
  refine branch kept (kept.mapTiles (fun t x j => ?_))
  split
  · exact j.wake _
  · exact j

theorem planDuskRegion (r : Nat) : (s.planDuskRegion r).memoriesCanonical := by
  unfold State.planDuskRegion
  split
  · exact h
  · exact branch (h.enterDusk r _) (branch (h.leaveDusk r _) h)

theorem endRamps (count : Nat) : (s.endRamps count).memoriesCanonical := by
  refine h.foldl (fun r k => ?_) _
  extract_lets done ramped
  have plan : ramped.memoriesCanonical := branch (k.leaveDusk r _) k
  exact branch (plan.leaveDusk r _) plan

theorem heatEnter (idle phaseBegins : Bool) (r : Nat) : (s.heatEnter idle phaseBegins r).memoriesCanonical := by
  unfold State.heatEnter
  extract_lets x dusk _ event
  have entered : dusk.memoriesCanonical := h.enterDusk r _
  clear_value dusk
  have counted : event.memoriesCanonical := powerEvent (by exact entered) 4
  exact branch h (branch (counted.addError _ _) (branch ((h.addError _ _).powerEvent 4) h))

theorem heatTick : s.heatTick.memoriesCanonical := by
  simp only [State.heatTick]
  split
  · exact h.foldl (fun r k => k.heatEnter _ _ r) _
  · exact h.foldl (fun r k => k.heatEnter true false r) _

theorem heatWatch (r : Nat) : (s.heatWatch r).memoriesCanonical := by
  unfold State.heatWatch
  exact branch h (branch (branch (h.modRegion r _) h) (branch (h.modRegion r _) h))

theorem enterNight : s.enterNight.memoriesCanonical := h.bootWork (.enterNight s)

theorem coolStop : s.coolStop.memoriesCanonical := by
  unfold State.coolStop
  extract_lets night _ event reported told
  have dark : night.memoriesCanonical := h.syncTiles.enterNight
  clear_value night
  have raised : event.memoriesCanonical := powerEvent (by exact dark) 1
  have noted : reported.memoriesCanonical := raised.addError .coolStop true
  have kept : told.memoriesCanonical := branch ((noted.floodAbort 1).flood _ _).unform noted
  clear_value told
  exact branch h ⟨kept.1, kept.2⟩

theorem thermTrip (k : ErrKind) : (s.thermTrip k).memoriesCanonical := by
  unfold State.thermTrip
  extract_lets _ _ tripped
  have kept : tripped.memoriesCanonical := powerEvent (by exact h) 2
  exact branch h (kept.addError k true).coolStop

theorem countTemp : s.countTemp.memoriesCanonical := by
  unfold State.countTemp
  exact branch h h

/-! ## Test slices, resets and short circuits (R232, R260, R360, R361, R384 to R389) -/

theorem endSlice (t result : Nat) : (s.endSlice t result).memoriesCanonical := h.setTile (by exact h.getTile t) t

theorem abortSlice (t : Nat) : (s.abortSlice t).memoriesCanonical := h.endSlice t 3

theorem abortSlices : s.abortSlices.memoriesCanonical := h.foldl (fun t k => k.abortSlice t) _

theorem computeWipe : s.computeWipe.memoriesCanonical := by
  unfold State.computeWipe
  extract_lets ended reset none _
  have kept : reset.memoriesCanonical := h.abortSlices.disarmAll.mapTiles (fun _ x _ => .afterReset x)
  have idle : none.memoriesCanonical := setPlanState (by exact kept) _
  clear_value none
  exact idle

theorem stopCompute : s.stopCompute.memoriesCanonical := by
  unfold State.stopCompute
  extract_lets synced _ _ stopped reported told
  have idle : stopped.memoriesCanonical := h.syncTiles
  have noted : reported.memoriesCanonical := idle.addError _ true
  have kept : told.memoriesCanonical := (branch (noted.flood _ _) noted).unform
  exact branch kept kept.computeWipe

theorem noteShort (r rail : Nat) : (s.noteShort r rail).memoriesCanonical := by
  unfold State.noteShort
  refine powerEvent (logRecord ?_ _ _) 3
  exact h

theorem darken (r : Nat) : (s.darken r).memoriesCanonical := by
  have dark := (((h.syncRegion r).dropNodes r).modRegion r fun x => { x with dark := true }).mapTiles
    (f := fun t x => if regionOf t = r then x.goDark else x) (fun t x j => by
      split
      · exact j.goDark
      · exact j)
  exact (((dark.mapChange (.flag r 0)).addError (.regionDark r) true).noteShort r 0).noteBarriers

theorem stopCrossings (r : Nat) : (s.stopCrossings r).memoriesCanonical := by
  refine mapTiles (s := { s with mesh := _, rim := _, barriers := _ }) h (fun t x j => ?_)
  split <;> exact j

theorem loseThoroughfare (r : Nat) : (s.loseThoroughfare r).memoriesCanonical := by
  have lost := (((h.stopCrossings r).modRegion r fun x => { x with thorLost := true }).mapChange (.flag r 1)).foldl
    (fun g k => k.mapChange (.segment (segKey g))) (segmentsOfRegion r)
  exact (lost.addError (.thoroughfareLost r) true).noteShort r 1

end State.memoriesCanonical

end Sys2Proof.Machine
end

section
/-! PROOFS. The canonical form of the stacks and tile memories under the beginning of Dawn and the frame tick (R24, R145, R216, R231,
R262, R367). -/

namespace Sys2Proof.Machine

namespace State.memoriesCanonical

variable {s : State} (h : s.memoriesCanonical)

/-! ## Dawn begins (R367, R368, R388, R390) -/

omit h in
/-- The state in which Dawn begins has empty memories. -/
theorem dawnState (s : State) (straps cause : Nat) : (s.dawnState straps cause).memoriesCanonical :=
  ⟨rfl, fun _ hx => nomatch hx⟩

omit h in
theorem powerDown (s : State) : s.powerDown.memoriesCanonical := ⟨rfl, fun _ hx => nomatch hx⟩

include h

theorem dawnLines : s.dawnLines.memoriesCanonical := by
  unfold State.dawnLines
  extract_lets dark
  have kept : dark.memoriesCanonical := branch h h.enterNight
  exact branch kept kept.coolStop

omit h in
theorem beginDawn (s : State) (straps cause : Nat) : (s.beginDawn straps cause).memoriesCanonical := by
  unfold State.beginDawn
  extract_lets y _ _ installed _
  have fresh := dawnState s.settleMap.finishWrites straps cause
  have booted : y.1.memoriesCanonical := by
    refine bootWork ?_ (.selectImage _)
    exact fresh
  clear_value y
  have read : installed.memoriesCanonical := booted.bootWork (.readConfig _)
  refine branch (bootWork ?_ (.logFirmware _ 6 _)) (dawnLines ?_)
  · exact booted
  · exact read

/-! ## The end of a frame (R203, R219, R345 to R350) -/

theorem closeFrame : s.closeFrame.memoriesCanonical := by
  unfold State.closeFrame
  extract_lets stretch _ frm noted
  have kept : noted.memoriesCanonical := h.foldl (fun b k => k.noteSet .num b) _
  exact ⟨kept.1, kept.2⟩

theorem stackTemps (l : List (Nat × Int)) : (s.stackTemps l).memoriesCanonical := by
  unfold State.stackTemps
  extract_lets heated
  have kept : heated.memoriesCanonical := h.foldl (fun x k => branch (k.modGate _ _) k) _
  split
  · exact branch kept ((kept.thermTrip _).logRecord 7 _)
  · exact kept

theorem tickEnd (tel : Telemetry) : (s.tickEnd tel).memoriesCanonical := by
  have measured := (h.powerWork (.measureFrame s tel s.pwr.tickWall)).powerWork (.watchStage _)
  exact ((((measured.stackTemps _).closeFrame).endRamps _).heatTick).linkedFaults

/-! ## The step boundary and the run (R120, R145, R231, R331) -/

theorem agree : s.agree.memoriesCanonical := by
  unfold State.agree
  extract_lets u others ms badOk badStep agreed _ _ refused
  have kept : agreed.memoriesCanonical := h
  have told : refused.memoriesCanonical := kept
  exact branch h (branch kept ((told.noteSet .upd 0).addError _ false))

theorem openStep (first : Bool) : (s.openStep first).memoriesCanonical := by
  unfold State.openStep
  extract_lets u now ok fresh opened told
  have kept : opened.memoriesCanonical := h
  have sent : told.memoriesCanonical := branch (kept.flood _ _) kept
  exact sent.agree

theorem beginStep (first : Bool) : (s.beginStep first).memoriesCanonical := by
  have left := h.mapTiles (f := fun _ x => x.leaveWindow) (fun _ _ j => j.leaveWindow)
  exact restartTiles (openStep (by exact left) first)

theorem keepCodes : s.keepCodes.memoriesCanonical := h

theorem closeStep : s.closeStep.memoriesCanonical := h

theorem takeLength : s.takeLength.memoriesCanonical := by
  unfold State.takeLength
  split
  · exact branch h h
  · exact h

theorem applyLength : s.applyLength.memoriesCanonical := h.takeLength

theorem rampBack : s.rampBack.memoriesCanonical := h

theorem failStep (codes : List Nat) : (s.failStep codes).memoriesCanonical := by
  unfold State.failStep
  extract_lets refused recorded _ failed tell stopped told
  have step : recorded.memoriesCanonical := h.recordStep _ true
  have noted : failed.memoriesCanonical := branch (noteSet (by exact step) .err 2) step
  have idle : stopped.memoriesCanonical := noted.endRun.rampBack
  have sent : told.memoriesCanonical := (branch (idle.floodAbort 1) idle).unform
  exact branch sent.computeWipe sent

theorem startRun : s.startRun.1.memoriesCanonical := by
  unfold State.startRun
  split
  · exact h
  · extract_lets _ taken _ begun rings _ seen go armed
    have kept : taken.memoriesCanonical := h
    split
    · exact ((kept.refusePlan 11).floodAbort 2).unform
    · have repeats : rings.memoriesCanonical := (applyLength (s := begun) kept).repeatRings
      have each : armed.memoriesCanonical := foldl (s := seen) repeats (fun t k => k.armRing t.gate t.ring _) _
      exact (each.setPlanState .running).beginStep true

theorem runTick (codes : List Nat) : (s.runTick codes).1.memoriesCanonical := by
  unfold State.runTick
  split
  · split
    · exact (h.failStep codes).applyLength
    · split
      · extract_lets stop closed
        have kept : closed.memoriesCanonical := (h.recordStep 0 stop).closeStep
        split
        · exact kept.endRun.rampBack.applyLength
        · exact kept.repeatRings.beginStep false
      · exact h
  · split
    · exact h.startRun
    · exact h.applyLength

/-! ## Commits (R15, R24, R436) -/

theorem commitPort (p : Nat) : (s.commitPort p).memoriesCanonical := by
  unfold State.commitPort
  extract_lets x b taken
  have kept : taken.memoriesCanonical := h.setPort p _
  exact branch (kept.portDrop p _ _) kept

theorem commitFields : s.commitFields.memoriesCanonical := by
  unfold State.commitFields
  extract_lets g _ _ taken
  have kept : taken.memoriesCanonical := h
  exact kept.foldl (fun p k => k.commitPort p) _

theorem commitRings : s.commitRings.1.memoriesCanonical := by
  unfold State.commitRings
  extract_lets kinds taken done
  have kept : taken.memoriesCanonical := h.foldl (fun (x : Nat × Nat) k => k.setRing x.1 x.2 _) _
  exact kept.foldl (fun _ k => branch (k.armRing _ _ _) (k.disarmRing _ _)) _

/-! ## Test slices and the tick itself -/

theorem startSlice (r : Nat) (begun : List Nat) : (s.startSlice r begun).memoriesCanonical := by
  unfold State.startSlice
  extract_lets x gapOk
  split
  · exact h
  · split
    · exact h
    · refine setRegion ?_ r _
      exact h.modTile _ (fun j => ⟨j.1, j.2⟩)

theorem startTiles : s.startTiles.memoriesCanonical := by
  unfold State.startTiles
  extract_lets begun started
  have kept : started.memoriesCanonical := h.mapTiles (fun _ _ j => j.frameStart _)
  exact branch kept (kept.foldl (fun r k => k.startSlice r begun) _)

theorem groupTick : s.groupTick.memoriesCanonical := by
  unfold State.groupTick
  extract_lets g code _ sent _
  have kept : sent.memoriesCanonical := h
  exact branch h (branch kept (emit (by exact kept) _))

theorem openOrigin (stretched : Bool) : (s.openOrigin stretched).memoriesCanonical := by
  unfold State.openOrigin
  extract_lets hs n _ before missed _
  have kept : missed.memoriesCanonical := foldl (s := before) h (fun (x : Nat × Nat) k => k.addMiss 1 x.1 x.2 0) _
  exact branch h ⟨kept.1, kept.2⟩

theorem resume : s.resume.memoriesCanonical := by
  unfold State.resume
  extract_lets _ _ day _ _ _ woken called restarted back _ _ released ready
  have morning : day.memoriesCanonical := branch h h
  clear_value day
  have tiles : woken.memoriesCanonical := morning.mapTiles (f := fun _ x => x.wake day.clk.now) (fun _ _ j => j.wake _)
  clear_value woken
  have vector : called.memoriesCanonical := branch (tiles.raiseVector _) tiles
  have core : restarted.memoriesCanonical := branch (branch (vector.flood _ _) vector) morning
  clear_value restarted
  have free : released.memoriesCanonical := core
  have told : ready.memoriesCanonical := branch (free.raiseVector _) free
  exact branch (branch (told.flood _ _) told) core

theorem applyClock : s.applyClock.memoriesCanonical := h

theorem mapTick : s.mapTick.memoriesCanonical := by
  unfold State.mapTick
  extract_lets l day old merged c
  have kept : merged.memoriesCanonical := h.applyMap
  exact branch kept (kept.logRecord 11 _)

theorem storeOld : s.storeOld.memoriesCanonical := by
  unfold State.storeOld
  split
  · exact branch (h.bootWork (.storeMap s)) h
  · exact h

theorem tickTurn : s.tickTurn.1.memoriesCanonical := by
  unfold State.tickTurn
  extract_lets codes committed resumed _ counted ended c stored y armed
  have fields : committed.memoriesCanonical := h.placeErrors.commitFields
  have clock : resumed.memoriesCanonical := fields.resume.applyClock
  clear_value resumed
  have frames : ended.memoriesCanonical := foldl (s := counted) clock (fun (x : Nat × Nat) k => k.ringFrameEnd x.1 x.2) _
  have map : stored.memoriesCanonical := frames.commitRings.storeOld.mapTick
  exact (map.runTick codes).checkArmings armed

theorem thermalUpdate : s.thermalUpdate.memoriesCanonical := h.congr rfl rfl
theorem moveRails : s.moveRails.memoriesCanonical := by
  simp only [State.memoriesCanonical, State.moveRails]
  exact h
theorem showWindows : s.showWindows.memoriesCanonical := h.congr rfl rfl

theorem tickBegin (stretched : Bool) : (s.tickBegin stretched).memoriesCanonical := by
  unfold State.tickBegin
  extract_lets _ _ cleared grouped started dusk heated near rings handed eofs
  have tiles : started.memoriesCanonical := by
    refine startTiles (groupTick ?_)
    exact h
  clear_value started
  have planned : dusk.memoriesCanonical := branch (tiles.foldl (fun r k => k.planDuskRegion r) _) tiles
  have regions : heated.memoriesCanonical := planned.foldl (fun r k => k.heatWatch r) _
  clear_value heated
  have counted : near.memoriesCanonical := by simpa only [State.memoriesCanonical, near] using regions
  clear_value near
  have opened : rings.memoriesCanonical :=
    (counted.foldl (fun (x : Nat × Nat) k => k.ringFrameStart x.1 x.2) _).openOrigin stretched
  have given : handed.memoriesCanonical := branch opened opened.markAllGo.handBlocks
  have sent : eofs.memoriesCanonical := given.foldl (fun p k => k.emitEofs p) _
  clear_value eofs
  exact sent.thermalUpdate.formRequest.moveRails.countTemp.showWindows

theorem tick (tel : Telemetry) : (s.tick tel).memoriesCanonical := (((h.tickEnd tel).tickTurn).tickBegin _).noteBarriers

end State.memoriesCanonical

end Sys2Proof.Machine
end

section
/-! PROOFS. The canonical form of the stacks and tile memories under transfers of the stacks, flits of the links, rows of the
boulevard, the life cycle, the firmware, the test engine and the messages of the group (R182, R232, R260, R262, R270 to R310, R384,
R408, R433). -/

namespace Sys2Proof.Machine

namespace CanonicalOutcome

theorem next {s : State} (h : s.memoriesCanonical) : CanonicalOutcome (.next s) := ⟨h⟩

theorem of_next {o : Outcome} {s : State} (h : CanonicalOutcome o) (run : o = .next s) : s.memoriesCanonical :=
  (run ▸ h).kept

theorem fault (f : Fault) : CanonicalOutcome (.fault f) := ⟨trivial⟩

theorem branch {c : Prop} [Decidable c] {a b : Outcome} (ha : CanonicalOutcome a) (hb : CanonicalOutcome b) :
    CanonicalOutcome (if c then a else b) := by
  split <;> assumption

end CanonicalOutcome

namespace State.memoriesCanonical

variable {s : State} (h : s.memoriesCanonical)
include h

/-! ## Transfers and rim lanes -/

theorem issueChecked (g : Nat) (c : Candidate) : CanonicalOutcome (s.issueChecked g c) := by
  unfold State.issueChecked
  exact .branch (.next (h.issueRing g c)) (.branch (.fault _) (.next ((h.modGate g _).issueRing g c)))

theorem updateChecked (g : Nat) : CanonicalOutcome (s.updateChecked g) := by
  unfold State.updateChecked
  split
  · exact .next h
  · exact .branch (.fault _) (.next (h.issueUpdate g _ _))

theorem issueStack (g : Nat) : CanonicalOutcome (s.issueStack g) := by
  unfold State.issueStack
  split
  · exact .branch (h.updateChecked g) (h.issueChecked g _)
  · exact .branch (h.updateChecked g) (.next h)

theorem sendRim (g r : Nat) (d : Desc) (b : Block) (k : Nat) : (s.sendRim g r d b k).memoriesCanonical := by
  unfold State.sendRim
  extract_lets t x sent
  have kept : sent.memoriesCanonical := h.setRing g r _
  exact branch kept kept

theorem storeRim (g r j k : Nat) (data : List Byte) : (s.storeRim g r j k data).memoriesCanonical := h.modRing g r _

/-! ## Link streams and flits (R291 to R303) -/

theorem freeBuffer (p : Nat) : (s.freeBuffer p).memoriesCanonical := h.modPort p _

theorem countRxDrop (p : Nat) : (s.countRxDrop p).memoriesCanonical := h.modPort p _

theorem dropFlit (p lstream src : Nat) : (s.dropFlit p lstream src).memoriesCanonical := by
  unfold State.dropFlit
  exact branch ((h.countRxDrop p).freeBuffer p) (((h.countRxDrop p).freeBuffer p).addError _ true)

theorem giveWrites (g r : Nat) (a : Arming) (b : Block) (n : Nat) : (s.giveWrites g r a b n).memoriesCanonical := by
  unfold State.giveWrites
  extract_lets y given
  have kept : given.memoriesCanonical := (h.modRing g r _).addFlags y.flags
  split
  · exact kept.addrError g r _ _
  · exact kept

theorem fillLink (g r n : Nat) (data : List Byte) : (s.fillLink g r n data).1.memoriesCanonical := by
  induction n generalizing s data with
  | zero => exact h
  | succ n ih =>
    unfold State.fillLink
    extract_lets x
    split
    · exact h
    · extract_lets d _ j _ _ _ _ _ _ done
      split
      · exact h
      · split
        · exact ih (h.setRing g r _) _
        · have closed : done.memoriesCanonical := branch (((h.setRing g r _).completeInbound g r j).settleRing g r) (h.setRing g r _)
          split
          · exact h
          · exact ih closed _

theorem stampRing (g r f : Nat) : (s.stampRing g r f).memoriesCanonical := (h.modRing g r _).modGate g _

theorem flushRing (g r f : Nat) : (s.flushRing g r f).memoriesCanonical := by
  unfold State.flushRing
  refine stampRing ?_ g r f
  dsimp only
  split
  · exact h
  · refine branch h ?_
    split
    · exact h
    · exact branch h (h.giveWrites g r _ _ _)

theorem flushPort (p f : Nat) : (s.flushPort p f).memoriesCanonical :=
  h.foldl (fun (x : Nat × Nat) k => k.flushRing x.1 x.2 f) _

theorem drainPort (p n : Nat) : (s.drainPort p n).memoriesCanonical := by
  induction n generalizing s with
  | zero => exact h
  | succ n ih =>
    unfold State.drainPort
    extract_lets x
    split
    · exact h
    · split
      · exact ih ((h.setPort p _).dropFlit p _ _)
      · extract_lets y flushed
        have filled : y.1.memoriesCanonical := (h.setPort p _).fillLink _ _ 8 _
        have kept : flushed.memoriesCanonical := branch (filled.flushRing _ _ _) filled
        exact branch (ih (kept.freeBuffer p)) (branch (ih (kept.dropFlit p _ _)) (kept.modPort p _))

theorem drainRing (g r : Nat) : (s.drainRing g r).memoriesCanonical := by
  unfold State.drainRing
  split
  · exact branch (h.drainPort _ _) h
  · exact h

theorem staleMessage : s.staleMessage.memoriesCanonical := noteSet (by exact h) .upd 4

theorem passOn (p lstream src : Nat) (msg : List Byte) : (s.passOn p lstream src msg).memoriesCanonical := by
  unfold State.passOn
  dsimp only
  refine branch ?_ h
  split
  · exact h.modPort _ _
  · exact h

theorem messageArrives (p lstream src : Nat) (msg : List Byte) : (s.messageArrives p lstream src msg).memoriesCanonical := by
  unfold State.messageArrives
  extract_lets passed g
  have kept : passed.memoriesCanonical := h.passOn p lstream src msg
  exact branch kept.staleMessage kept

theorem reductionFlit (p : Nat) (f : Flit) : (s.reductionFlit p f).memoriesCanonical := by
  unfold State.reductionFlit
  extract_lets mine old data taken
  have kept : taken.memoriesCanonical := freeBuffer (by exact h) p
  exact branch (kept.messageArrives p _ _ data) kept

theorem forwardFlit (p : Nat) (f : Flit) : (s.forwardFlit p f).memoriesCanonical := by
  unfold State.forwardFlit
  exact branch (h.modPort _ _) ((h.countRxDrop p).freeBuffer p)

theorem takeData (p : Nat) (f : Flit) : (s.takeData p f).memoriesCanonical := by
  unfold State.takeData
  have dropped := (h.countRxDrop p).freeBuffer p
  exact branch dropped (branch (h.forwardFlit p f) (branch dropped (branch (h.reductionFlit p f) ((h.modPort p _).drainPort p _))))

theorem sendSlot (p : Nat) : (s.sendSlot p).memoriesCanonical := by
  unfold State.sendSlot
  extract_lets y z sent
  have kept : sent.memoriesCanonical := (h.setPort p _).emit _
  split
  · exact kept
  · dsimp only
    refine branch (emitEofs ?_ p) ?_
    all_goals
      split
      · exact kept.freeBuffer _
      · exact kept

theorem openWindow (p finish : Nat) : (s.openWindow p finish).memoriesCanonical := by
  unfold State.openWindow
  exact branch ((h.setPort p _).mapChange _) ((h.setPort p _).emit _)

theorem enterRecovery (p : Nat) : (s.enterRecovery p).memoriesCanonical := (h.setPort p _).emit _

theorem fecReport (p ce ue : Nat) : (s.fecReport p ce ue).memoriesCanonical := by
  unfold State.fecReport
  extract_lets x times counted
  have kept : counted.memoriesCanonical := h.setPort p _
  exact branch (kept.enterRecovery p) kept

theorem retrainPort (p : Nat) : (s.retrainPort p).memoriesCanonical := (h.portDrop p _ _).openWindow p _

theorem portUp (p : Nat) (r : Nat × Nat × Nat) (t : Training) : (s.portUp p r t).memoriesCanonical :=
  (h.setPort p _).mapChange _

/-! ## The boulevard and gradients (R270 to R283) -/

theorem tileRow (n t : Nat) : (s.tileRow n t).memoriesCanonical := by
  unfold State.tileRow
  extract_lets y
  split
  · exact h
  · split
    · exact ((h.putTile (h.tilePort t []).portTaken t y.2).setFree _ _).setNode n _
    · exact setFree (by exact h) _ _

theorem loseRow (r : Nat) (w : WideRow) : (s.loseRow r w).memoriesCanonical := h

theorem returnRow (n : Nat) (w : WideRow) : (s.returnRow n w).memoriesCanonical := h.setNode n _

theorem slotWait : s.slotWait.memoriesCanonical := h

theorem nodeRow (n : Nat) (f : BlvdFlight) : (s.nodeRow n f).memoriesCanonical := by
  unfold State.nodeRow
  extract_lets _ arrived
  have kept : arrived.memoriesCanonical := h
  refine branch (kept.loseRow _ _) ?_
  split
  · exact (kept.setNode n _).noteTaken n _
  · exact kept.returnRow _ _

theorem finishBlock (g : Nat) (l : Layer) (x : UpdSlot) : (s.finishBlock g l x).memoriesCanonical := by
  unfold State.finishBlock
  extract_lets y un _ _ done
  have kept : done.memoriesCanonical := (h.setUnit g _).addFlags y.2
  exact (branch (kept.askPlane g l x 3) kept).noteGradient g l _

theorem addGradient (g : Nat) (l : Layer) (x : UpdSlot) (w : WideRow) : (s.addGradient g l x w).memoriesCanonical := by
  unfold State.addGradient
  exact branch ((h.modUnit g _).finishBlock g l _) (h.modUnit g _)

theorem gateRow {g : Nat} {w : WideRow} {u : State} (taken : s.gateRow g w = some u) : u.memoriesCanonical := by
  unfold State.gateRow at taken
  split at taken
  · exact Option.some.inj taken ▸ h.discardRow g 0 w
  · split at taken
    · exact Option.some.inj taken ▸ h.discardRow g 1 w
    · extract_lets b un count at taken
      clear_value count
      split at taken
      · exact Option.some.inj taken ▸ h.discardRow g 2 w
      · split at taken
        · exact Option.some.inj taken ▸ h
        · split at taken
          · exact Option.some.inj taken ▸ h.discardRow g 3 w
          · split at taken
            · exact Option.some.inj taken ▸ h.discardRow g 4 w
            · split at taken
              · nomatch taken
              · split at taken
                · exact Option.some.inj taken ▸ h
                · exact Option.some.inj taken ▸ (h.setUnit g _).addGradient g _ _ w

theorem takeReduction (g src : Nat) (msg : List Byte) : (s.takeReduction g src msg).memoriesCanonical := by
  unfold State.takeReduction
  dsimp only
  split
  · exact h.staleMessage
  · exact branch h.staleMessage (branch h ((h.setUnit g _).noteReady g))

theorem stateOutside (g : Nat) (l : Layer) (u : Nat) : (s.stateOutside g l u).memoriesCanonical :=
  (h.modUnit g _).addError _ true

/-! ## The life cycle (R408, R409) -/

theorem finishChange (t : Transition) (failed : List Nat) (wipeOk : Bool) : (s.finishChange t failed wipeOk).memoriesCanonical := by
  unfold State.finishChange
  extract_lets old owner cleared seq _ _ changed logged
  have kept : owner.memoriesCanonical := branch (by exact h) h
  clear_value owner
  have fresh : changed.memoriesCanonical := kept
  exact (fresh.logRecord 9 _).raiseVector _

theorem startChange (q : List Byte) : (s.startChange q).memoriesCanonical := by
  unfold State.startChange
  extract_lets t totals _ _ pending stopped
  have counted : totals.memoriesCanonical := h.bootWork (.addTotals s)
  clear_value totals
  have asked : pending.memoriesCanonical := counted
  have kept : stopped.memoriesCanonical := asked.stopCompute
  exact ⟨rfl, kept.2⟩

theorem submit (q : List Byte) : (s.submit q).memoriesCanonical := by
  unfold State.submit
  extract_lets res op _ fresh _ refused cleared d _ given
  have kept : fresh.memoriesCanonical := h
  clear_value fresh
  have free : cleared.memoriesCanonical := kept
  have told : refused.memoriesCanonical := branch kept kept
  exact branch (told.raiseVector _) (branch (raiseVector (by exact free) _) (free.startChange q))

/-! ## Tests of Dawn (R370 to R378) -/

theorem repairTile (t : Nat) (cells : List BadCell) (retention : Bool) : (s.repairTile t cells retention).memoriesCanonical :=
  h.dawnFinds (.repairTile s t cells retention)

theorem dawnDead (ts : List Nat) (cause : Nat) : (s.dawnDead ts cause).memoriesCanonical := h

theorem dawnSlow (t code : Nat) : (s.dawnSlow t code).memoriesCanonical := by
  unfold State.dawnSlow
  exact branch h h

theorem searchTile (t : Nat) (fails : List Nat) : (s.searchTile t fails).memoriesCanonical := by
  unfold State.searchTile
  dsimp only
  refine branch h ?_
  split
  · exact branch h (h.dawnSlow t _)
  · exact h.dawnDead _ _

theorem testTile (x : TileTest) : (s.testTile x).memoriesCanonical := by
  unfold State.testTile
  exact branch h ((h.searchTile _ _).repairTile _ _ false)

theorem wipeFails (r : Nat) : (s.wipeFails r).memoriesCanonical := h

theorem regionDone (r : Nat) : (s.regionDone r).memoriesCanonical := h

theorem testRegion (x : RegionTest) (again : Bool) : (s.testRegion x again).memoriesCanonical := by
  unfold State.testRegion
  extract_lets r dead tested wiped
  have found : tested.memoriesCanonical :=
    branch h (branch (h.dawnDead _ 1) ((h.dawnDead _ 1).foldl (fun x k => k.testTile x) _))
  have kept : wiped.memoriesCanonical := branch (found.wipeFails r) found
  exact kept.regionDone r

theorem waveRegion (tests : List RegionTest) (r : Nat) : (s.waveRegion tests r).memoriesCanonical := by
  unfold State.waveRegion
  exact branch (h.regionDone r) (branch h (h.testRegion _ false))

end State.memoriesCanonical

end Sys2Proof.Machine
end

section
/-! PROOFS. The canonical form of the stacks and tile memories under the firmware, the test engine, the registers, the aperture and
the messages of the group (R305 to R310, R324, R332, R400 to R406, R433, R436). -/

namespace Sys2Proof.Machine

namespace State.memoriesCanonical

variable {s : State} (h : s.memoriesCanonical)
include h

/-! ## The firmware (R400 to R406) -/

theorem fwResult (code : Nat) : (s.fwResult code).memoriesCanonical := h

theorem modImg (b : Bool) (f : Image → Image) : (s.modImg b f).memoriesCanonical := h

theorem logFirmware (event : Nat) (b : Bool) : (s.logFirmware event b).memoriesCanonical := h

theorem stageSource : s.stageSource.1.memoriesCanonical := by
  unfold State.stageSource
  split
  · exact h
  · exact h.stackLoad _ _ _ _

theorem stageCommand : s.stageCommand.memoriesCanonical := by
  unfold State.stageCommand
  extract_lets y m code b read _ staged
  have kept : read.memoriesCanonical := h.stageSource.modImg b _
  clear_value read
  have set : staged.memoriesCanonical := kept
  exact branch ((h.fwResult _).raiseVector _) (set.logFirmware 1 b)

theorem stageDone (flashOk : Bool) (ecc : EccReport) : (s.stageDone flashOk ecc).memoriesCanonical := by
  unfold State.stageDone
  extract_lets b y read m v code marked done
  have kept : read.memoriesCanonical := branch h ((h.loadReport _ _ _ _ _).modImg b _)
  have fresh : marked.memoriesCanonical := kept.modImg b _
  have closed : done.memoriesCanonical := branch kept (branch (fresh.modImg _ _) fresh)
  clear_value done
  exact (fwResult (by exact closed) code).raiseVector _

theorem activateCommand : s.activateCommand.memoriesCanonical := by
  unfold State.activateCommand
  extract_lets x code _ _ active
  have kept : active.memoriesCanonical := h
  exact branch h (branch (h.fwResult _) (branch (h.fwResult _) (kept.logFirmware 2 _)))

theorem confirmCommand : s.confirmCommand.memoriesCanonical := by
  unfold State.confirmCommand
  extract_lets _ confirmed
  have kept : confirmed.memoriesCanonical := h
  exact branch h (kept.logFirmware 3 _)

theorem revertCommand : s.revertCommand.memoriesCanonical := by
  unfold State.revertCommand
  exact branch h (logFirmware (by exact h) 4 _)

theorem cfgStoreCommand : s.cfgStoreCommand.memoriesCanonical := by
  unfold State.cfgStoreCommand
  extract_lets y o code
  have kept : y.1.memoriesCanonical := h.stackLoad _ _ _ _
  exact branch h (branch (h.fwResult _) (branch (h.fwResult _) ⟨kept.1, kept.2⟩))

theorem storeOwner : s.storeOwner.memoriesCanonical := by
  unfold State.storeOwner
  split
  · exact h
  · exact logRecord (by exact h) 13 _

theorem cfgStoreDone (flashOk : Bool) (ecc : EccReport) : (s.cfgStoreDone flashOk ecc).memoriesCanonical := by
  unfold State.cfgStoreDone
  extract_lets y _ _
  have kept : y.1.memoriesCanonical := h.loadReport _ _ _ _ _
  split
  · exact h
  · extract_lets o read seq
    have stored : read.memoriesCanonical := ⟨kept.1, kept.2⟩
    clear_value read
    exact branch (stored.storeOwner.fwResult 1) (logRecord (fwResult (by exact stored) 9) 13 _)

theorem fwCommand (c : Nat) : (s.fwCommand c).memoriesCanonical := by
  unfold State.fwCommand
  split
  · exact h.stageCommand
  · exact h.activateCommand
  · exact h.confirmCommand
  · exact h.revertCommand
  · exact h.cfgStoreCommand
  · exact h

/-! ## The test engine (R433, R434) -/

theorem testResult (code : Nat) : (s.testResult code).memoriesCanonical := h

theorem testCommand (c : Nat) : (s.testCommand c).memoriesCanonical := by
  unfold State.testCommand
  split
  · exact branch (h.testResult 4) (branch (h.testResult 5) h)
  · exact branch (h.testResult 4) h
  · exact branch h h
  · exact h

theorem runDone (res : TestResult) : (s.runDone res).memoriesCanonical := by
  unfold State.runDone
  extract_lets x pass tested
  have kept : tested.memoriesCanonical := h.foldl (fun t k => k.modTile t fun {x} _ => Tile.Canonical.afterReset x) _
  exact ⟨kept.1, kept.2⟩

theorem closeRefurb (pass : Bool) (fuses rails better result : Nat) :
    (s.closeRefurb pass fuses rails better result).memoriesCanonical := h

theorem refurbDone (res : TestResult) : (s.refurbDone res).memoriesCanonical := by
  unfold State.refurbDone
  extract_lets rails l now m better n pass _ reset lit stored _ done
  have fresh : reset.memoriesCanonical := ⟨h.1, (h.mapTiles fun _ x _ => Tile.Canonical.afterReset x).2⟩
  have kept : lit.memoriesCanonical := fresh.foldl (fun r k => k.modRegion r _) _
  clear_value lit
  have put : stored.memoriesCanonical := branch kept kept
  clear_value stored
  have closed : done.memoriesCanonical := put
  exact branch (h.closeRefurb false 0 0 0 3) (closed.closeRefurb pass n _ better _)

/-! ## The registers (R14 to R17, R326, R436 to R440) -/

theorem badAccess : s.badAccess.memoriesCanonical := h

theorem writeCqHead (g v : Nat) : (s.writeCqHead g v).memoriesCanonical := by
  unfold State.writeCqHead
  exact branch (h.setGate g _) h.badAccess

theorem writeScqHead (v : Nat) : (s.writeScqHead v).memoriesCanonical := by
  unfold State.writeScqHead
  exact branch h h.badAccess

theorem planCommand (c : Nat) : (s.planCommand c).memoriesCanonical := by
  unfold State.planCommand
  split
  · exact h.loadCommand
  · exact h.startCommand
  · exact h.stopCommand
  · exact h

theorem armMap : s.armMap.memoriesCanonical := by
  unfold State.armMap
  exact branch (h.linkStatus 4 _) h

theorem linkControl (p v : Nat) (retrain : Bool) : (s.linkControl p v retrain).memoriesCanonical := by
  unfold State.linkControl
  exact branch ((h.modPort p _).retrainPort p) (h.modPort p _)

theorem writeGlb (b : Nat) (m : Nat → Nat) (c : Nat) : CanonicalOutcome (s.writeGlb b m c) := by
  unfold State.writeGlb
  exact .branch (.next h) (.branch (.branch (.fault _) (.next h)) (.branch (.next (h.planCommand _)) (.next h)))

theorem writeFrm (b : Nat) (m : Nat → Nat) (c : Nat) : (s.writeFrm b m c).memoriesCanonical := by
  unfold State.writeFrm
  exact branch h (branch h h)

theorem writeGate (g b : Nat) (m : Nat → Nat) : (s.writeGate g b m).memoriesCanonical := by
  unfold State.writeGate
  exact branch h (branch h (branch (h.writeCqHead g _) h))

theorem writeStrm (g b : Nat) (m : Nat → Nat) : (s.writeStrm g b m).memoriesCanonical := by
  unfold State.writeStrm
  exact branch h (branch h (branch h h))

theorem writeUpd (b : Nat) (m : Nat → Nat) (c : Nat) : (s.writeUpd b m c).memoriesCanonical := by
  unfold State.writeUpd
  exact branch h (branch h h)

theorem writeLink (b : Nat) (m : Nat → Nat) (c : Nat) : (s.writeLink b m c).memoriesCanonical := by
  unfold State.writeLink
  refine branch h (branch (branch h.armMap h) ?_)
  exact branch ⟨h.1, h.2⟩ (branch (h.linkControl _ _ _) h)

theorem writeHost (b : Nat) (m : Nat → Nat) : (s.writeHost b m).memoriesCanonical := by
  unfold State.writeHost
  exact branch h (branch h (branch h (branch h (branch (h.writeScqHead _) h))))

theorem writePwr (b : Nat) (m : Nat → Nat) (c : Nat) : (s.writePwr b m c).memoriesCanonical := by
  unfold State.writePwr
  exact branch h (branch h h)

theorem writeTst (b : Nat) (m : Nat → Nat) (c : Nat) : CanonicalOutcome (s.writeTst b m c) := by
  unfold State.writeTst
  exact .branch (.next (h.testCommand _)) (.branch (.branch (.fault _) (.branch (.next h) (.next h))) (.next h))

theorem writeLcs (b : Nat) (m : Nat → Nat) (c : Nat) : (s.writeLcs b m c).memoriesCanonical := by
  unfold State.writeLcs
  exact branch (branch (h.submit _) h) (branch h (branch ⟨h.1, h.2⟩ h))

theorem writeFw (b : Nat) (m : Nat → Nat) (c : Nat) : (s.writeFw b m c).memoriesCanonical := by
  unfold State.writeFw
  exact branch h (branch (h.fwCommand _) (branch h (branch h h)))

theorem writeErr (b c : Nat) : (s.writeErr b c).memoriesCanonical := by
  unfold State.writeErr
  exact branch h h

theorem writeReg (o size v : Nat) : CanonicalOutcome (s.writeReg o size v) := by
  unfold State.writeReg
  extract_lets b m c
  refine .branch (.next h.badAccess) ?_
  refine .branch (.next h) ?_
  refine .branch (h.writeGlb b m c) ?_
  refine .branch (.next (h.writeFrm _ m c)) ?_
  refine .branch (.next (h.writeGate _ _ m)) ?_
  refine .branch (.next (h.writeStrm _ _ m)) ?_
  refine .branch (.next (h.writeUpd _ m c)) ?_
  refine .branch (.next (h.writeLink _ m c)) ?_
  refine .branch (.next (h.writeHost _ m)) ?_
  refine .branch (.next (h.writePwr _ m c)) ?_
  refine .branch (h.writeTst _ m c) ?_
  refine .branch (.next (h.writeLcs _ m c)) ?_
  refine .branch (.next (h.writeFw _ m c)) ?_
  exact .branch (.next (h.writeErr _ c)) (.next h)

theorem writeBar4 (port o size v : Nat) : (s.writeBar4 port o size v).memoriesCanonical := by
  unfold State.writeBar4
  extract_lets v g k i set
  have kept : set.memoriesCanonical := h.modHost port _
  exact branch h.badAccess <| branch (branch h <| branch (h.doorbell port g _ _) <| branch (h.writeCqHead g _) h) <|
    branch (h.writeScqHead _) <| branch (kept.sendPending port) h

/-! ## The aperture and the host's accesses (R320, R321, R332) -/

theorem countAddr (a : Nat) : (s.countAddr a).memoriesCanonical := h.modGate _ _

theorem apertureLoad (port a len : Nat) (ecc : EccReport) : (s.apertureLoad port a len ecc).memoriesCanonical :=
  (h.stackLoad a len ecc false).emit _

theorem apertureRead (port off len : Nat) (ecc : EccReport) : (s.apertureRead port off len ecc).memoriesCanonical := by
  unfold State.apertureRead
  extract_lets a blank
  exact branch h <| branch (h.emit _) <| branch ((h.countAddr a).emit blank) <| branch (h.emit blank) <| branch h
    (h.apertureLoad port a len ecc)

theorem apertureStore (a : Nat) (data : List (Option Byte)) : (s.apertureStore a data).memoriesCanonical :=
  ⟨Memory.wf_writeList _ _ h.1, h.2⟩

theorem apertureWrite (port off : Nat) (data : List (Option Byte)) (poisoned : Bool) :
    CanonicalOutcome (s.apertureWrite port off data poisoned) := by
  unfold State.apertureWrite
  extract_lets a
  exact .branch (.next h) <| .branch (.next (h.emit _)) <| .branch (.next (branch h h)) <| .branch (.fault _) <|
    .branch (.next (h.countAddr a)) <| .branch (.next h) (.next (h.apertureStore a data))

theorem applyAccess (port : Nat) (i : Instr) : CanonicalOutcome (s.applyAccess port i) := by
  unfold State.applyAccess
  extract_lets x guarded
  have open? : ∀ {o : Outcome}, CanonicalOutcome o → CanonicalOutcome (guarded o) := fun ho => .branch (.next (h.emit _)) ho
  split
  · exact open? (.branch (.branch (h.writeReg _ _ _) (.next h)) (.branch (.next (h.writeBar4 port _ _ _)) (.next h)))
  · exact open? (.next (h.apertureRead port _ _ _))
  · exact open? (h.apertureWrite port _ _ _)
  · exact .next ((h.modHost port _).sendPending port)
  · exact .next h

theorem hostAccess (port : Nat) (i : Instr) : CanonicalOutcome (s.hostAccess port i) := by
  unfold State.hostAccess
  exact .branch (.next h) (.branch (.next (h.setHost port _)) (h.applyAccess port i))

theorem replay (port : Nat) (l : List Instr) : CanonicalOutcome (State.replay port l s) := by
  induction l generalizing s with
  | nil => exact .next h
  | cons i rest ih =>
    unfold State.replay
    have applied := h.applyAccess port i
    split
    · next run =>
      have kept := applied.of_next run
      exact .branch (.next (kept.modHost port _)) (ih kept)
    · exact applied

theorem releaseHeld (port : Nat) : CanonicalOutcome (s.releaseHeld port) := (h.modHost port _).replay port _

theorem hostWrite8 (port o v : Nat) : CanonicalOutcome (s.hostWrite8 port o v) := h.hostAccess port _

theorem failRequests (p : Nat) : (s.failRequests p).memoriesCanonical := by
  unfold State.failRequests
  extract_lets asking reads failed stopped
  have kept : failed.memoriesCanonical := h.foldl (fun (x : Nat × HostFlight) k => k.hostFails x.1 x.2) _
  have ended : stopped.memoriesCanonical := kept.foldl (fun (x : Nat × Nat) k => branch k (k.ringError x.1 x.2 6)) _
  exact ⟨ended.1, ended.2⟩

theorem resetPort (p : Nat) : (s.resetPort p).memoriesCanonical := (h.failRequests p).setHost p _

theorem submitOp (port op : Nat) : CanonicalOutcome (s.submitOp port op) := by
  unfold State.submitOp
  exact .branch (h.hostWrite8 port _ _) (.next h)

theorem repairRows (g : Nat) (init : StackInit) : (s.repairRows g init).memoriesCanonical := by
  unfold State.repairRows
  extract_lets l keep _ listed logged done
  have kept : listed.memoriesCanonical := h
  have each : logged.memoriesCanonical := kept.foldl (fun (e : Nat × Nat × Bool) k => logRecord k 5 _) _
  have all : done.memoriesCanonical := each.foldl (fun (e : Nat × Nat × Bool) k => logRecord k 5 _) _
  exact all.modGate g _

end State.memoriesCanonical

end Sys2Proof.Machine
end

section
/-! PROOFS. The canonical form of the stacks and tile memories under the frame's end, the messages of the group, resets, test slices
and the instructions of a tile (R119, R125, R203, R305 to R310, R333, R386). -/

namespace Sys2Proof.Machine

namespace State.memoriesCanonical

variable {s : State} (h : s.memoriesCanonical)
include h

/-! ## The frame's end (R203 to R205) -/

theorem tickOutcome (tel : Telemetry) : CanonicalOutcome (s.tickOutcome tel) := by
  unfold State.tickOutcome
  extract_lets t
  have kept : t.memoriesCanonical := tick (branch h h.discardFlights) tel
  exact .branch (.fault _) (.branch (.fault _) (.next kept))

theorem releaseOrigin : s.releaseOrigin.memoriesCanonical := by
  unfold State.releaseOrigin
  extract_lets _ released
  have kept : released.memoriesCanonical := h
  exact kept.markAllGo.handBlocks.foldl (fun p k => k.emitEofs p) _

/-! ## Messages of the group (R305 to R310) -/

theorem takeSync (p : Nat) (f : Flit) (k kind : Nat) : (s.takeSync p f k kind).1.memoriesCanonical := by
  unfold State.takeSync
  dsimp only
  split
  · exact h
  split
  · split
    · exact h.setPort p _
    split
    · split
      · exact h.setPort p _
      · exact h.setPort p _
    · exact h
  split
  · exact h.setPort p _
  · exact h

theorem onSync {act : State → SyncMsg → State} (each : ∀ {u : State} m, u.memoriesCanonical → (act u m).memoriesCanonical)
    (p : Nat) (f : Flit) (k kind : Nat) : CanonicalOutcome (s.onSync p f k kind act) := by
  unfold State.onSync
  extract_lets y
  have kept : y.1.memoriesCanonical := h.takeSync p f k kind
  split
  · exact .next kept
  · exact .next (each _ kept)

theorem floodIn {p : Nat} {m : SyncMsg} {u : State} (taken : s.floodIn p m = some u) : u.memoriesCanonical := by
  unfold State.floodIn at taken
  split at taken
  · nomatch taken
  · exact Option.some.inj taken ▸ h.flood m _

theorem readyArrives (p : Nat) (m : SyncMsg) : (s.readyArrives p m).memoriesCanonical := by
  unfold State.readyArrives
  exact branch h (branch h.detectSyncLost h)

theorem formGroup (adopt : Bool) : (s.formGroup adopt).memoriesCanonical := h

theorem toggleFsync : s.toggleFsync.memoriesCanonical := emit (by exact h) _

theorem masterToggle : s.masterToggle.memoriesCanonical := by
  unfold State.masterToggle
  extract_lets formed
  have kept : formed.memoriesCanonical := branch h (h.formGroup false)
  clear_value formed
  exact toggleFsync (by exact kept)

theorem sendMsg (p : Nat) (m : SyncMsg) : (s.sendMsg p m).memoriesCanonical := h.modPort p _

theorem sendGo : s.sendGo.memoriesCanonical := by
  unfold State.sendGo
  extract_lets t start sent
  have kept : sent.memoriesCanonical := h.foldl (fun p k => k.sendMsg p _) _
  exact ⟨kept.1, kept.2⟩

theorem goArrives (p : Nat) (m : SyncMsg) : (s.goArrives p m).memoriesCanonical := by
  unfold State.goArrives
  extract_lets g go on keep v ports adopted _ _ ticked
  have passed : ∀ {u : State}, u.memoriesCanonical → (keep (on u)).memoriesCanonical := fun k =>
    have sent := foldl k (f := fun s q => s.sendMsg q m) (fun q k => k.sendMsg q m) _
    ⟨sent.1, sent.2⟩
  have kept : adopted.memoriesCanonical := h
  clear_value adopted
  have set : ticked.memoriesCanonical := branch kept kept
  have eofs := set.foldl (f := State.emitEofs) (fun q k => k.emitEofs q) (List.range 16)
  refine branch h (branch (branch (passed ?_) h) (branch (passed eofs) (branch (passed ?_) (branch (passed ?_) h.detectSyncLost))))
  all_goals exact h

theorem abortArrives (p : Nat) (m : SyncMsg) : (s.abortArrives p m).memoriesCanonical := by
  unfold State.abortArrives
  split
  · exact h
  · next taken =>
    have kept := h.floodIn taken
    extract_lets cause running noted lost
    have told : noted.memoriesCanonical := kept.addError _ true
    have set : lost.memoriesCanonical := branch (told.linkStatus 0 _) told
    exact branch set.unform set

theorem stepOpenArrives (p : Nat) (m : SyncMsg) : (s.stepOpenArrives p m).memoriesCanonical := by
  unfold State.stepOpenArrives
  split
  · exact h
  · next taken =>
    have kept := h.floodIn taken
    exact (agree (by exact kept)).noteAllReady

theorem resetStateArrives (p : Nat) (m : SyncMsg) : (s.resetStateArrives p m).memoriesCanonical := by
  unfold State.resetStateArrives
  split
  · exact h
  · next taken =>
    have kept := h.floodIn taken
    extract_lets down _ noted
    have told : noted.memoriesCanonical := kept
    exact branch ((told.addError _ true).linkStatus 1 _).unform told

theorem eofArrives (p : Nat) (m : SyncMsg) : (s.eofArrives p m).memoriesCanonical := (h.flushPort p _).modPort p _

theorem commitMap (m : List Byte) : (s.commitMap m).memoriesCanonical := by
  unfold State.commitMap
  extract_lets changed _ mapped trained
  have kept : mapped.memoriesCanonical := h
  have set : trained.memoriesCanonical := kept.foldl (fun p k => k.retrainPort p) _
  exact (set.linkStatus 3 _).unform

/-! ## Resets and test slices (R119, R386, R388) -/

theorem finishWrites : s.finishWrites.memoriesCanonical := h.bootWork (.finishWrites s)

theorem addTotals : s.addTotals.memoriesCanonical := h.bootWork (.addTotals s)

theorem fullReset (cause : Nat) : (s.fullReset cause).memoriesCanonical := by
  unfold State.fullReset
  extract_lets stopped
  have kept : stopped.memoriesCanonical := h.finishWrites.addTotals.abortSlices.unform
  clear_value stopped
  exact ⟨kept.1, kept.2⟩

theorem listSliceRow (t : Nat) (u : Upset) : (s.listSliceRow t u).memoriesCanonical := by
  unfold State.listSliceRow
  extract_lets m cleared
  have kept : cleared.memoriesCanonical := h.modTile t fun k => by split <;> exact k
  clear_value cleared
  split
  · exact kept
  · exact branch kept (useFree (by exact kept))

/-! ## Management messages (R333, R334) -/

theorem onSideband {f : State → State} (each : (f s).memoriesCanonical) : CanonicalOutcome (s.onSideband f) :=
  .next (branch each h)

theorem onSpdm {f : State → State} (tr : Nat) (each : (f s).memoriesCanonical) : CanonicalOutcome (s.onSpdm tr f) :=
  .next (branch each h)

theorem onNegotiated {f : State → State} (tr : Nat) (each : (f s).memoriesCanonical) : CanonicalOutcome (s.onNegotiated tr f) :=
  h.onSpdm tr (branch each (h.emit _))

/-! ## Instructions of a tile (R122 to R127) -/

theorem runEngines (t : Nat) (ups : List Upset) : CanonicalOutcome (s.runEngines t ups) := by
  unfold State.runEngines
  exact .branch (.next (h.putTile (h.tileNow t ups) t _)) (.next h)

theorem noteWait (t : Nat) : (s.noteWait t).memoriesCanonical := by
  unfold State.noteWait
  exact branch h h

theorem finishIssue {x : Tile} (hx : x.Canonical) (t : Nat) (n : Notes) : (s.finishIssue t x n).memoriesCanonical :=
  ((h.putTile hx t n).noteWait t).noteBarriers

/-- A state after a command of a tile program. -/
theorem tileIssued {t : Nat} {x : Tile} {D W : List Nat} {u : State} (hx : x.Canonical) (issued : s.TileIssued t x D W u) :
    u.memoriesCanonical := by
  rcases issued with rfl | ⟨y, n, rfl, left⟩
  · exact h
  · exact h.finishIssue (hx.congr (Prod.ext left.deck left.staging)) t n

/-- A command of a tile program. -/
theorem tileCommand {c : Instr} {t op : Nat} {a : Access} (named : tileOp c = some (t, op, a)) : CanonicalOutcome (exec c s) := by
  cases run : exec c s with
  | next u =>
    obtain ⟨s', free, issued⟩ := exec_tileIssued named rfl run
    have kept : s'.memoriesCanonical := by
      rcases free with rfl | rfl
      · exact h
      · exact h.useFree
    exact .next (kept.tileIssued (h.tileNow t a.upsets) issued)
  | fault f => exact .fault f
  | refused r => exact ⟨trivial⟩

end State.memoriesCanonical

end Sys2Proof.Machine
end

section
/-! PROOFS. The canonical form of the stacks and tile memories under the commands of Dawn, of the frame, of the group, of the host
and of the stacks (01 to 18). -/

namespace Sys2Proof.Machine

open State.memoriesCanonical (branch)

variable {s : State} (h : s.memoriesCanonical)
include h

/-! ## Power, resets and Dawn (R36, R367 to R391, R413) -/

theorem execPowerGood_canonical (straps : Nat) : CanonicalOutcome (execPowerGood straps s) := by
  unfold execPowerGood
  exact .branch (.next h) (.next (State.memoriesCanonical.beginDawn _ _ _))

theorem execModResetAssert_canonical : CanonicalOutcome (execModResetAssert s) := by
  unfold execModResetAssert
  exact .branch (.next h) (.next (h.fullReset 1))

theorem execModResetDeassert_canonical (straps : Nat) : CanonicalOutcome (execModResetDeassert straps s) := by
  unfold execModResetDeassert
  exact .branch (.next (.beginDawn _ _ _)) (.next h)

theorem execLockstepMismatch_canonical : CanonicalOutcome (execLockstepMismatch s) := by
  unfold execLockstepMismatch
  exact .branch (.next h) (.next (.beginDawn _ _ _))

theorem execCmpResetAssert_canonical : CanonicalOutcome (execCmpResetAssert s) := by
  unfold execCmpResetAssert
  extract_lets _ pinned
  have kept : pinned.memoriesCanonical := h
  exact .next (branch kept.stopCompute kept)

theorem execCmpResetRelease_canonical : CanonicalOutcome (execCmpResetRelease s) := by
  unfold execCmpResetRelease
  exact .branch (.next h) (.next h)

theorem execTrialWatchdog_canonical : CanonicalOutcome (execTrialWatchdog s) := by
  unfold execTrialWatchdog
  extract_lets d old settled _ plain dawn _ _ _ fell
  have begun : dawn.memoriesCanonical := State.memoriesCanonical.beginDawn _ _ _
  clear_value dawn
  have kept : fell.memoriesCanonical := begun
  exact .branch (.next ((kept.noteSet .fw 5).logFirmware 5 _)) (.next h)

theorem execDawnWave_canonical (w : Nat) (tests : List RegionTest) : CanonicalOutcome (execDawnWave w tests s) := by
  unfold execDawnWave
  extract_lets d tested
  have kept : tested.memoriesCanonical := h.foldl (fun r k => k.waveRegion tests r) _
  clear_value tested
  exact .branch (.next kept) (.next h)

theorem execWaveRepeat_canonical (test : RegionTest) : CanonicalOutcome (execWaveRepeat test s) := by
  unfold execWaveRepeat
  extract_lets d tested
  have kept : tested.memoriesCanonical := h.testRegion test true
  clear_value tested
  exact .branch (.next kept) (.next h)

theorem execInterconnectTest_canonical (res : InterconnectResult) : CanonicalOutcome (execInterconnectTest res s) := by
  unfold execInterconnectTest
  extract_lets d segs rims syncs mapped linked tested
  have kept : tested.memoriesCanonical := branch h ((((h.mapDawn _).mapDawn _).dawnDead _ 1).dawnDead _ 1)
  clear_value tested
  exact .branch (.next kept) (.next h)

theorem execRetentionReadback_canonical (r : Nat) (res : RetentionResult) : CanonicalOutcome (execRetentionReadback r res s) := by
  unfold execRetentionReadback
  extract_lets due ts repaired others read wiped
  have fixed : repaired.memoriesCanonical := h.foldl (fun t k => k.repairTile t _ true) _
  have kept : read.memoriesCanonical := branch h (branch fixed ((fixed.dawnDead _ 1).dawnDead _ 1))
  have all : wiped.memoriesCanonical := branch (kept.wipeFails r) kept
  clear_value wiped
  exact .branch (.next all) (.next h)

theorem execRegionPowerOffExpiry_canonical (r : Nat) : CanonicalOutcome (execRegionPowerOffExpiry r s) := by
  unfold execRegionPowerOffExpiry
  exact .branch (.next h) (.next h)

theorem execStackReady_canonical (g : Nat) (init : StackInit) : CanonicalOutcome (execStackReady g init s) := by
  unfold execStackReady
  extract_lets x repaired _ ended
  have fixed : repaired.memoriesCanonical := branch h (h.repairRows g init)
  clear_value repaired
  have kept : ended.memoriesCanonical := fixed
  exact .branch (.branch (.next (kept.stackUp g)) (.branch (.next (kept.modGate g _)) (.next (kept.stackPowerOff g)))) (.next h)

theorem execStackPowerCycleExpiry_canonical (g : Nat) (initOk : Bool) : CanonicalOutcome (execStackPowerCycleExpiry g initOk s) := by
  unfold execStackPowerCycleExpiry
  split
  · exact .next h
  · exact .branch (.branch (.next (h.modGate g _)) (.next (.modGate (by exact h) g _))) (.next h)

theorem execDawnFinalStage_canonical : CanonicalOutcome (execDawnFinalStage s) := by
  unfold execDawnFinalStage
  extract_lets settled d failed down closed logged
  have kept : settled.memoriesCanonical := h.settleMap
  clear_value settled
  have final : closed.memoriesCanonical := kept
  have told : logged.memoriesCanonical := final.logRecord 1 _
  clear_value logged
  refine .branch ?_ (.next h)
  split
  · exact .next (told.finishChange _ _ _)
  · exact .next told

theorem execReadyReached_canonical : CanonicalOutcome (execReadyReached s) := by
  unfold execReadyReached
  extract_lets d merged _ ready raised
  have kept : merged.memoriesCanonical := h.mergeMap
  clear_value merged
  have up : ready.memoriesCanonical := kept
  have told : raised.memoriesCanonical := up.raiseVector _
  exact .branch (.next (branch (told.raiseVector _) told)) (.next h)

/-! ## Supply, cooling and temperature (R345 to R361, R413, R463) -/

theorem execVrAlertFall_canonical : CanonicalOutcome (execVrAlertFall s) := by
  unfold execVrAlertFall
  exact .branch (.next h) (.next (branch (.enterNight (by exact h)) h))

theorem execVrAlertRise_canonical : CanonicalOutcome (execVrAlertRise s) := by
  unfold execVrAlertRise
  exact .branch (.next h) (.next h)

theorem execNightEnd_canonical : CanonicalOutcome (execNightEnd s) := by
  unfold execNightEnd
  exact .branch (.next h) (.next h)

theorem execCoolOkDeassert_canonical : CanonicalOutcome (execCoolOkDeassert s) := by
  unfold execCoolOkDeassert
  exact .next (branch (.coolStop (by exact h)) h)

theorem execCoolOkAssert_canonical : CanonicalOutcome (execCoolOkAssert s) := by
  unfold execCoolOkAssert
  exact .branch (.next h) (.next h)

theorem execCoolOkRestart_canonical : CanonicalOutcome (execCoolOkRestart s) := by
  unfold execCoolOkRestart
  exact .branch (.next h) (.next h)

theorem execSensorConversion_canonical (r : Nat) (temps : List Int) : CanonicalOutcome (execSensorConversion r temps s) := by
  unfold execSensorConversion
  have kept := h.modRegion r fun x => { x with temps := temps }
  exact .branch (.next h) (.branch (.next ((kept.thermTrip _).logRecord 7 _)) (.next kept))

theorem execInputUndervoltage_canonical : CanonicalOutcome (execInputUndervoltage s) := .next (branch (.powerDown s) h)

theorem execInputOvervoltage_canonical : CanonicalOutcome (execInputOvervoltage s) := .next (branch (.powerDown s) h)

theorem execComputeEfuseOpen_canonical (r : Nat) : CanonicalOutcome (execComputeEfuseOpen r s) := by
  unfold execComputeEfuseOpen
  exact .branch (.next h) (.next (h.darken r))

theorem execThoroughfareEfuseOpen_canonical (r : Nat) : CanonicalOutcome (execThoroughfareEfuseOpen r s) := by
  unfold execThoroughfareEfuseOpen
  exact .branch (.next h) (.next (h.loseThoroughfare r))

/-! ## The frame (R201 to R206, R417, R449) -/

theorem execFrameEnd_canonical : CanonicalOutcome (execFrameEnd s) := by
  unfold execFrameEnd
  exact .branch (.next (.logMisses (by exact h.discardFlights))) (.next h)

theorem execFrameTick_canonical (tel : Telemetry) : CanonicalOutcome (execFrameTick tel s) := by
  unfold execFrameTick
  exact .branch (h.syncTiles.tickOutcome tel) (.next h)

theorem execHoldTimeout_canonical (tel : Telemetry) : CanonicalOutcome (execHoldTimeout tel s) := by
  unfold execHoldTimeout
  extract_lets z _ y
  have synced : z.memoriesCanonical := h.syncTiles
  clear_value z
  have kept : y.memoriesCanonical := .addError (.noteSet (by exact synced) .frm 3) _ true
  exact .branch (.branch (.next kept.releaseOrigin) (kept.tickOutcome tel)) (.next h)

theorem execOriginFrameRelease_canonical : CanonicalOutcome (execOriginFrameRelease s) := by
  unfold execOriginFrameRelease
  exact .branch (.next h.releaseOrigin) (.next h)

theorem execAgingMeasurement_canonical (r point mv : Nat) : CanonicalOutcome (execAgingMeasurement r point mv s) := by
  unfold execAgingMeasurement
  exact .branch (.next h) (.next h)

theorem execLogSummaryWrite_canonical : CanonicalOutcome (execLogSummaryWrite s) := by
  unfold execLogSummaryWrite
  exact .branch (.next h) (.next h)

theorem execMapStore_canonical : CanonicalOutcome (execMapStore s) := .next (branch (h.bootWork (.storeMap s)) h)

theorem execBarrierComplete_canonical (d : Nat) : CanonicalOutcome (execBarrierComplete d s) := by
  unfold execBarrierComplete
  split
  · exact .next h
  · refine .branch (.next h) (.next (.noteBarriers ?_))
    exact ⟨h.1, (h.mapTiles fun _ _ k => by split <;> exact k).2⟩

theorem execTestWindowEnd_canonical (t : Nat) : CanonicalOutcome (execTestWindowEnd t s) := by
  unfold execTestWindowEnd
  exact .branch (.next (h.setTile (by exact h.getTile t) t)) (.next h)

/-! ## Crossings and test slices (R178 to R198, R384 to R387) -/

theorem execSlotEntry_canonical (t : Nat) (ups : List Upset) : CanonicalOutcome (execSlotEntry t ups s) := by
  unfold execSlotEntry
  extract_lets y x a p
  have port : x.Canonical := h.tilePort t ups
  refine .branch (.next h) (.branch (.next (h.discardPresent t)) (.branch (.next h) ?_))
  split
  · exact .fault _
  · next w _ =>
    extract_lets entered dropped
    have put : entered.memoriesCanonical := h.putTile (by exact port) t _
    clear_value entered
    have kept : dropped.memoriesCanonical := State.memoriesCanonical.addChanDrop (by exact put) _ _
    split
    · exact .fault _
    · next sent => exact .next (kept.sendAll sent)

theorem execLocalSend_canonical (t : Nat) (ups : List Upset) : CanonicalOutcome (execLocalSend t ups s) := by
  unfold execLocalSend
  refine .branch (.next h) (.branch (.next h) ?_)
  split
  · exact .next h
  · exact .next (h.localSend (h.tilePort t ups) t _ _ _)

theorem execLineReceive_canonical (t : Nat) : CanonicalOutcome (execLineReceive t s) := by
  unfold execLineReceive
  extract_lets y
  have port : y.1.Canonical := h.tilePort t []
  split
  · exact .next h
  · exact .next (h.putTile (Tile.Canonical.receive (by exact port) _ _ _) t _)

theorem execQueuedDeckWrite_canonical (t : Nat) (ups : List Upset) : CanonicalOutcome (execQueuedDeckWrite t ups s) := by
  unfold execQueuedDeckWrite
  exact .branch (.next h) (.branch (.next h) (.next (h.putTile ((h.tilePort t ups).drainWrites _ _) t _)))

theorem execTestSliceEnd_canonical (t : Nat) (mismatch : Bool) (ups : List Upset) :
    CanonicalOutcome (execTestSliceEnd t mismatch ups s) := by
  unfold execTestSliceEnd
  extract_lets listed marked failed told _ passed
  have rows : listed.memoriesCanonical := h.foldl (fun u k => k.listSliceRow t u) _
  have kept : marked.memoriesCanonical := rows.modTile t fun k => k.congr (Tile.upsetAll_memories _ _)
  clear_value marked
  have bad : told.memoriesCanonical := ((kept.endSlice t 2).mapChange _).addError _ true
  have good : passed.memoriesCanonical := kept.endSlice t 1
  clear_value told passed
  exact .branch (.next h) (.branch (.next bad) (.next good))

theorem execTestSliceAbort_canonical (t : Nat) : CanonicalOutcome (execTestSliceAbort t s) := by
  unfold execTestSliceAbort
  exact .branch (.next (h.abortSlice t)) (.next h)

/-! ## Stacks and rim lanes (R207 to R262) -/

theorem execStackTransferIssue_canonical (g : Nat) (host : Bool) : CanonicalOutcome (execStackTransferIssue g host s) := by
  unfold execStackTransferIssue
  refine .branch (.next h) (.branch (.branch ?_ (.next h)) (.branch (h.issueStack g) (.next h)))
  split
  · exact .next (h.issueHost g _)
  · exact .next h

theorem execStackTransferComplete_canonical (g idx : Nat) (ecc : EccReport) :
    CanonicalOutcome (execStackTransferComplete g idx ecc s) := by
  unfold execStackTransferComplete
  split
  · exact .next h
  · next fl _ =>
    have ended := (h.modGate g fun x => { x with flights := x.flights.eraseIdx idx }).endTransfer g fl ecc
    refine .next ?_
    split
    · exact ended.drainRing g _
    · exact ended

theorem execRimLineSend_canonical (g r bufCe : Nat) : CanonicalOutcome (execRimLineSend g r bufCe s) := by
  unfold execRimLineSend
  refine .branch (.next h) ?_
  split
  · exact .next h
  · exact .branch (.fault _) (.next ((h.modGate g _).sendRim g r _ _ _))

theorem execRimLineReceive_canonical (g : Nat) : CanonicalOutcome (execRimLineReceive g s) := by
  unfold execRimLineReceive
  split
  · exact .next h
  · extract_lets claims taken
    have kept : taken.memoriesCanonical := h
    clear_value claims
    split
    · exact .next (kept.modGate g _)
    · exact .next (kept.storeRim g _ _ _ _)
    · exact .fault _

theorem execHostReadCompletion_canonical (g r addr : Nat) (data : List Byte) :
    CanonicalOutcome (execHostReadCompletion g r addr data s) := by
  unfold execHostReadCompletion
  split
  · exact .next h
  · exact .next (h.hostData g _ addr data)

theorem execHostReadError_canonical (g r : Nat) : CanonicalOutcome (execHostReadError g r s) := by
  unfold execHostReadError
  split
  · exact .next h
  · exact .next (h.hostFails g _)

theorem execCompletionTimeout_canonical (g r : Nat) : CanonicalOutcome (execCompletionTimeout g r s) := by
  unfold execCompletionTimeout
  split
  · exact .next h
  · exact .next (h.hostFails g _)

theorem execAtsTranslationCompletion_canonical (g r page : Nat) (granted : Bool) :
    CanonicalOutcome (execAtsTranslationCompletion g r page granted s) :=
  .next (branch (h.translated g r page) (h.faultPage g r page))

theorem execPageRequestResponse_canonical (g r : Nat) (success : Bool) :
    CanonicalOutcome (execPageRequestResponse g r success s) := by
  unfold execPageRequestResponse
  dsimp only
  split
  · exact .branch (.branch (.next (h.setGate g _)) (.next ((h.setGate g _).emit _))) (.next (h.ringError g r 5))
  · exact .next h

theorem execFaultTimeout_canonical (g r : Nat) : CanonicalOutcome (execFaultTimeout g r s) := by
  unfold execFaultTimeout
  split
  · exact .branch (.next (h.ringError g r 5)) (.next h)
  · exact .next h

theorem execAtsInvalidation_canonical (port page pasid : Nat) : CanonicalOutcome (execAtsInvalidation port page pasid s) := by
  unfold execAtsInvalidation
  exact .branch (.next h) (.next (.settleInval (.modHost (by exact h) port _) port))

theorem execRefreshSlot_canonical (g : Nat) : CanonicalOutcome (execRefreshSlot g s) := by
  unfold execRefreshSlot
  exact .branch (.next (h.setGate g _)) (.next h)

theorem execForcedRefresh_canonical (g : Nat) : CanonicalOutcome (execForcedRefresh g s) := by
  unfold execForcedRefresh
  exact .branch (.next (h.setGate g _)) (.next h)

/-! ## The boulevard and updates (R268 to R283) -/

theorem execBoulevardRow_canonical (node : Nat) (tile : Option Nat) : CanonicalOutcome (execBoulevardRow node tile s) := by
  unfold execBoulevardRow
  refine .branch (.next h) ?_
  split
  · exact .branch (.next (h.tileRow node _)) (.next h)
  · split
    · exact .branch (.next h) (.next (h.nodeRow node _))
    · exact .next h

theorem execBoulevardForward_canonical (node : Nat) : CanonicalOutcome (execBoulevardForward node s) := by
  unfold execBoulevardForward
  split
  · exact .next h
  · exact .branch (.next h) (.next h)

theorem execGradientRowAtGate_canonical (g : Nat) : CanonicalOutcome (execGradientRowAtGate g s) := by
  unfold execGradientRowAtGate
  refine .branch (.next h) ?_
  split
  · exact .next h
  · extract_lets _ arrived
    have kept : arrived.memoriesCanonical := h
    split
    · next taken => exact .next (kept.gateRow taken)
    · exact .next (kept.returnRow _ _).slotWait

theorem execReductionMessage_canonical (g : Nat) : CanonicalOutcome (execReductionMessage g s) := by
  unfold execReductionMessage
  split
  · exact .next h
  · exact .next (.takeReduction (by exact h) g _ _)

theorem execBlockUpdate_canonical (g layer idx : Nat) : CanonicalOutcome (execBlockUpdate g layer idx s) := by
  unfold execBlockUpdate
  split
  · exact .next h
  · exact .branch (.next h) (.branch (.next (h.stateOutside g _ _)) (.branch (.next h) (.next (h.updateBlock g _ _))))

/-! ## Links and the group (R285 to R313) -/

theorem execTrainingWindowOpen_canonical (p : Nat) : CanonicalOutcome (execTrainingWindowOpen p s) := by
  unfold execTrainingWindowOpen
  exact .branch (.next (h.openWindow p _)) (.next h)

theorem execTrainingWindowClose_canonical (p : Nat) : CanonicalOutcome (execTrainingWindowClose p s) := by
  unfold execTrainingWindowClose
  exact .branch (.next (h.portDrop p _ _)) (.next h)

theorem execLinkWake_canonical (p : Nat) : CanonicalOutcome (execLinkWake p s) := by
  unfold execLinkWake
  exact .branch (.next (((h.setPort p _).emit _).emit _)) <| .branch (.next (h.emit _)) <|
    .branch (.next (((h.setPort p _).emit _).emit _)) (.next h)

theorem execLinkTrainingComplete_canonical (p : Nat) (res : Training) : CanonicalOutcome (execLinkTrainingComplete p res s) := by
  unfold execLinkTrainingComplete
  have logged : (s.logLanes p (s.trainingResult p res) res).memoriesCanonical := h.logRecord 2 _
  exact .branch (.next h) (.branch (.next (h.portDrop p _ _)) (.branch (.next (logged.portDrop p _ _)) (.next (logged.portUp p _ _))))

theorem execLinkLossOfLock_canonical (p : Nat) : CanonicalOutcome (execLinkLossOfLock p s) := by
  unfold execLinkLossOfLock
  exact .branch (.next (h.enterRecovery p)) (.next h)

theorem execRecoveryComplete_canonical (p : Nat) (res : Training) : CanonicalOutcome (execRecoveryComplete p res s) := by
  unfold execRecoveryComplete
  extract_lets x r logged up
  have told : logged.memoriesCanonical := h.logRecord 2 _
  have kept : up.memoriesCanonical := told.setPort p _
  exact .branch (.next h) (.branch (.next told) (.branch (.next (kept.mapChange _)) (.next ((kept.mapChange _).linkStatus 2 _))))

theorem execRecoveryTimeout_canonical (p : Nat) : CanonicalOutcome (execRecoveryTimeout p s) := by
  unfold execRecoveryTimeout
  exact .branch (.next (h.portDrop p _ _)) (.next h)

theorem execFlitSlotSend_canonical (p : Nat) : CanonicalOutcome (execFlitSlotSend p s) := by
  unfold execFlitSlotSend
  exact .branch (.next (h.sendSlot p)) (.next h)

theorem execDataFlitReceive_canonical (p : Nat) (f : Flit) (ce ue : Nat) : CanonicalOutcome (execDataFlitReceive p f s ce ue) := by
  unfold execDataFlitReceive
  extract_lets told y taken
  have kept : told.memoriesCanonical := h.fecReport p ce ue
  have set : taken.memoriesCanonical := kept.setPort p _
  exact .branch (.next kept) (.next (branch (set.takeData p f) set))

theorem execIdleFlitReceive_canonical (p : Nat) (f : Flit) (ce ue : Nat) : CanonicalOutcome (execIdleFlitReceive p f s ce ue) := by
  unfold execIdleFlitReceive
  have kept := h.fecReport p ce ue
  exact .branch (.next kept) (.next (kept.setPort p _))

theorem execReady_canonical (p : Nat) (f : Flit) (k : Nat) : CanonicalOutcome (execReady p f k s) :=
  h.onSync (fun m k => k.readyArrives p m) p f k 1

theorem execGo_canonical (p : Nat) (f : Flit) (k : Nat) : CanonicalOutcome (execGo p f k s) :=
  h.onSync (fun m k => k.goArrives p m) p f k 2

theorem execAbort_canonical (p : Nat) (f : Flit) (k : Nat) : CanonicalOutcome (execAbort p f k s) :=
  h.onSync (fun m k => k.abortArrives p m) p f k 3

theorem execStepOpen_canonical (p : Nat) (f : Flit) (k : Nat) : CanonicalOutcome (execStepOpen p f k s) :=
  h.onSync (fun m k => k.stepOpenArrives p m) p f k 4

theorem execResetState_canonical (p : Nat) (f : Flit) (k : Nat) : CanonicalOutcome (execResetState p f k s) :=
  h.onSync (fun m k => k.resetStateArrives p m) p f k 5

theorem execEof_canonical (p : Nat) (f : Flit) (k : Nat) : CanonicalOutcome (execEof p f k s) :=
  h.onSync (fun m k => k.eofArrives p m) p f k 6

theorem execSendReady_canonical : CanonicalOutcome (execSendReady s) := by
  unfold execSendReady
  exact .branch (.next (.sendMsg (by exact h) _ _)) (.next h)

theorem execMasterTickRelease_canonical : CanonicalOutcome (execMasterTickRelease s) := by
  unfold execMasterTickRelease
  refine .branch (.branch ?_ (.branch (.next h.masterToggle.sendGo) (.next h))) (.next h)
  split
  · exact .next h.sendGo
  · exact .branch (.next h.masterToggle) (.next h)

theorem execFsyncTransition_canonical : CanonicalOutcome (execFsyncTransition s) := by
  unfold execFsyncTransition
  extract_lets _ moved toggled tick
  have kept : moved.memoriesCanonical := h
  have told : toggled.memoriesCanonical := kept.toggleFsync
  clear_value moved toggled
  exact .branch (.next kept) <| .branch (.branch (.next told) (.next told.detectSyncLost)) (.branch (.next told) (.next told))

theorem execSyncLostTimeout_canonical : CanonicalOutcome (execSyncLostTimeout s) := by
  unfold execSyncLostTimeout
  split
  · exact .branch (.next h.detectSyncLost) (.next h)
  · exact .next h

theorem execLinkMapCommit_canonical : CanonicalOutcome (execLinkMapCommit s) := by
  unfold execLinkMapCommit
  split
  · exact .branch (.next (h.commitMap _)) (.next h)
  · exact .next h

/-! ## The host (R314 to R332) -/

theorem execArm_canonical (port g : Nat) : CanonicalOutcome (execArm port g s) := by
  unfold execArm
  exact .branch (h.hostWrite8 port _ _) (.next h)

theorem execDisarm_canonical (port g : Nat) : CanonicalOutcome (execDisarm port g s) := by
  unfold execDisarm
  exact .branch (h.hostWrite8 port _ _) (.next h)

theorem execIngressDoorbell_canonical (port g r count : Nat) : CanonicalOutcome (execIngressDoorbell port g r count s) := by
  unfold execIngressDoorbell
  exact .branch (h.hostAccess port _) (.next h)

theorem execDoorbellAccept_canonical (port : Nat) : CanonicalOutcome (execDoorbellAccept port s) := by
  unfold execDoorbellAccept
  split
  · exact .next h
  · exact .branch (.next h) <| .branch (State.memoriesCanonical.releaseHeld (by exact h) port) <| .branch (h.releaseHeld port) <|
      .branch (((h.acceptDoorbell _ _ _).raiseVector _).releaseHeld port) (.next h)

theorem execCqHeadWrite_canonical (port g value : Nat) : CanonicalOutcome (execCqHeadWrite port g value s) := by
  unfold execCqHeadWrite
  exact .branch (h.hostWrite8 port _ _) (.next h)

theorem execRetrain_canonical (port p : Nat) : CanonicalOutcome (execRetrain port p s) := by
  unfold execRetrain
  exact .branch (h.hostWrite8 port _ _) (.next h)

theorem execDisable_canonical (port p : Nat) : CanonicalOutcome (execDisable port p s) := by
  unfold execDisable
  exact .branch (h.hostWrite8 port _ _) (.next h)

theorem execPciePortReset_canonical (port : Nat) : CanonicalOutcome (execPciePortReset port s) :=
  .next (branch (h.resetPort port) h)

theorem execPciePortResetRelease_canonical (port : Nat) : CanonicalOutcome (execPciePortResetRelease port s) := by
  unfold execPciePortResetRelease
  exact .branch (.next (h.modHost port _)) (.next h)

theorem execMsixUnmask_canonical (port : Nat) (vec : Option Nat) : CanonicalOutcome (execMsixUnmask port vec s) := by
  unfold execMsixUnmask
  split
  · exact .branch (h.hostAccess port _) (.next h)
  · exact h.hostAccess port _

theorem execUpdStepWrite_canonical (port off size value : Nat) : CanonicalOutcome (execUpdStepWrite port off size value s) := by
  unfold execUpdStepWrite
  exact .branch (h.hostAccess port _) (.next h)

/-! ## Plans, firmware, life cycle, test engine (R145, R400 to R411, R433) -/

theorem execPlanLoadComplete_canonical (ecc : EccReport) : CanonicalOutcome (execPlanLoadComplete s ecc) :=
  .next (branch (h.loadComplete ecc) h)

theorem execStageComplete_canonical (flashOk : Bool) (ecc : EccReport) : CanonicalOutcome (execStageComplete flashOk s ecc) :=
  .next (branch (h.stageDone flashOk ecc) h)

theorem execCfgStoreComplete_canonical (flashOk : Bool) (ecc : EccReport) : CanonicalOutcome (execCfgStoreComplete flashOk s ecc) :=
  .next (h.cfgStoreDone flashOk ecc)

theorem execLifecycleWipeDone_canonical (failed : List Nat) : CanonicalOutcome (execLifecycleWipeDone failed s) := by
  unfold execLifecycleWipeDone
  split
  · exact .next h
  · extract_lets wiped up bad done
    have kept : up.memoriesCanonical := h.foldl (fun g k => branch (k.stackPowerOff g) (k.stackUp g)) _
    have changed : done.memoriesCanonical := kept.finishChange _ _ _
    clear_value done
    exact .branch (.next h) (.branch (.next changed) (.next kept))

theorem execTestComplete_canonical (res : TestResult) : CanonicalOutcome (execTestComplete res s) :=
  .next (branch h (branch (h.refurbDone res) (h.runDone res)))

/-! ## The sideband (R333, R334, R419) -/

theorem execSetdasa_canonical (addr : Nat) : CanonicalOutcome (execSetdasa addr s) := h.onSideband h

theorem execEntdaa_canonical (addr : Nat) : CanonicalOutcome (execEntdaa addr s) := h.onSideband (branch h h)

theorem execSetEndpointId_canonical (eid : Nat) : CanonicalOutcome (execSetEndpointId eid s) := h.onSideband (branch h h)

theorem execGetEndpointId_canonical : CanonicalOutcome (execGetEndpointId s) := h.onSideband h

theorem execGetMctpVersionSupport_canonical : CanonicalOutcome (execGetMctpVersionSupport s) := h.onSideband h

theorem execGetMessageTypeSupport_canonical : CanonicalOutcome (execGetMessageTypeSupport s) := h.onSideband h

theorem execGetStatus_canonical : CanonicalOutcome (execGetStatus s) := h.onSideband h

theorem execReadMap_canonical (off len : Nat) : CanonicalOutcome (execReadMap off len s) := h.onSideband (branch h h)

theorem execReadLog_canonical (off len : Nat) : CanonicalOutcome (execReadLog off len s) := h.onSideband (branch h h)

theorem execReadReg_canonical (off : Nat) : CanonicalOutcome (execReadReg off s) := h.onSideband (branch h h)

theorem execReadLastStep_canonical : CanonicalOutcome (execReadLastStep s) := h.onSideband h

theorem execGetNonce_canonical : CanonicalOutcome (execGetNonce s) := h.onSideband h

theorem execLcRequest_canonical (req : List Byte) : CanonicalOutcome (execLcRequest req s) :=
  h.onSideband (branch ((h.emit _).submit req) (h.emit _))

theorem execLcStatus_canonical : CanonicalOutcome (execLcStatus s) := h.onSideband h

theorem execFwStatusQuery_canonical : CanonicalOutcome (execFwStatusQuery s) := h.onSideband h

theorem execFwControl_canonical (op : Nat) : CanonicalOutcome (execFwControl op s) :=
  h.onSideband (branch ((h.emit _).fwCommand op) (h.emit _))

theorem execGetVersion_canonical (tr : Nat) : CanonicalOutcome (execGetVersion tr s) := h.onSpdm tr h

theorem execGetCapabilities_canonical (tr : Nat) : CanonicalOutcome (execGetCapabilities tr s) := h.onSpdm tr (branch h h)

theorem execNegotiateAlgorithms_canonical (tr : Nat) : CanonicalOutcome (execNegotiateAlgorithms tr s) :=
  h.onSpdm tr (branch h h)

theorem execGetDigests_canonical (tr : Nat) : CanonicalOutcome (execGetDigests tr s) := h.onNegotiated tr h

theorem execGetCertificate_canonical (tr off len : Nat) : CanonicalOutcome (execGetCertificate tr off len s) :=
  h.onNegotiated tr (branch h h)

theorem execChallenge_canonical (tr : Nat) (nonce : List Byte) : CanonicalOutcome (execChallenge tr nonce s) :=
  h.onNegotiated tr h

theorem execGetMeasurements_canonical (tr index : Nat) (nonce : List Byte) :
    CanonicalOutcome (execGetMeasurements tr index nonce s) :=
  h.onNegotiated tr (branch h (branch h h))

theorem execDoeDiscovery_canonical (port index : Nat) : CanonicalOutcome (execDoeDiscovery port index s) := by
  unfold execDoeDiscovery
  exact .branch (.next h) (.next h)

end Sys2Proof.Machine
end

section
/-! PROOFS. Every step keeps the canonical form of the stacks and tile memories (R85, R262; log 4). -/

namespace Sys2Proof.Machine

/-- The effect of every command. -/
theorem exec_canonical {s : State} (h : s.memoriesCanonical) (c : Instr) : CanonicalOutcome (exec c s) := by
  cases c
  case halt | nop | fwait | testw | sync | gfence | cwait | sli | slih | salu | smovs | br | dbnz | setrc | lds | sts | loadw |
      wfill | stream | drain | dfill | dcopy | varith | vcmp | vint | vmove | vcvt | vfunc | vred | vld | vst | vgather |
      vscatter | vscadd | csend | crecv =>
    exact h.tileCommand rfl
  case loadwStart | streamStart | gridRowOutput | routeSummaryWrite =>
    exact h.runEngines _ _
  case scqHeadWrite | linkMapArm | load | start | stop | stage | activate | confirm | revert | cfgStore | tstRun | tstRefurb |
      tstAbort =>
    exact h.hostWrite8 _ _ _
  case apertureRead | apertureWrite | pcieConfigWrite | registerWrite =>
    exact h.hostAccess _ _
  case lcFinish | lcClaim | lcLock | lcUnlock | lcShip | lcReceive | lcTransfer | lcRelease | lcReturn | lcRestock | lcScrap |
      lcCfgAuth | lcFwAuth =>
    exact h.submitOp _ _
  case powerGood => exact execPowerGood_canonical h ..
  case dawnWave => exact execDawnWave_canonical h ..
  case waveRepeat => exact execWaveRepeat_canonical h ..
  case interconnectTest => exact execInterconnectTest_canonical h ..
  case retentionReadback => exact execRetentionReadback_canonical h ..
  case regionPowerOffExpiry => exact execRegionPowerOffExpiry_canonical h ..
  case stackReady => exact execStackReady_canonical h ..
  case stackPowerCycleExpiry => exact execStackPowerCycleExpiry_canonical h ..
  case dawnFinalStage => exact execDawnFinalStage_canonical h ..
  case readyReached => exact execReadyReached_canonical h ..
  case trialWatchdog => exact execTrialWatchdog_canonical h ..
  case lockstepMismatch => exact execLockstepMismatch_canonical h ..
  case modResetAssert => exact execModResetAssert_canonical h ..
  case modResetDeassert => exact execModResetDeassert_canonical h ..
  case cmpResetAssert => exact execCmpResetAssert_canonical h ..
  case cmpResetRelease => exact execCmpResetRelease_canonical h ..
  case vrAlertFall => exact execVrAlertFall_canonical h ..
  case nightEnd => exact execNightEnd_canonical h ..
  case coolOkDeassert => exact execCoolOkDeassert_canonical h ..
  case coolOkRestart => exact execCoolOkRestart_canonical h ..
  case sensorConversion => exact execSensorConversion_canonical h ..
  case inputUndervoltage => exact execInputUndervoltage_canonical h ..
  case inputOvervoltage => exact execInputOvervoltage_canonical h ..
  case computeEfuseOpen => exact execComputeEfuseOpen_canonical h ..
  case thoroughfareEfuseOpen => exact execThoroughfareEfuseOpen_canonical h ..
  case frameEnd => exact execFrameEnd_canonical h ..
  case frameTick => exact execFrameTick_canonical h ..
  case agingMeasurement => exact execAgingMeasurement_canonical h ..
  case logSummaryWrite => exact execLogSummaryWrite_canonical h ..
  case mapStore => exact execMapStore_canonical h ..
  case holdTimeout => exact execHoldTimeout_canonical h ..
  case originFrameRelease => exact execOriginFrameRelease_canonical h ..
  case barrierComplete => exact execBarrierComplete_canonical h ..
  case testWindowEnd => exact execTestWindowEnd_canonical h ..
  case slotEntry => exact execSlotEntry_canonical h ..
  case localSend => exact execLocalSend_canonical h ..
  case lineReceive => exact execLineReceive_canonical h ..
  case queuedDeckWrite => exact execQueuedDeckWrite_canonical h ..
  case testSliceEnd => exact execTestSliceEnd_canonical h ..
  case testSliceAbort => exact execTestSliceAbort_canonical h ..
  case arm => exact execArm_canonical h ..
  case disarm => exact execDisarm_canonical h ..
  case stackTransferIssue => exact execStackTransferIssue_canonical h ..
  case stackTransferComplete => exact execStackTransferComplete_canonical h ..
  case rimLineSend => exact execRimLineSend_canonical h ..
  case rimLineReceive => exact execRimLineReceive_canonical h ..
  case hostReadCompletion => exact execHostReadCompletion_canonical h ..
  case hostReadError => exact execHostReadError_canonical h ..
  case completionTimeout => exact execCompletionTimeout_canonical h ..
  case pageFault => exact .next (h.faultPage _ _ _)
  case pageRequestResponse => exact execPageRequestResponse_canonical h ..
  case faultTimeout => exact execFaultTimeout_canonical h ..
  case atsInvalidation => exact execAtsInvalidation_canonical h ..
  case ingressDoorbell => exact execIngressDoorbell_canonical h ..
  case doorbellAccept => exact execDoorbellAccept_canonical h ..
  case cqHeadWrite => exact execCqHeadWrite_canonical h ..
  case refreshSlot => exact execRefreshSlot_canonical h ..
  case forcedRefresh => exact execForcedRefresh_canonical h ..
  case boulevardRow => exact execBoulevardRow_canonical h ..
  case boulevardForward => exact execBoulevardForward_canonical h ..
  case gradientRowAtGate => exact execGradientRowAtGate_canonical h ..
  case reductionMessage => exact execReductionMessage_canonical h ..
  case blockUpdate => exact execBlockUpdate_canonical h ..
  case trainingWindowOpen => exact execTrainingWindowOpen_canonical h ..
  case trainingWindowClose => exact execTrainingWindowClose_canonical h ..
  case linkWake => exact execLinkWake_canonical h ..
  case linkTrainingComplete => exact execLinkTrainingComplete_canonical h ..
  case linkLossOfLock => exact execLinkLossOfLock_canonical h ..
  case recoveryComplete => exact execRecoveryComplete_canonical h ..
  case recoveryTimeout => exact execRecoveryTimeout_canonical h ..
  case flitSlotSend => exact execFlitSlotSend_canonical h ..
  case dataFlitReceive => exact execDataFlitReceive_canonical h ..
  case ready => exact execReady_canonical h ..
  case sendReady => exact execSendReady_canonical h ..
  case masterTickRelease => exact execMasterTickRelease_canonical h ..
  case go => exact execGo_canonical h ..
  case abort => exact execAbort_canonical h ..
  case stepOpen => exact execStepOpen_canonical h ..
  case resetState => exact execResetState_canonical h ..
  case eof => exact execEof_canonical h ..
  case fsyncTransition => exact execFsyncTransition_canonical h ..
  case syncLostTimeout => exact execSyncLostTimeout_canonical h ..
  case retrain => exact execRetrain_canonical h ..
  case disable => exact execDisable_canonical h ..
  case linkMapCommit => exact execLinkMapCommit_canonical h ..
  case pciePortReset => exact execPciePortReset_canonical h ..
  case pciePortResetRelease => exact execPciePortResetRelease_canonical h ..
  case msixUnmask => exact execMsixUnmask_canonical h ..
  case updStepWrite => exact execUpdStepWrite_canonical h ..
  case planLoadComplete => exact execPlanLoadComplete_canonical h ..
  case stageComplete => exact execStageComplete_canonical h ..
  case lifecycleWipeDone => exact execLifecycleWipeDone_canonical h ..
  case testComplete => exact execTestComplete_canonical h ..
  case setdasa => exact execSetdasa_canonical h ..
  case entdaa => exact execEntdaa_canonical h ..
  case setEndpointId => exact execSetEndpointId_canonical h ..
  case getEndpointId => exact execGetEndpointId_canonical h ..
  case getMctpVersionSupport => exact execGetMctpVersionSupport_canonical h ..
  case getMessageTypeSupport => exact execGetMessageTypeSupport_canonical h ..
  case getStatus => exact execGetStatus_canonical h ..
  case readMap => exact execReadMap_canonical h ..
  case readLog => exact execReadLog_canonical h ..
  case readReg => exact execReadReg_canonical h ..
  case readLastStep => exact execReadLastStep_canonical h ..
  case getNonce => exact execGetNonce_canonical h ..
  case lcRequest => exact execLcRequest_canonical h ..
  case lcStatus => exact execLcStatus_canonical h ..
  case fwStatusQuery => exact execFwStatusQuery_canonical h ..
  case fwControl => exact execFwControl_canonical h ..
  case getVersion => exact execGetVersion_canonical h ..
  case getCapabilities => exact execGetCapabilities_canonical h ..
  case negotiateAlgorithms => exact execNegotiateAlgorithms_canonical h ..
  case getDigests => exact execGetDigests_canonical h ..
  case getCertificate => exact execGetCertificate_canonical h ..
  case challenge => exact execChallenge_canonical h ..
  case getMeasurements => exact execGetMeasurements_canonical h ..
  case atsTranslationCompletion => exact execAtsTranslationCompletion_canonical h ..
  case cfgStoreComplete => exact execCfgStoreComplete_canonical h ..
  case vrAlertRise => exact execVrAlertRise_canonical h ..
  case coolOkAssert => exact execCoolOkAssert_canonical h ..
  case idleFlitReceive => exact execIdleFlitReceive_canonical h ..
  case doeDiscovery => exact execDoeDiscovery_canonical h ..

/-- A step is the effect of the first command of the queue, or a cycle that passes. -/
theorem step_canonical {s : State} (h : s.memoriesCanonical) : CanonicalOutcome (step s) := by
  unfold step
  split
  · exact exec_canonical (by exact h) _
  · exact .next h.passCycle

/-- Settles O60: every operation that stores in a stack or in a memory of a tile stores byte by byte, which keeps the form
(`Memory.wf_writeList`), and each command is composed of such operations. -/
theorem memoriesStayCanonical : Obligations.MemoriesStayCanonical := by
  unfold Obligations.MemoriesStayCanonical
  exact fun _ _ h run => (step_canonical h).of_next run

end Sys2Proof.Machine
end

section
/-! PROOFS. When an instruction of a tile does not issue (R91, R122, R125, R127, R141, R453). -/

namespace Sys2Proof.Machine

/-- What a tile answers to an issue. -/
def State.afterIssue (s : State) (t : Nat) (a : Access) : Issue → Outcome
  | .held => .next s
  | .undef u => .fault (.undefined u)
  | .done x n => .next (s.issued t a x n)

section
variable {s : State} {t op op' : Nat} {a : Access} {issue : Tile → Nat → Issue} {x : Tile} {w : Nat}

/-- The word of a free value leaves what is fetched as it was. -/
theorem Fetched.of_useFree (h : Fetched s t op a x w) : Fetched s.useFree t op a x w := { h with }

/-- With a readable word before it a tile issues, passes the command by, or meets an opcode that is not listed. -/
theorem State.runTile_fetched (h : Fetched s t op' a x w) :
    s.runTile t op a issue =
      if op' ∉ opcodes then .fault (.undefined .reservedEncoding)
      else if op' ≠ op then .next s
      else s.afterIssue t a (issue x w) := by
  have readable : anyBad x.stagingUe ((List.range 8).map (8 * x.pc + ·)) = false := h.readable
  unfold State.runTile
  dsimp only
  rw [← h.tile, ← h.word]
  simp only [h.runs, h.free, Nat.not_lt.mpr h.due, readable, h.opcode, bne_self_eq_false,
    decide_false, Bool.not_true, Bool.or_self, Bool.false_eq_true, if_false, Bool.not_eq_true', List.contains_eq_mem,
    decide_eq_false_iff_not, ite_not]
  cases issue x w <;> simp only [State.afterIssue, State.issued, ← h.tile, fetchAddrs]

/-- A word whose issue is undefined behaviour. -/
theorem State.runTile_undef (h : Fetched s t op a x w) (hop : op ∈ opcodes) {u : Undef} (undef : issue x w = .undef u) :
    s.runTile t op a issue = .fault (.undefined u) := by
  rw [State.runTile_fetched h, if_neg (not_not.mpr hop), if_neg (not_not.mpr rfl), undef]
  rfl

/-- An uncorrectable word stops the sequencer (R91). -/
theorem State.runTile_unreadable (runs : s.tileRuns t = true) (free : (s.tileNow t a.upsets).1.wait = .none)
    (due : (s.tileNow t a.upsets).1.nextIssue ≤ s.clk.now)
    (bad : anyBad (s.tileNow t a.upsets).1.stagingUe (fetchAddrs (s.tileNow t a.upsets).1.pc) = true) :
    ∃ n, s.runTile t op a issue = .next (s.finishIssue t { (s.tileNow t a.upsets).1 with wait := .stopped } n) := by
  rw [fetchAddrs] at bad
  unfold State.runTile
  dsimp only
  rw [if_neg (by simp [runs, free, Nat.not_lt.mpr due]), if_pos bad]
  exact ⟨_, rfl⟩

end

/-- The free value that VFUNC takes is all that a command held back may change (log 9). -/
theorem State.eq_with_free {s s' : State} (free : s' = s ∨ s' = s.useFree) : s' = { s with free := s'.free } := by
  rcases free with rfl | rfl <;> rfl

/-- Settles O20: what `State.runTile` answers for each word that may not issue, for every command by `exec_tileOp`. -/
theorem tileInstructionsWaitOrStop : Obligations.TileInstructionsWaitOrStop := by
  unfold Obligations.TileInstructionsWaitOrStop
  refine ⟨fun c t op a s named => ?_, fun s t a x w h fields last => ?_, fun s t a x w h fields last fence => ?_⟩
  · obtain ⟨s', issue, free, runs, -⟩ := exec_tileOp named s
    have now : s'.tileNow t a.upsets = s.tileNow t a.upsets := by rcases free with rfl | rfl <;> rfl
    have clock : s'.clk = s.clk := by rcases free with rfl | rfl <;> rfl
    have running : s'.tileRuns t = s.tileRuns t := by rcases free with rfl | rfl <;> rfl
    have fetched : ∀ {x w op'}, Fetched s t op' a x w → Fetched s' t op' a x w := fun h => by
      rcases free with rfl | rfl
      · exact h
      · exact h.of_useFree
    have same := State.eq_with_free free
    rw [runs]
    refine ⟨fun idle => ⟨s', State.runTile_idle (by rwa [running, now, clock]), same⟩, fun x w op' h listed other => ?_,
      fun x w op' h unlisted => ?_, fun run wait due bad => ?_⟩
    · rw [State.runTile_fetched (fetched h), if_neg (not_not.mpr listed), if_pos other]
      exact ⟨s', rfl, same⟩
    · rw [State.runTile_fetched (fetched h), if_pos unlisted]
    · rw [← now] at wait due bad ⊢
      obtain ⟨n, stops⟩ := State.runTile_unreadable (issue := issue) (op := op) (running.trans run) wait (clock ▸ due) bad
      refine ⟨_, stops, ?_⟩
      rw [State.getTile_finishIssue, State.getTile_setTile]
      exact ⟨rfl, rfl⟩
  · refine State.runTile_undef h (by decide) (issue := issueNop (s.ctx t)) ?_
    rw [issueNop, if_neg (by simp [noFields, fields]), Tile.fin, if_pos (Nat.le_of_eq last.symm)]
  · refine State.runTile_undef h (by decide) (issue := issueHalt (s.ctx t)) ?_
    rw [issueHalt, if_neg (by simp [noFields, fields]), if_neg (by simp [show (s.ctx t).now = s.clk.now from rfl, fence]),
      if_pos (Nat.le_of_eq last.symm)]

end Sys2Proof.Machine
end

section
/-! PROOFS. The control instructions of a tile program (R108, R118, R126, R127, R131, R132, R134). -/

namespace Sys2Proof.Machine

section
variable {x : TileCtx} {t : Tile} {w : Nat} (room : t.pc < 8191)
include room

theorem issueNop_done (fields : fld w 55 0 = 0) : issueNop x t w = .done (t.advance x.now 1) Notes.none := by
  rw [issueNop, if_neg (by simp [noFields, fields]), Tile.fin_done room]

/-- HALT waits for the tile fence (R118). -/
theorem issueHalt_eq (fields : fld w 55 0 = 0) :
    issueHalt x t w = if t.fenceHolds x.now then .done { t with wait := .halted } Notes.none else .held := by
  rw [issueHalt, if_neg (by simp [noFields, fields]), if_neg (Nat.not_le.mpr room)]
  cases t.fenceHolds x.now <;> rfl

/-- GFENCE waits for the grid fence (R108). -/
theorem issueGfence_eq (fields : fld w 55 0 = 0) :
    issueGfence x t w = if t.gridIdle x.now then .done (t.advance x.now 1) Notes.none else .held := by
  rw [issueGfence, if_neg (by simp [noFields, fields]), Tile.fin_done room]
  cases t.gridIdle x.now <;> rfl

/-- FWAIT waits for the tile fence, and then for its ticks (R131). -/
theorem issueFwait_eq (free : t.wait = .none) (fields : fld w 55 16 = 0) :
    issueFwait x t w =
      if t.fenceHolds x.now then
        .done (({ t with wait := if fld w 15 0 = 0 then .none else .frames (fld w 15 0) } : Tile).advance x.now 1) Notes.none
      else .held := by
  rw [issueFwait, if_neg (not_not.mpr fields)]
  cases t.fenceHolds x.now with
  | false => rfl
  | true =>
    by_cases ticks : fld w 15 0 = 0
    · rw [if_pos ticks, if_pos ticks, Tile.fin_done room, ← free]
      rfl
    · rw [if_neg ticks, if_neg ticks, Tile.fin_done (by exact room)]
      rfl

/-- TESTW of no frames goes on. -/
theorem issueTestw_zero (fields : fld w 55 7 = 0) (none : fld w 6 0 = 0) :
    issueTestw x t w = .done (t.advance x.now 1) Notes.none := by
  rw [issueTestw, if_neg (by omega), if_pos none, Tile.fin_done room]

/-- TESTW of some frames waits for the tile fence and declares its window (R132). -/
theorem issueTestw_window (fields : fld w 55 7 = 0) (some : 1 ≤ fld w 6 0) (few : fld w 6 0 ≤ 64) :
    issueTestw x t w =
      if t.fenceHolds x.now then .done (({ t with wait := .window false (fld w 6 0) } : Tile).advance x.now 1) Notes.none
      else .held := by
  rw [issueTestw, if_neg (by omega), if_neg (by omega), Tile.fin_done (by exact room)]
  cases t.fenceHolds x.now <;> rfl

/-- CWAIT goes on once every channel of its mask has count 0 (R127). -/
theorem issueCwait_done (fields : fld w 55 16 = 0) (counts : ∀ c, c < 16 → w / 2 ^ c % 2 = 1 → (t.chanGet c).count = 0) :
    issueCwait x t w = .done (t.advance x.now 1) Notes.none := by
  rw [issueCwait, if_neg (not_not.mpr fields), if_neg, Tile.fin_done room]
  simpa using counts

/-- SYNC with ARRIVE at a member of the domain (R134). -/
theorem issueSync_arrives {member : Nat → Bool} (free : t.wait = .none) (high : fld w 55 54 = 0) (low : fld w 51 2 = 0)
    (arrive : fld w 0 0 = 1) (fresh : fld w 53 52 ∉ t.arrived) (mine : member (fld w 53 52) = true) :
    issueSync x t w member =
      .done (({ t with
        arrived := t.arrived ++ [fld w 53 52]
        wait := if fld w 1 1 = 1 then .sync (fld w 53 52) else .none } : Tile).advance x.now 1) Notes.none := by
  by_cases wait : fld w 1 1 = 1
  · simp [issueSync, high, low, arrive, fresh, mine, wait, Tile.fin, Nat.not_le.mpr room]
  · simp [issueSync, high, low, arrive, fresh, mine, wait, Tile.fin, Nat.not_le.mpr room, ← free]

/-- An arrival that is not the tile's own is ignored (R134). -/
theorem issueSync_ignored {member : Nat → Bool} (high : fld w 55 54 = 0) (low : fld w 51 2 = 0) (arrive : fld w 0 0 = 1)
    (fresh : fld w 53 52 ∉ t.arrived) (other : member (fld w 53 52) = false) :
    issueSync x t w member = .done (t.advance x.now 1) Notes.none := by
  simp [issueSync, high, low, arrive, fresh, other, Tile.fin, Nat.not_le.mpr room]

/-- SYNC without ARRIVE waits for an arrival that is pending (R134). -/
theorem issueSync_waits {member : Nat → Bool} (free : t.wait = .none) (high : fld w 55 54 = 0) (low : fld w 51 2 = 0)
    (arrive : fld w 0 0 = 0) :
    issueSync x t w member =
      .done (({ t with wait := if fld w 1 1 = 1 ∧ fld w 53 52 ∈ t.arrived then .sync (fld w 53 52) else .none } : Tile).advance
        x.now 1) Notes.none := by
  by_cases wait : fld w 1 1 = 1 ∧ fld w 53 52 ∈ t.arrived
  · simp [issueSync, high, low, arrive, wait, Tile.fin, Nat.not_le.mpr room]
  · simp [issueSync, high, low, arrive, wait, Tile.fin, Nat.not_le.mpr room, ← free]

end

/-- A channel of the mask that still counts holds CWAIT. -/
theorem issueCwait_held {x : TileCtx} {t : Tile} {w : Nat} (fields : fld w 55 16 = 0)
    (counts : ∃ c, c < 16 ∧ w / 2 ^ c % 2 = 1 ∧ (t.chanGet c).count ≠ 0) : issueCwait x t w = .held := by
  rw [issueCwait, if_neg (not_not.mpr fields), if_pos]
  simpa using counts

/-- A pending arrival holds another one in its domain (R134). -/
theorem issueSync_held {x : TileCtx} {t : Tile} {w : Nat} {member : Nat → Bool} (high : fld w 55 54 = 0) (low : fld w 51 2 = 0)
    (arrive : fld w 0 0 = 1) (pending : fld w 53 52 ∈ t.arrived) : issueSync x t w member = .held := by
  simp [issueSync, high, low, arrive, pending]

/-- Settles O23: each instruction's issue by its fence and fields, and `State.runTile_done` or `State.runTile_held`. -/
theorem controlInstructionsComplete : Obligations.ControlInstructionsComplete := by
  unfold Obligations.ControlInstructionsComplete
  refine ⟨?nop, ?halt, ?gfence, ?fwait, ?testw, ?cwait, ?sync⟩
  case nop =>
    intro s t a x w h fields
    exact State.runTile_done h (by decide) (issueNop_done (x := s.ctx t) h.room fields)
  case halt =>
    intro s t a x w h fields
    have issue := issueHalt_eq (x := s.ctx t) h.room fields
    exact ⟨fun fence => State.runTile_done h (by decide) (issue.trans (if_pos fence)),
      fun fence => State.runTile_held h (by decide) (issue.trans (if_neg (Bool.eq_false_iff.mp fence)))⟩
  case gfence =>
    intro s t a x w h fields
    have issue := issueGfence_eq (x := s.ctx t) h.room fields
    exact ⟨fun fence => State.runTile_done h (by decide) (issue.trans (if_pos fence)),
      fun fence => State.runTile_held h (by decide) (issue.trans (if_neg (Bool.eq_false_iff.mp fence)))⟩
  case fwait =>
    intro s t a x w h fields
    have issue := issueFwait_eq (x := s.ctx t) h.room h.free fields
    exact ⟨fun fence => State.runTile_done h (by decide) (issue.trans (if_pos fence)),
      fun fence => State.runTile_held h (by decide) (issue.trans (if_neg (Bool.eq_false_iff.mp fence)))⟩
  case testw =>
    intro s t a x w h fields
    have issue := issueTestw_window (x := s.ctx t) h.room fields
    exact ⟨fun none => State.runTile_done h (by decide) (issueTestw_zero (x := s.ctx t) h.room fields none),
      fun some few fence => State.runTile_done h (by decide) ((issue some few).trans (if_pos fence)),
      fun some few fence => State.runTile_held h (by decide) ((issue some few).trans (if_neg (Bool.eq_false_iff.mp fence)))⟩
  case cwait =>
    intro s t a x w h fields
    exact ⟨fun counts => State.runTile_done h (by decide) (issueCwait_done (x := s.ctx t) h.room fields counts),
      fun counts => State.runTile_held h (by decide) (issueCwait_held (x := s.ctx t) fields counts)⟩
  case sync =>
    intro s t a x w d h high low domain
    subst domain
    rw [show exec (.sync t a) s = s.runTile t 0x04 a fun x w => issueSync (s.ctx t) x w (s.isMember t) from rfl]
    exact ⟨fun arrive pending => State.runTile_held h (by decide) (issueSync_held high low arrive pending),
      fun arrive fresh mine => State.runTile_done h (by decide) (issueSync_arrives h.room h.free high low arrive fresh mine),
      fun arrive fresh other => State.runTile_done h (by decide) (issueSync_ignored h.room high low arrive fresh other),
      fun arrive => State.runTile_done h (by decide) (issueSync_waits h.room h.free high low arrive)⟩

end Sys2Proof.Machine
end

section
/-! PROOFS. The cycle in which an access of the vector row is first and its banks are free: what it reads, what it stores, and what
a lost bank leaves (R84, R86, R87, R89, R90, R110, R114). -/

namespace Sys2Proof.Machine

/-! ## Distinct elements and lines -/

theorem dedup_foldl (l acc : List Nat) (fresh : ∀ x ∈ l, x ∉ acc) (once : l.Nodup) :
    l.foldl (fun acc x => if acc.contains x then acc else acc ++ [x]) acc = acc ++ l := by
  induction l generalizing acc with
  | nil => rw [List.foldl_nil, List.append_nil]
  | cons x rest ih =>
    obtain ⟨new, once⟩ := List.nodup_cons.mp once
    rw [List.foldl_cons, if_neg (by simpa using fresh x List.mem_cons_self), ih _ _ once, List.append_assoc, List.singleton_append]
    intro y hy mem
    rcases List.mem_append.mp mem with old | one
    · exact fresh y (List.mem_cons_of_mem x hy) old
    · exact new (List.mem_singleton.mp one ▸ hy)

theorem dedup_of_nodup {l : List Nat} (once : l.Nodup) : dedup l = l := dedup_foldl l [] (fun _ _ => List.not_mem_nil) once

theorem mem_dedup {l : List Nat} {b : Nat} : b ∈ dedup l ↔ b ∈ l := by
  refine ⟨mem_of_mem_dedup, ?_⟩
  have keep : ∀ (l acc : List Nat), b ∈ acc ∨ b ∈ l → b ∈ l.foldl (fun acc x => if acc.contains x then acc else acc ++ [x]) acc := by
    intro l
    induction l with
    | nil => exact fun _ h => h.resolve_right List.not_mem_nil
    | cons x rest ih =>
      intro acc h
      refine ih _ ?_
      dsimp only
      split
      · next old =>
        rcases h with h | h
        · exact .inl h
        · rcases List.mem_cons.mp h with rfl | h
          · exact .inl (by simpa using old)
          · exact .inr h
      · rcases h with h | h
        · exact .inl (List.mem_append_left _ h)
        · rcases List.mem_cons.mp h with rfl | h
          · exact .inl (List.mem_append_right _ List.mem_cons_self)
          · exact .inr h
  exact fun h => keep l [] (.inr h)

theorem mem_insertNat {x y : Nat} {l : List Nat} : y ∈ insertNat x l ↔ y = x ∨ y ∈ l := by
  induction l with
  | nil => simp [insertNat]
  | cons z rest ih =>
    unfold insertNat
    split
    · simp
    · split
      · next same => simp [same]
      · simp only [List.mem_cons, ih]
        tauto

theorem mem_linesOf_foldl (addrs acc : List Nat) (l : Nat) :
    l ∈ addrs.foldl (fun acc a => insertNat (lineOf a) acc) acc ↔ l ∈ acc ∨ ∃ a ∈ addrs, lineOf a = l := by
  induction addrs generalizing acc with
  | nil => simp
  | cons a rest ih =>
    rw [List.foldl_cons, ih, mem_insertNat]
    simp only [List.mem_cons, exists_eq_or_imp, eq_comm (a := l)]
    tauto

/-- The lines of some addresses are those that hold one of them. -/
theorem mem_linesOf {addrs : List Nat} {l : Nat} : l ∈ linesOf addrs ↔ ∃ a ∈ addrs, lineOf a = l := by
  simpa [linesOf] using mem_linesOf_foldl addrs [] l

theorem linesOf_foldl_same {l : Nat} (addrs : List Nat) (same : ∀ a ∈ addrs, lineOf a = l) :
    addrs.foldl (fun acc a => insertNat (lineOf a) acc) [l] = [l] := by
  induction addrs with
  | nil => rfl
  | cons a rest ih =>
    rw [List.foldl_cons, same a List.mem_cons_self]
    simpa [insertNat] using ih fun b hb => same b (List.mem_cons_of_mem a hb)

/-- Addresses of one line. -/
theorem linesOf_same {l : Nat} {addrs : List Nat} (some : addrs ≠ []) (same : ∀ a ∈ addrs, lineOf a = l) : linesOf addrs = [l] := by
  obtain ⟨a, rest, rfl⟩ := List.exists_cons_of_ne_nil some
  rw [linesOf, List.foldl_cons, same a List.mem_cons_self]
  exact linesOf_foldl_same rest fun b hb => same b (List.mem_cons_of_mem a hb)

/-! ## Accesses whose banks are free (R86) -/

/-- When no line has lost its bank, every line was served. -/
theorem serveLines_all {busy lines : List Nat} (free : (serveLines busy lines).2.1 = []) : (serveLines busy lines).1 = lines := by
  induction lines generalizing busy with
  | nil => rfl
  | cons l rest ih =>
    unfold serveLines at free ⊢
    split at free
    · exact absurd free (List.cons_ne_nil _ _)
    · next won =>
      rw [if_neg won]
      exact congrArg (l :: ·) (ih free)

/-- An access of one cycle whose lines are all served ends in it. -/
theorem Tile.vecCycle_served {y : Tile} {c : Nat} {u : VecUse} {lines : List Nat} {rest : List VecAcc}
    (queue : y.vq = ⟨[lines], u, [], []⟩ :: rest) (free : (serveLines y.busy lines).2.1 = []) {z : Tile × VecAcc × Notes}
    (served : lines.foldl serveVec (y, ⟨[lines], u, [], []⟩, Notes.none) = z) :
    (y.vecCycle c).1 = (finishVec { z.1 with busy := (serveLines y.busy lines).2.2 } c z.2.1 rest).1 := by
  unfold Tile.vecCycle
  rw [queue]
  simp only [List.headD_cons, serveLines_all free, free, served]
  rfl

/-! ## Reads (R89 to R91) -/

theorem Memory.writeList_append (m : Memory) (l r : List (Nat × Byte)) : m.writeList (l ++ r) = (m.writeList l).writeList r := by
  induction l generalizing m with
  | nil => rfl
  | cons p rest ih => exact ih (m.write p.1 p.2)

/-- Bytes taken from a function of their address. -/
theorem Memory.read_writeList_map {m : Memory} (wf : m.wf = true) (f : Nat → Byte) {l : List Nat} {b : Nat} (mem : b ∈ l) :
    (m.writeList (l.map fun x => (x, f x))).read b = f b := by
  refine Memory.read_writeList_of_mem m _ wf (List.mem_map.mpr ⟨b, mem, rfl⟩) fun c hc => ?_
  obtain ⟨x, -, hx⟩ := List.mem_map.mp hc
  cases hx
  rfl

/-- Lines served for a read leave the tile as it was, and the access keeps what it is. -/
theorem serveVec_reads {u : VecUse} (reads : ∀ bs, u ≠ .store bs) (t : Tile) (lines : List Nat) (a : VecAcc) (n : Notes)
    (use : a.use = u) :
    ∃ buf bad n', lines.foldl serveVec (t, a, n) = (t, { a with buf := buf, bad := bad }, n') ∧
      buf = a.buf.writeList ((lines.flatMap fun l => inLine l u.addrs).map fun b => (b, t.deck.read b)) ∧
      ∀ w, w ∈ bad ↔ w ∈ a.bad ∨ ∃ b ∈ lines.flatMap fun l => inLine l u.addrs, t.deckUe.contains (b / 8) = true ∧ b / 8 = w := by
  induction lines generalizing a n with
  | nil => exact ⟨a.buf, a.bad, n, rfl, rfl, fun w => by simp⟩
  | cons l rest ih =>
    have one : serveVec (t, a, n) l = (t, { a with
        buf := a.buf.writeList ((inLine l u.addrs).map fun b => (b, t.deck.read b))
        bad := a.bad ++ dedup (((inLine l u.addrs).filter fun b => t.deckUe.contains (b / 8)).map (· / 8)) },
        n.add (t.deckNotes (inLine l u.addrs))) := by
      unfold serveVec
      dsimp only
      rw [use]
      cases u with
      | store bs => exact absurd rfl (reads bs)
      | load _ _ _ _ => rfl
      | lds _ _ => rfl
      | scadd _ _ => rfl
    obtain ⟨buf, bad, n', served, stored, marked⟩ := ih (n := n.add (t.deckNotes (inLine l u.addrs))) (a := { a with
        buf := a.buf.writeList ((inLine l u.addrs).map fun b => (b, t.deck.read b))
        bad := a.bad ++ dedup (((inLine l u.addrs).filter fun b => t.deckUe.contains (b / 8)).map (· / 8)) }) use
    refine ⟨buf, bad, n', by rw [List.foldl_cons, one, served], ?_, fun w => ?_⟩
    · rw [stored, List.flatMap_cons, List.map_append]
      exact (Memory.writeList_append _ _ _).symm
    · rw [marked, List.mem_append, mem_dedup, List.flatMap_cons]
      simp only [List.mem_append, List.mem_map, List.mem_filter, or_and_right, exists_or, and_assoc, or_assoc]

/-- The bytes that a memory and its marks share with those read: whatever is read through them is the same. -/
structure ReadsAs (buf : Memory) (bad : List Nat) (deck : Memory) (ue : List Nat) (addrs : List Nat) : Prop where
  bytes : ∀ b ∈ addrs, buf.read b = deck.read b
  marks : ∀ b ∈ addrs, bad.contains (b / 8) = ue.contains (b / 8)

/-- A read whose lines are all served has read its bytes as they stand in the deck, with their marks. -/
theorem serveVec_readsAs {u : VecUse} (reads : ∀ bs, u ≠ .store bs) (t : Tile) (steps : List (List Nat)) :
    ∃ buf bad n, (linesOf u.addrs).foldl serveVec (t, ⟨steps, u, [], []⟩, Notes.none) = (t, ⟨steps, u, buf, bad⟩, n) ∧
      ReadsAs buf bad t.deck t.deckUe u.addrs := by
  obtain ⟨buf, bad, n, served, stored, marked⟩ := serveVec_reads reads t (linesOf u.addrs) ⟨steps, u, [], []⟩ Notes.none rfl
  have all : ∀ b, b ∈ u.addrs → b ∈ (linesOf u.addrs).flatMap fun l => inLine l u.addrs := fun b hb =>
    List.mem_flatMap.mpr ⟨lineOf b, mem_linesOf.mpr ⟨b, hb, rfl⟩, List.mem_filter.mpr ⟨hb, beq_self_eq_true _⟩⟩
  refine ⟨buf, bad, n, served, fun b hb => ?_, fun b hb => Bool.eq_iff_iff.mpr ?_⟩
  · rw [stored]
    exact Memory.read_writeList_map Memory.wf_nil _ (all b hb)
  · rw [List.contains_iff_mem, marked]
    constructor
    · rintro (old | ⟨x, -, ue, word⟩)
      · exact absurd old List.not_mem_nil
      · exact word ▸ ue
    · exact fun ue => .inr ⟨b, all b hb, ue, rfl⟩

namespace ReadsAs

variable {buf deck : Memory} {bad ue addrs : List Nat} (h : ReadsAs buf bad deck ue addrs)
include h

theorem anyBad {as : List Nat} (within : ∀ b ∈ as, b ∈ addrs) : Machine.anyBad bad as = Machine.anyBad ue as :=
  Bool.eq_iff_iff.mpr <| List.any_eq_true.trans <| (exists_congr fun b => and_congr_right fun hb => by
    rw [h.marks b (within b hb)]).trans List.any_eq_true.symm

theorem bytesIn {a n : Nat} (within : ∀ b ∈ wrapAddrs deckSize a n, b ∈ addrs) :
    Machine.bytesIn buf bad a n = Machine.bytesIn deck ue a n :=
  List.map_congr_left fun b hb => by rw [h.marks b (within b hb), h.bytes b (within b hb)]

theorem codeIn {a : Nat} (within : ∀ b ∈ wrapAddrs deckSize a 2, b ∈ addrs) :
    Machine.codeIn buf bad a = Machine.codeIn deck ue a := by
  have bytes : buf.readAt (wrapAddrs deckSize a 2) = deck.readAt (wrapAddrs deckSize a 2) :=
    List.map_congr_left fun b hb => h.bytes b (within b hb)
  simp only [Machine.codeIn, h.anyBad within, bytes]

theorem elemIn {f : Fmt} {a : Nat} (within : ∀ b ∈ wrapAddrs deckSize a f.bytes, b ∈ addrs) :
    Machine.elemIn f buf bad a = Machine.elemIn f deck ue a := by
  unfold Machine.elemIn
  split
  · next two => exact h.codeIn (two ▸ within)
  · next one =>
    have first : a % deckSize ∈ wrapAddrs deckSize a f.bytes :=
      List.mem_map.mpr ⟨0, List.mem_range.mpr (by cases f <;> decide), rfl⟩
    simp only [Machine.byteIn, h.marks _ (within _ first), h.bytes _ (within _ first)]

end ReadsAs

/-! ## Stores (R84, R90) -/

/-- A line served for a store writes the bytes of the line. -/
theorem serveVec_store {y : Tile × VecAcc × Notes} {bs : List (Nat × Byte)} (use : y.2.1.use = .store bs) (l : Nat) :
    serveVec y l = (y.1.deckWrite (bs.filter fun q => lineOf q.1 == l), y.2) := by
  unfold serveVec
  dsimp only
  rw [use]

/-- Lines served for a store write its bytes: those of each line served stand in the deck. -/
theorem serveVec_stores {bs : List (Nat × Byte)} {p : Nat × Byte} (mem : p ∈ bs) (inside : ∀ q ∈ bs, q.1 < deckSize)
    (once : (bs.map (·.1)).Nodup) (lines : List Nat) (y : Tile × VecAcc × Notes) (use : y.2.1.use = .store bs)
    (wf : y.1.deck.wf = true) (here : lineOf p.1 ∈ lines ∨ y.1.deck.read p.1 = p.2) :
    (lines.foldl serveVec y).1.deck.read p.1 = p.2 := by
  induction lines generalizing y with
  | nil => exact here.resolve_left List.not_mem_nil
  | cons l rest ih =>
    have one := serveVec_store use l
    have stored : (bs.filter fun q => lineOf q.1 == l).map (fun q => (q.1 % deckSize, q.2)) = bs.filter fun q => lineOf q.1 == l :=
      
      (List.map_congr_left (g := id) fun q hq => by rw [Nat.mod_eq_of_lt (inside q (List.mem_filter.mp hq).1), id]).trans (List.map_id _)
    have deck : (serveVec y l).1.deck = y.1.deck.writeList (bs.filter fun q => lineOf q.1 == l) := by
      rw [one]
      exact congrArg y.1.deck.writeList stored
    refine ih (serveVec y l) (by rw [one, use]) (by rw [deck]; exact Memory.wf_writeList _ _ wf) ?_
    rw [deck]
    by_cases line : lineOf p.1 = l
    · refine .inr (Memory.read_writeList_of_mem _ _ wf (List.mem_filter.mpr ⟨mem, by simpa using line⟩) fun c hc => ?_)
      exact congrArg Prod.snd (List.inj_on_of_nodup_map once (List.mem_filter.mp hc).1 mem rfl)
    · refine here.imp (fun h => (List.mem_cons.mp h).resolve_left line) fun h => ?_
      rw [Memory.read_writeList_of_notMem _ _ wf _ fun q hq at_p => line ?_, h]
      rw [← at_p]
      simpa using (List.mem_filter.mp hq).2

end Sys2Proof.Machine
end

section
/-! PROOFS. SETRC, and the accesses of LDS and STS (R84, R86, R87, R89, R90, R110, R127, R130). -/

namespace Sys2Proof.Machine

/-! ## The 8 bytes of a word -/

theorem deckAddr_lt (base : Word) (off : Int) : deckAddr base off < deckSize := by
  have pos : (0 : Int) < (deckSize : Nat) := by decide
  have low := Int.emod_nonneg ((base.toNat : Int) + off) pos.ne'
  have high := Int.emod_lt_of_pos ((base.toNat : Int) + off) pos
  rw [deckAddr]
  omega

/-- The address of LDS and STS is a multiple of 8 whose 8 bytes lie within the deck (R130). -/
theorem scalarAddr_word (t : Tile) (ra imm : Nat) : scalarAddr t ra imm % 8 = 0 ∧ scalarAddr t ra imm + 8 ≤ deckSize := by
  have := deckAddr_lt (t.sGet ra) (signed 32 imm)
  rw [scalarAddr]
  simp only [deckSize] at *
  omega

theorem wrapAddrs_inside {size a n : Nat} (h : a + n ≤ size) : wrapAddrs size a n = (List.range n).map (a + ·) :=
  List.map_congr_left fun i hi => Nat.mod_eq_of_lt (by have := List.mem_range.mp hi; omega)

section
variable {A : Nat} (aligned : A % 8 = 0) (inside : A + 8 ≤ deckSize)
include aligned inside

theorem lineOf_of_mem_word : ∀ b ∈ wrapAddrs deckSize A 8, lineOf b = A / 64 := by
  rw [wrapAddrs_inside inside]
  intro b hb
  obtain ⟨i, hi, rfl⟩ := List.mem_map.mp hb
  have := List.mem_range.mp hi
  simp only [lineOf, deckSize] at *
  omega

/-- The word lies in one line. -/
theorem linesOf_word : linesOf (wrapAddrs deckSize A 8) = [A / 64] :=
  linesOf_same (List.cons_ne_nil _ _) (lineOf_of_mem_word aligned inside)

end

theorem map_fst_wordBytes (A v : Nat) : ((wrapAddrs deckSize A 8).zip (leBytes 8 v)).map (·.1) = wrapAddrs deckSize A 8 := by
  rw [← List.unzip_fst, List.unzip_zip (by simp [wrapAddrs, leBytes])]

/-! ## Issue -/

section
variable {x : TileCtx} {t : Tile} {w : Nat} (room : t.pc < 8191)
include room

theorem issueSetrc_done (high : fld w 55 54 = 0) (rd : fld w 51 47 = 0) (mid : fld w 36 32 = 0) (low : fld w 31 24 = 0)
    (ready : t.sReady [fld w 46 42, fld w 41 37] = true) {c : RndCtx}
    (context : c = ⟨fld w 23 0, (t.sGet (fld w 46 42)).toNat % 2 ^ 40, (t.sGet (fld w 41 37)).toNat % 2 ^ 32⟩) :
    issueSetrc x t w = .done (({ t with rc := vset t.rc (fld w 53 52) c } : Tile).advance x.now 1) Notes.none := by
  simp only [issueSetrc, ← context]
  rw [if_neg (by omega), if_neg (by simp [ready]), Tile.fin_done (by exact room)]

theorem issueLds_done (high : fld w 55 52 = 0) (mid : fld w 41 32 = 0) (ready : t.sReady [fld w 51 47, fld w 46 42] = true)
    {A : Nat} (addr : A = scalarAddr t (fld w 46 42) (fld w 31 0)) :
    issueLds x t w = .done (({ t with vq := t.vq ++ [⟨[[A / 64]], .lds (fld w 51 47) A, [], []⟩] } : Tile).advance x.now 1)
      Notes.none := by
  obtain ⟨aligned, inside⟩ := addr ▸ scalarAddr_word t (fld w 46 42) (fld w 31 0)
  simp only [issueLds, ← addr, VecUse.addrs, oneStep, linesOf_word aligned inside]
  rw [if_neg (by omega), if_neg (by simp [ready]), Tile.fin_done (by exact room)]

theorem issueSts_done (high : fld w 55 52 = 0) (mid : fld w 41 32 = 0) (ready : t.sReady [fld w 51 47, fld w 46 42] = true)
    {A : Nat} (addr : A = scalarAddr t (fld w 46 42) (fld w 31 0)) :
    issueSts x t w = .done (({ t with vq := t.vq ++ [⟨[[A / 64]],
      .store ((wrapAddrs deckSize A 8).zip (leBytes 8 (t.sGet (fld w 51 47)).toNat)), [], []⟩] } : Tile).advance x.now 1)
      Notes.none := by
  obtain ⟨aligned, inside⟩ := addr ▸ scalarAddr_word t (fld w 46 42) (fld w 31 0)
  simp only [issueSts, ← addr, VecUse.addrs, map_fst_wordBytes, oneStep, linesOf_word aligned inside]
  rw [if_neg (by omega), if_neg (by simp [ready]), Tile.fin_done (by exact room)]

end

/-! ## The cycle of the access -/

theorem serveLines_one_free {busy : List Nat} {l : Nat} (free : lineBank l ∉ busy) :
    serveLines busy [l] = ([l], [], lineBank l :: busy) := by
  simp [serveLines, free]

theorem serveLines_one_taken {busy : List Nat} {l : Nat} (taken : lineBank l ∈ busy) : serveLines busy [l] = ([], [l], busy) := by
  simp [serveLines, taken]

/-- An access of one line whose bank is taken keeps the line, and the next issue moves by one cycle (R87). -/
theorem Tile.vecCycle_taken {y : Tile} {c l : Nat} {u : VecUse} {rest : List VecAcc} (queue : y.vq = ⟨[[l]], u, [], []⟩ :: rest)
    (taken : lineBank l ∈ y.busy) : (y.vecCycle c).1 = { y with nextIssue := y.nextIssue + 1 } := by
  unfold Tile.vecCycle
  rw [queue]
  simp only [List.headD_cons, serveLines_one_taken taken, List.foldl_nil, List.isEmpty_cons, Bool.not_false, if_true,
    List.tail_cons, ← queue]

/-- LDS reads its word as the deck and its error marks give it. -/
theorem Tile.vecCycle_lds {y : Tile} {c rd A : Nat} {rest : List VecAcc} (aligned : A % 8 = 0) (inside : A + 8 ≤ deckSize)
    (queue : y.vq = ⟨[[A / 64]], .lds rd A, [], []⟩ :: rest) (free : deckBank A ∉ y.busy) :
    (y.vecCycle c).1 = ({ y with vq := rest, busy := deckBank A :: y.busy } : Tile).pushS
      ⟨c + 5, rd, BitVec.ofNat 64 (leNat (y.deckBytesMarked A 8))⟩ := by
  have bank := serveLines_one_free (l := A / 64) free
  obtain ⟨buf, bad, n, served, reads⟩ := serveVec_readsAs (u := .lds rd A) (fun _ => nofun) y [[A / 64]]
  rw [VecUse.addrs, linesOf_word aligned inside] at served
  rw [Tile.vecCycle_served queue (by rw [bank]) served, bank]
  simp only [finishVec]
  rw [reads.bytesIn fun _ h => h]
  rfl

/-- STS writes its word. -/
theorem Tile.vecCycle_sts {y : Tile} {c A v : Nat} {rest : List VecAcc} (aligned : A % 8 = 0) (inside : A + 8 ≤ deckSize)
    (queue : y.vq = ⟨[[A / 64]], .store ((wrapAddrs deckSize A 8).zip (leBytes 8 v)), [], []⟩ :: rest)
    (free : deckBank A ∉ y.busy) :
    (y.vecCycle c).1 = { (y.deckWrite ((wrapAddrs deckSize A 8).zip (leBytes 8 v))) with
      vq := rest, storeDone := c + 1, busy := deckBank A :: y.busy } := by
  have bank := serveLines_one_free (l := A / 64) free
  have all : ((wrapAddrs deckSize A 8).zip (leBytes 8 v)).filter (fun p => lineOf p.1 == A / 64) =
      (wrapAddrs deckSize A 8).zip (leBytes 8 v) := List.filter_eq_self.mpr fun p hp => by
    simpa using lineOf_of_mem_word aligned inside p.1 (List.of_mem_zip hp).1
  have served := (serveVec_store (y := (y, ⟨[[A / 64]], .store _, [], []⟩, Notes.none)) rfl (A / 64)).trans
    (congrArg (fun l => (y.deckWrite l, _)) all)
  rw [Tile.vecCycle_served queue (by rw [bank]) served, bank]
  rfl

/-- The 8 bytes of a word, each at its address. -/
theorem mem_wordBytes {A v i : Nat} (inside : A + 8 ≤ deckSize) (hi : i < 8) :
    (A + i, BitVec.ofNat 8 (v / 256 ^ i)) ∈ (wrapAddrs deckSize A 8).zip (leBytes 8 v) := by
  rw [wrapAddrs_inside inside, leBytes, List.zip_map']
  exact List.mem_map.mpr ⟨i, List.mem_range.mpr hi, rfl⟩

theorem exists_of_mem_wordBytes {A v : Nat} (inside : A + 8 ≤ deckSize) {p : Nat × Byte}
    (mem : p ∈ (wrapAddrs deckSize A 8).zip (leBytes 8 v)) : ∃ i < 8, p = (A + i, BitVec.ofNat 8 (v / 256 ^ i)) := by
  rw [wrapAddrs_inside inside, leBytes, List.zip_map'] at mem
  obtain ⟨i, hi, rfl⟩ := List.mem_map.mp mem
  exact ⟨i, List.mem_range.mp hi, rfl⟩

/-- The addresses of a word lie in the deck. -/
theorem mod_wordBytes (A v : Nat) : ((wrapAddrs deckSize A 8).zip (leBytes 8 v)).map (fun p => (p.1 % deckSize, p.2)) =
    (wrapAddrs deckSize A 8).zip (leBytes 8 v) :=
  (List.map_congr_left (g := id) fun p hp => by rw [mod_of_mem_wrapAddrs (List.of_mem_zip hp).1, id]).trans (List.map_id _)

section
variable {y : Tile} {A v : Nat} (aligned : A % 8 = 0) (inside : A + 8 ≤ deckSize)
include inside

theorem Tile.read_deckWrite_word (wf : y.deck.wf = true) {i : Nat} (hi : i < 8) :
    (y.deckWrite ((wrapAddrs deckSize A 8).zip (leBytes 8 v))).deck.read (A + i) = BitVec.ofNat 8 (v / 256 ^ i) := by
  rw [Tile.deckWrite, mod_wordBytes]
  refine Memory.read_writeList_of_mem _ _ wf (mem_wordBytes inside hi) fun c hc => ?_
  obtain ⟨k, -, e⟩ := exists_of_mem_wordBytes inside hc
  obtain ⟨addr, byte⟩ := Prod.mk.inj e
  rw [byte, show k = i by omega]

theorem Tile.read_deckWrite_word_outside (wf : y.deck.wf = true) {b : Nat} (out : b < A ∨ A + 8 ≤ b) :
    (y.deckWrite ((wrapAddrs deckSize A 8).zip (leBytes 8 v))).deck.read b = y.deck.read b := by
  rw [Tile.deckWrite, mod_wordBytes]
  refine Memory.read_writeList_of_notMem _ _ wf b fun p hp at_b => ?_
  obtain ⟨k, hk, rfl⟩ := exists_of_mem_wordBytes inside hp
  have : A + k = b := at_b
  omega

include aligned

/-- A word written whole loses its error marks (R90). -/
theorem Tile.marks_deckWrite_word :
    A / 8 ∉ (y.deckWrite ((wrapAddrs deckSize A 8).zip (leBytes 8 v))).deckUe ∧
      A / 8 ∉ (y.deckWrite ((wrapAddrs deckSize A 8).zip (leBytes 8 v))).deckCe := by
  have word : ∀ b ∈ (List.range 8).map (A + ·), b / 8 = A / 8 := fun b hb => by
    obtain ⟨i, hi, rfl⟩ := List.mem_map.mp hb
    have := List.mem_range.mp hi
    omega
  rw [Tile.deckWrite, mod_wordBytes, map_fst_wordBytes, wrapAddrs_inside inside]
  constructor
  · have whole : ((List.range 8).map (A + ·)).filter (fun b => b / 8 == A / 8) = (List.range 8).map (A + ·) :=
      List.filter_eq_self.mpr fun b hb => by simpa using word b hb
    have once : ((List.range 8).map (A + ·)).Nodup := List.Nodup.map (fun _ _ => Nat.add_left_cancel) List.nodup_range
    simp [ueAfterWrite, whole, dedup_of_nodup once]
  · have some : (((List.range 8).map (A + ·)).any fun b => b / 8 == A / 8) = true :=
      List.any_eq_true.mpr ⟨A + 0, List.mem_map.mpr ⟨0, by simp, rfl⟩, by simp⟩
    simp [ceAfterWrite, -List.any_map, some]

end

/-- Settles O26: the issues queue their accesses, and the cycle of each access by `Tile.vecCycle_served` or
`Tile.vecCycle_taken`. -/
theorem contextAndScalarMemoryComplete : Obligations.ContextAndScalarMemoryComplete := by
  unfold Obligations.ContextAndScalarMemoryComplete
  refine ⟨?setrc, ?lds, ?ldsCycle, ?sts, ?stsCycle⟩
  case setrc =>
    intro s t a x w c h high rd mid low ready context
    exact State.runTile_done h (by decide) (issueSetrc_done (x := s.ctx t) h.room high rd mid low ready context)
  case lds =>
    intro s t a x w A h high mid ready addr
    obtain ⟨aligned, inside⟩ := addr ▸ scalarAddr_word x (fld w 46 42) (fld w 31 0)
    exact ⟨aligned, inside, State.runTile_done h (by decide) (issueLds_done (x := s.ctx t) h.room high mid ready addr)⟩
  case ldsCycle =>
    intro y c rd A rest aligned inside queue
    exact ⟨Tile.vecCycle_lds aligned inside queue, Tile.vecCycle_taken queue⟩
  case sts =>
    intro s t a x w A h high mid ready addr
    exact State.runTile_done h (by decide) (issueSts_done (x := s.ctx t) h.room high mid ready addr)
  case stsCycle =>
    intro y c A v rest aligned inside wf free queue
    rw [Tile.vecCycle_sts aligned inside queue free]
    obtain ⟨ue, ce⟩ := Tile.marks_deckWrite_word (y := y) (v := v) aligned inside
    exact ⟨rfl, rfl, fun i hi => Tile.read_deckWrite_word inside wf hi,
      fun b out => Tile.read_deckWrite_word_outside inside wf out, ue, ce⟩

end Sys2Proof.Machine
end

section
/-! PROOFS. The loads and stores of the vector row (R87, R89, R110, R113, R114, R138). -/

namespace Sys2Proof.Machine

/-! ## Issue -/

theorem finAccess_done {x : TileCtx} {t : Tile} (room : t.pc < 8191) (cycles : Nat) (steps : List (List Nat)) (u : VecUse)
    (n : Notes) :
    finAccess x t cycles steps u n = .done (({ t with vq := t.vq ++ [⟨steps, u, [], []⟩] } : Tile).advance x.now cycles) n :=
  Tile.fin_done room

section
variable {x : TileCtx} {t : Tile} {w : Nat} {v : VFields} {f : Fmt} (hv : v = vFields t w) (room : t.pc < 8191) (sh : v.sh = 0)
  (op : v.op = 0) (ready : t.sReady [v.rs] = true)
include hv room sh op ready

theorem issueVld_done (fmt : Fmt.ofCode v.fmt = some f) (low : v.fmt < 4) :
    issueVld x t w = .done (({ t with vq := t.vq ++ [⟨[linesOf (activeAddrs v f (contigAddr t v f))],
      .load f v.vd v.mask ((List.range 64).map (contigAddr t v f)), [], []⟩] } : Tile).advance x.now 1) Notes.none := by
  simp only [issueVld, ← hv, fmt]
  rw [if_neg (by omega), if_neg (by simp [ready]), finAccess_done room]
  rfl

theorem issueVgather_done (fmt : Fmt.ofCode v.fmt = some f) (low : v.fmt < 4) (imm : v.imm < 8) :
    issueVgather x t w = .done (({ t with vq := t.vq ++ [⟨indexSteps (activeAddrs v f (indexAddr t v)),
      .load f v.vd v.mask ((List.range 64).map (indexAddr t v)), [], []⟩] } : Tile).advance x.now
        (indexCycles (activeAddrs v f (indexAddr t v)))) Notes.none := by
  simp only [issueVgather, ← hv, fmt]
  rw [if_neg (by omega), if_neg (by simp [ready]), finAccess_done room]
  rfl

section
variable {r : Nat → Code × Status} (lanes : ∀ l, r l = if f.bytes = 2 then (laneAt (t.vGet v.vb) l, 0)
  else f.round (x.rounding t v.sr v.rc l) (t16Val (laneAt (t.vGet v.vb) l)))
include lanes

theorem issueVst_done (fmt : Fmt.ofCode v.fmt = some f) (low : v.fmt < 4) :
    issueVst x t w = .done (({ t with vq := t.vq ++ [⟨[linesOf (activeAddrs v f (contigAddr t v f))],
      .store (laneBytes v f (contigAddr t v f) fun l => (r l).1), [], []⟩] } : Tile).advance x.now 1)
      (Notes.ofFlags (laneFlags v.mask fun l => (r l).2)) := by
  obtain rfl := funext lanes
  simp only [issueVst, ← hv, fmt]
  rw [if_neg (by omega), if_neg (by simp [ready]), finAccess_done room]
  rfl

theorem issueVscatter_done (fmt : Fmt.ofCode v.fmt = some f) (low : v.fmt < 4) (imm : v.imm < 8) :
    issueVscatter x t w = .done (({ t with vq := t.vq ++ [⟨indexSteps (activeAddrs v f (indexAddr t v)),
      .store (laneBytes v f (indexAddr t v) fun l => (r l).1), [], []⟩] } : Tile).advance x.now
        (indexCycles (activeAddrs v f (indexAddr t v)))) (Notes.ofFlags (laneFlags v.mask fun l => (r l).2)) := by
  obtain rfl := funext lanes
  simp only [issueVscatter, ← hv, fmt]
  rw [if_neg (by omega), if_neg (by simp [ready]), finAccess_done room]
  rfl

end

theorem issueVscadd_done (fmt : arithFmt v.fmt = some f) (imm : v.imm < 8) :
    issueVscadd x t w = .done (({ t with vq := t.vq ++ [⟨indexSteps (activeAddrs v f (indexAddr t v)), addUse x t v f, [], []⟩] }
      : Tile).advance x.now (2 * indexCycles (activeAddrs v f (indexAddr t v)))) Notes.none := by
  simp only [issueVscadd, ← hv, fmt]
  rw [if_neg (by omega), if_neg (by simp [ready]), finAccess_done room]

end

/-! ## The cycle of an access -/

theorem laneAt_lanesOf (f : Nat → Code) {l : Nat} (h : l < 64) : laneAt (lanesOf f) l = f l := by
  simp [laneAt, lanesOf, vget, h]

/-- The address of an active lane is among those of its load. -/
theorem mem_loadAddrs {f : Fmt} {reg l : Nat} {m : Word} {as : List Nat} (len : as.length = 64) (hl : l < 64)
    (active : maskBit m l = true) : ∀ b ∈ wrapAddrs deckSize (as.getD l 0) f.bytes, b ∈ (VecUse.load f reg m as).addrs := by
  intro b hb
  refine List.mem_flatMap.mpr ⟨(l, as.getD l 0), ?_, by simpa only [if_pos active] using hb⟩
  have at_l : ((List.range 64).zip as)[l]? = some (l, as.getD l 0) := by
    simp [List.getD_eq_getElem?_getD, len, hl]
  exact List.mem_of_getElem? at_l

/-- A load takes each active lane's element as the deck and its error marks give it. -/
theorem Tile.vecCycle_load {y : Tile} {c reg : Nat} {f : Fmt} {m : Word} {as : List Nat} {rest : List VecAcc}
    (len : as.length = 64) (queue : y.vq = ⟨[linesOf (VecUse.load f reg m as).addrs], .load f reg m as, [], []⟩ :: rest)
    (free : (serveLines y.busy (linesOf (VecUse.load f reg m as).addrs)).2.1 = []) :
    ∃ lanes, (y.vecCycle c).1.vDue = insertDue VWrite.due ⟨c + 5, reg, m, lanes⟩ y.vDue ∧ (y.vecCycle c).1.vq = rest ∧
      (y.vecCycle c).1.deck = y.deck ∧
      ∀ l, l < 64 → maskBit m l = true → laneAt lanes l = (loadLane f (y.deckElem f (as.getD l 0))).1 := by
  obtain ⟨buf, bad, n, served, reads⟩ := serveVec_readsAs (u := .load f reg m as) (fun _ => nofun) y
    [linesOf (VecUse.load f reg m as).addrs]
  rw [Tile.vecCycle_served queue free served]
  refine ⟨_, rfl, rfl, rfl, fun l hl active => ?_⟩
  rw [laneAt_lanesOf _ hl]
  exact congrArg (fun e => (loadLane f e).1) (reads.elemIn (mem_loadAddrs len hl active))

/-- A store writes its bytes and no other. -/
theorem Tile.vecCycle_store {y : Tile} {c : Nat} {bs : List (Nat × Byte)} {rest : List VecAcc}
    (queue : y.vq = ⟨[linesOf (bs.map (·.1))], .store bs, [], []⟩ :: rest) (wf : y.deck.wf = true)
    (inside : ∀ p ∈ bs, p.1 < deckSize) (once : (bs.map (·.1)).Nodup)
    (free : (serveLines y.busy (linesOf (bs.map (·.1)))).2.1 = []) :
    (y.vecCycle c).1.vq = rest ∧ (y.vecCycle c).1.storeDone = c + 1 ∧ (∀ p ∈ bs, (y.vecCycle c).1.deck.read p.1 = p.2) ∧
      ∀ b, b ∉ bs.map (·.1) → (y.vecCycle c).1.deck.read b = y.deck.read b := by
  have start : (y, (⟨[linesOf (bs.map (·.1))], .store bs, [], []⟩ : VecAcc), Notes.none).2.1.use = .store bs := rfl
  rw [Tile.vecCycle_served queue free rfl]
  generalize served : (linesOf (bs.map (·.1))).foldl serveVec (y, ⟨[linesOf (bs.map (·.1))], .store bs, [], []⟩, Notes.none) = z
  obtain ⟨use, kept⟩ : z.2.1.use = .store bs ∧ ∀ b, b ∉ (VecUse.store bs).stores → y.KeepsByte b z.1 := by
    rw [← served]
    exact ⟨(serveVec_foldl 0 _ _).1, fun b => (serveVec_foldl b _ (y, ⟨_, .store bs, [], []⟩, Notes.none)).2⟩
  have deck : ∀ u, (finishVec u c z.2.1 rest).1 = { u with vq := rest, storeDone := c + 1 } := fun u => by
    rw [finishVec, use]
  rw [deck]
  refine ⟨rfl, rfl, fun p mem => ?_, fun b out => (kept b fun mem => out ?_) wf |>.2⟩
  · have stored := serveVec_stores mem inside once (linesOf (bs.map (·.1))) _ start wf
      (.inl (mem_linesOf.mpr ⟨p.1, List.mem_map_of_mem mem, rfl⟩))
    rwa [served] at stored
  · obtain ⟨p, hp, rfl⟩ := List.mem_map.mp mem
    rw [Nat.mod_eq_of_lt (inside p hp)]
    exact List.mem_map_of_mem hp

/-- Lines served change nothing of when the tile issues next. -/
theorem serveVec_nextIssue (lines : List Nat) (y : Tile × VecAcc × Notes) :
    (lines.foldl serveVec y).1.nextIssue = y.1.nextIssue := by
  refine foldl_related (fun y z : Tile × VecAcc × Notes => z.1.nextIssue = y.1.nextIssue) (fun _ => rfl)
    (fun h k => k.trans h) serveVec (fun y l => ?_) lines y
  unfold serveVec
  dsimp only
  split <;> rfl

/-- Lines that lost their banks stay with the access, and the next issue moves by one cycle (R87). -/
theorem Tile.vecCycle_lost {y : Tile} {c : Nat} {acc : VecAcc} {rest : List VecAcc} (queue : y.vq = acc :: rest)
    (lost : (serveLines y.busy (acc.steps.headD [])).2.1 ≠ []) :
    ∃ acc', (y.vecCycle c).1.vq = acc' :: rest ∧ acc'.use = acc.use ∧
      acc'.steps = (serveLines y.busy (acc.steps.headD [])).2.1 :: acc.steps.tail ∧
      (y.vecCycle c).1.nextIssue = y.nextIssue + 1 := by
  have some : (!(serveLines y.busy (acc.steps.headD [])).2.1.isEmpty) = true := by simpa using lost
  have cycle : (y.vecCycle c).1 = { ((serveLines y.busy (acc.steps.headD [])).1.foldl serveVec (y, acc, Notes.none)).1 with
      busy := (serveLines y.busy (acc.steps.headD [])).2.2
      vq := { ((serveLines y.busy (acc.steps.headD [])).1.foldl serveVec (y, acc, Notes.none)).2.1 with
        steps := (serveLines y.busy (acc.steps.headD [])).2.1 :: acc.steps.tail } :: rest
      nextIssue := ((serveLines y.busy (acc.steps.headD [])).1.foldl serveVec (y, acc, Notes.none)).1.nextIssue + 1 } := by
    unfold Tile.vecCycle
    rw [queue]
    dsimp only
    rw [if_pos some]
  rw [cycle]
  exact ⟨_, rfl, (serveVec_foldl 0 _ _).1, rfl, congrArg (· + 1) (serveVec_nextIssue _ _)⟩

/-- Settles O31: the issues queue their accesses with the lines of their active lanes, and a cycle of an access by
`Tile.vecCycle_load`, `Tile.vecCycle_store` or `Tile.vecCycle_lost`. -/
theorem vectorMemoryInstructionsComplete : Obligations.VectorMemoryInstructionsComplete := by
  unfold Obligations.VectorMemoryInstructionsComplete
  refine ⟨?vld, ?vgather, ?vst, ?vscatter, ?vscadd, ?load, ?store, ?lost⟩
  case vld =>
    intro s t a x w v f h hv fmt low sh op ready
    exact State.runTile_done h (by decide) (issueVld_done hv h.room sh op ready fmt low)
  case vgather =>
    intro s t a x w v f A h hv fmt low sh op imm ready addrs
    subst addrs
    exact State.runTile_done h (by decide) (issueVgather_done hv h.room sh op ready fmt low imm)
  case vst =>
    intro s t a x w v f r h hv fmt low sh op ready lanes
    exact State.runTile_done h (by decide) (issueVst_done hv h.room sh op ready lanes fmt low)
  case vscatter =>
    intro s t a x w v f A r h hv fmt low sh op imm ready addrs lanes
    subst addrs
    exact State.runTile_done h (by decide) (issueVscatter_done hv h.room sh op ready lanes fmt low imm)
  case vscadd =>
    intro s t a x w v f A h hv fmt sh op imm ready addrs
    subst addrs
    exact State.runTile_done h (by decide) (issueVscadd_done hv h.room sh op ready fmt imm)
  case load =>
    intro y c reg f m as lines rest len same queue free
    subst same
    exact Tile.vecCycle_load len queue free
  case store =>
    intro y c bs lines rest same queue wf inside once free
    subst same
    exact Tile.vecCycle_store queue wf inside once free
  case lost =>
    intro y c acc rest queue lost
    exact Tile.vecCycle_lost queue lost

end Sys2Proof.Machine
end

section
/-! PROOFS. The copy engine: its instructions, and the fill of a range in one cycle (R84, R86, R95, R127, R137). -/

namespace Sys2Proof.Machine

/-! ## Issue -/

section
variable {x : TileCtx} {t : Tile} {w : Nat}

section
variable (rows : fld w 39 33 ≤ 96) (bytes : fld w 32 26 ≤ 96) (slot : fld w 7 0 < 208) (low : fld w 9 8 = 0)
  (ready : t.sReady [fld w 49 45, fld w 44 40] = true)
include rows bytes slot low ready

theorem issueWfill_done (room : t.pc < 8191) (idle : t.copyIdle = true) (some : 0 < fld w 39 33) (long : 0 < fld w 32 26) :
    issueWfill x t w = .done ((t.startCopy x
      (.wfill ((fld w 7 0 + (t.sGet (fld w 44 40)).toNat) % 208 * slotBytes) (fld w 25 10) (fld w 32 26))
      ((t.sGet (fld w 49 45)).toNat % deckSize) 0 (fld w 39 33 * fld w 32 26)).advance x.now 1) Notes.none := by
  simp only [issueWfill]
  rw [if_neg (by omega), if_neg (by simp [ready, idle]), if_neg (by omega), Tile.fin_done (by exact room)]

theorem issueWfill_empty (room : t.pc < 8191) (idle : t.copyIdle = true) (empty : fld w 39 33 = 0 ∨ fld w 32 26 = 0) :
    issueWfill x t w = .done (t.advance x.now 1) Notes.none := by
  simp only [issueWfill]
  rw [if_neg (by omega), if_neg (by simp [ready, idle]), if_pos empty, Tile.fin_done room]

omit ready in
theorem issueWfill_held (busy : t.copyIdle = false) : issueWfill x t w = .held := by
  simp only [issueWfill]
  rw [if_neg (by omega), if_pos (by simp [busy])]

end

section
variable (bytes : fld w 23 0 ≤ deckSize) (low : fld w 29 24 = 0)
include bytes low

theorem issueDfill_done (ready : t.sReady [fld w 55 51] = true) (room : t.pc < 8191) (idle : t.copyIdle = true)
    (some : 2 ≤ fld w 23 0) :
    issueDfill x t w = .done ((t.startCopy x (.dfill (fld w 45 30)) 0 ((t.sGet (fld w 55 51)).toNat % deckSize / 2 * 2)
      (fld w 23 0 / 2 * 2)).advance x.now 1) Notes.none := by
  simp only [issueDfill]
  rw [if_neg (by omega), if_neg (by simp [ready, idle]), if_neg (by omega), Tile.fin_done (by exact room)]

theorem issueDfill_empty (ready : t.sReady [fld w 55 51] = true) (room : t.pc < 8191) (idle : t.copyIdle = true)
    (empty : fld w 23 0 < 2) : issueDfill x t w = .done (t.advance x.now 1) Notes.none := by
  simp only [issueDfill]
  rw [if_neg (by omega), if_neg (by simp [ready, idle]), if_pos (by omega), Tile.fin_done room]

theorem issueDfill_held (busy : t.copyIdle = false) : issueDfill x t w = .held := by
  simp only [issueDfill]
  rw [if_neg (by omega), if_pos (by simp [busy])]

theorem issueDcopy_done (ready : t.sReady [fld w 50 46, fld w 55 51] = true) (room : t.pc < 8191) (idle : t.copyIdle = true)
    (some : 0 < fld w 23 0) :
    issueDcopy x t w = .done ((t.startCopy x .dcopy ((t.sGet (fld w 50 46)).toNat % deckSize)
      ((t.sGet (fld w 55 51)).toNat % deckSize) (fld w 23 0)).advance x.now 1) Notes.none := by
  simp only [issueDcopy]
  rw [if_neg (by omega), if_neg (by simp [ready, idle]), if_neg (by omega), Tile.fin_done (by exact room)]

theorem issueDcopy_empty (ready : t.sReady [fld w 50 46, fld w 55 51] = true) (room : t.pc < 8191) (idle : t.copyIdle = true)
    (empty : fld w 23 0 = 0) : issueDcopy x t w = .done (t.advance x.now 1) Notes.none := by
  simp only [issueDcopy]
  rw [if_neg (by omega), if_neg (by simp [ready, idle]), if_pos empty, Tile.fin_done room]

theorem issueDcopy_held (busy : t.copyIdle = false) : issueDcopy x t w = .held := by
  simp only [issueDcopy]
  rw [if_neg (by omega), if_pos (by simp [busy])]

end

end

/-! ## Lines whose banks differ (R86) -/

theorem insertNat_ascending {x : Nat} {l : List Nat} (h : l.Pairwise (· < ·)) : (insertNat x l).Pairwise (· < ·) := by
  induction l with
  | nil => exact List.pairwise_singleton _ _
  | cons y rest ih =>
    obtain ⟨first, others⟩ := List.pairwise_cons.mp h
    unfold insertNat
    split
    · next less => exact List.pairwise_cons.mpr ⟨List.forall_mem_cons.mpr ⟨less, fun z hz => less.trans (first z hz)⟩, h⟩
    · split
      · exact h
      · refine List.pairwise_cons.mpr ⟨fun z hz => ?_, ih others⟩
        rcases mem_insertNat.mp hz with rfl | old
        · omega
        · exact first z old

/-- The lines of some addresses are each listed once. -/
theorem linesOf_nodup (addrs : List Nat) : (linesOf addrs).Nodup := by
  have ascending : ∀ (addrs acc : List Nat), acc.Pairwise (· < ·) →
      (addrs.foldl (fun acc a => insertNat (lineOf a) acc) acc).Pairwise (· < ·) := by
    intro addrs
    induction addrs with
    | nil => exact fun _ h => h
    | cons a rest ih => exact fun acc h => ih _ (insertNat_ascending h)
  exact (ascending addrs [] List.Pairwise.nil).imp Nat.ne_of_lt

/-- Lines in banks that differ and are free are all served. -/
theorem serveLines_free {busy lines : List Nat} (banks : (lines.map lineBank).Nodup) (free : ∀ l ∈ lines, lineBank l ∉ busy) :
    (serveLines busy lines).2.1 = [] := by
  induction lines generalizing busy with
  | nil => rfl
  | cons l rest ih =>
    obtain ⟨other, banks⟩ := List.nodup_cons.mp banks
    unfold serveLines
    rw [if_neg (by simpa using free l List.mem_cons_self)]
    refine ih banks fun k hk taken => ?_
    rcases List.mem_cons.mp taken with same | old
    · exact other (same ▸ List.mem_map_of_mem hk)
    · exact free k (List.mem_cons_of_mem l hk) old

/-! ## The last cycle of a fill (R95, R137) -/

/-- A chunk that reads nothing, takes all its banks and is the last ends its job. -/
theorem Tile.copyCycle_ends {y : Tile} {j : CopyJob} {c : Nat} (job : y.copy = some j) (begun : ¬c < j.start) (reads : j.rd = [])
    (free : (serveLines y.busy j.wr).2.1 = []) (last : j.bytes ≤ j.done + 128) :
    (y.copyCycle c).1 = { (j.wr.foldl copyWrite (y, j)).1 with busy := (serveLines y.busy j.wr).2.2, copy := none } := by
  have same : ∀ (lines : List Nat) (z : Tile × CopyJob), (lines.foldl copyWrite z).2 = z.2 := fun lines z =>
    foldl_related (fun a b : Tile × CopyJob => b.2 = a.2) (fun _ => rfl) (fun h k => k.trans h) copyWrite (fun _ _ => rfl) lines z
  unfold Tile.copyCycle
  rw [job]
  simp only [reads, serveLines, List.foldl_nil, List.isEmpty_nil, if_true, free, serveLines_all free, same]
  rw [if_neg begun, if_neg (by simp), if_pos last]

/-- Lines written for a copy: each byte of the chunk in a line written stands in the deck. -/
theorem copyWrite_writes {j : CopyJob} {i : Nat} (mem : i ∈ j.chunk) (once : ∀ k ∈ j.chunk, j.dstAddr k = j.dstAddr i → k = i)
    (lines : List Nat) (t : Tile) (wf : t.deck.wf = true)
    (here : lineOf (j.dstAddr i) ∈ lines ∨ t.deck.read (j.dstAddr i) = (j.byteAt i).1) :
    (lines.foldl copyWrite (t, j)).1.deck.read (j.dstAddr i) = (j.byteAt i).1 := by
  induction lines generalizing t with
  | nil => exact here.resolve_left List.not_mem_nil
  | cons l rest ih =>
    have stored : ((j.chunk.filter fun k => lineOf (j.dstAddr k) == l).map fun k => (j.dstAddr k, (j.byteAt k).1)).map
        (fun p => (p.1 % deckSize, p.2)) =
          (j.chunk.filter fun k => lineOf (j.dstAddr k) == l).map fun k => (j.dstAddr k, (j.byteAt k).1) := by
      rw [List.map_map]
      exact List.map_congr_left fun k _ => by simp only [Function.comp_apply, mod_dstAddr]
    have deck : (copyWrite (t, j) l).1.deck =
        t.deck.writeList ((j.chunk.filter fun k => lineOf (j.dstAddr k) == l).map fun k => (j.dstAddr k, (j.byteAt k).1)) :=
      congrArg t.deck.writeList stored
    refine ih (copyWrite (t, j) l).1 (by rw [deck]; exact Memory.wf_writeList _ _ wf) ?_
    rw [deck]
    by_cases line : lineOf (j.dstAddr i) = l
    · refine .inr (Memory.read_writeList_of_mem _ _ wf
        (List.mem_map.mpr ⟨i, List.mem_filter.mpr ⟨mem, by simpa using line⟩, rfl⟩) fun b hb => ?_)
      obtain ⟨k, hk, e⟩ := List.mem_map.mp hb
      obtain ⟨addr, byte⟩ := Prod.mk.inj e
      rw [← byte, once k (List.mem_filter.mp hk).1 addr]
    · refine here.imp (fun h => (List.mem_cons.mp h).resolve_left line) fun h => ?_
      rw [Memory.read_writeList_of_notMem _ _ wf _ fun p hp at_i => line ?_, h]
      obtain ⟨k, hk, rfl⟩ := List.mem_map.mp hp
      rw [← at_i]
      simpa using (List.mem_filter.mp hk).2

/-- The job of a fill as it begins. -/
def fillJob (x : TileCtx) (pat dst bytes : Nat) : CopyJob :=
  ({ kind := .dfill pat, start := x.now + 4, src := 0, dst := dst, bytes := bytes, done := 0, rd := [], wr := [], buf := [] } :
    CopyJob).begin

section
variable {y : Tile} {x : TileCtx} {c pat dst bytes : Nat} (wf : y.deck.wf = true) (idle : y.busy = []) (begun : x.now + 4 ≤ c)
  (few : bytes ≤ 128)

theorem copy_startFill : (y.startCopy x (.dfill pat) 0 dst bytes).copy = some (fillJob x pat dst bytes) := rfl

include few in
theorem mem_chunk_fillJob {i : Nat} : i ∈ (fillJob x pat dst bytes).chunk ↔ i < bytes := by
  have chunk : (fillJob x pat dst bytes).chunk = (List.range (min 128 (bytes - 0))).map (0 + ·) := rfl
  rw [chunk]
  simp only [Nat.zero_add, List.map_id', List.mem_range]
  omega

include few in
/-- At most 128 bytes lie in lines of banks that differ. -/
theorem banks_fillJob : ((fillJob x pat dst bytes).wr.map lineBank).Nodup := by
  have lines : (fillJob x pat dst bytes).wr = linesOf ((fillJob x pat dst bytes).chunk.map (fillJob x pat dst bytes).dstAddr) := rfl
  refine List.Nodup.map_on (fun l hl k hk bank => ?_) (lines ▸ linesOf_nodup _)
  rw [lines] at hl hk
  obtain ⟨a, ha, rfl⟩ := mem_linesOf.mp hl
  obtain ⟨b, hb, rfl⟩ := mem_linesOf.mp hk
  obtain ⟨i, hi, rfl⟩ := List.mem_map.mp ha
  obtain ⟨n, hn, rfl⟩ := List.mem_map.mp hb
  have hi := (mem_chunk_fillJob few).mp hi
  have hn := (mem_chunk_fillJob few).mp hn
  have addr : ∀ k, (fillJob x pat dst bytes).dstAddr k = (dst + k) % deckSize := fun _ => rfl
  simp only [lineBank, lineOf, addr, deckSize] at *
  omega

include idle begun few

/-- A fill of at most 128 bytes ends in one cycle with no bank taken. -/
theorem Tile.copyCycle_fill :
    ((y.startCopy x (.dfill pat) 0 dst bytes).copyCycle c).1 =
      { ((fillJob x pat dst bytes).wr.foldl copyWrite (y.startCopy x (.dfill pat) 0 dst bytes, fillJob x pat dst bytes)).1 with
        busy := (serveLines [] (fillJob x pat dst bytes).wr).2.2, copy := none } := by
  have busy : (y.startCopy x (.dfill pat) 0 dst bytes).busy = [] := idle
  have free := serveLines_free (busy := []) (banks_fillJob (x := x) (pat := pat) (dst := dst) few) fun _ _ => List.not_mem_nil
  have last : bytes ≤ 0 + 128 := by omega
  rw [Tile.copyCycle_ends copy_startFill (Nat.not_lt.mpr begun) rfl (by rw [busy]; exact free) last, busy]

include wf

/-- And each 16-bit unit of its range then holds the pattern. -/
theorem Tile.read_copyCycle_fill {i : Nat} (hi : i < bytes) :
    ((y.startCopy x (.dfill pat) 0 dst bytes).copyCycle c).1.deck.read ((dst + i) % deckSize) =
      BitVec.ofNat 8 (if i % 2 = 0 then pat else pat / 256) := by
  have mem := (mem_chunk_fillJob (x := x) (pat := pat) (dst := dst) few).mpr hi
  have addr : ∀ k, (fillJob x pat dst bytes).dstAddr k = (dst + k) % deckSize := fun _ => rfl
  rw [Tile.copyCycle_fill idle begun few]
  refine copyWrite_writes mem (fun k hk same => ?_) _ (y.startCopy x (.dfill pat) 0 dst bytes) wf
    (.inl (mem_linesOf.mpr ⟨_, List.mem_map_of_mem mem, rfl⟩))
  have := (mem_chunk_fillJob few).mp hk
  simp only [addr, deckSize] at same
  omega

end

/-- Settles O28: the issues start their jobs, and the one cycle of a short fill by `Tile.copyCycle_fill`. -/
theorem copyEngineInstructionsComplete : Obligations.CopyEngineInstructionsComplete := by
  unfold Obligations.CopyEngineInstructionsComplete
  refine ⟨?wfill, ?dfill, ?dcopy, ?early, ?fill⟩
  case wfill =>
    intro s t a x w h rows bytes slot low ready
    exact ⟨fun idle some long => State.runTile_done h (by decide)
        (issueWfill_done (x := s.ctx t) rows bytes slot low ready h.room idle some long),
      fun idle empty => State.runTile_done h (by decide)
        (issueWfill_empty (x := s.ctx t) rows bytes slot low ready h.room idle empty),
      fun busy => State.runTile_held h (by decide) (issueWfill_held (x := s.ctx t) rows bytes slot low busy)⟩
  case dfill =>
    intro s t a x w h bytes low ready
    exact ⟨fun idle some => State.runTile_done h (by decide) (issueDfill_done (x := s.ctx t) bytes low ready h.room idle some),
      fun idle empty => State.runTile_done h (by decide) (issueDfill_empty (x := s.ctx t) bytes low ready h.room idle empty),
      fun busy => State.runTile_held h (by decide) (issueDfill_held (x := s.ctx t) bytes low busy)⟩
  case dcopy =>
    intro s t a x w h bytes low ready
    exact ⟨fun idle some => State.runTile_done h (by decide) (issueDcopy_done (x := s.ctx t) bytes low ready h.room idle some),
      fun idle empty => State.runTile_done h (by decide) (issueDcopy_empty (x := s.ctx t) bytes low ready h.room idle empty),
      fun busy => State.runTile_held h (by decide) (issueDcopy_held (x := s.ctx t) bytes low busy)⟩
  case early =>
    intro y c j job before
    unfold Tile.copyCycle
    rw [job]
    dsimp only
    rw [if_pos before]
  case fill =>
    intro y c pat dst bytes x wf idle begun _ _ _ _ few
    refine ⟨by rw [Tile.copyCycle_fill idle begun few], fun i hi => Tile.read_copyCycle_fill wf idle begun few hi,
      fun b out => ?_⟩
    refine (Tile.copyCycle_keeps (t := y.startCopy x (.dfill pat) 0 dst bytes) (fun j job i hi at_i => out ?_) c wf).2
    cases Option.some.inj job
    exact List.mem_map.mpr ⟨i, List.mem_range.mpr hi, at_i.symm⟩

end Sys2Proof.Machine
end

section
/-! PROOFS. VFUNC and VRED (R110, R115, R116, R121, R138; log 9 and 40). -/

namespace Sys2Proof.Machine

/-! ## The reduction tree (R115) -/

/-- A level of the tree over values by lane. -/
def pairUp (comb : Option Val → Option Val → Option Val) (f : Nat → Option Val) (i : Nat) : Option Val :=
  comb (f (2 * i)) (f (2 * i + 1))

theorem treeLevel_range (comb : Option Val → Option Val → Option Val) (f : Nat → Option Val) (n : Nat) :
    treeLevel comb ((List.range (2 * n)).map f) = (List.range n).map (pairUp comb f) := by
  induction n generalizing f with
  | zero => rfl
  | succ n ih =>
    rw [show 2 * (n + 1) = 2 * n + 1 + 1 by omega, List.range_succ_eq_map, List.range_succ_eq_map, List.range_succ_eq_map (n := n)]
    simp only [List.map_cons, List.map_map, treeLevel]
    refine congrArg₂ List.cons rfl ?_
    rw [ih]
    exact List.map_congr_left fun i _ => rfl

/-- The root over 64 lanes is six levels. -/
theorem treeRoot_range (comb : Option Val → Option Val → Option Val) (f : Nat → Option Val) :
    treeRoot comb ((List.range 64).map f) = (pairUp comb)^[6] f 0 := by
  have level := treeLevel_range comb
  rw [treeRoot, level f 32, level _ 16, level _ 8, level _ 4, level _ 2, level _ 1]
  rfl

/-- A tree of no value has none at its root. -/
theorem treeRoot_none {comb : Option Val → Option Val → Option Val} (empty : comb none none = none) :
    treeRoot comb ((List.range 64).map fun _ => none) = none := by
  have level : pairUp comb (fun _ => none) = fun _ => none := funext fun _ => empty
  rw [treeRoot_range, Function.iterate_fixed level]

/-- A tree of one value has it at its root. -/
theorem treeRoot_max_single {l : Nat} (hl : l < 64) (p : Val) :
    treeRoot treeMax ((List.range 64).map fun k => if k = l then some p else none) = some p := by
  have level : ∀ l, pairUp treeMax (fun k => if k = l then some p else none) = fun k => if k = l / 2 then some p else none := by
    intro l
    funext k
    rw [pairUp]
    by_cases left : 2 * k = l
    · rw [if_pos left, if_neg (by omega), if_pos (by omega)]
      rfl
    · rw [if_neg left]
      by_cases right : 2 * k + 1 = l
      · rw [if_pos right, if_pos (by omega)]
        rfl
      · rw [if_neg right, if_neg (by omega)]
        rfl
  rw [treeRoot_range]
  simp only [Function.iterate_succ, Function.iterate_zero, Function.comp_apply, id, level]
  exact if_pos (by omega)

/-! ## VRED -/

/-- The operand of a lane of a reduction: none where the mask leaves the lane out. -/
def redLane (t : Tile) (v : VFields) (f : Fmt) (l : Nat) : Option Val :=
  if maskBit v.mask l then some (f.val (laneAt (t.vGet v.va) l)) else none

/-- The code of a maximum or minimum: its root rounded, NaR where no lane is active. -/
def redCode (t : Tile) (v : VFields) (f : Fmt) (comb : Option Val → Option Val → Option Val) : Code :=
  (f.round .rne ((treeRoot comb ((List.range 64).map (redLane t v f))).getD .nar)).1

theorem redCode_empty {t : Tile} {v : VFields} {f : Fmt} {comb : Option Val → Option Val → Option Val}
    (empty : comb none none = none) (mask : v.mask = 0) : redCode t v f comb = (f.round .rne .nar).1 := by
  have lanes : redLane t v f = fun _ => none := funext fun l => if_neg (by simp [maskBit, mask])
  rw [redCode, lanes, treeRoot_none empty]
  rfl

theorem redCode_single {t : Tile} {v : VFields} {f : Fmt} {l : Nat} (hl : l < 64) (mask : v.mask = 1 <<< l) :
    redCode t v f treeMax = (f.round .rne (f.val (laneAt (t.vGet v.va) l))).1 := by
  have lanes : redLane t v f = fun k => if k = l then some (f.val (laneAt (t.vGet v.va) l)) else none := by
    funext k
    rw [redLane, maskBit, mask, getLsbD_oneBit hl]
    by_cases same : k = l
    · rw [same, if_pos (decide_eq_true rfl), if_pos rfl]
    · rw [if_neg (by simp [same]), if_neg same]
  rw [redCode, lanes, treeRoot_max_single hl]
  rfl

section
variable {x : TileCtx} {t : Tile} {w : Nat} {v : VFields} {f : Fmt} (hv : v = vFields t w) (room : t.pc < 8191)
  (fmt : arithFmt v.fmt = some f)
include hv room fmt

/-- VRED sends one code to lane 0 and zero to every other lane. -/
theorem issueVred_done (sh : v.sh = 0) (op : v.op < 3) :
    ∃ c n, issueVred x t w = .done ((t.pushV ⟨x.now + 16, v.vd, BitVec.allOnes 64,
        lanesOf fun l => if l = 0 then c else codeZero⟩).advance x.now 2) n ∧
      (v.op = 0 → v.mask = 0 → c = codeZero) ∧ (v.op = 1 → c = redCode t v f treeMax) ∧ (v.op = 2 → c = redCode t v f treeMin) := by
  simp only [issueVred, ← hv, fmt]
  rw [if_neg (by omega), finVector_done room]
  refine ⟨_, _, rfl, fun sum mask => ?_, fun max => ?_, fun min => ?_⟩
  · rw [sum]
    exact congrArg Prod.fst (if_pos mask)
  · rw [max]
    rfl
  · rw [min]
    rfl

/-! ## VFUNC -/

theorem issueVfunc_done {fn : Fn} {free : Nat → Code} (code : Fn.ofCode v.op = some fn) (sh : v.sh < 3)
    (won : sharedHeld t v = false) (unit : t.funcFree ≤ x.now) :
    ∃ n, issueVfunc x t w free = .done ((({ (t.takeShared v) with funcFree := x.now + 4 } : Tile).pushV
      ⟨x.now + (if v.sh = 2 then 16 else 12), v.vd, v.mask, lanesOf fun l =>
        ((fnValue f (x.rounding t v.sr v.rc l) fn (f.val (sourceB t v v.va l))).getD (free l, 0)).1⟩).advance x.now 4) n := by
  simp only [issueVfunc, ← hv, fmt, code]
  rw [if_neg (by omega), if_neg (by simp [won, unit]), finVector_done (by exact room), due_sharedCost]
  exact ⟨_, rfl⟩

omit room in
theorem issueVfunc_held {fn : Fn} {free : Nat → Code} (code : Fn.ofCode v.op = some fn) (sh : v.sh < 3)
    (busy : sharedHeld t v = true ∨ x.now < t.funcFree) : issueVfunc x t w free = .held := by
  simp only [issueVfunc, ← hv, fmt, code]
  rw [if_neg (by omega), if_pos busy]

end

/-- A free value taken leaves what may issue as it was (log 9). -/
theorem Issuing.of_useFree {s : State} {t op : Nat} {a : Access} {x : Tile} {w : Nat} (h : Issuing s t op a x w) :
    Issuing s.useFree t op a x w := ⟨h.toFetched.of_useFree, h.room⟩

/-- Settles O30: VFUNC's lanes by the function's own value, VRED's by its tree over 64 lanes. -/
theorem functionsAndReductionsComplete : Obligations.FunctionsAndReductionsComplete := by
  unfold Obligations.FunctionsAndReductionsComplete
  refine ⟨fun s t a x w v f fn h hv fmt code sh => ?_, fun s t a x w v f h hv fmt sh op => ?_⟩
  · rw [show exec (.vfunc t a) s =
      s.useFree.runTile t 0x25 a fun x w => issueVfunc (s.ctx t) x w (Config.functionCode s.free) from rfl]
    refine ⟨fun won unit => ?_, fun busy => State.runTile_held h.of_useFree (by decide) (issueVfunc_held hv fmt code sh busy)⟩
    obtain ⟨n, done⟩ := issueVfunc_done (x := s.ctx t) (free := Config.functionCode s.free) hv h.room fmt code sh won unit
    refine ⟨_, n, fun l y _ value => ?_, State.runTile_done h.of_useFree (by decide) done⟩
    rw [value]
    rfl
  · obtain ⟨c, n, done, sum, max, min⟩ := issueVred_done (x := s.ctx t) hv h.room fmt sh op
    refine ⟨c, n, sum, fun other mask => ?_, fun one l hl mask => (max one).trans (redCode_single hl mask),
      State.runTile_done h (by decide) done⟩
    have which : v.op = 1 ∨ v.op = 2 := by omega
    rcases which with one | two
    · exact (max one).trans (redCode_empty rfl mask)
    · exact (min two).trans (redCode_empty rfl mask)

end Sys2Proof.Machine
end

section
/-! PROOFS. LOADW, STREAM and DRAIN queue their operations (R93, R96, R99, R103 to R105, R121, R135, R136). -/

namespace Sys2Proof.Machine

section
variable {x : TileCtx} {t : Tile} {w : Nat}

/-! ## LOADW -/

theorem issueLoadw_done {f : Fmt} (room : t.pc < 8191) (fmt : Fmt.ofCode (fld w 54 52) = some f) (known : fld w 54 52 < 4)
    (low : fld w 9 8 = 0) (slot : fld w 7 0 < 208) (wide : fld w 51 51 = 1 → 2 ≤ fld w 54 52)
    (ready : t.sReady [fld w 44 40] = true) :
    issueLoadw x t w =
      if t.loadQ.length < 4 then
        .done (({ t with
          loadQ := t.loadQ ++
            [{ issue := t.gridNow x.now, plane := fld w 55 55, slot := (fld w 7 0 + (t.sGet (fld w 44 40)).toNat) % 208
               fmt := f, w8 := fld w 51 51 == 1, transpose := fld w 50 50 == 1 }]
          wide0 := if fld w 55 55 = 0 then fld w 51 51 == 1 else t.wide0
          wide1 := if fld w 55 55 = 0 then t.wide1 else fld w 51 51 == 1 } : Tile).advance x.now 1) Notes.none
      else .held := by
  simp only [issueLoadw, fmt]
  rw [if_neg (by simp only [beq_iff_eq]; omega)]
  by_cases queue : t.loadQ.length < 4
  · rw [if_neg (by simp [ready, queue]), if_pos queue, Tile.fin_done (by exact room)]
  · rw [if_pos (.inr (Nat.not_lt.mp queue)), if_neg queue]

/-! ## STREAM and DRAIN -/

/-- A record that can be read does not stop the sequencer. -/
theorem recordBad_readable (clean : anyBad t.stagingUe ((List.range 64).map (fld w 25 16 * 64 + ·)) = false) :
    recordBad t w = none := by
  unfold recordBad
  extract_lets addrs
  rw [if_neg (by rw [show anyBad t.stagingUe addrs = false from clean]; exact Bool.false_ne_true)]

/-- An operation whose record is well-formed joins the queues, or waits for room in them; of no rows it queues nothing. -/
theorem issueGrid_done {drain : Bool} {mode : GridMode} {rows : Nat} {afmt : Fmt} {op : GridOp} (room : t.pc < 8191)
    (clean : anyBad t.stagingUe ((List.range 64).map (fld w 25 16 * 64 + ·)) = false)
    (parse : parseRecord x t w drain mode rows afmt = some op)
    (ready : t.sReady ((if drain then [] else [fld w 41 37]) ++ [fld w 36 32, fld w 31 27]) = true) :
    issueGrid x t w drain mode rows afmt =
      if t.streamQ.length < 4 then
        .done ((if rows = 0 then t
          else { t with
            streamQ := t.streamQ ++ [op], feedQ := if drain then t.feedQ else t.feedQ ++ [⟨op, 0, none⟩] } : Tile).advance x.now 1)
          (t.stagingNotes ((List.range 64).map (fld w 25 16 * 64 + ·)))
      else .held := by
  simp only [issueGrid, recordBad_readable clean, parse]
  by_cases queue : t.streamQ.length < 4
  · rw [if_neg (by simp [ready, queue]), if_pos queue, Tile.fin_done (by split <;> exact room)]
  · rw [if_pos (.inr (Nat.not_lt.mp queue)), if_neg queue]

theorem issueStream_eq {m : GridMode} {f : Fmt} (mode : GridMode.ofCode (fld w 51 50) = some m)
    (fmt : Fmt.ofCode (fld w 54 52) = some f) (bit : fld w 26 26 = 0) (known : fld w 54 52 < 4) :
    issueStream x t w = issueGrid x t w false m (fld w 15 0) f := by
  simp only [issueStream, mode, fmt]
  rw [if_neg (by omega)]

theorem issueDrain_eq {m : GridMode} (mode : GridMode.ofCode (fld w 51 50) = some m) (out : m ≠ .keep) (bit : fld w 26 26 = 0)
    (high : fld w 15 8 = 0) (few : fld w 7 0 ≤ 128) : issueDrain x t w = issueGrid x t w true m (fld w 7 0) .t16 := by
  simp only [issueDrain, mode]
  rw [if_neg (by simp [out, bit, high, few])]

/-- The fields of an operation that come from the word, the record and the tile (R103 to R105, R136). -/
structure GridOp.Gives (op : GridOp) (x : TileCtx) (t : Tile) (w : Nat) (drain : Bool) (rows : Nat) : Prop where
  issue : op.issue = t.gridNow x.now
  issueAt : op.issueAt = x.now
  pendIssue : op.pendIssue = t.pending
  w8 : op.w8 = (!drain && (if fld w 55 55 = 0 then t.wide0 else t.wide1))
  plane : op.plane = fld w 55 55
  entry : op.entry = fld w 48 42
  rows : op.rows = rows
  accIn : op.accIn = (!drain && fld w 49 49 == 1)
  drain : op.drain = drain
  anchor : op.anchor = signed 16 (t.staging.le (fld w 25 16 * 64 + 20) 2)
  low : -512 ≤ op.anchor
  high : op.anchor ≤ 511
  inBase : op.inBase = (t.staging.le (fld w 25 16 * 64) 4 + (t.sGet (fld w 41 37)).toNat) % deckSize
  outBase : op.outBase = (t.staging.le (fld w 25 16 * 64 + 8) 4 + (t.sGet (fld w 36 32)).toNat) % deckSize

theorem parseRecord_gives {drain : Bool} {mode : GridMode} {rows : Nat} {afmt : Fmt} {op : GridOp}
    (parse : parseRecord x t w drain mode rows afmt = some op) : op.Gives x t w drain rows := by
  unfold parseRecord at parse
  dsimp only at parse
  split at parse
  · cases parse
  next range =>
  split at parse
  · cases parse
  split at parse
  · cases parse
  split at parse
  · cases parse
  split at parse
  · cases parse
  cases parse
  obtain ⟨low, high, -⟩ : ¬_ ∧ ¬_ ∧ ¬_ := by simpa only [not_or] using range
  exact ⟨rfl, rfl, rfl, rfl, rfl, rfl, rfl, rfl, rfl, rfl, not_lt.mp low, not_lt.mp high, rfl, rfl⟩

end

/-- Settles O27: a full queue holds the issue, and the operation holds what `parseRecord_gives` says. -/
theorem gridInstructionsQueue : Obligations.GridInstructionsQueue := by
  unfold Obligations.GridInstructionsQueue
  refine ⟨?loadw, ?stream, ?drain⟩
  case loadw =>
    intro s t a x w f h fmt known low slot wide ready
    have issue := issueLoadw_done (x := s.ctx t) h.room fmt known low slot wide ready
    exact ⟨fun queue => State.runTile_done h (by decide) (issue.trans (if_pos queue)),
      fun queue => State.runTile_held h (by decide) (issue.trans (if_neg (Nat.not_lt.mpr queue)))⟩
  case stream =>
    intro s t a x w m f op R h mode fmt bit known record clean parse ready
    subst record
    have issue := (issueStream_eq (x := s.ctx t) (t := x) mode fmt bit known).trans (issueGrid_done h.room clean parse ready)
    obtain ⟨at_, cycle, pend, w8, plane, entry, rows, accIn, drain, anchor, low, high, inBase, outBase⟩ := parseRecord_gives parse
    exact ⟨fun queue => State.runTile_done h (by decide) (issue.trans (if_pos queue)),
      fun queue => State.runTile_held h (by decide) (issue.trans (if_neg (Nat.not_lt.mpr queue))),
      at_, cycle, pend, w8, plane, entry, rows, accIn, drain, anchor, low, high, inBase, outBase⟩
  case drain =>
    intro s t a x w m op R h mode out bit high few record clean parse ready
    subst record
    have issue := (issueDrain_eq (x := s.ctx t) (t := x) mode out bit high few).trans (issueGrid_done h.room clean parse ready)
    have gives := parseRecord_gives parse
    have queued : (if fld w 7 0 = 0 then x else { x with streamQ := x.streamQ ++ [op], feedQ := x.feedQ } : Tile) =
        { x with streamQ := if fld w 7 0 = 0 then x.streamQ else x.streamQ ++ [op] } := by
      split <;> rfl
    refine ⟨fun queue => ?_, fun queue => State.runTile_held h (by decide) (issue.trans (if_neg (Nat.not_lt.mpr queue))),
      gives.entry, gives.rows, gives.drain, gives.outBase⟩
    rw [← queued]
    exact State.runTile_done h (by decide) (issue.trans (if_pos queue))

end Sys2Proof.Machine
end


section
/-! PROOFS. The grid's events: what a cycle of the grid does to the queued loads and streams, the rows and the summary (O34). -/

namespace Sys2Proof.Machine

/-! ## The commands: the tile's engines run up to this cycle -/

/-- Where the clock runs, the engines' run changes the tile, and reports to its region. -/
theorem State.runEngines_clocked {s : State} {t : Nat} (ups : List Upset) (tile : t < nTiles) (clocked : s.tileClocked t = true) :
    ∃ u, s.runEngines t ups = .next u ∧ u.getTile t = (s.tileNow t ups).1 ∧ (∀ k, k ≠ t → u.getTile k = s.getTile k) ∧
      u.stack = s.stack ∧ u.mesh = s.mesh ∧ ∀ r, r ≠ regionOf t → u.region r = s.region r := by
  generalize hy : s.tileNow t ups = y
  have frame := State.TilesOnly.putTile s t y.1 y.2
  refine ⟨s.putTile t y.1 y.2, by simp [State.runEngines, tile, clocked, hy], ?_, fun k hk => ?_, by rw [frame], by rw [frame],
    (State.OtherRegions.applyNotes (s.setTile t y.1) t y.2).1⟩
  · rw [State.getTile_putTile, State.getTile_setTile]
  · rw [State.getTile_putTile, State.getTile_setTile_ne s _ _ _ hk]

theorem State.runEngines_unclocked {s : State} {t : Nat} (ups : List Upset) (clocked : s.tileClocked t = false) :
    s.runEngines t ups = .next s := by
  simp [State.runEngines, clocked]

/-- The four events of the grid are runs of the tile's engines. -/
theorem exec_gridEvent {c : Instr} {s : State} {t : Nat} {ups deck staging : List Upset} (both : ups = deck ++ staging)
    (event : c ∈ [.loadwStart t ups, .streamStart t ups, .gridRowOutput t deck staging, .routeSummaryWrite t ups]) :
    exec c s = s.runEngines t ups := by
  simp only [List.mem_cons, List.not_mem_nil, or_false] at event
  subst both
  rcases event with rfl | rfl | rfl | rfl <;> rfl

/-- On a tile without a clock no event of the grid does anything, whatever upsets it names. -/
theorem exec_gridEvent_unclocked {c : Instr} {s : State} {t : Nat} {ups deck staging : List Upset} (clocked : s.tileClocked t = false)
    (event : c ∈ [.loadwStart t ups, .streamStart t ups, .gridRowOutput t deck staging, .routeSummaryWrite t ups]) :
    exec c s = .next s := by
  simp only [List.mem_cons, List.not_mem_nil, or_false] at event
  rcases event with rfl | rfl | rfl | rfl <;> exact State.runEngines_unclocked _ clocked

/-! ## Loads -/

@[simp] theorem Tile.plane_setPlane (x : Tile) (p : Nat) (l : List PlaneLoad) : (x.setPlane p l).plane p = l := by
  unfold Tile.plane Tile.setPlane
  split <;> rfl

@[simp] theorem Tile.setPlane_deck (x : Tile) (p : Nat) (l : List PlaneLoad) : (x.setPlane p l).deck = x.deck := by
  unfold Tile.setPlane
  split <;> rfl

/-- The oldest waiting LOADW begins when its cycle has come, and holds the load port for 48 cycles (R94). -/
theorem Tile.loadBegin_due {x : Tile} {g : Nat} {op : LoadOp} {rest : List LoadOp} (head : x.loadQ = op :: rest)
    (issued : op.issue ≤ g) (free : x.loadNext ≤ g) :
    ∃ ld older, (x.loadBegin g).loadQ = rest ∧ (x.loadBegin g).loadNext = max op.issue x.loadNext + 48 ∧
      (x.loadBegin g).plane op.plane = ld :: older ∧ ld.start = max op.issue x.loadNext ∧ ld.slot = op.slot ∧ ld.fmt = op.fmt ∧
      ld.w8 = op.w8 ∧ ld.transpose = op.transpose ∧ ld.cols = [] ∧ (x.loadBegin g).deck = x.deck := by
  have due : ¬ (g < op.issue ∨ g < x.loadNext) := by omega
  rw [Tile.loadBegin, head]
  dsimp only
  rw [if_neg due]
  exact ⟨_, _, rfl, rfl, x.plane_setPlane op.plane _, rfl, rfl, rfl, rfl, rfl, rfl, x.setPlane_deck op.plane _⟩

theorem Tile.loadBegin_waits {x : Tile} {g : Nat} {op : LoadOp} {rest : List LoadOp} (head : x.loadQ = op :: rest)
    (early : g < op.issue ∨ g < x.loadNext) : x.loadBegin g = x := by
  simp only [Tile.loadBegin, head, if_pos early]

/-- The next column of a load that is alone takes its weights from the slot, as the staging SRAM holds them (R94). -/
theorem columnCycle_due {x : Tile} {g : Nat} {ld : PlaneLoad} (left : ld.cols.length < 48) (due : ld.start + 2 + ld.cols.length ≤ g) :
    (columnCycle x g [ld]).1 =
      [{ ld with cols := ld.cols ++ [(List.range 48).map fun i => readCell x ld none i ld.cols.length] }] := by
  simp [columnCycle, left, due]

theorem columnCycle_early {x : Tile} {g : Nat} {ld : PlaneLoad} (early : g < ld.start + 2 + ld.cols.length) :
    (columnCycle x g [ld]).1 = [ld] := by
  simp [columnCycle, Nat.not_le.mpr early]

/-! ## Streams -/

/-- A STREAM at the head begins 8 grid cycles after its issue, the grid and the output being free (R99, R105). -/
theorem Tile.streamBegin_due {x : Tile} {op : GridOp} {rest : List GridOp} {g : Nat} (head : x.streamQ = op :: rest)
    (stream : op.drain = false) (issued : op.issue + 8 ≤ g) (entry : x.zNext ≤ g) (output : x.qNext ≤ g) :
    ∃ act, (x.streamBegin g).streamQ = rest ∧ (x.streamBegin g).active = x.active ++ [act] ∧ act.op = op ∧ act.start = g ∧
      act.done = 0 ∧ (op.sparse.route = false → act.pace = 1 ∧ (x.streamBegin g).zNext = g + (op.rows - 1) + 1) := by
  have due : ¬ (op.drain = true ∨ g < op.issue + 8 ∨ g < x.zNext ∨ g < x.qNext) := by
    rw [stream]
    simp only [Bool.false_eq_true, false_or]
    omega
  rw [Tile.streamBegin, head]
  dsimp only
  rw [if_neg due]
  exact ⟨_, rfl, rfl, rfl, rfl, rfl, fun unrouted => by simp [unrouted]⟩

/-- A stalled cycle only adds a stall (R106). -/
theorem Tile.gridCycle_stalled {k : TileCtx} {x : Tile} {c : Nat}
    (stalled : (((x.loadBegin (x.gridNow c)).streamBegin (x.gridNow c)).drainBegin (x.gridNow c)).stalled (x.gridNow c) c = true) :
    (x.gridCycle k c).1 = { x with stalls := x.stalls + 1 } := by
  simp only [Tile.gridCycle, if_pos stalled]

/-! ## Rows that leave the grid -/

/-- Storing the values of a list at rising keys leaves each value at its key. -/
theorem Map.getD_storeRange {α β : Type} (f : β → α) (base : Nat) (d : α) (e : β) (l : List β) :
    ∀ (m : Map α) (n j : Nat), j < n + l.length →
      Map.getD (((List.range' n l.length).zip l).foldl (fun m p => Map.set m (base + p.1) (f p.2)) m) (base + j) d =
        if j < n then Map.getD m (base + j) d else f (l.getD (j - n) e) := by
  induction l with
  | nil =>
    intro m n j hj
    have below : j < n := hj
    simp [below]
  | cons v rest ih =>
    intro m n j hj
    rw [List.length_cons] at hj
    rw [List.length_cons, List.range'_succ, List.zip_cons_cons, List.foldl_cons, ih _ (n + 1) j (by omega)]
    rcases Nat.lt_trichotomy j n with below | rfl | above
    · rw [if_pos (by omega), if_pos below, Map.getD_set_ne _ _ _ _ _ (by omega)]
    · rw [if_pos (by omega), if_neg (by omega), Map.getD_set_self]
      simp
    · rw [if_neg (by omega), if_neg (by omega), show j - n = (j - (n + 1)) + 1 by omega, List.getD_cons_succ]

theorem rowSums_length (x : Tile) (tile : Nat) (a : GridActive) (f : RowFetch) : (rowSums x tile a f).length = 48 := by
  unfold rowSums
  split
  · simp
  · split <;> simp

theorem accStage_length {sums : List AccSum} (x : Tile) (op : GridOp) (r : Nat) (full : sums.length = 48) :
    (accStage x op r sums).length = 48 := by
  unfold accStage
  split
  · simp [full]
  · exact full

/-- The row of a STREAM that is due leaves the grid: it is emitted from the sums of the accumulator stage, and the stream
goes to its next row or ends (R99, R100). -/
theorem Tile.rowOutput_stream {k : TileCtx} {x : Tile} {g : Nat} {act : GridActive} {f : RowFetch} {rest : List GridActive}
    {more : List RowFetch} (active : x.active = act :: rest) (rows : x.rows = f :: more) (stream : act.op.drain = false)
    (due : rowDue act g = true) :
    x.rowOutput k g =
      let y := emitRow k g { x with rows := more } act act.done f.skip
        (accStage x act.op act.done (rowSums x k.id act f))
      { y.1 with active := if act.op.rows ≤ act.done + 1 then rest else { y.2 with done := act.done + 1 } :: rest } := by
  simp only [Tile.rowOutput, active, rows, stream, due, Bool.not_true, Bool.false_eq_true, if_false]

/-- The operation under way keeps what it is, whatever its row comes to. -/
theorem emitRow_active (k : TileCtx) (g : Nat) (x : Tile) (a : GridActive) (r : Nat) (skipped : Bool) (sums : List AccSum) :
    (emitRow k g x a r skipped sums).2.op = a.op ∧ (emitRow k g x a r skipped sums).2.start = a.start := by
  unfold emitRow
  dsimp only
  split <;> exact ⟨rfl, rfl⟩

theorem emitRow_rows (k : TileCtx) (g : Nat) (x : Tile) (a : GridActive) (r : Nat) (skipped : Bool) (sums : List AccSum) :
    (emitRow k g x a r skipped sums).1.rows = x.rows := by
  unfold emitRow
  dsimp only
  split
  · rfl
  · split <;> rfl
  · rfl

/-- A KEEP row goes to its accumulator entry and to no output (R100). -/
theorem emitRow_keep {k : TileCtx} {g : Nat} {x : Tile} {a : GridActive} {r : Nat} {skipped : Bool} {sums : List AccSum}
    (keep : a.op.mode = .keep) (full : sums.length = 48) :
    (emitRow k g x a r skipped sums).1.outQ = x.outQ ∧
    ∀ j, j < 48 → (emitRow k g x a r skipped sums).1.accAt (entryOf a.op r) j = (sums.getD j ⟨0, 0, false⟩).s := by
  have emitted : (emitRow k g x a r skipped sums).1 =
      { x with
        acc := ((List.range 48).zip sums).foldl (fun m p => Map.set m (48 * entryOf a.op r + p.1) p.2.s) x.acc
        pending := x.pending ||| Status.orAll (sums.map (·.st)) } := by
    simp only [emitRow, keep]
  rw [emitted]
  refine ⟨rfl, fun j hj => ?_⟩
  have stored := Map.getD_storeRange AccSum.s (48 * entryOf a.op r) 0 ⟨0, 0, false⟩ sums x.acc 0 j (by omega)
  rw [full, ← List.range_eq_range'] at stored
  simpa [Tile.accAt] using stored

/-- A row of any other mode that is not routed joins the output queue as a row (R101, R102). -/
theorem emitRow_output {k : TileCtx} {g : Nat} {x : Tile} {a : GridActive} {r : Nat} {skipped : Bool} {sums : List AccSum}
    (output : a.op.mode ≠ .keep) (unrouted : a.op.sparse.route = false) :
    ∃ row, (emitRow k g x a r skipped sums).1.outQ = x.outQ ++ [row] ∧ row.counts = true := by
  unfold emitRow
  dsimp only
  split
  · next keep => exact absurd keep output
  · simp [unrouted]
  · exact ⟨_, rfl, by split <;> rfl⟩

/-! ## The summary -/

theorem Tile.clearRoutes_summary {x : Tile} {sp : SparseBlock} {start line : Nat} {rest : List RouteItem}
    (head : x.places = .summary sp start line :: rest) : x.clearRoutes x.places = x := by
  rw [head, Tile.clearRoutes, ← head]
  intro l h
  cases h

/-- A summary's line waits until it is due; then it leaves the network and joins the output queue (R162, R164). -/
theorem Tile.placeCycle_summary {x : Tile} {sp : SparseBlock} {start line : Nat} {rest : List RouteItem} (n g : Nat)
    (head : x.places = .summary sp start line :: rest) :
    (x.placeCycle n g).1 =
      if g < start then x
      else ({ x with places := rest } : Tile).pushWrites ((outPieces sp.sumBase (x.summaryBytes n sp))[line]?.toList) := by
  rw [Tile.placeCycle, Tile.clearRoutes_summary head, head]
  dsimp only
  split <;> rfl

@[simp] theorem Tile.pushWrites_places (x : Tile) (w : List OutWrite) : (x.pushWrites w).places = x.places := by
  unfold Tile.pushWrites
  split <;> rfl

@[simp] theorem Tile.pushWrites_fill (x : Tile) (w : List OutWrite) : (x.pushWrites w).fill = x.fill := by
  unfold Tile.pushWrites
  split <;> rfl

theorem Tile.pushWrites_empty {x : Tile} (w : List OutWrite) (empty : x.outQ = []) : (x.pushWrites w).outQ = [⟨false, none, w⟩] := by
  simp [Tile.pushWrites, empty]

/-! ## The obligation -/

/-- Settles O34: each event is a run of the tile's engines, and each part of a grid cycle does what its queue holds. -/
theorem gridEventsProceed : Obligations.GridEventsProceed := by
  unfold Obligations.GridEventsProceed
  refine ⟨?clocked, ?unclocked, ?loads, ?columns, ?streams, ?stalls, ?rows, ?summary⟩
  case clocked =>
    intro c s t ups deck staging tile clocked both event
    rw [exec_gridEvent both event]
    exact State.runEngines_clocked ups tile clocked
  case unclocked => exact fun c s t ups deck staging clocked event => exec_gridEvent_unclocked clocked event
  case loads =>
    exact fun x g op rest head => ⟨fun issued free => Tile.loadBegin_due head issued free, fun early => Tile.loadBegin_waits head early⟩
  case columns =>
    intro x g ld plane0 plane1 left
    have cycled : (x.columnsCycle g).1.plane0 = (columnCycle x g [ld]).1 := by rw [← plane0]; rfl
    rw [cycled]
    refine ⟨fun due => ⟨_, columnCycle_due left due, fun i hi => ⟨readCell x ld none i ld.cols.length, ?_, rfl⟩⟩, columnCycle_early⟩
    simp [hi]
  case streams =>
    exact fun x op rest g head stream issued entry output => Tile.streamBegin_due head stream issued entry output
  case stalls => exact fun k x c => Tile.gridCycle_stalled
  case rows =>
    intro k x g act f rest more active rows stream due
    rw [Tile.rowOutput_stream active rows stream due]
    dsimp only
    have full := accStage_length x act.op act.done (rowSums_length x k.id act f)
    obtain ⟨op, start⟩ := emitRow_active k g { x with rows := more } act act.done f.skip
      (accStage x act.op act.done (rowSums x k.id act f))
    exact ⟨fun last => if_pos last, fun further => ⟨_, if_neg (by omega), op, start, rfl⟩, emitRow_rows ..,
      fun keep => emitRow_keep keep full, emitRow_output⟩
  case summary =>
    intro x sp start line g n rest head
    rw [Tile.placeCycle_summary n g head]
    refine ⟨fun early => if_pos early, fun due => ?_⟩
    rw [if_neg (by omega)]
    refine ⟨by simp, by simp, fun p piece empty => ?_⟩
    rw [piece]
    exact Tile.pushWrites_empty _ empty

end Sys2Proof.Machine
end

section
/-! PROOFS. LOAD, START and STOP, and the end of a load (R145 to R147, R328, R429, R474). -/

namespace Sys2Proof.Machine

/-- GLB_PLAN_CTL through an open port (R428, R429). -/
theorem PortOpen.planCommand {s : State} {port : Nat} (h : PortOpen s port) (hr : s.ctl.recovery = false) {c : Nat} (hc : c < 4) :
    s.hostWrite8 port 0x38 c = .next (s.planCommand c) := by
  have hs : s.served 0x38 = true := s.served_always hr (by omega)
  have command : c % 2 ^ 64 % 4 = c := by omega
  refine (h.registerWrite _ 8 c (by omega)).trans ?_
  simp only [State.writeReg, State.writeGlb, hs, mergeWrite_whole, command]
  rfl

/-- A change of GLB_PLAN_STATUS.STATE stores the state, and a vector may report it (R328). -/
theorem State.setPlanState_frame (s : State) (x : PlanState) :
    ({ s with plan := { s.plan with state := x } } : State).VectorOnly (s.setPlanState x) := by
  unfold State.setPlanState
  split
  · next same => subst same; rfl
  · exact .raiseVector _ _

@[simp] theorem State.setPlanState_plan (s : State) (x : PlanState) : (s.setPlanState x).plan = { s.plan with state := x } := by
  rw [State.setPlanState_frame]
@[simp] theorem State.setPlanState_tiles (s : State) (x : PlanState) : (s.setPlanState x).tiles = s.tiles := by
  rw [State.setPlanState_frame]
@[simp] theorem State.setPlanState_stack (s : State) (x : PlanState) : (s.setPlanState x).stack = s.stack := by
  rw [State.setPlanState_frame]
@[simp] theorem State.setPlanState_frm (s : State) (x : PlanState) : (s.setPlanState x).frm = s.frm := by
  rw [State.setPlanState_frame]

/-! ## LOAD (R145) -/

/-- Every tile's deck and staging SRAM is wiped; those of a tile that is not listed are at reset. -/
theorem State.memories_wipeTiles (s : State) (k : Nat) :
    (s.wipeTiles.getTile k).deck = [] ∧ (s.wipeTiles.getTile k).staging = [] := by
  simp only [State.wipeTiles, State.getTile, Map.getD, Map.find?_mapVals]
  cases Map.find? s.tiles k <;> exact ⟨rfl, rfl⟩

section
variable {s : State}

/-- A LOAD that nothing forbids has no plan, no refusal and wiped tiles, and the image is LOADING. -/
theorem State.loadCommand_accepted (loading : s.plan.state ≠ .loading) (running : s.plan.state ≠ .running)
    (starting : s.plan.startPending = false) (busy : s.commandsBusy = false) (barred : s.plansBarred = false)
    (reset : s.plan.resetNeeded = false) :
    s.loadCommand =
      (({ s with plan := { s.plan with refusal := 0, plan := none } } : State).forget.wipeTiles).setPlanState .loading := by
  simp [State.loadCommand, loading, running, starting, busy, barred, reset]

/-- LOAD is refused with code 1 while a plan runs. -/
theorem State.loadCommand_running (running : s.plan.state = .running) : s.loadCommand = s.refusePlan 1 := by
  simp [State.loadCommand, running]

end

/-! ## START and STOP (R146, R147) -/

section
variable {s : State}

theorem State.startCommand_accepted (starting : s.plan.startPending = false) (member : s.isSpare = false)
    (plan : s.plan.state = .loaded ∨ s.plan.state = .stopped) (busy : s.commandsBusy = false) (barred : s.plansBarred = false) :
    s.startCommand = { s with plan := { s.plan with
      startPending := true, startAt := some s.clk.now, refusal := 0, stepsDone := 0 } } := by
  rcases plan with plan | plan <;> simp [State.startCommand, starting, member, plan, busy, barred]

/-- STOP withdraws a START that is pending. -/
theorem State.stopCommand_starting (starting : s.plan.startPending = true) :
    s.stopCommand = { s with plan := { s.plan with startPending := false } } := if_pos starting

theorem State.stopCommand_running (starting : s.plan.startPending = false) (running : s.plan.state = .running)
    (stopping : s.plan.stopPending = false) :
    s.stopCommand = { s with plan := { s.plan with stopPending := true, stopAt := some s.clk.now } } := by
  simp [State.stopCommand, starting, running, stopping]

theorem State.stopCommand_idle (starting : s.plan.startPending = false)
    (idle : s.plan.state ≠ .running ∨ s.plan.stopPending = true) : s.stopCommand = s := by
  rcases idle with idle | idle <;> simp [State.stopCommand, starting, idle]

end

/-! ## The end of a load (R474) -/

/-- What a good image stores in staging SRAMs leaves everything but the tiles (R143). -/
theorem State.writeStores_frame (s : State) (m : Memory) (b : Nat) :
    s.writeStores m b = { s with tiles := (s.writeStores m b).tiles } := by
  have stores : ∀ (f : State → Nat → State), (∀ u a, f u a = { u with tiles := (f u a).tiles }) → ∀ (l : List Nat) (u : State),
      l.foldl f u = { u with tiles := (l.foldl f u).tiles } := fun f each =>
    foldl_related (fun a b : State => b = { a with tiles := b.tiles }) (fun _ => rfl) (fun h k => by rw [k, h]) f each
  unfold State.writeStores
  rw [stores _ (fun _ _ => rfl), stores _ (fun _ _ => rfl)]

/-- The ring templates change rings only (R145, R228). -/
theorem State.installTemplates_frame (s : State) (p : Plan) :
    s.installTemplates p = { s with gates := (s.installTemplates p).gates } :=
  foldl_related (fun a b : State => b = { a with gates := b.gates }) (fun _ => rfl) (fun h k => by rw [k, h]) _ (fun _ _ => rfl) _ s

theorem State.listRow_plan (s : State) (g row cause : Nat) : (s.listRow g row cause).plan = s.plan := by
  unfold State.listRow
  extract_lets l
  split
  · rfl
  · split
    · split <;> rfl
    · rfl

theorem State.countCorrected_plan (s : State) (g a : Nat) : (s.countCorrected g a).plan = s.plan := by
  unfold State.countCorrected
  extract_lets x n u
  exact ite_related (R := fun p q : State => q.plan = p.plan) (u.listRow_plan g _ 2) rfl

theorem State.addError_base (s : State) (k : ErrKind) (fails : Bool) : (s.addError k fails).plan.base = s.plan.base := rfl

/-- An uncorrectable burst may fail the step (R445); the image's address stays. -/
theorem State.countHard_base (s : State) (g ring b : Nat) (fails : Bool) : (s.countHard g ring b fails).plan.base = s.plan.base := by
  unfold State.countHard
  extract_lets u v
  exact (State.addError_base _ _ _).trans (congrArg PlanCtl.base (v.listRow_plan g _ 1))

/-- A read of the stacks leaves the address of the image. -/
theorem State.stackLoad_base (s : State) (a n : Nat) (e : EccReport) (fails : Bool) :
    (s.stackLoad a n e fails).1.plan.base = s.plan.base := by
  have fold : ∀ {f : State → Nat → State}, (∀ u x, (f u x).plan.base = u.plan.base) → ∀ (l : List Nat) (u : State),
      (l.foldl f u).plan.base = u.plan.base := fun each =>
    foldl_related (fun p q : State => q.plan.base = p.plan.base) (fun _ => rfl) (fun h k => k.trans h) _ each
  exact (fold (fun u b => u.countHard_base _ _ b fails) _ _).trans
    (fold (fun u x => congrArg PlanCtl.base (u.countCorrected_plan _ x)) _ _)

/-- The state after the bytes of the image have been read, and those bytes as they were read. -/
def State.imageLoaded (s : State) (e : EccReport) : State × Memory := s.stackLoad s.plan.base (imageRead s.stack s.plan.base) e true

theorem State.imageLoaded_base (s : State) (e : EccReport) : (s.imageLoaded e).1.plan.base = s.plan.base := State.stackLoad_base ..

/-- What a refused image leaves: its code, and no plan. -/
def State.imageRefused (s : State) (code : Nat) : State :=
  ({ s with plan := { s.plan with refusal := code, plan := none } } : State).setPlanState .none

/-- The stores of a good image are written, and its ring templates installed. -/
def State.imageStored (s : State) (m : Memory) : State :=
  (s.writeStores m s.plan.base).installTemplates (parsePlan m s.plan.base)

theorem State.imageStored_frame (s : State) (m : Memory) :
    s.imageStored m = { s with tiles := (s.imageStored m).tiles, gates := (s.imageStored m).gates } := by
  unfold State.imageStored
  rw [State.installTemplates_frame, State.writeStores_frame]

/-- What a good image leaves: its plan is LOADED. -/
def State.imageInstalled (s : State) (m : Memory) : State :=
  ({ s.imageStored m with plan := { (s.imageStored m).plan with plan := some (parsePlan m s.plan.base) } } : State).setPlanState
    .loaded

/-- The checks of the image decide which of the two a load leaves (R474). -/
theorem State.loadComplete_eq (s : State) (e : EccReport) :
    s.loadComplete e = (imageRefusal (s.imageLoaded e).2 s.plan.base).elim
      ((s.imageLoaded e).1.imageInstalled (s.imageLoaded e).2) (s.imageLoaded e).1.imageRefused := by
  rw [← s.imageLoaded_base e]
  unfold State.loadComplete State.imageLoaded
  dsimp only
  split
  · next check =>
    rw [check, Option.elim_some]
    rfl
  · next check =>
    rw [check, Option.elim_none, State.imageInstalled, State.imageStored]

/-- A refused image shows its code and leaves the tiles and the stacks. -/
theorem State.imageRefused_spec (s : State) (code : Nat) :
    (s.imageRefused code).plan.state = .none ∧ (s.imageRefused code).plan.refusal = code ∧
      (s.imageRefused code).plan.plan = none ∧ (s.imageRefused code).tiles = s.tiles ∧ (s.imageRefused code).stack = s.stack := by
  simp [State.imageRefused]

theorem State.imageInstalled_spec (s : State) (m : Memory) :
    (s.imageInstalled m).plan.state = .loaded ∧ (s.imageInstalled m).plan.plan = some (parsePlan m s.plan.base) ∧
      (s.imageInstalled m).stack = s.stack := by
  have stack : (s.imageStored m).stack = s.stack := by rw [State.imageStored_frame]
  simp [State.imageInstalled, stack]

/-- A read that meets no uncorrectable burst and whose report is clean reads the stacks as they are. -/
theorem State.imageLoaded_clean {s : State} (known : s.badBursts s.plan.base (imageRead s.stack s.plan.base) = []) :
    (s.imageLoaded cleanReport).2 = s.stack := by
  simp only [State.imageLoaded, State.stackLoad, known, State.loadReport_clean s _ _ (e := cleanReport) rfl rfl]
  rfl

/-! ## The obligation -/

/-- Settles O53: each command reaches `State.planCommand`, whose cases the lemmas above give; the end of a load goes by
`State.loadComplete_eq`. -/
theorem planCommandsAnswer : Obligations.PlanCommandsAnswer := by
  unfold Obligations.PlanCommandsAnswer
  refine ⟨fun s port hp hr => ?commands, fun s e m loading read => ?complete⟩
  case commands =>
    have acts : ∀ c < 4, s.hostWrite8 port 0x38 c = .next (s.planCommand c) := fun c hc => hp.planCommand hr hc
    have load : exec (.load port) s = .next s.loadCommand := acts 1 (by omega)
    have start : exec (.start port) s = .next s.startCommand := acts 2 (by omega)
    have stop : exec (.stop port) s = .next s.stopCommand := acts 3 (by omega)
    rw [start, stop]
    refine ⟨fun idle still starting busy barred reset => ⟨_, load, ?_⟩, fun running => ⟨_, load, ?_⟩,
      fun starting member plan busy barred => congrArg _ (State.startCommand_accepted starting member plan busy barred),
      fun starting => congrArg _ (State.stopCommand_starting starting),
      fun starting running stopping => congrArg _ (State.stopCommand_running starting running stopping),
      fun starting idle => congrArg _ (State.stopCommand_idle starting idle)⟩
    · rw [State.loadCommand_accepted idle still starting busy barred reset, State.setPlanState_frame]
      refine ⟨rfl, rfl, rfl, fun k a => ?_, rfl, rfl⟩
      obtain ⟨deck, staging⟩ := State.memories_wipeTiles
        (({ s with plan := { s.plan with refusal := 0, plan := none } } : State).forget) k
      exact ⟨congrArg (·.read a) deck, congrArg (·.read a) staging⟩
    · rw [State.loadCommand_running running]
      simp [State.refusePlan, running]
  case complete =>
    have run : exec (.planLoadComplete e) s = .next (s.loadComplete e) := congrArg _ (if_pos loading)
    subst read
    have clean : s.badBursts s.plan.base (imageRead s.stack s.plan.base) = [] → e = cleanReport → (s.imageLoaded e).2 = s.stack :=
      fun known report => report ▸ State.imageLoaded_clean known
    have work : s.ReadWork (s.imageLoaded e).1 := .stackLoad ..
    have tiles : (s.imageLoaded e).1.tiles = s.tiles := by rw [work]
    have stack : (s.imageLoaded e).1.stack = s.stack := by rw [work]
    rw [State.loadComplete_eq] at run
    cases check : imageRefusal (s.imageLoaded e).2 s.plan.base with
    | some code =>
      rw [check, Option.elim_some] at run
      obtain ⟨state, refusal, plan, tilesKept, stackKept⟩ := (s.imageLoaded e).1.imageRefused_spec code
      refine ⟨_, run, stackKept.trans stack, clean, fun c refused => ?_, fun good => absurd (check.symm.trans good) nofun⟩
      exact ⟨state, refusal.trans (Option.some.inj (check.symm.trans refused)), plan, tilesKept.trans tiles⟩
    | none =>
      rw [check, Option.elim_none] at run
      obtain ⟨state, plan, stackKept⟩ := (s.imageLoaded e).1.imageInstalled_spec (s.imageLoaded e).2
      rw [s.imageLoaded_base e] at plan
      exact ⟨_, run, stackKept.trans stack, clean, fun c refused => absurd (check.symm.trans refused) nofun, fun _ => ⟨state, plan⟩⟩

end Sys2Proof.Machine
end

section
/-! PROOFS. The scalar unit and the branches (R122, R123, R126 to R129). -/

namespace Sys2Proof.Machine

/-! ## Scalar results (R126, R128, R129) -/

/-- What SALU computes for its SUB (R129). -/
theorem salu_eq {sub : Nat} {p q v : Word}
    (op : sub = 0 ∧ v = p + q ∨ sub = 1 ∧ v = p - q ∨ sub = 2 ∧ v = p &&& q ∨ sub = 3 ∧ v = p ||| q ∨ sub = 4 ∧ v = p ^^^ q ∨
      sub = 5 ∧ v = p <<< (q.toNat % 64) ∨ sub = 6 ∧ v = p >>> (q.toNat % 64) ∨ sub = 7 ∧ v = p.sshiftRight (q.toNat % 64) ∨
      sub = 8 ∧ v = p * q ∨ sub = 9 ∧ v = (if p.toInt < q.toInt then p else q) ∨
      sub = 10 ∧ v = (if p.toInt < q.toInt then q else p)) : salu sub p q = some v := by
  have less : (p.slt q = true) = (p.toInt < q.toInt) := propext BitVec.slt_iff_toInt_lt
  rcases op with ⟨rfl, rfl⟩ | ⟨rfl, rfl⟩ | ⟨rfl, rfl⟩ | ⟨rfl, rfl⟩ | ⟨rfl, rfl⟩ | ⟨rfl, rfl⟩ | ⟨rfl, rfl⟩ | ⟨rfl, rfl⟩ | ⟨rfl, rfl⟩ |
    ⟨rfl, rfl⟩ | ⟨rfl, rfl⟩ <;> simp only [salu, less]

section
variable {x : TileCtx} {t : Tile} {w : Nat} (room : t.pc < 8191)
include room

theorem issueSli_done (high : fld w 55 52 = 0) (mid : fld w 46 32 = 0) (ready : t.sReady [fld w 51 47] = true) :
    issueSli x t w =
      .done ((t.pushS ⟨x.now + 1, fld w 51 47, (BitVec.ofNat 32 (fld w 31 0)).signExtend 64⟩).advance x.now 1) Notes.none := by
  simp only [issueSli]
  rw [if_neg (by omega), if_neg (by simp [ready]), Tile.fin_done (by exact room)]

theorem issueSlih_done (high : fld w 55 52 = 0) (mid : fld w 46 32 = 0) (ready : t.sReady [fld w 51 47] = true) :
    issueSlih x t w =
      .done ((t.pushS ⟨x.now + 1, fld w 51 47,
        BitVec.ofNat 64 (fld w 31 0 * 2 ^ 32 + (t.sGet (fld w 51 47)).toNat % 2 ^ 32)⟩).advance x.now 1) Notes.none := by
  simp only [issueSlih]
  rw [if_neg (by omega), if_neg (by simp [ready]), Tile.fin_done (by exact room)]

/-- SALU takes the immediate or RB, and writes RD one cycle later, or three for a product (R129). -/
theorem issueSalu_done {q v : Word} (reserved : fld w 35 32 = 0)
    (operand : fld w 36 36 = 1 ∧ fld w 41 37 = 0 ∧ q = (BitVec.ofNat 32 (fld w 31 0)).signExtend 64 ∧
        t.sReady [fld w 51 47, fld w 46 42] = true ∨
      fld w 36 36 = 0 ∧ fld w 31 0 = 0 ∧ q = t.sGet (fld w 41 37) ∧ t.sReady [fld w 51 47, fld w 46 42, fld w 41 37] = true)
    (result : salu (fld w 55 52) (t.sGet (fld w 46 42)) q = some v) :
    issueSalu x t w =
      .done ((t.pushS ⟨x.now + (if fld w 55 52 = 8 then 3 else 1), fld w 51 47, v⟩).advance x.now 1) Notes.none := by
  have goesOn : ∀ y : Tile, y.pc = t.pc → y.fin x.now 1 Notes.none = .done (y.advance x.now 1) Notes.none :=
    fun y same => Tile.fin_done (same ▸ room)
  rcases operand with ⟨imm, rb, rfl, ready⟩ | ⟨reg, low, rfl, ready⟩
  · simp [issueSalu, reserved, imm, rb, result, ready, goesOn, Tile.pushS]
  · simp [issueSalu, reserved, reg, low, result, ready, goesOn, Tile.pushS]

theorem issueSmovs_done {v : Word} (high : fld w 55 52 = 0) (mid : fld w 46 8 = 0) (ready : t.sReady [fld w 51 47] = true)
    (value : special x t (fld w 7 0) = some v) :
    issueSmovs x t w = .done ((t.pushS ⟨x.now + 1, fld w 51 47, v⟩).advance x.now 1) Notes.none := by
  simp only [issueSmovs, value]
  rw [if_neg (by omega), if_neg (by simp [ready]), Tile.fin_done (by exact room)]

end

/-- Settles O24: each instruction's issue pushes its result, by `State.runTile_done`. -/
theorem scalarInstructionsComplete : Obligations.ScalarInstructionsComplete := by
  unfold Obligations.ScalarInstructionsComplete
  refine ⟨?sli, ?slih, ?salu, ?smovs⟩
  case sli =>
    intro s t a x w h high mid ready
    exact State.runTile_done h (by decide) (issueSli_done (x := s.ctx t) h.room high mid ready)
  case slih =>
    intro s t a x w h high mid ready
    exact State.runTile_done h (by decide) (issueSlih_done (x := s.ctx t) h.room high mid ready)
  case salu =>
    intro s t a x w p q v h reserved first operand op
    subst first
    exact State.runTile_done h (by decide) (issueSalu_done (x := s.ctx t) h.room reserved operand (salu_eq op))
  case smovs =>
    intro s t a x w v h high mid ready value
    exact State.runTile_done h (by decide) (issueSmovs_done (x := s.ctx t) h.room high mid ready value)

/-! ## Branches (R122, R123, R127 to R129) -/

/-- With a listed opcode before it, a tile answers what its issue comes to. -/
theorem State.runTile_issue {s : State} {t op : Nat} {a : Access} {issue : Tile → Nat → Issue} {x : Tile} {w : Nat}
    (h : Fetched s t op a x w) (hop : op ∈ opcodes) : s.runTile t op a issue = s.afterIssue t a (issue x w) := by
  rw [State.runTile_fetched h, if_neg (not_not.mpr hop), if_neg (not_not.mpr rfl)]

/-- The condition of BR for its SUB (R129). -/
theorem branchTaken_eq {sub : Nat} {p q : Word} {c : Prop}
    (op : sub = 0 ∧ (c ↔ True) ∨ sub = 1 ∧ (c ↔ p = q) ∨ sub = 2 ∧ (c ↔ p ≠ q) ∨ sub = 3 ∧ (c ↔ p.toInt < q.toInt) ∨
      sub = 4 ∧ (c ↔ q.toInt ≤ p.toInt) ∨ sub = 5 ∧ (c ↔ p.toNat < q.toNat) ∨ sub = 6 ∧ (c ↔ q.toNat ≤ p.toNat)) :
    ∃ taken, branchTaken sub p q = some taken ∧ (taken = true ↔ c) := by
  rcases op with ⟨rfl, h⟩ | ⟨rfl, h⟩ | ⟨rfl, h⟩ | ⟨rfl, h⟩ | ⟨rfl, h⟩ | ⟨rfl, h⟩ | ⟨rfl, h⟩ <;>
    exact ⟨_, rfl, by simp [h, BitVec.slt, BitVec.ult]⟩

section
variable {x : TileCtx} {t : Tile} {w : Nat}

/-- BR ends as a branch by its condition. -/
theorem issueBr_eq {taken : Bool} (rd : fld w 51 47 = 0) (mid : fld w 36 32 = 0) (low : fld w 31 13 = 0)
    (ready : t.sReady [fld w 46 42, fld w 41 37] = true)
    (cond : branchTaken (fld w 55 52) (t.sGet (fld w 46 42)) (t.sGet (fld w 41 37)) = some taken) :
    issueBr x t w = finBranch x t taken (fld w 12 0) := by
  simp only [issueBr, cond]
  rw [if_neg (by omega), if_neg (by simp [ready])]

/-- DBNZ writes its register less 1, and ends as a branch where that is not 0 and the register is not S0 (R123). -/
theorem issueDbnz_eq (high : fld w 55 52 = 0) (mid : fld w 46 32 = 0) (low : fld w 31 13 = 0) (ready : t.sReady [fld w 51 47] = true) :
    issueDbnz x t w = finBranch x (t.pushS ⟨x.now + 1, fld w 51 47, t.sGet (fld w 51 47) - 1⟩)
      (if fld w 51 47 = 0 then false else t.sGet (fld w 51 47) - 1 != 0) (fld w 12 0) := by
  simp only [issueDbnz]
  rw [if_neg (by omega), if_neg (by simp [ready])]

theorem finBranch_on (room : t.pc < 8191) (target : Nat) :
    finBranch x t false target = .done (t.advance x.now 1) Notes.none := Tile.fin_done room

/-- A branch that is not taken at the last index leaves the program store (R122). -/
theorem finBranch_last (last : 8191 ≤ t.pc) (target : Nat) : finBranch x t false target = .undef .leftProgramStore := if_pos last

end

/-- Settles O25: BR and DBNZ end by `finBranch`, taken or not. -/
theorem branchesComplete : Obligations.BranchesComplete := by
  unfold Obligations.BranchesComplete
  refine ⟨?br, ?dbnz⟩
  case br =>
    intro s t a x w p q c h rd mid low first second ready op
    subst first second
    obtain ⟨taken, cond, iff⟩ := branchTaken_eq op
    have run : exec (.br t a) s = s.afterIssue t a (finBranch (s.ctx t) x taken (fld w 12 0)) :=
      (State.runTile_issue h (by decide)).trans (congrArg _ (issueBr_eq rd mid low ready cond))
    have not : ¬c → taken = false := fun n => Bool.eq_false_iff.mpr (mt iff.mp n)
    refine ⟨fun yes => ?_, fun no room => ?_, fun no last => ?_⟩
    · rw [run, iff.mpr yes]
      rfl
    · rw [run, not no, finBranch_on room]
      rfl
    · rw [run, not no, finBranch_last last]
      rfl
  case dbnz =>
    intro s t a x w v h high mid low ready value
    subst value
    have run : exec (.dbnz t a) s = s.afterIssue t a (finBranch (s.ctx t) _ _ (fld w 12 0)) :=
      (State.runTile_issue h (by decide)).trans (congrArg _ (issueDbnz_eq high mid low ready))
    refine ⟨fun reg more => ?_, fun ends room => ?_⟩
    · rw [run, if_neg reg, bne_iff_ne.mpr more]
      rfl
    · have stops : (if fld w 51 47 = 0 then false else x.sGet (fld w 51 47) - 1 != 0) = false := by
        rcases ends with reg | zero
        · exact if_pos reg
        · rw [zero, bne_self_eq_false, ite_self]
      rw [run, stops, finBranch_on (by exact room)]
      rfl

end Sys2Proof.Machine
end

section
/-! PROOFS. CSEND and CRECV, the end of a test window, and the end of a barrier (R127, R132 to R134, R198). -/

namespace Sys2Proof.Machine

/-! ## Channels (R127, R133) -/

section
variable {x : TileCtx} {t : Tile} {w : Nat} (room : t.pc < 8191) (reserved : fld w 16 16 = 0)
include room reserved

theorem issueCsend_done (ready : t.sReady [fld w 50 46] = true) :
    issueCsend x t w = .done ((armChannel x t (fld w 55 52)
      ⟨.send, (t.sGet (fld w 50 46)).toNat % deckSize, fld w 32 17, fld w 15 0, 0, 0⟩).advance x.now 1) Notes.none := by
  simp only [issueCsend]
  rw [if_neg (not_not.mpr reserved), if_neg (by simp [ready]), Tile.fin_done (by exact room)]

theorem issueCrecv_deck (deck : fld w 51 51 = 0) (ready : t.sReady [fld w 50 46] = true) :
    issueCrecv x t w = .done ((armChannel x t (fld w 55 52)
      ⟨.recvDeck, (t.sGet (fld w 50 46)).toNat % deckSize, fld w 32 17, fld w 15 0, 0, 0⟩).advance x.now 1) Notes.none := by
  simp only [issueCrecv]
  rw [if_neg (by simp [reserved, deck]), if_neg (by simp [deck, ready]), Tile.fin_done (by exact room), if_neg (by simp [deck])]

theorem issueCrecv_weights (weights : fld w 51 51 = 1) (slot : fld w 40 33 < 208) (ready : t.sReady [fld w 45 41] = true) :
    issueCrecv x t w = .done ((armChannel x t (fld w 55 52)
      ⟨.recvWeights, 0, 0, fld w 15 0, (fld w 40 33 + (t.sGet (fld w 45 41)).toNat) % 208, 0⟩).advance x.now 1) Notes.none := by
  simp only [issueCrecv]
  rw [if_neg (by simp [reserved, slot]), if_neg (by simp [weights, ready]), Tile.fin_done (by exact room), if_pos (by simp [weights])]

end

/-- Settles O33: each issue arms its channel, by `State.runTile_done`. -/
theorem channelInstructionsArm : Obligations.ChannelInstructionsArm := by
  unfold Obligations.ChannelInstructionsArm
  refine ⟨?csend, ?deck, ?weights⟩
  case csend =>
    intro s t a x w h reserved ready
    exact State.runTile_done h (by decide) (issueCsend_done (x := s.ctx t) h.room reserved ready)
  case deck =>
    intro s t a x w h reserved deck ready
    exact State.runTile_done h (by decide) (issueCrecv_deck (x := s.ctx t) h.room reserved deck ready)
  case weights =>
    intro s t a x w h reserved weights slot ready
    exact State.runTile_done h (by decide) (issueCrecv_weights (x := s.ctx t) h.room reserved weights slot ready)

/-! ## The reset of a tile's datapath (R119, R132) -/

theorem Tile.vGet_resetDatapath (x : Tile) (r : Nat) : x.resetDatapath.vGet r = Lanes.zero := vget_replicate 32 r Lanes.zero

theorem Tile.kGet_resetDatapath (x : Tile) (k : Nat) : x.resetDatapath.kGet k = BitVec.allOnes 64 :=
  ite_eq_left_iff.mpr fun _ => vget_replicate 8 k _

/-! ## Barriers (R134, R198) -/

/-- A barrier of domain d completes at a tile: its arrival is no longer pending, and a wait for it ends. -/
def Tile.passBarrier (d now : Nat) (x : Tile) : Tile :=
  if x.arrived.contains d then
    { x with
      arrived := x.arrived.filter fun e => e != d
      nextIssue := if x.wait = .sync d then max x.nextIssue now else x.nextIssue
      wait := if x.wait = .sync d then .none else x.wait }
  else x

theorem Tile.notMem_arrived_passBarrier (d now : Nat) (x : Tile) : d ∉ (x.passBarrier d now).arrived := by
  unfold Tile.passBarrier
  split
  · simp
  · next absent => simpa using absent

theorem Tile.passBarrier_wait {d now : Nat} {x : Tile} (waits : x.wait = .sync d) (arrived : d ∈ x.arrived) :
    (x.passBarrier d now).wait = .none := by
  simp [Tile.passBarrier, waits, arrived]

/-- Its memory, scalars and PC stay as they are. -/
theorem Tile.passBarrier_keeps (d now : Nat) (x : Tile) :
    (x.passBarrier d now).deck = x.deck ∧ (x.passBarrier d now).s = x.s ∧ (x.passBarrier d now).pc = x.pc := by
  unfold Tile.passBarrier
  split <;> exact ⟨rfl, rfl, rfl⟩

/-- The barrier of a domain has completed at every tile. -/
def State.barrierPassed (s : State) (d : Nat) : State :=
  { s with barriers := Map.erase s.barriers d, tiles := Map.mapVals (fun _ x => x.passBarrier d s.clk.now) s.tiles }

/-- A tile that is not listed is at reset, where no arrival is pending. -/
theorem State.getTile_barrierPassed (s : State) (d t : Nat) :
    (s.barrierPassed d).getTile t = (s.getTile t).passBarrier d s.clk.now := by
  simp only [State.barrierPassed, State.getTile, Map.getD, Map.find?_mapVals]
  cases Map.find? s.tiles t <;> rfl

theorem execBarrierComplete_started {s : State} {d c : Nat} (started : Map.find? s.barriers d = some c) :
    exec (.barrierComplete d) s = .next (if s.clk.now < c + 400 then s else (s.barrierPassed d).noteBarriers) := by
  have run : exec (.barrierComplete d) s = execBarrierComplete d s := rfl
  rw [run, execBarrierComplete, started]
  dsimp only
  split <;> rfl

/-- Settles O35: a window ends by `Tile.resetDatapath`, a barrier by `Tile.passBarrier` at every tile. -/
theorem windowsAndBarriersComplete : Obligations.WindowsAndBarriersComplete := by
  unfold Obligations.WindowsAndBarriersComplete
  refine ⟨?window, ?barrier⟩
  case window =>
    intro s t x tile waits idle
    subst tile
    have run : exec (.testWindowEnd t) s =
        .next (s.setTile t { (s.getTile t).resetDatapath with wait := .none, nextIssue := s.clk.now }) := if_pos ⟨waits, idle⟩
    refine ⟨_, run, rfl, rfl, rfl, rfl, rfl, rfl, fun r l _ _ => ?_, fun k => ?_, rfl, rfl, rfl, rfl, rfl, rfl⟩
    · exact (congrArg (laneAt · l) ((s.getTile t).vGet_resetDatapath r)).trans (laneAt_zero l)
    · exact (s.getTile t).kGet_resetDatapath k
  case barrier =>
    intro s d c started
    rw [execBarrierComplete_started started]
    refine ⟨fun early => congrArg _ (if_pos early), fun due => ⟨_, congrArg _ (if_neg (Nat.not_lt.mpr due)), ?_⟩⟩
    have tile : ∀ t, (s.barrierPassed d).noteBarriers.getTile t = (s.getTile t).passBarrier d s.clk.now := fun t => by
      rw [State.noteBarriers_frame]
      exact s.getTile_barrierPassed d t
    simp only [tile]
    refine ⟨?_, ?_, fun t => Tile.notMem_arrived_passBarrier _ _ _, fun t => Tile.passBarrier_wait, fun t => Tile.passBarrier_keeps ..⟩ <;>
      (rw [State.noteBarriers_frame]; rfl)

end Sys2Proof.Machine
end

section
/-! PROOFS. A crossing applies the entry of its cycle, and the lines present leave by the switch state that the entry leaves
(R179 to R184, R188, R190, R195, R453). -/

namespace Sys2Proof.Machine

/-! ## What an entry does to the switch (R184) -/

/-- An entry with its two halves apart. -/
theorem slotEffect_halves (w : Switch) {d c : Nat} (hc : c ≤ 15) (set : 16 * d + c ≠ 0) :
    slotEffect (16 * d + c) w =
      if d ≤ 12 then
        if c = 15 then some { w with conn := Map.erase w.conn d }
        else if c ≤ 12 ∧ c ≠ d then some { w with conn := Map.set w.conn d c } else none
      else if d = 13 then some { w with send := some c }
      else if d = 14 then some { w with recv := some c }
      else if 16 * d + c = 0xF0 then some { w with send := none }
      else if 16 * d + c = 0xF1 then some { w with recv := none }
      else if 16 * d + c = 0xF2 then some Switch.cleared
      else none := by
  have high : (16 * d + c) / 16 = d := by omega
  have low : (16 * d + c) % 16 = c := by omega
  unfold slotEffect
  dsimp only
  rw [high, low, if_neg set]

section
variable (w : Switch) {d c : Nat}

theorem slotEffect_connect (hd : d ≤ 12) (hc : c ≤ 12) (other : c ≠ d) :
    slotEffect (16 * d + c) w = some { w with conn := Map.set w.conn d c } := by
  rw [slotEffect_halves w (by omega) (by omega), if_pos hd, if_neg (by omega), if_pos ⟨hc, other⟩]

theorem slotEffect_disconnect (hd : d ≤ 12) : slotEffect (16 * d + 15) w = some { w with conn := Map.erase w.conn d } := by
  rw [slotEffect_halves w (by omega) (by omega), if_pos hd, if_pos rfl]

theorem slotEffect_bindSend (hc : c ≤ 15) : slotEffect (16 * 13 + c) w = some { w with send := some c } :=
  slotEffect_halves w hc (by omega)

theorem slotEffect_bindRecv (hc : c ≤ 15) : slotEffect (16 * 14 + c) w = some { w with recv := some c } :=
  slotEffect_halves w hc (by omega)

/-- Sources 13 and 14, a destination's own source but in the entry 0x00, and all of 0xF3 to 0xFF are reserved. -/
theorem slotEffect_reserved (hc : c ≤ 15)
    (reserved : d ≤ 12 ∧ (c = 13 ∨ c = 14) ∨ d ≤ 12 ∧ c = d ∧ 16 * d + c ≠ 0 ∨ d = 15 ∧ 3 ≤ c) : slotEffect (16 * d + c) w = none := by
  rw [slotEffect_halves w hc (by omega)]
  rcases reserved with ⟨hd, source⟩ | ⟨hd, own, set⟩ | ⟨last, beyond⟩
  · rw [if_pos hd, if_neg (by omega), if_neg (by omega)]
  · rw [if_pos hd, if_neg (by omega), if_neg (by omega)]
  · rw [if_neg (by omega), if_neg (by omega), if_neg (by omega), if_neg (by omega), if_neg (by omega), if_neg (by omega)]

end

/-! ## Lines on their way (R179 to R181, R190, R195) -/

theorem State.segLost_congr {s u : State} (map : u.map = s.map) (lost : ∀ r, u.thoroughfareLost r = s.thoroughfareLost r)
    (seg : SegKind × Nat) : u.segLost seg = s.segLost seg := by
  simp only [State.segLost, State.segDead, map, lost]

section
variable (s : State) {t d : Nat} (data : List Byte)

theorem State.forward_local : s.forward t 12 data = s.modTile t fun x => { x with rx := x.rx ++ [data] } := if_pos rfl

theorem State.forward_rim {g : Nat} (port : d ≠ 12) (rim : rimGate t d = some g) :
    s.forward t d data = { s with rim := s.rim ++ [⟨g, t, d, s.clk.now + 4, data⟩] } := by
  rw [State.forward, if_neg port, rim]

/-- At a port with no neighbour and no gate a line is lost. -/
theorem State.forward_edge (port : d ≠ 12) (rim : rimGate t d = none) (edge : neighbour t d = none) : s.forward t d data = s := by
  rw [State.forward, if_neg port, rim, edge]

section
variable {n : Nat} {seg : SegKind × Nat} (port : d ≠ 12) (rim : rimGate t d = none) (next : neighbour t d = some n)
  (hop : segmentOf t d = some seg)
include port rim next hop

theorem State.forward_lost (lost : s.segLost seg = true) : s.forward t d data = s.noteHop t d := by
  rw [State.forward, if_neg port, rim, next, hop]
  exact if_pos lost

theorem State.forward_carried (whole : s.segLost seg = false) :
    s.forward t d data = { s.noteHop t d with mesh := s.mesh ++
      [⟨n, oppositePort d, s.clk.now + (if d < 4 then 2 else 3), s.clk.now, data⟩] } := by
  have carries : ¬ (s.noteHop t d).segLost seg = true := Bool.eq_false_iff.mp whole
  rw [State.forward, if_neg port, rim, next, hop]
  exact if_neg carries

end

theorem State.sendAll_clear (clear : neighbour t d = none ∨ s.collides t d = false) :
    s.sendAll t [(d, data)] = some (s.forward t d data) := by
  refine if_neg ?_
  rcases clear with edge | free
  · simp [edge]
  · simp [free]

theorem State.sendAll_collides (next : (neighbour t d).isSome = true) (meets : s.collides t d = true) :
    s.sendAll t [(d, data)] = none := if_pos (by rw [next, meets]; rfl)

end

/-! ## The entry of a cycle (R182, R184) -/

/-- The crossing applies an entry in this cycle: it runs, no test window holds it, and it has applied none yet. -/
structure State.EntryDue (s : State) (t : Nat) : Prop where
  runs : s.crossingRuns t = true
  begun : s.frm.originWait = false
  outside : (s.getTile t).inWindow = false
  fresh : (s.getTile t).entryAt ≠ some s.clk.now

/-- The crossing has taken the switch state that the entry leaves; the lines present have left their sources, and those that no
destination takes are counted (R183). -/
def State.entered (s : State) (t : Nat) (ups : List Upset) (w : Switch) : State :=
  ({ s.putTile t { (s.tilePort t ups).1 with switch := w, entryAt := some s.clk.now }
      ((s.tilePort t ups).2.add ((s.tilePort t ups).1.stagingNotes [slotTableBase + s.clk.cycle])) with
    mesh := (s.present t).2 } : State).addChanDrop (regionOf t) (untaken w (s.present t).1)

section
variable {s : State} {t : Nat} {ups : List Upset} {w : Switch}

theorem State.thoroughfare_of_crossingRuns (runs : s.crossingRuns t = true) : s.thoroughfareLost (regionOf t) = false := by
  simp only [State.crossingRuns, Bool.and_eq_true, Bool.not_eq_true'] at runs
  exact runs.2

/-- The entry that a crossing applies, and where its lines go. -/
theorem State.EntryDue.exec_eq (due : s.EntryDue t) : exec (.slotEntry t ups) s =
    (slotEffect (slotByte (s.tilePort t ups).1 s.clk.cycle) (s.tilePort t ups).1.switch).elim (.fault (.undefined .reservedSlotEntry))
      fun w => ((s.entered t ups w).sendAll t (outgoing w (s.present t).1)).elim (.fault (.undefined .slotCollision)) .next := by
  have run : exec (.slotEntry t ups) s = execSlotEntry t ups s := rfl
  rw [run, execSlotEntry, if_neg (by simp [due.begun, State.thoroughfare_of_crossingRuns due.runs]),
    if_neg (by simp [due.runs, due.outside]), if_neg due.fresh]
  dsimp only
  cases slotEffect (slotByte (s.tilePort t ups).1 s.clk.cycle) (s.tilePort t ups).1.switch with
  | none => rfl
  | some w =>
    dsimp only [Option.elim, State.entered]
    split <;> next sent => rw [sent]

theorem State.EntryDue.reserved (due : s.EntryDue t)
    (undefined : slotEffect (slotByte (s.tilePort t ups).1 s.clk.cycle) (s.tilePort t ups).1.switch = none) :
    exec (.slotEntry t ups) s = .fault (.undefined .reservedSlotEntry) := by
  rw [due.exec_eq, undefined]
  rfl

section
variable (due : s.EntryDue t)
  (effect : slotEffect (slotByte (s.tilePort t ups).1 s.clk.cycle) (s.tilePort t ups).1.switch = some w)
include due effect

theorem State.EntryDue.sends {u : State} (sent : (s.entered t ups w).sendAll t (outgoing w (s.present t).1) = some u) :
    exec (.slotEntry t ups) s = .next u := by
  rw [due.exec_eq, effect, Option.elim, sent]
  rfl

theorem State.EntryDue.collides (meets : (s.entered t ups w).sendAll t (outgoing w (s.present t).1) = none) :
    exec (.slotEntry t ups) s = .fault (.undefined .slotCollision) := by
  rw [due.exec_eq, effect, Option.elim, meets]
  rfl

end

theorem State.getTile_entered (k : Nat) : (s.entered t ups w).getTile k =
    (s.setTile t { (s.tilePort t ups).1 with switch := w, entryAt := some s.clk.now }).getTile k := by
  rw [State.entered, State.addChanDrop_frame]
  exact State.getTile_putTile ..

theorem State.getTile_entered_self : (s.entered t ups w).getTile t =
    { (s.tilePort t ups).1 with switch := w, entryAt := some s.clk.now } := by
  rw [State.getTile_entered, State.getTile_setTile]

/-- Beside the tile, its report and the lines, nothing changes. -/
theorem State.entered_keeps (s : State) (t : Nat) (ups : List Upset) (w : Switch) :
    (s.entered t ups w).mesh = (s.present t).2 ∧ (s.entered t ups w).clk = s.clk ∧ (s.entered t ups w).hops = s.hops ∧
      (s.entered t ups w).rim = s.rim ∧ (s.entered t ups w).map = s.map ∧ (s.entered t ups w).stack = s.stack := by
  rw [State.entered, State.addChanDrop_frame, State.TilesOnly.putTile]
  exact ⟨rfl, rfl, rfl, rfl, rfl, rfl⟩

theorem State.thoroughfareLost_applyNotes (s : State) (t : Nat) (n : Notes) (r : Nat) :
    (s.applyNotes t n).thoroughfareLost r = s.thoroughfareLost r := by
  unfold State.thoroughfareLost
  by_cases own : r = regionOf t
  · rw [own, State.region_applyNotes]
    rfl
  · rw [(State.OtherRegions.applyNotes s t n).1 r own]

theorem State.thoroughfareLost_addChanDrop (s : State) (k n r : Nat) :
    (s.addChanDrop k n).thoroughfareLost r = s.thoroughfareLost r := by
  unfold State.addChanDrop
  refine ite_related (R := fun a b : State => b.thoroughfareLost r = a.thoroughfareLost r) rfl ?_
  unfold State.thoroughfareLost State.modRegion
  by_cases own : r = k
  · rw [own, State.region_setRegion]
  · rw [State.region_setRegion_ne _ _ _ _ own]

theorem State.segLost_entered (seg : SegKind × Nat) : (s.entered t ups w).segLost seg = s.segLost seg := by
  obtain ⟨-, -, -, -, map, -⟩ := s.entered_keeps t ups w
  exact State.segLost_congr map (fun r => (State.thoroughfareLost_addChanDrop ..).trans (State.thoroughfareLost_applyNotes ..)) seg

theorem State.collides_entered (d : Nat) : (s.entered t ups w).collides t d = s.collides t d := by
  obtain ⟨-, clk, hops, -⟩ := s.entered_keeps t ups w
  simp only [State.collides, clk, hops]

end

/-- A crossing that does not run, or whose tile is in a test window, discards the lines present. -/
theorem execSlotEntry_discards {s : State} {t : Nat} (ups : List Upset) (begun : s.frm.originWait = false)
    (whole : s.thoroughfareLost (regionOf t) = false) (stands : s.crossingRuns t = false ∨ (s.getTile t).inWindow = true) :
    exec (.slotEntry t ups) s = .next (s.discardPresent t) := by
  have run : exec (.slotEntry t ups) s = execSlotEntry t ups s := rfl
  rw [run, execSlotEntry, if_neg (by simp [begun, whole]), if_pos]
  rcases stands with stands | stands <;> simp [stands]

theorem State.discardPresent_counts {s : State} {t : Nat} (lines : (s.present t).1 ≠ []) :
    ((s.discardPresent t).region (regionOf t)).chanDrop =
      satAdd (s.region (regionOf t)).chanDrop (s.present t).1.length := by
  have counted : ¬ (s.present t).1.length = 0 := mt List.length_eq_zero_iff.mp lines
  unfold State.discardPresent State.addChanDrop
  rw [if_neg counted]
  exact congrArg Region.chanDrop (State.region_setRegion _ _ _)

theorem State.discardPresent_idle {s : State} {t : Nat} (idle : (s.present t).1 = []) :
    s.discardPresent t = { s with mesh := (s.present t).2 } := by
  unfold State.discardPresent
  dsimp only
  rw [idle]
  rfl

/-- Settles O36: the entry acts on the switch by `slotEffect`, the lines leave by `State.forward`, and what the entry itself
changes (`State.entered`) is neither a segment nor a hop. -/
theorem slotEntriesActOnTheSwitch : Obligations.SlotEntriesActOnTheSwitch := by
  unfold Obligations.SlotEntriesActOnTheSwitch
  refine ⟨?idle, ?discards, ?entries, ?lines⟩
  case idle =>
    intro s t ups still
    exact if_pos (by simpa using still)
  case discards =>
    intro s t ups begun whole stands
    refine ⟨_, execSlotEntry_discards ups begun whole stands, ?_, ?_, fun idle => ?_, State.discardPresent_counts⟩
    · rw [State.discardPresent, State.addChanDrop_frame]
    · rw [State.discardPresent, State.addChanDrop_frame]
    · rw [State.discardPresent_idle idle]
  case entries =>
    intro s t ups x b runs begun tile outside fresh idle byte
    subst tile byte
    have due : s.EntryDue t := ⟨runs, begun, outside, fresh⟩
    refine ⟨fun w entry => ?_, ?_⟩
    · have effect : slotEffect (slotByte (s.tilePort t ups).1 s.clk.cycle) (s.tilePort t ups).1.switch = some w := by
        rcases entry with ⟨e, rfl⟩ | ⟨d, c, e, -, hd, hc, other, rfl⟩ | ⟨d, e, hd, rfl⟩ | ⟨c, e, hc, rfl⟩ | ⟨c, e, hc, rfl⟩ |
          ⟨e, rfl⟩ | ⟨e, rfl⟩ | ⟨e, rfl⟩ <;> rw [e]
        · rfl
        · exact slotEffect_connect _ hd hc other
        · exact slotEffect_disconnect _ hd
        · exact slotEffect_bindSend _ hc
        · exact slotEffect_bindRecv _ hc
        · rfl
        · rfl
        · rfl
      have sent : (s.entered t ups w).sendAll t (outgoing w (s.present t).1) = some (s.entered t ups w) := by rw [idle]; rfl
      obtain ⟨-, -, -, -, -, stack⟩ := s.entered_keeps t ups w
      refine ⟨_, due.sends effect sent, State.getTile_entered_self, fun k hk => ?_, stack⟩
      rw [State.getTile_entered, State.getTile_setTile_ne s _ _ _ hk]
    · rintro ⟨d, c, e, hc, reserved⟩
      refine due.reserved ?_
      rw [e] at reserved ⊢
      exact slotEffect_reserved _ hc reserved
  case lines =>
    intro s t d x f rest w runs begun tile outside fresh present effect dest
    subst tile
    have due : s.EntryDue t := ⟨runs, begun, outside, fresh⟩
    obtain ⟨mesh, clk, -, rim, -, -⟩ := s.entered_keeps t [] w
    rw [present] at mesh
    have leaves : outgoing w (s.present t).1 = [(d, f.data)] := by simp [outgoing, present, dest]
    have sent : neighbour t d = none ∨ s.collides t d = false →
        exec (.slotEntry t []) s = .next ((s.entered t [] w).forward t d f.data) := fun clear =>
      due.sends effect (by rw [leaves, State.sendAll_clear _ _ (by rwa [State.collides_entered])])
    refine ⟨?here, ?gate, ?edge, ?street⟩
    case here =>
      rintro rfl
      refine ⟨_, sent (.inl rfl), ?_, ?_⟩
      · rw [State.forward_local, State.modTile, State.getTile_setTile, State.getTile_entered_self]
      · rw [State.forward_local]
        exact mesh
    case gate =>
      intro g port gate edge
      refine ⟨_, sent (.inl edge), ?_, ?_⟩ <;> rw [State.forward_rim _ _ port gate]
      · exact mesh
      · rw [rim, clk]
    case edge =>
      intro gate port edge
      refine ⟨_, sent (.inl edge), ?_, ?_⟩ <;> rw [State.forward_edge _ _ port gate edge]
      · exact mesh
      · exact rim
    case street =>
      intro n seg port gate next hop
      refine ⟨fun meets => ?_, fun free lost => ⟨_, sent (.inr free), ?_⟩, fun free whole => ⟨_, sent (.inr free), ?_⟩⟩
      · refine due.collides effect ?_
        rw [leaves, State.sendAll_collides _ _ (by rw [next]; rfl) (by rwa [State.collides_entered])]
      · rw [State.forward_lost _ _ port gate next hop (by rwa [State.segLost_entered])]
        exact mesh
      · rw [State.forward_carried _ _ port gate next hop (by rwa [State.segLost_entered]), mesh, clk]

end Sys2Proof.Machine
end

section
/-! PROOFS. What most of a tick leaves alone of HOLD_TIMEOUT, of the run, of a failure that waits and of a START: records and
messages, and the work of the stream engines (R146, R205, R216 to R231, R308, R449). `State.GateWork` says nothing of a failure
that waits, so the operations of the rings are gone through for it here. -/

namespace Sys2Proof.Machine

/-- HOLD_TIMEOUT, the run, and what lets a START begin one outside a group. -/
structure RunFields where
  timeout : Bool
  run : Bool
  startPending : Bool
  startAt : Option Nat
  now : Nat
  grouped : Bool

def State.runFields (s : State) : RunFields :=
  { timeout := s.frm.timeout, run := s.plan.run, startPending := s.plan.startPending, startAt := s.plan.startAt
    now := s.clk.now, grouped := s.grouped }

/-- GO tells the group to start (R308). -/
def State.goStarts (s : State) : Bool := s.group.formed && s.group.goMsg.any (·.start)

theorem State.startsHere_eq (s : State) : s.startsHere =
    (!s.runActive && s.plan.startPending && s.plan.startAt != some s.clk.now && (!s.grouped || s.goStarts)) := by
  unfold State.startsHere State.goStarts
  cases s.grouped <;> cases s.group.goMsg <;> rfl

/-- The run goes on or not as before, HOLD_TIMEOUT stays, a failure that waits still does, and no START begins that did not. -/
def State.KeepsRun (s t : State) : Prop :=
  t.runFields = s.runFields ∧ (s.plan.failNext = true → t.plan.failNext = true) ∧ (t.goStarts = true → s.goStarts = true)

namespace State.KeepsRun

theorem refl (s : State) : s.KeepsRun s := ⟨rfl, id, id⟩

theorem trans {s t u : State} (h : s.KeepsRun t) (k : t.KeepsRun u) : s.KeepsRun u :=
  ⟨k.1.trans h.1, k.2.1 ∘ h.2.1, h.2.2 ∘ k.2.2⟩

theorem fold {β : Type} (f : State → β → State) (each : ∀ (s : State) (x : β), s.KeepsRun (f s x)) (l : List β) (s : State) :
    s.KeepsRun (l.foldl f s) :=
  foldl_related State.KeepsRun refl trans f each l s

theorem foldRings (f : State → Nat → Nat → State) (each : ∀ (s : State) (g r : Nat), s.KeepsRun (f s g r))
    (l : List (Nat × Nat)) (s : State) : s.KeepsRun (l.foldl (fun s x => f s x.1 x.2) s) :=
  fold _ (fun s x => each s x.1 x.2) l s

theorem timeout {s t : State} (h : s.KeepsRun t) : t.frm.timeout = s.frm.timeout := congrArg RunFields.timeout h.1

theorem run {s t : State} (h : s.KeepsRun t) : t.runActive = s.runActive := congrArg RunFields.run h.1

theorem startsHere {s t : State} (h : s.KeepsRun t) (idle : s.startsHere = false) : t.startsHere = false := by
  obtain ⟨same, -, goes⟩ := h
  obtain ⟨-, run, pending, at_, now, grouped⟩ := RunFields.mk.inj same
  have active : t.runActive = s.runActive := run
  rw [State.startsHere_eq] at idle ⊢
  rw [active, pending, at_, now, grouped]
  cases told : t.goStarts with
  | true => rwa [goes told] at idle
  | false =>
    rw [Bool.or_false]
    simp only [Bool.and_eq_false_iff, Bool.or_eq_false_iff] at idle ⊢
    exact idle.imp id And.left

theorem of_gatesOnly {s t : State} (h : s.GatesOnly t) : s.KeepsRun t := by
  unfold State.GatesOnly at h
  rw [h]
  exact ⟨rfl, id, id⟩

theorem of_missOnly {s t : State} (h : s.MissOnly t) : s.KeepsRun t := by
  unfold State.MissOnly at h
  rw [h]
  exact ⟨rfl, id, id⟩

/-! ## Records, events and messages -/

theorem noteSet (s : State) (r : W1cReg) (n : Nat) : s.KeepsRun (s.noteSet r n) := ⟨rfl, id, id⟩
theorem logRecord (s : State) (k : Nat) (d : List Byte) : s.KeepsRun (s.logRecord k d) := ⟨rfl, id, id⟩
theorem modRegion (s : State) (r : Nat) (f : Region → Region) : s.KeepsRun (s.modRegion r f) := ⟨rfl, id, id⟩
theorem setPort (s : State) (p : Nat) (x : Port) : s.KeepsRun (s.setPort p x) := ⟨rfl, id, id⟩
theorem emit (s : State) (o : Out) : s.KeepsRun (s.emit o) := ⟨rfl, id, id⟩

theorem addErrorAt (s : State) (k : ErrKind) (b : Bool) (c : Nat) : s.KeepsRun (s.addErrorAt k b c) :=
  ⟨rfl, fun failed => by simp [State.addErrorAt, failed], id⟩

theorem addError (s : State) (k : ErrKind) (b : Bool) : s.KeepsRun (s.addError k b) := addErrorAt s k b _

theorem raiseVector (s : State) (v : Nat) : s.KeepsRun (s.raiseVector v) := by
  rw [State.raiseVector_frame]
  exact ⟨rfl, id, id⟩

theorem powerEvent (s : State) (n : Nat) : s.KeepsRun (s.powerEvent n) := by
  rw [State.powerEvent_frame]
  exact ⟨rfl, id, id⟩

theorem flood (s : State) (m : SyncMsg) (skip : Option Nat) : s.KeepsRun (s.flood m skip) := by
  rw [State.flood_frame]
  exact ⟨rfl, id, id⟩

theorem floodAbort (s : State) (cause : Nat) : s.KeepsRun (s.floodAbort cause) := by
  rw [State.floodAbort_frame]
  exact ⟨rfl, id, id⟩

/-- A group that is dissolved holds no GO. -/
theorem unform (s : State) : s.KeepsRun s.unform := ⟨rfl, id, fun goes => nomatch goes⟩

theorem addChanDrop (s : State) (r n : Nat) : s.KeepsRun (s.addChanDrop r n) := by
  rw [State.addChanDrop_frame]
  exact ⟨rfl, id, id⟩

theorem placeErrors (s : State) : s.KeepsRun s.placeErrors := by
  unfold State.placeErrors
  refine ite_related (refl s) (.trans ?_ (raiseVector _ _))
  have noted : s.KeepsRun (if s.err.frame.any fun r => r.uncorrected then s.noteSet .err 1 else s) :=
    ite_related (noteSet s .err 1) (refl s)
  exact (noted.trans (noteSet _ .err 0)).trans ⟨rfl, id, id⟩

/-! ## What a tile reports -/

theorem applyNotes (s : State) (t : Nat) (n : Notes) : s.KeepsRun (s.applyNotes t n) := by
  unfold State.applyNotes
  refine trans (t := (s.modRegion (regionOf t) _).addFlags n.flags) ⟨rfl, id, id⟩ (fold _ (fun u e => ?_) _ _)
  unfold State.applyEvent
  split <;> exact addErrorAt u _ _ _

theorem syncTile (s : State) (t : Nat) : s.KeepsRun (s.syncTile t) := by
  unfold State.syncTile
  exact ite_related (trans (t := s.setTile t _) ⟨rfl, id, id⟩ (applyNotes _ t _)) (refl s)

theorem syncTiles (s : State) : s.KeepsRun s.syncTiles := fold State.syncTile syncTile _ s

/-! ## The rings (R217 to R233, R245) -/

theorem setRing (s : State) (g r : Nat) (x : Ring) : s.KeepsRun (s.setRing g r x) := ⟨rfl, id, id⟩
theorem addFlags (s : State) (f : Status) : s.KeepsRun (s.addFlags f) := ⟨rfl, id, id⟩

theorem postRecord (s : State) (g r status bytes seq : Nat) (irq : Bool) : s.KeepsRun (s.postRecord g r status bytes seq irq) :=
  of_gatesOnly (s.postRecord_frame g r status bytes seq irq)

/-- A ring that is set posts a record. -/
theorem setPost (s : State) (g r : Nat) (x : Ring) (status bytes seq : Nat) (irq : Bool) :
    s.KeepsRun ((s.setRing g r x).postRecord g r status bytes seq irq) :=
  (setRing s g r x).trans (postRecord _ g r status bytes seq irq)

theorem ringError (s : State) (g r status : Nat) : s.KeepsRun (s.ringError g r status) := by
  obtain ⟨t, only, e⟩ := s.ringError_frame g r status
  rw [e]
  exact (of_gatesOnly only).trans (addError t _ _)

theorem addrError (s : State) (g r j elem : Nat) : s.KeepsRun (s.addrError g r j elem) := by
  unfold State.addrError
  exact ite_related (refl s) ((setRing s g r _).trans (ringError _ g r 4))

theorem endArming (s : State) (g r : Nat) : s.KeepsRun (s.endArming g r) := by
  unfold State.endArming
  dsimp only
  split
  · exact refl s
  · exact ite_related (setRing s g r _) (setPost s g r _ _ _ _ _)

theorem disarmRing (s : State) (g r : Nat) : s.KeepsRun (s.disarmRing g r) := by
  unfold State.disarmRing
  exact ite_related (refl s) ((endArming s g r).trans (setRing _ g r _))

theorem disarmAll (s : State) : s.KeepsRun s.disarmAll := foldRings State.disarmRing disarmRing _ s

theorem armRing (s : State) (g r origin : Nat) : s.KeepsRun (s.armRing g r origin) :=
  (endArming s g r).trans (setRing _ g r _)

theorem checkArming (s : State) (g r : Nat) : s.KeepsRun (s.checkArming g r) := by
  unfold State.checkArming
  dsimp only
  split
  · exact refl s
  · exact ite_related ((setPost s g r _ _ _ _ _).trans (addError _ _ _)) (ite_related (setPost s g r _ _ _ _ _) (refl s))

theorem checkArmings (s : State) (l : List (Nat × Nat)) : s.KeepsRun (s.checkArmings l) :=
  (foldRings State.checkArming checkArming _ s).trans (foldRings State.checkArming checkArming _ _)

theorem releaseBlock (s : State) (g r : Nat) : s.KeepsRun (s.releaseBlock g r) := by
  have walked : ∀ (u : State) (c : Prop) [Decidable c] (a : Arming), s.KeepsRun u →
      s.KeepsRun (if c then u.finishWalk g r a else u) :=
    fun u _ _ a h => ite_related (h.trans (setPost u g r _ _ _ _ _)) h
  unfold State.releaseBlock
  dsimp only
  split
  · exact refl s
  · exact walked _ _ _ (ite_related ((setRing s g r _).trans (setRing _ g _ _)) (setRing s g r _))

theorem releaseSent (s : State) (g r f n : Nat) : s.KeepsRun (s.releaseSent g r f n) := by
  induction n generalizing s with
  | zero => exact refl s
  | succ n ih =>
    unfold State.releaseSent
    dsimp only
    split
    · exact refl s
    · exact ite_related ((releaseBlock s g r).trans (ih _)) (refl s)

theorem releaseWritten (s : State) (g r n : Nat) : s.KeepsRun (s.releaseWritten g r n) := by
  induction n generalizing s with
  | zero => exact refl s
  | succ n ih =>
    unfold State.releaseWritten
    split
    · exact refl s
    · exact ite_related ((releaseBlock s g r).trans (ih _)) (refl s)

theorem completeInbound (s : State) (g r j : Nat) : s.KeepsRun (s.completeInbound g r j) := by
  have noted : ∀ (x : Ring) (f : Status), s.KeepsRun ((s.setRing g r x).addFlags f) := fun x f => (setRing s g r x).trans (addFlags _ f)
  unfold State.completeInbound
  dsimp only
  split
  · exact refl s
  · split
    · exact refl s
    · split
      · exact (noted _ _).trans (addrError _ g r j _)
      · exact noted _ _

theorem completeOutbound (s : State) (g r j : Nat) : s.KeepsRun (s.completeOutbound g r j) := by
  unfold State.completeOutbound
  dsimp only
  split
  · exact refl s
  · split
    · exact refl s
    · exact ite_related (setRing s g r _) ((setRing s g r _).trans (addFlags _ _))

theorem completeReads (s : State) (g r n : Nat) : s.KeepsRun (s.completeReads g r n) := by
  induction n generalizing s with
  | zero => exact refl s
  | succ n ih =>
    unfold State.completeReads
    dsimp only
    split
    · exact refl s
    · refine ite_related ?outbound (ite_related ?inbound (refl s))
      case outbound =>
        split
        · exact (completeOutbound s g r _).trans (ih _)
        · exact refl s
      case inbound =>
        split
        · exact ite_related ((completeInbound s g r _).trans (ih _)) (refl s)
        · exact refl s

theorem sweepOld (s : State) (g r : Nat) : s.KeepsRun (s.sweepOld g r) :=
  (setRing s g r _).trans (fold _ (fun s _ => postRecord s g r _ _ _ _) _ _)

theorem requestBlock (s : State) (g r j : Nat) : s.KeepsRun (s.requestBlock g r j) := by
  unfold State.requestBlock
  dsimp only
  split
  · exact refl s
  · refine ite_related (refl s) (ite_related ?linked ?free)
    case linked =>
      split
      · exact refl s
      · exact setRing s g r _
    case free =>
      split
      · exact (setRing s g r _).trans (addrError _ g r j _)
      · exact setRing s g r _

theorem requestRing (s : State) (g r : Nat) : s.KeepsRun (s.requestRing g r) := fold _ (fun s j => requestBlock s g r j) _ s

theorem advanceRing (s : State) (g r : Nat) : s.KeepsRun (s.advanceRing g r) :=
  (requestRing s g r).trans (fold _ (fun s c => requestRing s g c) _ _)

theorem settleRing (s : State) (g r : Nat) : s.KeepsRun (s.settleRing g r) := by
  unfold State.settleRing
  exact ((((completeReads s g r 6).trans (setRing _ g r _)).trans (releaseWritten _ g r 6)).trans (sweepOld _ g r)).trans
    (advanceRing _ g r)

theorem ringFrameEnd (s : State) (g r : Nat) : s.KeepsRun (s.ringFrameEnd g r) := by
  have filled : ∀ l : List Block, s.KeepsRun (l.foldl (fun s b => s.completeInbound g r b.num) s) :=
    fun l => fold _ (fun s b => completeInbound s g r b.num) l s
  unfold State.ringFrameEnd
  dsimp only
  split
  · exact refl s
  · exact ite_related ((filled _).trans (settleRing _ g r)) (releaseSent s g r _ 5)

theorem ringFrameStart (s : State) (g r : Nat) : s.KeepsRun (s.ringFrameStart g r) := by
  have asks : ∀ u : State, s.KeepsRun u → s.KeepsRun ((u.requestRing g r).settleRing g r) :=
    fun u h => (h.trans (requestRing u g r)).trans (settleRing _ g r)
  unfold State.ringFrameStart
  refine asks _ ?_
  split
  · exact refl s
  · split
    · exact ite_related (setRing s g r _) (refl s)
    · exact refl s

theorem linkedFaults (s : State) : s.KeepsRun s.linkedFaults := by
  refine fold _ (fun s x => ?_) _ s
  dsimp only
  split
  · exact ite_related ((releaseSent s x.1 x.2 _ 1).trans (ringError _ x.1 x.2 8)) (refl s)
  · exact refl s

theorem commitRings (s : State) : s.KeepsRun s.commitRings.1 := by
  refine KeepsRun.trans (fold _ (fun s x => setRing s x.1 x.2 _) s.allRings s) (fold _ (fun s c => ?_) _ _)
  exact ite_related (armRing s c.1.1 c.1.2 s.frm.count) (disarmRing s c.1.1 c.1.2)

end State.KeepsRun

end Sys2Proof.Machine
end

section
/-! PROOFS. The parts of the tick before and after the run's own: they leave HOLD_TIMEOUT and the run, end no failure that waits
and let no START begin (R24, R44, R189, R201, R217 to R219, R247, R299, R308, R340 to R359, R384, R389). -/

namespace Sys2Proof.Machine

namespace State.KeepsRun

/-! ## The frame that ends (R79, R189, R203, R338, R345) -/

theorem discardFlights (s : State) : s.KeepsRun s.discardFlights := by
  have lost : ∀ (l : List Flight) (u : State), u.KeepsRun (l.foldl (fun u f => u.addChanDrop (regionOf f.tile) 1) u) :=
    fold _ fun u f => addChanDrop u _ 1
  have lostAtRim : ∀ (l : List RimFlight) (u : State), u.KeepsRun (l.foldl (fun u f => u.addChanDrop (regionOf f.tile) 1) u) :=
    fold _ fun u f => addChanDrop u _ 1
  unfold State.discardFlights
  extract_lets s1 s2 s3
  have emptied : s.KeepsRun s3 := (trans (t := s1) ⟨rfl, id, id⟩ (lost s.mesh s1)).trans (lostAtRim s.rim s2)
  refine emptied.trans (fold _ (fun u p => ?_) _ s3)
  exact ite_related (refl u) (trans (t := u.modTile p.1 _) ⟨rfl, id, id⟩ (addChanDrop _ _ _))

theorem measureFrame (s : State) (tel : Telemetry) (wall : Nat) : s.KeepsRun (s.measureFrame tel wall) := by
  have noted : s.KeepsRun (tel.regions.foldl (fun u x => u.noteRegion x.1 x.2) s) :=
    fold (fun u (x : Nat × Nat) => u.noteRegion x.1 x.2) (fun u x => modRegion u x.1 _) _ s
  have learnt : ∀ (u : State) (c : Bool) (m : Map PhaseLearn), s.KeepsRun u →
      s.KeepsRun (if c then { u with pwr := { u.pwr with phases := m } } else u) :=
    fun u c m h => ite_related (h.trans ⟨rfl, id, id⟩) h
  have exceeded : ∀ (u : State) (c : Prop) [Decidable c] (n : Nat) (m : Map PhaseLearn), s.KeepsRun u →
      s.KeepsRun (if c then ({ u with pwr := { u.pwr with capExceed := n, phases := m } } : State).powerEvent 6 else u) :=
    fun u c _ n m h => ite_related ((h.trans ⟨rfl, id, id⟩).trans (powerEvent _ 6)) h
  exact exceeded _ _ _ _ (learnt _ _ _ (noted.trans ⟨rfl, id, id⟩))

theorem watchStage (s : State) : s.KeepsRun s.watchStage := by
  unfold State.watchStage
  exact ite_related (trans ⟨rfl, id, id⟩ (raiseVector _ vecFirmware)) (refl s)

theorem enterNight (s : State) : s.KeepsRun s.enterNight := by
  rw [State.enterNight_frame]
  exact ⟨rfl, id, id⟩

theorem coolStop (s : State) : s.KeepsRun s.coolStop := by
  have told : ∀ (u : State) (m : SyncMsg), u.KeepsRun (if u.grouped then ((u.floodAbort 1).flood m none).unform else u) :=
    fun u m => ite_related (((floodAbort u 1).trans (flood _ m none)).trans (unform _)) (refl u)
  unfold State.coolStop
  extract_lets u1 pwr u2 u3 u4
  have dark : s.KeepsRun u1 := (syncTiles s).trans (enterNight _)
  have noted : u1.KeepsRun u2 := trans ⟨rfl, id, id⟩ (powerEvent _ 1)
  have stopped : s.KeepsRun u4 := ((dark.trans noted).trans (addError u2 .coolStop true)).trans (told u3 _)
  exact ite_related (refl s) (stopped.trans ⟨rfl, id, id⟩)

theorem thermTrip (s : State) (k : ErrKind) : s.KeepsRun (s.thermTrip k) := by
  have noted : s.KeepsRun (({ s with pwr := { s.pwr with trip := true }, log := { s.log with trips := s.log.trips + 1 } } :
      State).powerEvent 2) := trans ⟨rfl, id, id⟩ (powerEvent _ 2)
  unfold State.thermTrip
  exact ite_related (refl s) ((noted.trans (addError _ k true)).trans (coolStop _))

theorem stackTemps (s : State) (l : List (Nat × Int)) : s.KeepsRun (s.stackTemps l) := by
  unfold State.stackTemps
  extract_lets u
  have warmed : ∀ (v : State) (g : Nat) (f : Gate → Gate), v.KeepsRun (v.modGate g f) := fun _ _ _ => ⟨rfl, id, id⟩
  have noted : s.KeepsRun u := fold _ (fun v x => ite_related (warmed v x.1 _) (refl v)) l s
  refine noted.trans ?_
  split
  · exact ite_related (refl u) ((thermTrip u _).trans (logRecord _ _ _))
  · exact refl u

theorem closeFrame (s : State) : s.KeepsRun s.closeFrame := by
  have noted : ∀ l : List Nat, l.foldl (fun u b => u.noteSet .num b) s =
      { s with setAt := (l.foldl (fun u b => u.noteSet .num b) s).setAt } := fun l =>
    foldl_related (fun a b : State => b = { a with setAt := b.setAt }) (fun _ => rfl) (fun h k => by rw [k, h]) _ (fun _ _ => rfl) l s
  unfold State.closeFrame
  rw [noted]
  dsimp only
  split_ifs <;> exact ⟨rfl, id, id⟩

/-! ## Dusk (R273, R353, R354) -/

theorem enterDusk (s : State) (r : Nat) (f : Region → Region) : s.KeepsRun (s.enterDusk r f) := by
  have lost : ∀ (u : State) (w : WideRow), u.KeepsRun (u.loseRow r w) := fun u w => trans ⟨rfl, id, id⟩ (addError _ _ true)
  have dropped : s.KeepsRun (s.dropNodes r) := trans (t := { s with blvd := _ }) ⟨rfl, id, id⟩ (fold _ lost _ _)
  unfold State.enterDusk
  exact (ite_related (refl s) dropped).trans (modRegion _ r f)

theorem leaveDusk (s : State) (r : Nat) (f : Region → Region) : s.KeepsRun (s.leaveDusk r f) := by
  unfold State.leaveDusk
  exact ite_related (modRegion s r f) ⟨rfl, id, id⟩

theorem endRamps (s : State) (count : Nat) : s.KeepsRun (s.endRamps count) := by
  have left : ∀ (u : State) (c : Bool) (r : Nat) (f : Region → Region), u.KeepsRun (if c then u.leaveDusk r f else u) :=
    fun u _ r f => ite_related (leaveDusk u r f) (refl u)
  exact fold _ (fun u r => (left u _ r _).trans (left _ _ r _)) _ s

theorem heatEnter (s : State) (idle phaseBegins : Bool) (r : Nat) : s.KeepsRun (s.heatEnter idle phaseBegins r) := by
  unfold State.heatEnter
  refine ite_related (refl s) (ite_related ?enters (ite_related ?stays (refl s)))
  case enters =>
    have counted : ∀ u : State, u.KeepsRun
        (({ u with pwr := { u.pwr with heatDuskCount := wrap64 (u.pwr.heatDuskCount + 1) } } : State).powerEvent 4) :=
      fun u => trans ⟨rfl, id, id⟩ (powerEvent _ 4)
    exact ((enterDusk s r _).trans (counted _)).trans (addError _ _ _)
  case stays => exact (addError s _ true).trans (powerEvent _ 4)

theorem heatTick (s : State) : s.KeepsRun s.heatTick := by
  unfold State.heatTick
  dsimp only
  split
  · exact fold _ (fun u r => heatEnter u _ _ r) _ s
  · exact fold _ (fun u r => heatEnter u true false r) _ s

theorem heatWatch (s : State) (r : Nat) : s.KeepsRun (s.heatWatch r) := by
  unfold State.heatWatch
  exact ite_related (refl s) (ite_related (ite_related (modRegion s r _) (refl s)) (ite_related (modRegion s r _) (refl s)))

theorem planDuskRegion (s : State) (r : Nat) : s.KeepsRun (s.planDuskRegion r) := by
  unfold State.planDuskRegion
  dsimp only
  split
  · exact refl s
  · exact ite_related (enterDusk s r _) (ite_related (leaveDusk s r _) (refl s))

/-! ## Commits, the clock and the map (R15, R24, R36, R44, R300, R358, R389) -/

theorem portDrop (s : State) (p : Nat) (st : PortState) (result : Nat) : s.KeepsRun (s.portDrop p st result) := by
  have freed : ∀ (l : List Nat) (u : State), u.KeepsRun (l.foldl (fun u q => u.modPort q fun y => { y with freed := y.freed + 1 }) u) :=
    fold _ fun u q => setPort u q _
  have shown : ∀ u : State, u.KeepsRun (u.linkStatus 2 fun g => { g with portChange := true }) := by
    intro u
    rw [State.linkStatus_frame]
    exact ⟨rfl, id, id⟩
  have broken : ∀ (l : List (Nat × Nat)) (u : State), u.KeepsRun (l.foldl (fun u x => u.ringError x.1 x.2 8) u) :=
    foldRings (fun u g r => u.ringError g r 8) fun u g r => ringError u g r 8
  unfold State.portDrop
  extract_lets x wasUp held u1 x1 u2 u3 u4 u5 u6
  have down : s.KeepsRun u3 := (freed held s).trans ⟨rfl, id, id⟩
  have failed : s.KeepsRun u6 := ((down.trans (shown u3)).trans (broken _ u4)).trans (addError u5 _ true)
  exact ite_related down (ite_related (failed.trans (floodAbort u6 1)) failed)

theorem commitPort (s : State) (p : Nat) : s.KeepsRun (s.commitPort p) := by
  have set := setPort s p
  unfold State.commitPort
  exact ite_related ((set _).trans (portDrop _ p _ _)) (set _)

theorem commitFields (s : State) : s.KeepsRun s.commitFields := by
  unfold State.commitFields
  extract_lets g frm pwr u
  exact trans (t := u) ⟨rfl, id, id⟩ (fold _ commitPort _ u)

theorem resume (s : State) : s.KeepsRun s.resume := by
  have raised : ∀ (u v : State) (c : Bool), u.KeepsRun v → u.KeepsRun (if c then v.raiseVector vecReady else v) :=
    fun u v c h => ite_related (h.trans (raiseVector v vecReady)) h
  have told : ∀ (u v : State) (c : Bool) (m : SyncMsg), u.KeepsRun v → u.KeepsRun (if c then v.flood m none else v) :=
    fun u v c m h => ite_related (h.trans (flood v m none)) h
  unfold State.resume
  refine trans ?restarted (ite_related (told _ _ _ _ (raised _ _ _ ⟨rfl, id, id⟩)) (refl _))
  refine trans ?woken (ite_related (told _ _ _ _ (raised _ _ _ ⟨rfl, id, id⟩)) (refl _))
  exact ite_related ⟨rfl, id, id⟩ (refl s)

theorem applyClock (s : State) : s.KeepsRun s.applyClock := ⟨rfl, id, id⟩

theorem storeOld (s : State) : s.KeepsRun s.storeOld := by
  have put : ∀ (u : State) (b : Bool) (f : CfgRecord → CfgRecord), u.KeepsRun (u.modCfg b f) := fun _ _ _ => ⟨rfl, id, id⟩
  have stored : s.KeepsRun (s.putStored s.map) := by
    unfold State.putStored
    exact ite_related ((put s _ _).trans (put _ _ _)) (put s _ _)
  have written : s.KeepsRun s.storeMap := by
    unfold State.storeMap
    exact ite_related (refl s) (stored.trans ⟨rfl, id, id⟩)
  unfold State.storeOld
  split
  · exact ite_related written (refl s)
  · exact refl s

theorem mapTick (s : State) : s.KeepsRun s.mapTick := by
  have merged : s.KeepsRun s.mergeMap := by
    unfold State.mergeMap
    exact ite_related (refl s) (ite_related ⟨rfl, id, id⟩ ⟨rfl, id, id⟩)
  have applied : s.KeepsRun s.applyMap := by
    unfold State.applyMap
    exact ite_related (merged.trans (raiseVector _ vecMap)) merged
  unfold State.mapTick
  exact ite_related applied (applied.trans (logRecord _ 11 _))

/-! ## The frame that begins (R24, R217 to R219, R302, R308, R340, R341, R350, R384, R415) -/

/-- GO is spent, in a group or alone. -/
theorem groupTick (s : State) : s.KeepsRun s.groupTick := by
  unfold State.groupTick
  extract_lets g code u
  have spent : ∀ v : State, v.group.goMsg = none → v.goStarts = true → s.goStarts = true := by
    intro v silent told
    simp [State.goStarts, silent] at told
  exact ite_related ⟨rfl, id, spent _ rfl⟩ (ite_related ⟨rfl, id, spent _ rfl⟩ ⟨rfl, id, spent _ rfl⟩)

theorem startTiles (s : State) : s.KeepsRun s.startTiles := by
  have slice : ∀ (u : State) (r : Nat) (l : List Nat), u.KeepsRun (u.startSlice r l) := by
    intro u r l
    unfold State.startSlice
    extract_lets x gapOk
    refine ite_related (refl u) ?_
    split
    · exact refl u
    · exact ⟨rfl, id, id⟩
  unfold State.startTiles
  extract_lets begun u
  have started : s.KeepsRun u := ⟨rfl, id, id⟩
  exact ite_related started (started.trans (fold _ (fun v r => slice v r begun) _ u))

theorem openOrigin (s : State) (stretched : Bool) : s.KeepsRun (s.openOrigin stretched) := by
  unfold State.openOrigin
  extract_lets hs n f u v f'
  have noted : u.KeepsRun v := foldRings (fun u g r => u.addMiss 1 g r 0) (fun u g r => of_missOnly (.addMiss u 1 g r 0)) hs u
  exact ite_related (refl s) ((trans (t := u) ⟨rfl, id, id⟩ noted).trans ⟨rfl, id, id⟩)

theorem markAllGo (s : State) : s.KeepsRun s.markAllGo := by
  rw [State.markAllGo_frame]
  exact ⟨rfl, id, id⟩

theorem handBlocks (s : State) : s.KeepsRun s.handBlocks := by
  rw [State.handBlocks_frame]
  exact ⟨rfl, id, id⟩

theorem emitEofs (s : State) (p : Nat) : s.KeepsRun (s.emitEofs p) := by
  rw [State.emitEofs_frame]
  exact ⟨rfl, id, id⟩

theorem thermalUpdate (s : State) : s.KeepsRun s.thermalUpdate := by
  unfold State.thermalUpdate
  exact ⟨rfl, id, id⟩

theorem formRequest (s : State) : s.KeepsRun s.formRequest := by
  unfold State.formRequest
  extract_lets keep q was u clk pwr v p w
  have fixed : u.KeepsRun v := ite_related (refl u) ⟨rfl, id, id⟩
  have limited : v.KeepsRun w := ite_related (powerEvent v 5) (refl v)
  have formed : s.KeepsRun w := (trans (t := u) ⟨rfl, id, id⟩ fixed).trans limited
  exact ite_related formed (formed.trans (powerEvent w 7))

theorem moveRails (s : State) : s.KeepsRun s.moveRails := by
  have moved : ∀ m : Map Region, s.KeepsRun { s with regions := m } := fun _ => ⟨rfl, id, id⟩
  exact moved _

theorem countTemp (s : State) : s.KeepsRun s.countTemp := by
  unfold State.countTemp
  exact ite_related ⟨rfl, id, id⟩ ⟨rfl, id, id⟩

theorem noteBarriers (s : State) : s.KeepsRun s.noteBarriers := by
  rw [State.noteBarriers_frame]
  exact ⟨rfl, id, id⟩

/-! ## The tick around the run (R24) -/

theorem tickEnd (s : State) (tel : Telemetry) : s.KeepsRun (s.tickEnd tel) := by
  unfold State.tickEnd
  extract_lets u v w
  have measured : s.KeepsRun u := (measureFrame s tel s.pwr.tickWall).trans (watchStage _)
  have closed : u.KeepsRun v := (stackTemps u tel.stackTemps).trans (closeFrame _)
  have ramped : v.KeepsRun w := (endRamps v _).trans (heatTick _)
  exact ((measured.trans closed).trans ramped).trans (linkedFaults w)

theorem tickBegin (s : State) (stretched : Bool) : s.KeepsRun (s.tickBegin stretched) := by
  have planned : ∀ u : State, u.KeepsRun (if u.runActive then (List.range nRegions).foldl State.planDuskRegion u else u) :=
    fun u => ite_related (fold _ planDuskRegion _ u) (refl u)
  have ringsStart : ∀ (l : List (Nat × Nat)) (u : State), u.KeepsRun (l.foldl (fun u x => u.ringFrameStart x.1 x.2) u) :=
    foldRings State.ringFrameStart ringFrameStart
  have handed : ∀ u : State, u.KeepsRun (if u.frm.originWait then u else u.markAllGo.handBlocks) :=
    fun u => ite_related (refl u) ((markAllGo u).trans (handBlocks _))
  unfold State.tickBegin
  extract_lets frm pwr s1 s2 s3 s4 s5 s6 s7 s8 s9
  have started : s.KeepsRun s3 := (trans (t := s1) ⟨rfl, id, id⟩ (groupTick s1)).trans (startTiles s2)
  have near : ∀ (u : State) (m : Map Region), u.KeepsRun { u with regions := m } := fun _ _ => ⟨rfl, id, id⟩
  have regions : s3.KeepsRun s6 := ((planned s3).trans (fold _ heatWatch _ s4)).trans (near s5 _)
  have rings : s6.KeepsRun s7 := (ringsStart _ s6).trans (openOrigin _ stretched)
  have blocks : s7.KeepsRun s9 := (handed s7).trans (fold _ emitEofs _ s8)
  have requested : s9.KeepsRun s9.thermalUpdate.formRequest := (thermalUpdate s9).trans (formRequest _)
  have moved : ∀ u : State, u.KeepsRun u.moveRails.countTemp.showWindows := fun u =>
    ((moveRails u).trans (countTemp _)).trans ⟨rfl, id, id⟩
  exact ((((started.trans regions).trans rings).trans blocks).trans requested).trans (moved _)

/-- The tick's middle before the run's own part. -/
theorem beforeRun (s : State) : ∃ u codes armed, s.KeepsRun u ∧ s.tickTurn.1 = (u.runTick codes).1.checkArmings armed := by
  unfold State.tickTurn
  extract_lets codes s1 s2 frm s3 s4 c s5 y armed
  have committed : s.KeepsRun s1.resume := ((placeErrors s).trans (commitFields _)).trans (resume s1)
  have counts : ∀ u : State, u.KeepsRun { u with frm := { u.frm with count := wrap64 (u.frm.count + 1) } } := fun _ => ⟨rfl, id, id⟩
  have clocked : s1.resume.KeepsRun s3 := (applyClock _).trans (counts s2)
  have rings : s3.KeepsRun c.1 := (foldRings State.ringFrameEnd ringFrameEnd _ s3).trans (commitRings s4)
  dsimp only
  exact ⟨s5, codes, armed, (((committed.trans clocked).trans rings).trans (storeOld _)).trans (mapTick _), rfl⟩

end State.KeepsRun

end Sys2Proof.Machine
end

section
/-! PROOFS. The hold limit: a step that fails ends the run at its tick, and the tick keeps HOLD_TIMEOUT (R146, R205, R219, R389,
R449). -/

namespace Sys2Proof.Machine

/-! ## The run's own part of the tick (R146, R389, R449) -/

namespace State.KeepsRun

theorem applyLength (s : State) : s.KeepsRun s.applyLength := by
  have taken : s.KeepsRun s.takeLength := by
    unfold State.takeLength
    split
    · exact ite_related ⟨rfl, id, id⟩ (refl s)
    · exact refl s
  exact taken.trans ⟨rfl, id, id⟩

theorem setPlanState (s : State) (x : PlanState) : s.KeepsRun (s.setPlanState x) := by
  unfold State.setPlanState
  exact ite_related (refl s) (trans (t := { s with plan := { s.plan with state := x } }) ⟨rfl, id, id⟩ (raiseVector _ vecPlan))

theorem recordStep (s : State) (status : Nat) (stop : Bool) : s.KeepsRun (s.recordStep status stop) := by
  have copied : ∀ (u : State) (h : HostRegs), u.KeepsRun { u with hostRegs := h } := fun _ _ => ⟨rfl, id, id⟩
  unfold State.recordStep State.postStep
  extract_lets p id f h u
  exact (copied s _).trans (ite_related (copied u _) (((emit u _).trans (copied _ _)).trans (raiseVector _ vecStep)))

end State.KeepsRun

/-- No run is active after it, and HOLD_TIMEOUT is as before. -/
def State.EndsRun (s t : State) : Prop := t.frm.timeout = s.frm.timeout ∧ t.runActive = false

namespace State.EndsRun

theorem after {s t u : State} (k : t.EndsRun u) (h : s.KeepsRun t) : s.EndsRun u := ⟨k.1.trans h.timeout, k.2⟩

theorem keeps {s t u : State} (h : s.EndsRun t) (k : t.KeepsRun u) : s.EndsRun u :=
  ⟨k.timeout.trans h.1, k.run.trans h.2⟩

theorem trans {s t u : State} (h : s.EndsRun t) (k : t.EndsRun u) : s.EndsRun u := ⟨k.1.trans h.1, k.2⟩

theorem of_idle {s t : State} (idle : s.runActive = false) (k : s.KeepsRun t) : s.EndsRun t := keeps ⟨rfl, idle⟩ k

theorem endRun (s : State) : s.EndsRun s.endRun := by
  have halted : ∀ u : State, u.KeepsRun u.haltTiles := fun _ => ⟨rfl, id, id⟩
  unfold State.endRun
  extract_lets frm plan u
  have stopped : s.EndsRun u := ⟨rfl, rfl⟩
  exact stopped.keeps (((halted u).trans (.disarmAll _)).trans (.setPlanState _ .stopped))

theorem computeWipe (s : State) : s.EndsRun s.computeWipe := by
  have aborted : ∀ u : State, u.KeepsRun u.abortSlices :=
    fun _ => .fold State.abortSlice (fun _ _ => ⟨rfl, id, id⟩) _ _
  have unplanned : ∀ u : State, u.EndsRun { u with plan := { PlanCtl.reset with base := u.plan.base } } := fun _ => ⟨rfl, rfl⟩
  unfold State.computeWipe
  extract_lets u1 u2 u3
  have emptied : u1.KeepsRun u2 := ⟨rfl, id, id⟩
  have forgotten : u2.KeepsRun u3 := .trans (t := u2.forget) ⟨rfl, id, id⟩ (.setPlanState _ .none)
  exact (unplanned u3).after ((((aborted s).trans (.disarmAll _)).trans emptied).trans forgotten)

theorem failStep (s : State) (codes : List Nat) : s.EndsRun (s.failStep codes) := by
  have shown : ∀ u : State, u.KeepsRun
      (if u.plan.failNext then ({ u with err := { u.err with stepFailed := true } } : State).noteSet .err 2 else u) :=
    fun u => ite_related ⟨rfl, id, id⟩ (.refl u)
  have left : ∀ (u : State) (c : Bool), u.KeepsRun (if c then u.rampBack.floodAbort 1 else u.rampBack).unform := by
    intro u c
    have ramped : u.KeepsRun u.rampBack := ⟨rfl, id, id⟩
    exact (ite_related (ramped.trans (.floodAbort _ 1)) ramped).trans (.unform _)
  unfold State.failStep
  extract_lets refused u1 err u2 tell u3 u4
  have recorded : s.KeepsRun u2 := (KeepsRun.recordStep s _ true).trans (shown u1)
  have ended : s.EndsRun u4 := ((endRun u2).after recorded).keeps (left u2.endRun tell)
  exact ite_related (ended.trans (computeWipe u4)) ended

/-- A run that is to fail ends at the tick, and where none is active and no START takes effect none begins. -/
theorem runTick {s : State} (codes : List Nat) (fails : s.runActive = true → s.plan.failNext = true)
    (idle : s.startsHere = false) : s.EndsRun (s.runTick codes).1 := by
  unfold State.runTick
  cases active : s.runActive with
  | true =>
    have failing : s.failing = true := by simp [State.failing, fails active]
    rw [if_pos rfl, if_pos failing]
    exact (failStep s codes).keeps (.applyLength _)
  | false =>
    rw [if_neg (by decide), if_neg (by simp [idle])]
    exact of_idle active (.applyLength s)

theorem tick {s : State} (tel : Telemetry) (fails : s.runActive = true → s.plan.failNext = true) (idle : s.startsHere = false) :
    s.EndsRun (s.tick tel) := by
  obtain ⟨u, codes, armed, before, turned⟩ := KeepsRun.beforeRun (s.tickEnd tel)
  have kept : s.KeepsRun u := (KeepsRun.tickEnd s tel).trans before
  have failing : u.runActive = true → u.plan.failNext = true := fun active => kept.2.1 (fails (kept.run.symm.trans active))
  have ran : s.EndsRun (u.runTick codes).1 := (runTick codes failing (kept.startsHere idle)).after kept
  unfold State.tick
  rw [turned]
  exact ((ran.keeps (.checkArmings _ armed)).keeps (.tickBegin _ _)).keeps (.noteBarriers _)

end State.EndsRun

/-! ## The hold limit (R205, R219) -/

/-- The hold has reached its limit: HOLD_TIMEOUT and its record, with which the step of an active run fails. -/
def State.holdExpired (s : State) : State :=
  (({ s with frm := { s.frm with timeout := true } } : State).noteSet .frm 3).addError (.holdTimeout s.heldSources s.frm.holdLimit) true

namespace State

variable (s : State)

theorem holdExpired_fails (active : s.runActive = true) : s.holdExpired.plan.failNext = true := addError_failNext _ _ active

theorem holdExpired_startsHere : s.holdExpired.startsHere = s.startsHere := rfl

theorem KeepsTick.holdExpired : s.KeepsTick s.holdExpired := ⟨rfl, id⟩

theorem SameEngines.holdExpired : s.SameEngines s.holdExpired := ⟨rfl, fun _ => rfl, fun _ => rfl, List.Subset.refl _, rfl⟩

theorem KeepsRun.releaseOrigin : s.KeepsRun s.releaseOrigin := by
  unfold State.releaseOrigin
  extract_lets frm u
  exact ((trans (t := u) ⟨rfl, id, id⟩ (markAllGo u)).trans (handBlocks _)).trans (fold _ emitEofs _ _)

end State

theorem State.timedOut_unlimited {s : State} (unlimited : s.frm.holdLimit = 0) : s.timedOut = false := by
  simp [State.timedOut, unlimited]

section
variable (tel : Telemetry) {s : State}

theorem execHoldTimeout_early (early : s.syncTiles.timedOut = false) : exec (.holdTimeout tel) s = .next s :=
  if_neg (by simp [early])

theorem execHoldTimeout_expired (expired : s.syncTiles.timedOut = true) : exec (.holdTimeout tel) s =
    if s.syncTiles.frm.originWait then .next s.syncTiles.holdExpired.releaseOrigin else s.syncTiles.holdExpired.tickOutcome tel :=
  if_pos expired

end

/-- A tick after which no run is active begins none on a dead tile. -/
theorem State.tickOutcome_idle {tel : Telemetry} {s b : State} (hb : b = if s.frm.ended then s else s.discardFlights)
    (idle : (b.tick tel).runActive = false) (apart : (b.tick tel).areasOverlap = false) :
    s.tickOutcome tel = .next (b.tick tel) := by
  have alive : s.startsDead (b.tick tel) = false := by simp [State.startsDead, idle]
  unfold State.tickOutcome
  rw [← hb]
  dsimp only
  rw [alive, apart]
  rfl

/-- Settles O18: the record makes the step fail, so that the run ends at the tick (`State.EndsRun.tick`), which keeps
HOLD_TIMEOUT and counts the frame as every tick does. -/
theorem holdLimitEndsTheHold : Obligations.HoldLimitEndsTheHold := by
  unfold Obligations.HoldLimitEndsTheHold
  have waits : ∀ s : State, s.syncTiles.frm = s.frm := fun s => by rw [State.TilesOnly.syncTiles s]
  have fails : ∀ s : State, s.runActive = true → s.syncTiles.holdExpired.plan.failNext = true :=
    fun s active => s.syncTiles.holdExpired_fails ((State.KeepsRun.syncTiles s).run.trans active)
  refine ⟨?tick, ?origin, ?unlimited⟩
  case tick =>
    intro tel s z y b hz expired begun idle hy hb apart
    subst hz
    change y = s.syncTiles.holdExpired at hy
    subst hy
    have ran : s.syncTiles.holdExpired.KeepsRun b := by
      rw [hb]
      exact ite_related (.refl _) (.discardFlights _)
    have engines : s.syncTiles.SameEngines b := by
      rw [hb]
      exact (State.SameEngines.holdExpired _).trans (ite_related (.refl _) (.discardFlights _))
    have counts : s.KeepsTick b := by
      rw [hb]
      have synced : s.KeepsTick s.syncTiles := .of_tilesOnly (.syncTiles s)
      exact (synced.trans (.holdExpired _)).trans (ite_related (.refl _) (.discardFlights _))
    have active : b.runActive = s.runActive := ran.run.trans (State.KeepsRun.syncTiles s).run
    have ended : b.EndsRun (b.tick tel) := by
      refine .tick tel (fun running => ran.2.1 (fails s (active.symm.trans running))) (ran.startsHere ?_)
      rw [State.holdExpired_startsHere]
      exact (State.KeepsRun.syncTiles s).startsHere idle
    have ticked := ((engines.synced s.synced_syncTiles).tick tel).1
    rw [counts.1] at ticked
    obtain ⟨count, -⟩ := State.ticked_fields ticked
    refine ⟨b.tick tel, ?_, ended.1.trans ran.timeout, count, fun _ => ended.2⟩
    rw [execHoldTimeout_expired tel expired, waits, begun]
    exact State.tickOutcome_idle hb ended.2 apart
  case origin =>
    intro tel s expired waiting
    have released := State.KeepsRun.releaseOrigin s.syncTiles.holdExpired
    have counted : s.syncTiles.frm.count = s.frm.count := congrArg Frm.count (waits s)
    obtain ⟨begins, count, -⟩ := s.syncTiles.holdExpired.releaseOrigin_keeps
    refine ⟨_, ?_, released.timeout, begins, count.trans counted, fun active => released.2.1 (fails s active)⟩
    rw [execHoldTimeout_expired tel expired, waits, waiting]
    rfl
  case unlimited =>
    intro tel s unlimited
    exact execHoldTimeout_early tel (State.timedOut_unlimited (by rw [waits, unlimited]))

end Sys2Proof.Machine
end

section
/-! PROOFS. The transfer of a gate that issues next, how long it occupies the stack, and what its issue leaves in the gate and in
the stacks (R224 to R227, R235, R277, R330, R453; log 43, 62, 102). -/

namespace Sys2Proof.Machine

/-! ## The order of the candidates (R226) -/

/-- Where a candidate stands in the order of R226: by deadline, those without one last, then by ring, walk and block. -/
def Candidate.rank (c : Candidate) : WithTop Nat ×ₗ Nat ×ₗ Nat ×ₗ Nat :=
  toLex (c.deadline.elim ⊤ WithTop.some, toLex (c.ring, toLex (c.gen, c.block)))

theorem Candidate.before_iff (a b : Candidate) : a.before b = true ↔ a.rank < b.rank := by
  have later : (if a.ring = b.ring then if a.gen = b.gen then a.block < b.block else a.gen < b.gen else a.ring < b.ring) ↔
      toLex (a.ring, toLex (a.gen, a.block)) < toLex (b.ring, toLex (b.gen, b.block)) := by
    simp only [Prod.Lex.toLex_lt_toLex]
    split
    · next h =>
      split
      · next k => simp [h, k]
      · next k => simp [h, k]
    · next h => simp [h]
  unfold Candidate.before Candidate.rank
  rw [Prod.Lex.toLex_lt_toLex]
  cases a.deadline with
  | none => cases b.deadline <;> simp [← later]
  | some p =>
    cases b.deadline with
    | none => simp
    | some q =>
      by_cases h : p = q
      · simp [h, ← later]
      · simp [h]

theorem Candidate.not_before_iff (a b : Candidate) : a.before b = false ↔ b.rank ≤ a.rank := by
  rw [← Bool.not_eq_true, a.before_iff b, not_lt]

theorem pickFirst_eq_none {l : List Candidate} (h : pickFirst l = none) : l = [] := by
  cases l with
  | nil => rfl
  | cons c rest =>
    unfold pickFirst at h
    split at h
    · cases h
    · split at h <;> cases h

/-- The candidate that is picked is one of the list, and none of the list comes before it. -/
theorem pickFirst_least {l : List Candidate} {c : Candidate} (h : pickFirst l = some c) : c ∈ l ∧ ∀ d ∈ l, c.rank ≤ d.rank := by
  induction l generalizing c with
  | nil => cases h
  | cons e rest ih =>
    unfold pickFirst at h
    split at h
    · next none_ =>
      cases h
      simp [pickFirst_eq_none none_]
    · next d found =>
      obtain ⟨mem, least⟩ := ih found
      split at h
      · next before =>
        cases h
        have first := (c.before_iff e).mp before
        exact ⟨List.mem_cons_of_mem e mem, List.forall_mem_cons.mpr ⟨first.le, least⟩⟩
      · next after =>
        cases h
        have first := (d.not_before_iff e).mp (by simpa using after)
        exact ⟨List.mem_cons_self, List.forall_mem_cons.mpr ⟨le_rfl, fun x hx => first.trans (least x hx)⟩⟩

/-! ## Writes to the stacks (R251) -/

/-- A write stores the bytes of its list at their populated addresses, and nothing else. -/
theorem mem_populatedStores {a x : Nat} {v : Byte} {l : List Byte} :
    (x, v) ∈ ((List.range l.length).zip l).filterMap (fun p => if populated (a + p.1) then some (a + p.1, p.2) else none) ↔
      ∃ i, l[i]? = some v ∧ populated (a + i) = true ∧ x = a + i := by
  have pair : ∀ i b, (i, b) ∈ (List.range l.length).zip l ↔ l[i]? = some b := by
    intro i b
    simp only [List.mem_iff_getElem?, List.getElem?_zip_eq_some]
    refine ⟨fun ⟨k, hk, hb⟩ => ?_, fun h => ⟨i, List.getElem?_range (List.getElem?_eq_some_iff.mp h).1, h⟩⟩
    obtain ⟨_, rfl⟩ := List.getElem?_eq_some_iff.mp hk
    rwa [List.getElem_range]
  simp only [List.mem_filterMap, Prod.exists, pair, Option.ite_none_right_eq_some, Option.some.injEq, Prod.mk.injEq]
  constructor
  · rintro ⟨i, b, hi, pop, rfl, rfl⟩
    exact ⟨i, hi, pop, rfl⟩
  · rintro ⟨i, hi, pop, rfl⟩
    exact ⟨i, v, hi, pop, rfl, rfl⟩

theorem State.read_stackPut_in {s : State} (wf : s.stack.wf = true) {a i : Nat} {l : List Byte} {v : Byte} (hi : l[i]? = some v)
    (pop : populated (a + i) = true) : (s.stackPut a l).stack.read (a + i) = v := by
  refine Memory.read_writeList_of_mem _ _ wf (mem_populatedStores.mpr ⟨i, hi, pop, rfl⟩) fun w hw => ?_
  obtain ⟨j, hj, -, e⟩ := mem_populatedStores.mp hw
  obtain rfl : i = j := Nat.add_left_cancel e
  exact Option.some.inj (hj.symm.trans hi)

theorem State.read_stackPut_out {s : State} (wf : s.stack.wf = true) {a x : Nat} {l : List Byte}
    (out : x < a ∨ a + l.length ≤ x ∨ populated x = false) : (s.stackPut a l).stack.read x = s.stack.read x := by
  refine Memory.read_writeList_of_notMem _ _ wf x ?_
  rintro ⟨k, v⟩ hp rfl
  obtain ⟨i, hi, pop, rfl⟩ := mem_populatedStores.mp hp
  have inside := (List.getElem?_eq_some_iff.mp hi).1
  rcases out with below | above | void
  · omega
  · omega
  · simp [pop] at void

/-! ## The stack's time (R224) -/

theorem stackTime_scaled (n : Nat) : 2000 * stackTime n = max n 2048 * wallPerNs := by
  have whole : 2000 * (wallPerNs / 2000) = wallPerNs := by decide
  rw [stackTime, Nat.mul_left_comm, whole]

/-- A controller whose stack is occupied accepts no transfer. -/
theorem State.canIssue_busy {s : State} {g : Nat} (busy : s.clk.wall < (s.gate g).busyUntil) : s.canIssue g = false := by
  simp [State.canIssue, busy]

/-! ## What goes next (R226, R277) -/

theorem execStackTransferIssue_closed {s : State} {g : Nat} (closed : s.canIssue g = false) :
    exec (.stackTransferIssue g false) s = .next s := by
  change execStackTransferIssue g false s = .next s
  simp [execStackTransferIssue, closed]

theorem execStackTransferIssue_ready {s : State} {g : Nat} (hg : g < nGates) (ready : s.canIssue g = true) :
    exec (.stackTransferIssue g false) s = s.issueStack g := by
  change execStackTransferIssue g false s = s.issueStack g
  simp [execStackTransferIssue, Nat.not_le.mpr hg, ready]

theorem State.issueStack_ring {s : State} {g : Nat} {c : Candidate}
    (next : (s.gate g).nextCandidate (s.unit g).waitingWrites = some c)
    (first : (c.deadline.isNone && s.updateMayIssue g) = false) : s.issueStack g = s.issueChecked g c := by
  simp [State.issueStack, next, first]

theorem State.issueStack_update {s : State} {g : Nat} {y : UpdXfer} {rest : List UpdXfer} (may : s.updateMayIssue g = true)
    (unscheduled : ∀ c, (s.gate g).nextCandidate (s.unit g).waitingWrites = some c → c.deadline = none)
    (queue : (s.unit g).queue = y :: rest) :
    s.issueStack g = if y.write && (s.gate g).overlaps 1024 y.addr y.len then .fault (.undefined .writeOverlap)
      else .next (s.issueUpdate g y rest) := by
  have checked : s.issueStack g = s.updateChecked g := by
    unfold State.issueStack
    split
    · next c next => simp [unscheduled c next, may]
    · simp [may]
  rw [checked, State.updateChecked, queue]

/-- The ring transfer that goes next is first in the order of R226 among those that may issue, and is one of them. -/
theorem Gate.nextCandidate_first {x : Gate} {ws : List (Nat × Nat × Nat)} {c : Candidate} (h : x.nextCandidate ws = some c) :
    (∀ r a d, Map.find? x.rings r = some a → d ∈ ringCandidates x r a false →
      (d.write = true ∨ mustWait (x.waitingWrites ++ ws) d.xfer.addr d.xfer.len d.reqAt = false) → d.before c = false) ∧
    (c.write = false → mustWait (x.waitingWrites ++ ws) c.xfer.addr c.xfer.len c.reqAt = false) := by
  obtain ⟨mem, least⟩ := pickFirst_least h
  refine ⟨fun r a d ring cand may => ?_, fun read => ?_⟩
  · refine (d.not_before_iff c).mpr (least d (List.mem_filter.mpr ⟨?_, by simpa using may⟩))
    exact List.mem_flatMap.mpr ⟨(r, a), Map.mem_of_find? ring, cand⟩
  · simpa [read] using (List.mem_filter.mp mem).2

/-! ## A ring's transfer issues (R225, R227) -/

theorem Map.set_set {α : Type} (m : Map α) (k : Nat) (x y : α) : Map.set (Map.set m k x) k y = Map.set m k y := by
  induction m with
  | nil => simp [Map.set]
  | cons p rest ih =>
    obtain ⟨j, v⟩ := p
    by_cases below : k < j
    · simp [Map.set, below]
    · by_cases same : k = j
      · simp [Map.set, same]
      · simp [Map.set, below, same, ih]

theorem State.setGate_setGate (s : State) (g : Nat) (x y : Gate) : (s.setGate g x).setGate g y = s.setGate g y := by
  simp [State.setGate, Map.set_set]

section
variable {s : State} {g : Nat} {c : Candidate} {a : Arming} {b : Block}
  (walk : (((s.gate g).ring c.ring).walks.find? fun x => x.gen == c.gen) = some a) (block : a.block? c.block = some b)
include walk block

/-- A read joins the transfers in flight with the stack's bytes of its range, and changes its gate only. -/
theorem State.issueChecked_read (read : c.write = false) :
    ∃ x : Gate, s.issueChecked g c = .next (s.setGate g x) ∧ x.busyUntil = s.clk.wall + stackTime c.xfer.len ∧
      x.flights = (s.gate g).flights ++ [⟨.ring c.ring c.gen c.block, false, c.xfer.off, c.xfer.addr, c.xfer.len,
        s.stack.slice c.xfer.addr c.xfer.len, s.badBursts c.xfer.addr c.xfer.len, c.xfer.eof⟩] := by
  simp only [State.issueChecked, State.issueRing, walk, block, read]
  exact ⟨_, rfl, rfl, rfl⟩

/-- A write changes its gate, and stores its block's data. -/
theorem State.issueChecked_write (write : c.write = true) (apart : (s.gate g).overlaps c.ring c.xfer.addr c.xfer.len = false) :
    ∃ x : Gate, s.issueChecked g c = .next ((s.setGate g x).stackPutMarked c.xfer.addr
        ((blockData b (a.d.comp != 0) c.xfer).1.bytes 0 c.xfer.len) (blockData b (a.d.comp != 0) c.xfer).2) ∧
      x.busyUntil = s.clk.wall + stackTime c.xfer.len := by
  have walk' : (({ s.gate g with frameWrites := (s.gate g).frameWrites ++ [(c.ring, c.xfer.addr, c.xfer.len)] } : Gate).ring
      c.ring).walks.find? (fun x => x.gen == c.gen) = some a := walk
  simp only [State.issueChecked, apart, State.issueRing, State.modGate, State.gate_setGate, walk', block, write,
    State.setGate_setGate]
  exact ⟨_, rfl, rfl⟩

end

theorem State.issueChecked_overlap {s : State} {g : Nat} {c : Candidate} (write : c.write = true)
    (meets : (s.gate g).overlaps c.ring c.xfer.addr c.xfer.len = true) : s.issueChecked g c = .fault (.undefined .writeOverlap) := by
  simp [State.issueChecked, write, meets]

/-! ## The update unit's transfer issues (R225, R277) -/

/-- The unit's oldest transfer leaves its queue and is in flight; a read holds the stack's bytes of its range, and a write stores its
own. -/
theorem State.issueUpdate_changes (s : State) (g : Nat) (y : UpdXfer) (rest : List UpdXfer) :
    ∃ (x : Gate) (un : UpdUnit), s.issueUpdate g y rest = (if y.write then ((s.setGate g x).setUnit g un).stackPut y.addr y.data
        else (s.setGate g x).setUnit g un) ∧
      x.busyUntil = s.clk.wall + stackTime y.len ∧ un.queue = rest ∧
      (y.write = false → x.flights = (s.gate g).flights ++ [⟨.update y.layer y.blk y.plane, false, y.off, y.addr, y.len,
        s.stack.slice y.addr y.len, s.badBursts y.addr y.len, none⟩]) := by
  cases write : y.write with
  | true =>
    simp only [State.issueUpdate, write]
    exact ⟨_, _, rfl, rfl, rfl, fun h => nomatch h⟩
  | false =>
    simp only [State.issueUpdate, write]
    exact ⟨_, _, rfl, rfl, rfl, fun _ => rfl⟩

/-! ## Host reads (R235, R330) -/

theorem execStackTransferIssue_host {s : State} {g : Nat} {c : Candidate} (hg : g < nGates) (runs : s.dawn.cmpReset = false)
    (tag : (s.gate g).flights.length + (s.gate g).hostFlights.length < 1024)
    (found : (s.gate g).hostCandidates.find? (s.hostReadReady g) = some c) :
    exec (.stackTransferIssue g true) s = .next (s.issueHost g c) := by
  change execStackTransferIssue g true s = _
  simp [execStackTransferIssue, Nat.not_le.mpr hg, runs, tag, found]

section
variable {s : State} {g : Nat} {c : Candidate} {d : Desc} (desc : (s.gate g).descOf c = some d)
include desc

theorem State.issueHost_asks (ats : d.ats = true) (none_ : (s.gate g).trans.contains (d.key c.xfer.addr) = false) :
    ∃ x : Gate, s.issueHost g c = (s.setGate g x).emit (.atsRequest d.hostPort (pageOf c.xfer.addr) d.pasid) ∧
      x.hostFlights = (s.gate g).hostFlights := by
  simp only [State.issueHost, desc, ats, none_]
  exact ⟨_, rfl, rfl⟩

theorem State.issueHost_reads (held : d.ats = false ∨ (s.gate g).trans.contains (d.key c.xfer.addr) = true) :
    ∃ x : Gate, s.issueHost g c = (s.setGate g x).emit
        (.hostRead d.hostPort c.xfer.addr (min c.xfer.len (min 4096 (s.hostPort d.hostPort).maxRead)) d.pasid d.ats) ∧
      x.hostFlights.length = (s.gate g).hostFlights.length + 1 := by
  have goes : (d.ats && !(s.gate g).trans.contains (d.key c.xfer.addr)) = false := by
    rcases held with h | h <;> rw [h] <;> simp
  simp only [State.issueHost, desc, goes]
  exact ⟨_, rfl, List.length_append⟩

end

/-! ## The obligations -/

/-- A gate that is busy for the time of a transfer accepts none until then. -/
theorem occupied_of_busyUntil {t : State} {g n wall : Nat} (busy : (t.gate g).busyUntil = wall + stackTime n) :
    2000 * ((t.gate g).busyUntil - wall) = max n 2048 * wallPerNs ∧
      (∀ u : State, u.gate g = t.gate g → u.clk.wall < (t.gate g).busyUntil → u.canIssue g = false) := by
  refine ⟨?_, fun u same early => State.canIssue_busy (same ▸ early)⟩
  rw [busy, Nat.add_sub_cancel_left, stackTime_scaled]

/-- Settles O39: whichever transfer issues, its gate is busy for `stackTime` of its bytes from now. -/
theorem stackTransfersOccupyTheStack : Obligations.StackTransfersOccupyTheStack := by
  unfold Obligations.StackTransfersOccupyTheStack
  refine ⟨?ring, ?update⟩
  case ring =>
    rintro s g c hg ready next first ⟨a, b, walk, block⟩ apart
    have issued : ∃ t, s.issueChecked g c = .next t ∧ (t.gate g).busyUntil = s.clk.wall + stackTime c.xfer.len := by
      cases write : c.write with
      | false =>
        obtain ⟨x, e, busy, -⟩ := State.issueChecked_read walk block write
        exact ⟨_, e, (congrArg Gate.busyUntil (s.gate_setGate g x)).trans busy⟩
      | true =>
        obtain ⟨x, e, busy⟩ := State.issueChecked_write walk block write (apart write)
        exact ⟨_, e, (congrArg Gate.busyUntil (s.gate_setGate g x)).trans busy⟩
    obtain ⟨t, e, busy⟩ := issued
    obtain ⟨time, closed⟩ := occupied_of_busyUntil busy
    refine ⟨t, ?_, time, fun short => ?_, closed⟩
    · rw [execStackTransferIssue_ready hg ready, State.issueStack_ring next first, e]
    · rw [Nat.max_eq_right short] at time
      omega
  case update =>
    intro s g y rest hg ready may unscheduled queue apart
    obtain ⟨x, un, e, busy, -⟩ := s.issueUpdate_changes g y rest
    have after : ((s.issueUpdate g y rest).gate g).busyUntil = s.clk.wall + stackTime y.len := by
      rw [e, ← busy]
      split <;> exact congrArg Gate.busyUntil (s.gate_setGate g x)
    refine ⟨_, ?_, occupied_of_busyUntil after⟩
    rw [execStackTransferIssue_ready hg ready, State.issueStack_update may unscheduled queue, if_neg]
    simpa using apart

/-- Settles O40: what goes next is the least of the candidates in the order of R226, and each of its forms is one branch of
`State.issueStack` or of `State.issueHost`. -/
theorem stackTransfersIssueInOrder : Obligations.StackTransfersIssueInOrder := by
  unfold Obligations.StackTransfersIssueInOrder
  refine ⟨fun s g closed => execStackTransferIssue_closed closed, fun x ws c => Gate.nextCandidate_first, ?ring, ?update, ?host⟩
  case ring =>
    intro s g c a b hg ready next first walk block
    rw [execStackTransferIssue_ready hg ready, State.issueStack_ring next first]
    refine ⟨fun read => ?_, State.issueChecked_overlap, fun write apart wf => ?_⟩
    · obtain ⟨x, e, -, flights⟩ := State.issueChecked_read walk block read
      exact ⟨_, e, rfl, (congrArg Gate.flights (s.gate_setGate g x)).trans flights,
        fun k hk => s.gate_setGate_ne x g k hk, rfl⟩
    · obtain ⟨x, e, -⟩ := State.issueChecked_write walk block write apart
      refine ⟨_, e, fun i hi pop => ?_, fun i out => ?_, fun k hk => s.gate_setGate_ne x g k hk, rfl⟩
      · exact State.read_stackPut_in (s := s.setGate g x) wf (by simp [Memory.bytes, hi]) pop
      · exact State.read_stackPut_out (s := s.setGate g x) wf (by simpa [Memory.bytes] using out)
  case update =>
    intro s g y rest hg ready may unscheduled queue
    obtain ⟨x, un, changes, -, taken, flights⟩ := s.issueUpdate_changes g y rest
    have issues := (execStackTransferIssue_ready hg ready).trans (State.issueStack_update may unscheduled queue)
    rw [changes] at issues
    have left : (((s.setGate g x).setUnit g un).unit g).queue = rest :=
      (congrArg UpdUnit.queue ((s.setGate g x).unit_setUnit g un)).trans taken
    refine ⟨fun read => ?_, fun write meets => ?_, fun write apart whole wf => ?_⟩
    · refine ⟨(s.setGate g x).setUnit g un, by simpa [read] using issues, rfl, left, ?_, rfl⟩
      exact (congrArg Gate.flights (s.gate_setGate g x)).trans (flights read)
    · simpa [write, meets] using issues
    · refine ⟨((s.setGate g x).setUnit g un).stackPut y.addr y.data, by simpa [write, apart] using issues,
        fun i hi pop => ?_, fun i out => ?_, left, rfl⟩
      · refine State.read_stackPut_in (s := (s.setGate g x).setUnit g un) wf ?_ pop
        rw [List.getD_eq_getElem?_getD, List.getElem?_eq_getElem (whole.symm ▸ hi)]
        rfl
      · exact State.read_stackPut_out (s := (s.setGate g x).setUnit g un) wf (whole.symm ▸ out)
  case host =>
    intro s g c d hg runs tag found desc
    rw [execStackTransferIssue_host hg runs tag found]
    by_cases asks : d.ats = true ∧ (s.gate g).trans.contains (d.key c.xfer.addr) = false
    · obtain ⟨x, e, same⟩ := State.issueHost_asks desc asks.1 asks.2
      rw [e]
      refine ⟨_, rfl, rfl, rfl, fun _ => ⟨rfl, ?_⟩, fun held => absurd asks ?_⟩
      · exact (congrArg Gate.hostFlights (s.gate_setGate g x)).trans same
      · rwa [not_and_or, Bool.not_eq_true, Bool.not_eq_false]
    · have held : d.ats = false ∨ (s.gate g).trans.contains (d.key c.xfer.addr) = true := by
        rwa [not_and_or, Bool.not_eq_true, Bool.not_eq_false] at asks
      obtain ⟨x, e, more⟩ := State.issueHost_reads desc held
      rw [e]
      refine ⟨_, rfl, rfl, rfl, fun h => absurd h asks, fun _ => ⟨rfl, ?_⟩⟩
      exact (congrArg (fun x : Gate => x.hostFlights.length) (s.gate_setGate g x)).trans more

end Sys2Proof.Machine
end

section
/-! PROOFS. Doorbell writes of ingress rings: what a write through an open port does, and what becomes of one that is held
(R238, R326, R328; log 17, 71). -/

namespace Sys2Proof.Machine

/-! ## Requests of a class 4 ring (R222, R238) -/

/-- The ring, if it is armed, reads from the host. -/
def State.ReadsHost (g r : Nat) (s : State) : Prop := ∀ a, (s.ring g r).arming = some a → a.d.cls = 4

/-- From a ring that reads from the host, nothing but the gates changes, and the ring announces what it did. -/
def State.RequestsHost (g r : Nat) (s t : State) : Prop :=
  s.ReadsHost g r → t.ReadsHost g r ∧ t = { s with gates := t.gates } ∧ (t.ring g r).announced = (s.ring g r).announced

namespace State.RequestsHost

variable {g r : Nat}

theorem refl (s : State) : s.RequestsHost g r s := fun h => ⟨h, rfl, rfl⟩

theorem trans {s t u : State} (h : s.RequestsHost g r t) (k : t.RequestsHost g r u) : s.RequestsHost g r u := by
  intro reads
  obtain ⟨readsT, gatesT, announcedT⟩ := h reads
  obtain ⟨readsU, gatesU, announcedU⟩ := k readsT
  exact ⟨readsU, by rw [gatesU, gatesT], announcedU.trans announcedT⟩

/-- A block that is requested joins the arming of its ring. -/
theorem joins (s : State) {a : Arming} (arming : (s.ring g r).arming = some a) (j : Nat) (b : Block) :
    s.RequestsHost g r (s.setRing g r { s.ring g r with arming := some { a with requested := j + 1, blocks := a.blocks ++ [b] } }) := by
  intro reads
  unfold State.ReadsHost
  rw [State.ring_setRing]
  refine ⟨?_, rfl, rfl⟩
  rintro _ ⟨⟩
  exact reads a arming

theorem requestBlock (s : State) (j : Nat) : s.RequestsHost g r (s.requestBlock g r j) := by
  intro reads
  unfold State.requestBlock
  dsimp only
  split
  · exact refl s reads
  · next a arming =>
    have cls : a.d.cls = 4 := reads a arming
    have free : a.d.consumes = false := by simp [Desc.consumes, Desc.outbound, cls]
    simp only [free, State.blockReads, cls]
    exact ite_related (R := State.RequestsHost g r) (refl s) (joins s arming j _) reads

theorem requestRing (s : State) : s.RequestsHost g r (s.requestRing g r) :=
  foldl_related (State.RequestsHost g r) refl trans _ requestBlock _ s

end State.RequestsHost

/-! ## Vectors of one port (R328, R329) -/

section
variable (s : State) (p v : Nat)

/-- A vector that is raised leaves every port as it was but for its pending bits. -/
theorem State.raiseOn_port (hp : p < 2) (q : Nat) :
    (s.raiseOn p v).hostPort q = { s.hostPort q with pba := ((s.raiseOn p v).hostPort q).pba } := by
  unfold State.raiseOn
  dsimp only
  split
  · rfl
  · split
    · rfl
    · by_cases h : q = p
      · subst h
        rw [State.hostPort_setHost s q _ hp]
      · rw [State.hostPort_setHost_ne s _ p q h]

theorem State.raiseOn_port_ne {q : Nat} (h : q ≠ p) : (s.raiseOn p v).hostPort q = s.hostPort q := by
  unfold State.raiseOn
  dsimp only
  split
  · rfl
  · split
    · rfl
    · exact State.hostPort_setHost_ne s _ p q h

theorem State.out_subset_raiseOn : s.out ⊆ (s.raiseOn p v).out := by
  unfold State.raiseOn
  dsimp only
  split
  · exact List.subset_append_left _ _
  · split <;> exact List.Subset.refl _

variable {s p v}

theorem State.raiseOn_sends (sends : (s.hostPort p).canSend v = true) : .msix p v ∈ (s.raiseOn p v).out := by
  simp [State.raiseOn, sends, State.emit]

theorem State.raiseOn_waits (hp : p < 2) (waits : (s.hostPort p).canSend v = false) : v ∈ ((s.raiseOn p v).hostPort p).pba := by
  unfold State.raiseOn
  simp only [waits]
  split
  · next h => cases h
  · split
    · next pending => simpa using pending
    · simp [State.hostPort_setHost s p _ hp]

end

theorem ingressVector_ne_vecStep (g : Nat) : ingressVector g ≠ vecStep := by
  unfold ingressVector vecStep
  omega

section
variable (s : State) {v : Nat} (both : v ≠ vecStep)
include both

theorem State.raiseVector_both : s.raiseVector v = (s.raiseOn 0 v).raiseOn 1 v := if_neg both

theorem State.raiseVector_port (q : Nat) :
    (s.raiseVector v).hostPort q = { s.hostPort q with pba := ((s.raiseVector v).hostPort q).pba } := by
  rw [s.raiseVector_both both, State.raiseOn_port _ 1 v (by decide) q, s.raiseOn_port 0 v (by decide) q]

/-- A vector of both ports leaves on port 0 or waits there. -/
theorem State.raiseVector_port0 :
    ((s.hostPort 0).canSend v = true → .msix 0 v ∈ (s.raiseVector v).out) ∧
      ((s.hostPort 0).canSend v = false → v ∈ ((s.raiseVector v).hostPort 0).pba) := by
  rw [s.raiseVector_both both]
  refine ⟨fun sends => State.out_subset_raiseOn _ 1 v (State.raiseOn_sends sends), fun waits => ?_⟩
  rw [State.raiseOn_port_ne _ 1 v (by decide)]
  exact State.raiseOn_waits (by decide) waits

end

/-! ## A doorbell write that is accepted, and one that arrives (R238, R326) -/

/-- A producer that accepts a doorbell write announces its count and requests blocks of the host: only the gates change. -/
theorem State.acceptDoorbell_producer {s : State} {g r : Nat} (producer : s.isProducer g r = true) (n : Nat) :
    s.acceptDoorbell g r n = { s with gates := (s.acceptDoorbell g r n).gates } ∧
      ((s.acceptDoorbell g r n).ring g r).announced = n := by
  have reads : (s.setRing g r { s.ring g r with announced := n }).ReadsHost g r := by
    unfold State.ReadsHost
    rw [State.ring_setRing]
    intro a arming
    have armed : (s.ring g r).arming = some a := arming
    simp only [State.isProducer, armed, Bool.and_eq_true, beq_iff_eq] at producer
    exact producer.2.1
  obtain ⟨-, gates, announced⟩ := State.RequestsHost.requestRing _ reads
  exact ⟨by unfold State.acceptDoorbell; rw [gates]; rfl, announced.trans (congrArg Ring.announced (s.ring_setRing g r _))⟩

/-- A doorbell write through an open port reaches its gate. -/
theorem PortOpen.ingressDoorbell {s : State} {port g r n : Nat} (h : PortOpen s port) (hg : g < nGates) (hr : r < 1024)
    (hn : n < 2 ^ 32) : exec (.ingressDoorbell port g r n) s = .next (s.doorbell port g r n) := by
  change execIngressDoorbell port g r n s = _
  unfold nGates at hg
  have write : s.writeBar4 port (g * 0x10000 + 8 * r) 8 n = s.doorbell port g r n := by
    have count : n % 2 ^ (8 * 8) % 2 ^ 32 = n := by omega
    have gate : (g * 0x10000 + 8 * r) / 0x10000 = g := by omega
    have ring : (g * 0x10000 + 8 * r) % 0x10000 = 8 * r := by omega
    unfold State.writeBar4
    simp only [count, gate, ring]
    rw [if_neg (by omega), if_pos (by omega), if_neg (by omega), if_pos (by omega), Nat.mul_div_cancel_left r (by decide)]
  rw [execIngressDoorbell, if_pos ⟨hg, hr⟩, h.bar4Write _ _ _ (by omega), write]

/-! ## A held doorbell write (R238, R326, R328) -/

/-- The port holds no doorbell write any more, and nothing waits. -/
def HostPort.released (h : HostPort) : HostPort := { h with held := none, waiting := [] }

/-- A port behind whose held doorbell write nothing waits is released, and nothing else changes. -/
theorem State.releaseHeld_idle {s : State} {port : Nat} (idle : (s.hostPort port).waiting = []) :
    s.releaseHeld port = .next (s.modHost port HostPort.released) := by
  unfold State.releaseHeld
  rw [idle]
  rfl

theorem State.held_modHost_released {s : State} {port : Nat} (hp : port < 2) :
    ((s.modHost port HostPort.released).hostPort port).held = none := congrArg HostPort.held (s.hostPort_setHost port _ hp)

theorem State.pba_modHost_released {s : State} {port : Nat} (hp : port < 2) (q : Nat) :
    ((s.modHost port HostPort.released).hostPort q).pba = (s.hostPort q).pba := by
  by_cases h : q = port
  · subst h
    rw [State.modHost, s.hostPort_setHost q _ hp]
    rfl
  · rw [State.modHost, s.hostPort_setHost_ne _ port q h]

section
variable {s : State} {port g r n : Nat} (hp : port < 2) (held : (s.hostPort port).held = some (g, r, n))
include hp held

theorem execDoorbellAccept_held : exec (.doorbellAccept port) s =
    if !s.isProducer g r then s.dropDoorbell.releaseHeld port
    else if !serialLarger n (s.ring g r).announced then s.releaseHeld port
    else if s.doorbellFits g r n then ((s.acceptDoorbell g r n).raiseVector (ingressVector g)).releaseHeld port
    else .next s := by
  change execDoorbellAccept port s = _
  simp only [execDoorbellAccept, held, Nat.not_le.mpr hp, if_false]

end

/-- Settles O43: the branches of `State.doorbell` and of DOORBELL_ACCEPT, and that an accepted write changes only gates before its
vector rises. -/
theorem doorbellsAnnounceOrWait : Obligations.DoorbellsAnnounceOrWait := by
  unfold Obligations.DoorbellsAnnounceOrWait
  refine ⟨?arrives, ?held⟩
  case arrives =>
    intro s port g r n open_ hg hr hn
    rw [open_.ingressDoorbell hg hr hn]
    refine ⟨fun other => ?_, fun producer small => ?_, fun producer larger fits => ?_, fun producer larger full => ?_⟩
    · simp [State.doorbell, other, State.dropDoorbell]
    · simp [State.doorbell, producer, small]
    · obtain ⟨gates, announced⟩ := State.acceptDoorbell_producer producer n
      refine ⟨_, by simp only [State.doorbell, producer, larger, fits]; rfl, announced, ?_⟩
      rw [gates]
      exact open_.free
    · refine ⟨s.modHost port fun h => { h with held := some (g, r, n) }, by simp [State.doorbell, producer, larger, full],
        congrArg HostPort.held (s.hostPort_setHost port _ open_.bound), fun p hp => s.hostPort_setHost_ne _ port p hp, rfl⟩
  case held =>
    intro s port g r n hp held idle
    rw [execDoorbellAccept_held hp held]
    refine ⟨fun other => ?_, fun producer small => ?_, fun producer larger fits => ?_, fun producer larger full => ?_⟩
    · refine ⟨s.dropDoorbell.modHost port HostPort.released, ?_, State.held_modHost_released hp, rfl, rfl⟩
      rw [other]
      exact State.releaseHeld_idle (s := s.dropDoorbell) idle
    · refine ⟨s.modHost port HostPort.released, ?_, State.held_modHost_released hp, rfl, rfl⟩
      rw [producer, small]
      exact State.releaseHeld_idle idle
    · obtain ⟨gates, announced⟩ := State.acceptDoorbell_producer producer n
      have same : ∀ q, (s.acceptDoorbell g r n).hostPort q = s.hostPort q := fun q => by rw [gates]; rfl
      have port0 := (s.acceptDoorbell g r n).raiseVector_port0 (ingressVector_ne_vecStep g)
      have ports := (s.acceptDoorbell g r n).raiseVector_port (ingressVector_ne_vecStep g) port
      rw [same] at port0 ports
      refine ⟨((s.acceptDoorbell g r n).raiseVector (ingressVector g)).modHost port HostPort.released, ?_,
        State.held_modHost_released hp, ?_, port0.1, fun waits => ?_⟩
      · rw [producer, larger, fits]
        exact State.releaseHeld_idle ((congrArg HostPort.waiting ports).trans idle)
      · refine Eq.trans ?_ announced
        exact congrArg (fun x : Gate => (x.ring r).announced) (State.gate_congr _ _ g (State.raiseVector_gates _ _))
      · rw [State.pba_modHost_released hp]
        exact port0.2 waits
    · simp [producer, larger, full]

end Sys2Proof.Machine
end

section
/-! PROOFS. Rim lanes: the line that a class 0 ring sends, and the line that a gate receives (R209, R214, R218, R220, R432). -/

namespace Sys2Proof.Machine

/-! ## Sending (R209, R218) -/

/-- The gate buffer's corrections are counted (R432). -/
def Gate.noteCorrected (n : Nat) (x : Gate) : Gate := { x with bufCe := satAdd x.bufCe n }

section
variable {s : State} {g r n : Nat} (runs : s.coreRuns = true) (begun : s.frm.originWait = false)
include runs begun

theorem execRimLineSend_none (idle : s.rimLine g r = none) : exec (.rimLineSend g r n) s = .next s := by
  change execRimLineSend g r n s = .next s
  simp [execRimLineSend, runs, begun, idle]

theorem execRimLineSend_some {d : Desc} {b : Block} {k : Nat} (line : s.rimLine g r = some (d, b, k)) :
    exec (.rimLineSend g r n) s =
      if s.rimTaken (frontageTile g d.rimTile) (rimCrossingPort g d.rimPort) then .fault (.undefined .rimCollision)
      else .next ((s.modGate g (Gate.noteCorrected n)).sendRim g r d b k) := by
  change execRimLineSend g r n s = _
  simp only [execRimLineSend, runs, begun, line]
  rfl

end

/-- What it means that a class 0 ring's line is due: the ring may send, the block is its first that is sent in this frame, and the
line is of this cycle and has not been sent. -/
theorem State.rimLine_eq_some {s : State} {g r : Nat} {d : Desc} {b : Block} {k : Nat} (line : s.rimLine g r = some (d, b, k)) :
    ∃ a, (s.ring g r).arming = some a ∧ d = a.d ∧
      (a.blocks.find? fun b => b.go && a.d.dueFrame b.num == s.ringFrame a) = some b ∧
      k = (s.clk.cycle - d.c0) / max 1 d.cs := by
  unfold State.rimLine at line
  dsimp only at line
  split at line
  · cases line
  · next a arming =>
    split at line
    · cases line
    · next c found =>
      split at line
      · split at line
        · cases line
          exact ⟨a, arming, rfl, found, rfl⟩
        · cases line
      · cases line

/-- A ring whose first block of this frame has been sent up to the line of this cycle has no line to send. -/
theorem State.rimLine_sent {s : State} {g r : Nat} {a : Arming} {b : Block} (arming : (s.ring g r).arming = some a)
    (found : (a.blocks.find? fun b => b.go && a.d.dueFrame b.num == s.ringFrame a) = some b)
    (sent : (s.clk.cycle - a.d.c0) / max 1 a.d.cs < b.sent) : s.rimLine g r = none := by
  unfold State.rimLine
  simp only [arming, found]
  split
  · exact if_neg fun h => absurd h.2.2 (Nat.not_le.mpr sent)
  · rfl

/-- The first of some blocks that a predicate picks, replaced together with the blocks of its number, is still the first that the
predicate picks. -/
theorem Arming.find?_setBlock {a : Arming} {p : Block → Bool} {b c : Block} (found : a.blocks.find? p = some b)
    (num : c.num = b.num) (keeps : p c = true) : (a.setBlock c).blocks.find? p = some c := by
  change (a.blocks.map fun x => if x.num = c.num then c else x).find? p = some c
  revert found
  induction a.blocks with
  | nil => exact nofun
  | cons x rest ih =>
    intro found
    rw [List.map_cons]
    by_cases same : x.num = c.num
    · rw [if_pos same, List.find?_cons_of_pos keeps]
    · rw [if_neg same]
      by_cases hx : p x = true
      · rw [List.find?_cons_of_pos hx] at found
        cases found
        exact absurd num.symm same
      · rw [List.find?_cons_of_neg hx] at found ⊢
        exact ih found

/-- A line that is sent is on its way to its tile where the tile's thoroughfare is not lost. -/
theorem State.sendRim_mesh (s : State) (g r : Nat) (d : Desc) (b : Block) (k : Nat) :
    (s.sendRim g r d b k).mesh = if s.thoroughfareLost (regionOf (frontageTile g d.rimTile)) then s.mesh
      else s.mesh ++ [⟨frontageTile g d.rimTile, rimCrossingPort g d.rimPort, s.clk.now + 4, s.clk.now, b.deliver d (64 * k) 64⟩] := by
  unfold State.sendRim
  exact apply_ite State.mesh _ _ _

/-- A line that is sent changes the mesh, and in its ring what of the block has been sent. -/
theorem State.sendRim_frame (s : State) (g r : Nat) (d : Desc) (b : Block) (k : Nat) :
    s.sendRim g r d b k = { s.modRing g r fun x => x.modCurrent fun a => a.setBlock { b with sent := k + 1 } with
      mesh := (s.sendRim g r d b k).mesh } := by
  unfold State.sendRim
  dsimp only
  split <;> rfl

/-- After a line has been sent its ring has none to send in the same cycle. -/
theorem State.sendRim_rimLine {s : State} {g r : Nat} {d : Desc} {b : Block} {k : Nat} (line : s.rimLine g r = some (d, b, k)) :
    (s.sendRim g r d b k).rimLine g r = none := by
  obtain ⟨a, arming, rfl, found, rfl⟩ := State.rimLine_eq_some line
  let k := (s.clk.cycle - a.d.c0) / max 1 a.d.cs
  have sent : ((s.sendRim g r a.d b k).ring g r).arming = some (a.setBlock { b with sent := k + 1 }) := by
    rw [State.sendRim_frame]
    exact (congrArg Ring.arming (s.ring_setRing g r _)).trans (congrArg (Option.map _) arming)
  have due := List.find?_some found
  have first : (a.setBlock { b with sent := k + 1 }).blocks.find? (fun c => c.go && a.d.dueFrame c.num == s.ringFrame a) =
      some { b with sent := k + 1 } := Arming.find?_setBlock found rfl due
  have clocks : (s.sendRim g r a.d b k).frm = s.frm ∧ (s.sendRim g r a.d b k).clk = s.clk := by
    rw [State.sendRim_frame]
    exact ⟨rfl, rfl⟩
  obtain ⟨frame, cycle⟩ := clocks
  refine State.rimLine_sent sent (b := { b with sent := k + 1 }) ?_ ?_
  · unfold State.ringFrame
    rw [frame]
    exact first
  · rw [cycle]
    exact Nat.lt_succ_self k

theorem State.rimLine_noteCorrected (s : State) (g r n : Nat) :
    (s.modGate g (Gate.noteCorrected n)).rimLine g r = s.rimLine g r := by
  have ring : (s.modGate g (Gate.noteCorrected n)).ring g r = s.ring g r := by
    change ((s.setGate g (Gate.noteCorrected n (s.gate g))).gate g).ring r = _
    rw [State.gate_setGate]
    rfl
  unfold State.rimLine
  rw [ring]
  rfl

/-! ## Receiving (R220, R432) -/

section
variable {s : State} {g : Nat} {f : RimFlight}
  (oldest : (s.rim.find? fun f => f.gate == g && decide (f.due ≤ s.clk.now)) = some f)
include oldest

theorem execRimLineReceive_unclaimed (claims : s.rimClaims g f (s.clk.cycle - (s.clk.now - f.due)) = []) :
    exec (.rimLineReceive g) s =
      .next (({ s with rim := s.rim.erase f } : State).modGate g fun x => { x with rimDrop := satAdd x.rimDrop 1 }) := by
  change execRimLineReceive g s = _
  simp only [execRimLineReceive, oldest, claims]

theorem execRimLineReceive_claimed {r j k : Nat} (claims : s.rimClaims g f (s.clk.cycle - (s.clk.now - f.due)) = [(r, j, k)]) :
    exec (.rimLineReceive g) s = .next (({ s with rim := s.rim.erase f } : State).storeRim g r j k f.data) := by
  change execRimLineReceive g s = _
  simp only [execRimLineReceive, oldest, claims]

theorem execRimLineReceive_collides (claims : 2 ≤ (s.rimClaims g f (s.clk.cycle - (s.clk.now - f.due))).length) :
    exec (.rimLineReceive g) s = .fault (.undefined .rimCollision) := by
  change execRimLineReceive g s = _
  simp only [execRimLineReceive, oldest]
  split
  · next none_ => simp [none_] at claims
  · next one => simp [one] at claims
  · rfl

end

/-- A changed block that keeps its number is found in the place of the old one. -/
theorem Arming.block?_modBlock {a : Arming} {j : Nat} {f : Block → Block} {b : Block} (found : a.block? j = some b)
    (num : ∀ x, (f x).num = x.num) : (a.modBlock j f).block? j = some (f b) := by
  have step : ∀ x : Block, (if x.num = j then f x else x).num = x.num := by
    intro x
    split
    · exact num x
    · rfl
  have same : b.num = j := by simpa using List.find?_some found
  change (a.blocks.map fun x => if x.num = j then f x else x).find? (fun x => x.num == j) = _
  rw [List.find?_map]
  have test : ((fun x : Block => x.num == j) ∘ fun x => if x.num = j then f x else x) = fun x => x.num == j :=
    funext fun x => congrArg (· == j) (step x)
  rw [test, show a.blocks.find? (fun x => x.num == j) = some b from found, Option.map_some, if_pos same]

/-- Settles O44: a sent line leaves its block sent past it, and a received one goes by how many rings claim it. -/
theorem rimLanesCarryLines : Obligations.RimLanesCarryLines := by
  unfold Obligations.RimLanesCarryLines
  refine ⟨fun s g r n runs begun => ⟨execRimLineSend_none runs begun, fun d b k line => ?send⟩,
    fun s g f oldest => ⟨fun claims => ?dropped, fun r j k a b claims arming block => ?stored,
      execRimLineReceive_collides oldest⟩⟩
  case send =>
    rw [execRimLineSend_some runs begun line]
    refine ⟨fun taken => if_pos taken, fun free => ?_⟩
    have mesh := (s.modGate g (Gate.noteCorrected n)).sendRim_mesh g r d b k
    refine ⟨_, by rw [free]; rfl, ?_, ?_, fun kept => mesh.trans (if_neg (Bool.eq_false_iff.mp kept)),
      fun lost => mesh.trans (if_pos lost), State.sendRim_rimLine ((s.rimLine_noteCorrected g r n).trans line), ?_⟩
    all_goals rw [State.sendRim_frame]
    · rfl
    · rfl
    · exact (congrArg Gate.bufCe (State.gate_setGate _ g _)).trans (congrArg Gate.bufCe (s.gate_setGate g _))
  case dropped =>
    exact ⟨_, execRimLineReceive_unclaimed oldest claims, rfl, rfl, State.gate_setGate _ g _⟩
  case stored =>
    refine ⟨_, a.modBlock j fun b => { b with bytes := b.bytes.putBytes (64 * k) f.data }, _,
      execRimLineReceive_claimed oldest claims, rfl, rfl, ?_, Arming.block?_modBlock block fun _ => rfl, ?_⟩
    · exact (congrArg Ring.arming (State.ring_setRing _ g r _)).trans (congrArg (Option.map _) arming)
    · rfl

end Sys2Proof.Machine
end

section
/-! PROOFS. A stack transfer completes while data of an ended frame waits for its ring: what waits comes in, and the writes that
are still in flight are stamped with that frame's EOF (R225, R294, R302). -/

namespace Sys2Proof.Machine

/-! ## A class 3 ring whose link still holds data of an ended frame -/

/-- The descriptor of a class 3 ring that takes stream 0 of link port 0: 2,048 elements of 2 bytes in one block of 64 lines. -/
def linkStreamDesc : List Byte :=
  [3, 1, 0, 0] ++ leBytes 4 0 ++ leBytes 4 2048 ++ leBytes 4 1 ++ leBytes 4 1 ++ leBytes 4 1 ++ leBytes 4 1 ++ leBytes 2 64 ++
    List.replicate 90 0

/-- The ring's walk, of which nothing waits in the gate buffer. -/
def linkStreamArming : Arming :=
  { gen := 0, seq := 1, desc := linkStreamDesc, origin := 0, released := 0, requested := 0, blocks := [], delivered := 0,
    packPos := 0, packCarry := [], ecc := false, finalPosted := false, received := 0 }

/-- A write of the ring's block 0 in flight, which no EOF counts yet, and the same one counted by the EOF of frame 0. -/
def uncountedWrite : StackFlight := ⟨.ring 5 0 0, true, 0, 4096, 64, [], [], none⟩
def countedWrite : StackFlight := { uncountedWrite with eof := some 0 }

/-- Two writes of ring 5 of gate 0 are in flight, and 64 bytes of frame 0, whose EOF has come, wait in link port 0. -/
def lateLinkData : State :=
  { State.reset with
    gates := [(0, { Gate.reset with
      rings := [(5, { Ring.reset with state := .active, arming := some linkStreamArming })]
      flights := [uncountedWrite, uncountedWrite] })]
    ports := vset State.reset.ports 0 { Port.reset with rxq := [(0, 0, List.replicate 64 7, 0)], eofIn := 1 } }

/-- The transfers in flight at gate 0 after a step that goes on. -/
def flightsAfter : Outcome → List StackFlight
  | .next t => (t.gate 0).flights
  | _ => []

/-- The first write ends, the waiting bytes come in, and their flush counts the second write with the EOF of frame 0. -/
theorem lateLinkData_completes :
    flightsAfter (exec (.stackTransferComplete 0 0 cleanReport) lateLinkData) = [countedWrite] := by decide +kernel

/-- Refutes O42: where a transfer's end lets data of an ended frame into its class 3 ring, the ring's writes that are still in flight
are stamped with that frame's EOF (R302), so what is in flight is not what was there before without the transfer that ended. -/
theorem not_transfersCompleteAndHostReadsEnd : ¬ Obligations.TransfersCompleteAndHostReadsEnd := by
  unfold Obligations.TransfersCompleteAndHostReadsEnd
  rintro ⟨-, ends, -⟩
  obtain ⟨t, next, flights, -⟩ := ends lateLinkData 0 0 cleanReport uncountedWrite rfl
  have counted := lateLinkData_completes
  rw [next] at counted
  have uncounted : (t.gate 0).flights = [uncountedWrite] := flights
  exact absurd (uncounted.symm.trans counted) (by decide)

end Sys2Proof.Machine
end

section
/-! PROOFS. A COOL_OK stop and the restart after it (R256, R357 to R359). -/

namespace Sys2Proof.Machine

/-- Nothing changes but tiles, regions, the frame's flags and records, the spines' clock and code, a stop and Night with their
counters, the group with its ports and messages, and what vectors change. -/
def State.StopWork (s t : State) : Prop :=
  t = { s with
    clk := { s.clk with running := t.clk.running, code := t.clk.code, nextCode := t.clk.nextCode }
    tiles := t.tiles
    regions := t.regions
    numNow := t.numNow
    err := { s.err with frame := t.err.frame }
    plan := { s.plan with failNext := t.plan.failNext }
    setAt := t.setAt
    pwr := { s.pwr with coolStop := t.pwr.coolStop, night := t.pwr.night, nightCount := t.pwr.nightCount, events := t.pwr.events }
    upd := t.upd
    group := t.group
    ports := t.ports
    host := t.host
    out := t.out }

namespace State.StopWork

theorem refl (s : State) : s.StopWork s := rfl

theorem trans {s t u : State} (h : s.StopWork t) (k : t.StopWork u) : s.StopWork u := by
  unfold State.StopWork at *
  rw [k, h]

theorem syncTiles (s : State) : s.StopWork s.syncTiles := by
  rw [State.TilesOnly.syncTiles s]
  rfl

theorem enterNight (s : State) : s.StopWork s.enterNight := by
  rw [State.enterNight_frame]
  rfl

theorem powerEvent (s : State) (n : Nat) : s.StopWork (s.powerEvent n) := by
  rw [State.powerEvent_frame]
  rfl

theorem addError (s : State) (k : ErrKind) (fails : Bool) : s.StopWork (s.addError k fails) := rfl

/-- The group is told of a stop and dissolved (R309, R357). -/
theorem tellGroup (s : State) (m : SyncMsg) : s.StopWork (if s.grouped then ((s.floodAbort 1).flood m none).unform else s) := by
  have told : s.StopWork ((s.floodAbort 1).flood m none).unform := by
    rw [State.flood_frame, State.floodAbort_frame]
    rfl
  exact ite_related told (refl s)

theorem coolStop (s : State) : s.StopWork s.coolStop := by
  have stopping : ∀ u : State, u.StopWork { u with pwr := { u.pwr with coolStop := true } } := fun _ => rfl
  have stopped : ∀ (u : State) (m : Map Region), u.StopWork { u with clk := { u.clk with running := false }, regions := m } :=
    fun _ _ => rfl
  have night := (syncTiles s).trans (enterNight _)
  have reported := ((night.trans (stopping _)).trans (powerEvent _ 1)).trans (addError _ .coolStop true)
  unfold State.coolStop
  exact ite_related (refl s) ((reported.trans (tellGroup _ _)).trans (stopped _ _))

end State.StopWork

/-- Night is in force in a stop, at code 40 where it begins with the stop (R355, R357). -/
theorem State.coolStop_night {s : State} (free : s.pwr.coolStop = false) :
    s.coolStop.pwr.night = true ∧ (s.pwr.night = false → s.coolStop.clk.code = 40) := by
  have told : ∀ (u : State) (m : SyncMsg),
      (if u.grouped then ((u.floodAbort 1).flood m none).unform else u).pwr = u.pwr ∧
        (if u.grouped then ((u.floodAbort 1).flood m none).unform else u).clk = u.clk := by
    intro u m
    split
    · rw [State.unform_pwr, State.unform_clk, State.flood_frame, State.floodAbort_frame]
      exact ⟨rfl, rfl⟩
    · exact ⟨rfl, rfl⟩
  have event : ∀ u : State, (u.powerEvent 1).pwr.night = u.pwr.night ∧ (u.powerEvent 1).clk = u.clk := by
    intro u
    rw [State.powerEvent_frame]
    exact ⟨rfl, rfl⟩
  have day : s.syncTiles.pwr.night = s.pwr.night := by rw [State.TilesOnly.syncTiles s]
  have begins : s.pwr.night = false → s.syncTiles.enterNight.clk.code = 40 := by
    intro light
    unfold State.enterNight
    rw [if_neg (by simp [day, light]), State.powerEvent_frame]
  unfold State.coolStop
  rw [if_neg (by simp [free])]
  dsimp only
  rw [(told _ _).1, (told _ _).2, State.addError_pwr, State.addError_clk, (event _).1, (event _).2]
  exact ⟨State.enterNight_night _, begins⟩

/-- What a stack is doing goes by the gates, the time and Dawn (R263, R264). -/
theorem State.stackPhase_congr {s t : State} (gates : t.gates = s.gates) (wall : t.clk.wall = s.clk.wall) (dawn : t.dawn = s.dawn)
    (g : Nat) : t.stackPhase g = s.stackPhase g := by
  simp only [State.stackPhase, State.gate_congr s t g gates, wall, dawn]

/-- A stop puts every stack that has power into self refresh (R256, R258). -/
theorem State.stackNow_coolStop {s : State} (free : s.pwr.coolStop = false) (g : Nat) : s.coolStop.stackNow g =
    if s.stackPhase g = .off ∨ s.stackPhase g = .failed then s.stackPhase g else .selfRefresh := by
  obtain ⟨stopped, -⟩ := s.coolStop_spec free
  have phase : s.coolStop.stackPhase g = s.stackPhase g := by
    have work := State.StopWork.coolStop s
    exact State.stackPhase_congr (by rw [work]) (by rw [work]) (by rw [work]) g
  unfold State.stackNow
  simp only [phase, stopped, true_and]
  by_cases dead : s.stackPhase g = .off ∨ s.stackPhase g = .failed
  · rw [if_pos dead, if_neg fun powered => dead.elim powered.1 powered.2]
  · rw [if_neg dead, if_pos (not_or.mp dead)]

/-- Settles O10: COOL_OK's level goes down in a stop, which begins Night and stops the spines, and the levels alone change in
the other two commands. -/
theorem coolOkStopsAndRestarts : Obligations.CoolOkStopsAndRestarts := by
  unfold Obligations.CoolOkStopsAndRestarts
  refine ⟨fun s on free => ?stop, fun s low => if_neg (by simp [low]), fun s stopped high cold => ⟨fun due => ?_, fun early => ?_⟩⟩
  case stop =>
    generalize low : ({ s with pwr := { s.pwr with coolOk := false, restart := false } } : State) = u
    have run : exec .coolOkDeassert s = .next u.coolStop := by
      rw [← low]
      exact congrArg Host.Outcome.next (if_pos on)
    have work := State.StopWork.coolStop u
    have clear : u.pwr.coolStop = false := by rw [← low]; exact free
    obtain ⟨stopped, still, tiles, stack, frm, fails⟩ := u.coolStop_spec clear
    obtain ⟨night, code⟩ := State.coolStop_night clear
    have now := State.stackNow_coolStop clear
    have level : u.coolStop.pwr.coolOk = false := by
      rw [work, ← low]
    have gates : u.coolStop.gates = u.gates := by rw [work]
    subst low
    exact ⟨_, run, level, stopped, night, code, still, fails, now, stack, gates, frm, tiles⟩
  · exact if_pos (by simp [stopped, high, cold, due])
  · exact if_neg (by simp only [not_and]; intros; omega)

end Sys2Proof.Machine
end

section
/-! PROOFS. The trial watchdog: Dawn begins again on the other image, and the counters of the stacks stay (R258, R403). -/

namespace Sys2Proof.Machine

/-! ## The end of the trial (R402, R403) -/

/-- A boot that is no trial leaves none, and no activation (R396, R403). -/
theorem State.selectImage_noTrial {s : State} (trial : s.sector.trial = false) (activation : s.sector.activation = false) :
    s.selectImage.1.sector.trial = false ∧ s.selectImage.1.sector.activation = false := by
  unfold State.selectImage
  dsimp only
  rw [trial, activation]
  split
  · exact ⟨rfl, rfl⟩
  · split
    · exact ⟨rfl, rfl⟩
    · exact ⟨trial, activation⟩

theorem State.readConfig_sector (s : State) : s.readConfig.sector = s.sector := by
  have record : s.readRecord.1.sector = s.sector := by
    unfold State.readRecord
    extract_lets run usable
    split
    · split <;> rfl
    · rfl
  have installed : ∀ (u : State) (m : List Byte), (u.installMap m).sector = u.sector := by
    intro u m
    unfold State.installMap
    split <;> rfl
  have logged : ∀ (c : Bool) (u : State) (d : List Byte), (if c then u.logRecord 13 d else u).sector = u.sector := by
    intro c u d
    split <;> rfl
  unfold State.readConfig
  dsimp only
  rw [logged, installed]
  exact record

theorem State.dawnLines_sector (s : State) : s.dawnLines.sector = s.sector := by
  have stopped : ∀ (c : Bool) (u : State), (if c then u else u.coolStop).sector = u.sector := by
    intro c u
    split
    · rfl
    · rw [State.StopWork.coolStop u]
  unfold State.dawnLines
  dsimp only
  rw [stopped]
  split
  · rfl
  · exact s.enterNight_sector

/-- Dawn that begins with no trial and no activation pending leaves none. -/
theorem State.beginDawn_noTrial {s : State} (trial : s.sector.trial = false) (activation : s.sector.activation = false)
    (straps cause : Nat) :
    (s.beginDawn straps cause).sector.trial = false ∧ (s.beginDawn straps cause).sector.activation = false := by
  have written : s.settleMap.finishWrites.sector = s.sector := by
    rw [(State.finishWrites_keeps _).1, State.settleMap_frame]
  unfold State.beginDawn
  generalize fresh : (s.settleMap.finishWrites.dawnState straps cause).freshNonce = d
  have sector : d.sector = s.sector := by rw [← fresh]; exact written
  have booted := State.selectImage_noTrial (s := d) (by rw [sector]; exact trial) (by rw [sector]; exact activation)
  dsimp only
  split
  · exact booted
  · rw [State.dawnLines_sector]
    dsimp only
    rw [State.readConfig_sector]
    exact booted

/-! ## The gates and their counters (R258, R390) -/

/-- Where all numbers of a list stand for the same value, each is found with it. -/
theorem Map.find?_map_const {α : Type} {x : α} {g : Nat} {l : List Nat} (h : g ∈ l) :
    Map.find? (l.map fun k => (k, x)) g = some x := by
  induction l with
  | nil => exact absurd h List.not_mem_nil
  | cons k rest ih =>
    simp only [List.map_cons, Map.find?]
    split
    · rfl
    · next other => exact ih ((List.mem_cons.mp h).resolve_left fun e => other e.symm)

/-- Every gate is listed when Dawn begins. -/
theorem State.beginDawn_listed (s : State) (straps cause : Nat) {g : Nat} (hg : g < nGates) :
    ∃ x, Map.find? (s.beginDawn straps cause).gates g = some x := by
  rw [s.beginDawn_work straps cause]
  exact ⟨_, Map.find?_map_const (List.mem_range.mpr hg)⟩

/-! ## The fallback (R258, R403) -/

/-- The state in which the other image's Dawn begins: pending writes have ended, and there is no trial. -/
def State.trialOver (s : State) : State :=
  let u := s.settleMap.finishWrites
  { u with sector := { u.sector with trial := false, activation := false } }

theorem State.trialOver_frame (s : State) :
    s.trialOver.clk = s.clk ∧ s.trialOver.frm = s.frm ∧ s.trialOver.hostRegs = s.hostRegs := by
  unfold State.trialOver
  dsimp only
  rw [State.finishWrites, State.storeMap_frame, State.storeOwner_frame, State.settleMap_frame]
  exact ⟨rfl, rfl, rfl⟩

/-- Dawn that has begun (t) on the other image, with what no full reset has cleared (R258, R403). -/
def State.fallenBack (s t : State) : State :=
  { t with
    host := s.host
    gates := Map.mapVals (fun g (x : Gate) => x.withCounters (s.gate g)) t.gates
    log := { t.log with added := s.log.added }
    ctl := { t.ctl with fallback := true }
    dawn := { t.dawn with fellBack := true } }

/-- A listed gate has the counters that it had; one that is not listed stays at reset. -/
theorem State.gate_fallenBack (s t : State) (g : Nat) :
    (∃ x, Map.find? t.gates g = some x ∧ (s.fallenBack t).gate g = (t.gate g).withCounters (s.gate g)) ∨
      Map.find? t.gates g = none ∧ (s.fallenBack t).gate g = t.gate g := by
  have found : Map.find? (s.fallenBack t).gates g = _ := Map.find?_mapVals (fun g (x : Gate) => x.withCounters (s.gate g)) t.gates g
  cases old : Map.find? t.gates g with
  | none =>
    rw [old] at found
    exact .inr ⟨rfl, by rw [State.gate, State.gate, Map.getD, Map.getD, found, old]; rfl⟩
  | some x =>
    rw [old] at found
    exact .inl ⟨x, rfl, by rw [State.gate, State.gate, Map.getD, Map.getD, found, old]; rfl⟩

theorem State.fallenBack_begun {s t : State} {wall straps cause : Nat} (begun : DawnBegun t wall straps cause) :
    DawnBegun (s.fallenBack t) wall straps cause :=
  { begun with
    gates := fun g => by
      rcases s.gate_fallenBack t g with ⟨x, -, listed⟩ | ⟨-, other⟩
      · rw [listed]
        exact begun.gates g
      · rw [other]
        exact begun.gates g }

/-- Settles O8: no trial is left when Dawn begins again, and every gate that it lists takes the counters it had. -/
theorem trialWatchdogFallsBack : Obligations.TrialWatchdogFallsBack := by
  unfold Obligations.TrialWatchdogFallsBack
  refine fun s on free boot trial early => ⟨fun due => ?falls, fun soon => if_neg ?_⟩
  case falls =>
    generalize begins : s.trialOver.beginDawn s.trialOver.hostRegs.straps s.dawn.resetCause = d
    have run : exec .trialWatchdog s = .next (((s.fallenBack d).noteSet .fw 5).logFirmware 5 d.ctl.image) := by
      rw [← begins]
      exact if_pos (by simp [on, free, boot, trial, early, due])
    obtain ⟨clk, frm, regs⟩ := s.trialOver_frame
    have plain := State.beginDawn_noTrial (s := s.trialOver) rfl rfl s.trialOver.hostRegs.straps s.dawn.resetCause
    have begun := s.trialOver.beginDawn_begun s.trialOver.hostRegs.straps s.dawn.resetCause
    have count := (s.trialOver.beginDawn_counts s.trialOver.hostRegs.straps s.dawn.resetCause).1
    have listed := fun g => s.trialOver.beginDawn_listed s.trialOver.hostRegs.straps s.dawn.resetCause (g := g)
    rw [begins, clk, regs] at begun
    rw [begins, frm] at count
    rw [begins] at plain listed
    have back : DawnBegun (s.fallenBack d) _ _ _ := State.fallenBack_begun begun
    refine ⟨_, run, plain.1, plain.2, rfl, { back with }, count, fun g hg => ?_⟩
    obtain ⟨x, found⟩ := listed g hg
    rcases s.gate_fallenBack d g with ⟨-, -, counted⟩ | ⟨unlisted, -⟩
    · have now : (((s.fallenBack d).noteSet .fw 5).logFirmware 5 d.ctl.image).gate g = (d.gate g).withCounters (s.gate g) := counted
      rw [now]
      exact ⟨rfl, rfl, rfl, rfl⟩
    · exact absurd (found.symm.trans unlisted) (Option.some_ne_none x)
  · rintro ⟨-, -, -, -, -, due⟩
    omega

end Sys2Proof.Machine
end

section
/-! PROOFS. The refresh debt of a gate: how it grows, and the refreshes that pay it (R252 to R254, R263). -/

namespace Sys2Proof.Machine

/-! ## The debt and a refresh (R252, R253) -/

/-- While time passes the debt grows by it, and by twice as much in a hot stack. -/
theorem Gate.debtAtWall_add {x : Gate} {wall : Nat} (counted : x.debtAt ≤ wall) (n : Nat) :
    x.debtAtWall (wall + n) = x.debtAtWall wall + n * (if x.hot then 2 else 1) := by
  unfold Gate.debtAtWall
  rw [show wall + n - x.debtAt = wall - x.debtAt + n by omega, Nat.add_mul, Nat.add_assoc]

/-- A refresh pays one unit of the debt. -/
theorem Gate.debtAtWall_refresh {x : Gate} {wall : Nat} (forced : Bool) (due : refreshUnit ≤ x.debtAtWall wall) :
    (x.refresh wall forced).debtAtWall wall + refreshUnit = x.debtAtWall wall := by
  have none_ : wall - max x.debtAt wall = 0 := by omega
  unfold Gate.refresh Gate.accrue
  rw [Gate.debtAtWall]
  dsimp only
  rw [none_, Nat.zero_mul, Nat.add_zero, Nat.sub_add_cancel due]

/-- The slot taken last does not count for the debt. -/
theorem Gate.debtAtWall_slotAt (x : Gate) (taken : Option Nat) (wall : Nat) :
    ({ x with slotAt := taken } : Gate).debtAtWall wall = x.debtAtWall wall := rfl

/-- A refresh closes the stack for a time that has not passed. -/
theorem Gate.refresh_closes (x : Gate) (wall : Nat) (forced : Bool) : wall < (x.refresh wall forced).refreshUntil := by
  have long : 0 < 410 * wallPerNs := by decide
  change wall < max (max wall x.busyUntil) x.refreshUntil + 410 * wallPerNs
  omega

/-! ## No transfer beside a refresh (R254) -/

theorem State.canIssue_refreshing {s : State} {g : Nat} (open_ : s.clk.wall < (s.gate g).refreshUntil) : s.canIssue g = false := by
  simp [State.canIssue, open_]

theorem State.canIssue_forced {s : State} {g : Nat} (due : 8 * refreshUnit ≤ (s.gate g).debtAtWall s.clk.wall) :
    s.canIssue g = false := by
  simp [State.canIssue, Gate.forced, due]

/-! ## The two commands (R253, R254, R263) -/

section
variable {s : State} {g : Nat}

theorem execRefreshSlot_taken (hg : g < nGates) (kept : s.refreshes g = true) (slot : s.slotNow g = true)
    (due : refreshUnit ≤ (s.gate g).debtAtWall s.clk.wall) :
    exec (.refreshSlot g) s = .next (s.setGate g { (s.gate g).refresh s.clk.wall false with slotAt := some s.clk.now }) :=
  if_pos ⟨hg, kept, slot, due⟩

theorem execRefreshSlot_idle (no : s.refreshes g = false ∨ s.slotNow g = false ∨ (s.gate g).debtAtWall s.clk.wall < refreshUnit) :
    exec (.refreshSlot g) s = .next s := by
  refine if_neg ?_
  rintro ⟨-, kept, slot, due⟩
  rcases no with off | none_ | low
  · exact absurd kept (by simp [off])
  · exact absurd slot (by simp [none_])
  · omega

theorem execForcedRefresh_taken (hg : g < nGates) (kept : s.refreshes g = true) (busy : (s.gate g).busyUntil ≤ s.clk.wall)
    (closed : (s.gate g).refreshUntil ≤ s.clk.wall) (due : 8 * refreshUnit ≤ (s.gate g).debtAtWall s.clk.wall) :
    exec (.forcedRefresh g) s = .next (s.setGate g ((s.gate g).refresh s.clk.wall true)) :=
  if_pos ⟨hg, kept, decide_eq_true due, closed, busy⟩

theorem execForcedRefresh_idle (no : s.refreshes g = false ∨ (s.gate g).debtAtWall s.clk.wall < 8 * refreshUnit ∨
    s.clk.wall < (s.gate g).busyUntil ∨ s.clk.wall < (s.gate g).refreshUntil) : exec (.forcedRefresh g) s = .next s := by
  refine if_neg ?_
  rintro ⟨-, kept, due, closed, busy⟩
  have eight : 8 * refreshUnit ≤ (s.gate g).debtAtWall s.clk.wall := of_decide_eq_true due
  rcases no with off | low | moving | open_
  · exact absurd kept (by simp [off])
  all_goals omega

/-- A slot of the frame that a refresh has taken is taken once only. -/
theorem State.slotNow_taken {x : Gate} (plain : s.stretched = false) :
    (s.setGate g { x with slotAt := some s.clk.now }).slotNow g = false := by
  have still : (s.setGate g { x with slotAt := some s.clk.now }).stretched = false := plain
  simp only [State.slotNow, still, State.gate_setGate]
  simp

end

/-- Settles O41: either command refreshes the gate or changes nothing, by its conditions, and a refresh pays one unit. -/
theorem refreshesPayTheDebt : Obligations.RefreshesPayTheDebt := by
  unfold Obligations.RefreshesPayTheDebt
  refine ⟨fun s g hg => ⟨fun off => ⟨execRefreshSlot_idle (.inl off), execForcedRefresh_idle (.inl off)⟩,
      fun kept => ⟨fun slot due => ?slot, fun no => execRefreshSlot_idle (.inr no), fun busy closed due => ?forced,
        fun no => execForcedRefresh_idle (.inr no)⟩⟩,
    fun s g due => State.canIssue_forced due, fun x w n counted => ?grows⟩
  case slot =>
    have closes := (s.gate g).refresh_closes s.clk.wall false
    refine ⟨_, execRefreshSlot_taken hg kept slot due, ?_, ?_, ?_, ?_, State.canIssue_refreshing ?_, ?_, State.slotNow_taken,
      fun k hk => State.gate_setGate_ne s _ g k hk, rfl⟩
    all_goals rw [State.gate_setGate]
    · rw [Gate.debtAtWall_slotAt]
      exact Gate.debtAtWall_refresh false due
    · rfl
    · rfl
    · rfl
    · exact closes
    · rfl
  case forced =>
    have one : refreshUnit ≤ (s.gate g).debtAtWall s.clk.wall := by omega
    have now : max (max s.clk.wall (s.gate g).busyUntil) (s.gate g).refreshUntil = s.clk.wall := by omega
    have closes := (s.gate g).refresh_closes s.clk.wall true
    refine ⟨_, execForcedRefresh_taken hg kept busy closed due, ?_, ?_, ?_, ?_, State.canIssue_refreshing ?_,
      fun k hk => State.gate_setGate_ne s _ g k hk, rfl⟩
    all_goals rw [State.gate_setGate]
    · exact Gate.debtAtWall_refresh true one
    · rfl
    · rfl
    · exact congrArg (· + 410 * wallPerNs) now
    · exact closes
  case grows =>
    rw [Gate.debtAtWall_add counted]
    exact ⟨fun cool => by simp [cool], fun hot => by simp [hot, Nat.mul_comm]⟩

end Sys2Proof.Machine
end

section
/-! PROOFS. The end of a stack's wipe, and its second sequence after 2 s without power (R252, R262 to R264). -/

namespace Sys2Proof.Machine

/-! ## A range that is erased (R262) -/

theorem Memory.read_of_notListed {m : Memory} {a : Nat} (h : ∀ c ∈ m, c.1 ≠ a) : m.read a = 0 := by
  induction m with
  | nil => rfl
  | cons c rest ih =>
    have below := ih fun d hd => h d (List.mem_cons_of_mem c hd)
    have other : c.1 ≠ a := h c List.mem_cons_self
    simp [Memory.read, other, below]

/-- An address whose entry a filter keeps reads as before. -/
theorem Memory.read_filter {p : Host.Cell → Bool} {m : Memory} {lo : Option Nat} {a : Nat} (h : m.wfAbove lo = true)
    (kept : ∀ c ∈ m, c.1 = a → p c = true) : Memory.read (m.filter p) a = m.read a := by
  induction m generalizing lo with
  | nil => rfl
  | cons c rest ih =>
    obtain ⟨k, v⟩ := c
    simp only [Memory.wfAbove, Bool.and_eq_true] at h
    have same := ih h.2 fun d hd => kept d (List.mem_cons_of_mem _ hd)
    by_cases keep : p (k, v) = true
    · rw [List.filter_cons_of_pos keep, Memory.read, Memory.read, same]
    · have other : k ≠ a := fun e => keep (kept (k, v) List.mem_cons_self e)
      rw [List.filter_cons_of_neg keep, same, Memory.read, if_neg other]
      split
      · next below => exact Memory.read_of_wfAbove rest k a h.2 (Nat.le_of_lt below)
      · rfl

theorem ownerGate_eq_iff {a g : Nat} : ownerGate a = g ↔ g * sliceBytes ≤ a ∧ a < g * sliceBytes + sliceBytes := by
  unfold ownerGate sliceBytes
  omega

/-- A burst lies in one slice. -/
theorem ownerGate_burst (a : Nat) : ownerGate (32 * (a / 32)) = ownerGate a := by
  unfold ownerGate sliceBytes
  omega

section
variable {s : State} {g : Nat}

theorem State.read_blankSlice {a : Nat} (owner : ownerGate a = g) : (s.blankSlice g).stack.read a = 0 := by
  obtain ⟨from_, to_⟩ := ownerGate_eq_iff.mp owner
  refine Memory.read_of_notListed fun c hc e => ?_
  have out := (List.mem_filter.mp hc).2
  simp only [Bool.or_eq_true, decide_eq_true_eq] at out
  omega

theorem State.read_blankSlice_other (wf : s.stack.wf = true) {a : Nat} (owner : ownerGate a ≠ g) :
    (s.blankSlice g).stack.read a = s.stack.read a := by
  refine Memory.read_filter wf fun c _ e => ?_
  have out := mt ownerGate_eq_iff.mpr owner
  simp only [Bool.or_eq_true, decide_eq_true_eq]
  omega

theorem State.clean_blankSlice {a : Nat} (owner : ownerGate a = g) : a / 32 ∉ (s.blankSlice g).stackUe := by
  intro listed
  have other := (List.mem_filter.mp listed).2
  rw [ownerGate_burst, owner] at other
  simp at other

/-! ## The end of a wipe (R262 to R264) -/

/-- The stack's rows have been repaired, in its first sequence, and its stage has ended (R259, R368). -/
def State.wipeEnded (s : State) (g : Nat) (init : StackInit) : State :=
  let u := if (s.gate g).reinit.isSome ∨ s.sector.state = .scrap then s else s.repairRows g init
  { u with dawn := { u.dawn with stageEnd := u.clk.wall } }

/-- The repair of rows changes the log and its own gate (R259). -/
theorem State.repairRows_keeps (s : State) (g : Nat) (init : StackInit) :
    (s.repairRows g init).stack = s.stack ∧ (s.repairRows g init).clk = s.clk ∧
      ∀ k, k ≠ g → (s.repairRows g init).gate k = s.gate k := by
  have rows : ∀ (l : List (Nat × Nat × Bool)) (n : Nat) (u : State),
      l.foldl (fun s e => s.logRow g e n) u = { u with log := (l.foldl (fun s e => s.logRow g e n) u).log } :=
    fun l n => foldl_related (fun a b : State => b = { a with log := b.log }) (fun _ => rfl) (fun h k => by rw [k, h]) _
      (fun _ _ => rfl) l
  unfold State.repairRows
  extract_lets l keep log listed repaired missing
  have same : missing = { s with log := missing.log } :=
    (rows keep 2 repaired).trans (congrArg (fun u : State => { u with log := missing.log }) (rows _ 1 listed))
  refine ⟨?_, ?_, fun k hk => (State.gate_setGate_ne missing _ g k hk).trans (State.gate_congr s missing k ?_)⟩
  · change missing.stack = s.stack
    rw [same]
  · change missing.clk = s.clk
    rw [same]
  · rw [same]

theorem State.wipeEnded_keeps (s : State) (g : Nat) (init : StackInit) :
    (s.wipeEnded g init).stack = s.stack ∧ (s.wipeEnded g init).clk = s.clk ∧
      ∀ k, k ≠ g → (s.wipeEnded g init).gate k = s.gate k := by
  unfold State.wipeEnded
  dsimp only
  split
  · exact ⟨rfl, rfl, fun _ _ => rfl⟩
  · exact s.repairRows_keeps g init

/-- A wipe that ends: READY; FAILED, the second time; or without power for 2 s. -/
def State.afterWipe (s : State) (g : Nat) (ok again : Bool) : State :=
  if ok then s.stackUp g
  else if again then s.modGate g fun x => { x with stackState := .failed, reinit := none }
  else s.stackPowerOff g

theorem State.gate_afterWipe_ne (s : State) {k : Nat} (hk : k ≠ g) (ok again : Bool) :
    (s.afterWipe g ok again).gate k = s.gate k := by
  have blank : ∀ x : Gate, ((s.blankSlice g).setGate g x).gate k = s.gate k := fun x => State.gate_setGate_ne (s.blankSlice g) x g k hk
  unfold State.afterWipe
  split
  · exact blank _
  · split
    · exact State.gate_setGate_ne s _ g k hk
    · exact blank _

theorem State.read_afterWipe_other (wf : s.stack.wf = true) {a : Nat} (owner : ownerGate a ≠ g) (ok again : Bool) :
    (s.afterWipe g ok again).stack.read a = s.stack.read a := by
  have blank := State.read_blankSlice_other wf owner
  unfold State.afterWipe
  split
  · exact blank
  · split
    · rfl
    · exact blank

theorem execStackReady_wiped {init : StackInit} (goes : s.stacksGo = true) (hg : g < nGates)
    (off : (s.gate g).stackState = .off) (phase : s.stackPhase g = .wipe) :
    exec (.stackReady g init) s = .next ((s.wipeEnded g init).afterWipe g init.wipeOk (s.gate g).reinit.isSome) := by
  change execStackReady g init s = _
  unfold execStackReady State.afterWipe
  dsimp only
  rw [if_pos ⟨goes, hg, off, phase⟩]
  split
  · rfl
  · split <;> rfl

/-! ## Two seconds without power (R264) -/

/-- The stack comes up again with no debt and begins its second sequence. -/
def Gate.poweredUp (x : Gate) (wall : Nat) : Gate :=
  { x with powerOffUntil := none, reinit := some wall, debt := 0, debtAt := wall + wallMs 140 }

theorem execStackPowerCycleExpiry_failed {w : Nat} (cut : (s.gate g).powerOffUntil = some w) (goes : s.stacksGo = true)
    (due : w ≤ s.clk.wall) : exec (.stackPowerCycleExpiry g false) s =
      .next (({ s with dawn := { s.dawn with stageEnd := s.clk.wall } } : State).modGate g fun x =>
        { x with powerOffUntil := none, stackState := .failed, reinit := none }) := by
  change execStackPowerCycleExpiry g false s = _
  unfold execStackPowerCycleExpiry
  rw [cut]
  exact if_pos ⟨goes, due⟩

theorem execStackPowerCycleExpiry_up {w : Nat} (cut : (s.gate g).powerOffUntil = some w) (goes : s.stacksGo = true)
    (due : w ≤ s.clk.wall) : exec (.stackPowerCycleExpiry g true) s = .next (s.setGate g ((s.gate g).poweredUp s.clk.wall)) := by
  change execStackPowerCycleExpiry g true s = _
  unfold execStackPowerCycleExpiry
  rw [cut]
  exact if_pos ⟨goes, due⟩

theorem execStackPowerCycleExpiry_early {w : Nat} (cut : (s.gate g).powerOffUntil = some w) (early : s.clk.wall < w) (ok : Bool) :
    exec (.stackPowerCycleExpiry g ok) s = .next s := by
  change execStackPowerCycleExpiry g ok s = _
  unfold execStackPowerCycleExpiry
  rw [cut]
  exact if_neg fun h => absurd h.2 (Nat.not_le.mpr early)

/-- The phases of a second sequence go by the time since the power came back (R263, log 95). -/
theorem State.stackPhase_second {w n : Nat} (off : (s.gate g).stackState = .off) (power : (s.gate g).powerOffUntil = none)
    (again : (s.gate g).reinit = some w) (wall : s.clk.wall = w + n) :
    s.stackPhase g = if n < wallMs 20 then .off else if n < wallMs 140 then .init else .wipe := by
  simp [State.stackPhase, off, power, again, wall]

end

/-- Settles O3: the wipe's three ends, and the two that the time without power has. -/
theorem stackSequenceEnds : Obligations.StackSequenceEnds := by
  unfold Obligations.StackSequenceEnds
  refine ⟨fun g init s goes hg off phase => ?wiped, fun g init s other => if_neg fun h => other h.2.2.2,
    fun g w s cut goes due => ⟨?failed, ?up⟩, fun g w ok s cut early => execStackPowerCycleExpiry_early cut early ok⟩
  case wiped =>
    obtain ⟨stack, clk, gates⟩ := s.wipeEnded_keeps g init
    have run := execStackReady_wiped (init := init) goes hg off phase
    generalize s.wipeEnded g init = u at stack clk gates run
    refine ⟨_, run, fun k hk => (u.gate_afterWipe_ne hk _ _).trans (gates k hk), fun ok => ?ready, fun bad first => ?cut,
      fun bad second => ?dead, fun wf a other => ?kept⟩
    case ready =>
      rw [ok]
      have gate := (u.blankSlice g).gate_setGate g { (u.blankSlice g).gate g with stackState := .ready, reinit := none }
      exact ⟨congrArg Gate.stackState gate, congrArg Gate.reinit gate,
        fun a owner => ⟨State.read_blankSlice owner, State.clean_blankSlice owner⟩⟩
    case cut =>
      rw [bad, first, ← clk]
      have gate := (u.blankSlice g).gate_setGate g
        { (u.blankSlice g).gate g with stackState := .off, powerOffUntil := some (u.clk.wall + wallMs 2000) }
      exact ⟨congrArg Gate.stackState gate, congrArg Gate.powerOffUntil gate⟩
    case dead =>
      rw [bad, Option.isSome_iff_ne_none.mpr second]
      exact congrArg Gate.stackState (u.gate_setGate g _)
    case kept =>
      rw [State.read_afterWipe_other (by rw [stack]; exact wf) other, stack]
  case failed =>
    exact ⟨_, execStackPowerCycleExpiry_failed cut goes due, congrArg Gate.stackState (State.gate_setGate _ g _),
      congrArg Gate.powerOffUntil (State.gate_setGate _ g _), rfl, fun k hk => State.gate_setGate_ne _ _ g k hk⟩
  case up =>
    have gate := s.gate_setGate g ((s.gate g).poweredUp s.clk.wall)
    refine ⟨_, execStackPowerCycleExpiry_up cut goes due, rfl, fun k hk => State.gate_setGate_ne s _ g k hk,
      congrArg Gate.powerOffUntil gate, congrArg Gate.reinit gate, congrArg Gate.debt gate, fun off n => ?_⟩
    exact State.stackPhase_second ((congrArg Gate.stackState gate).trans off) (congrArg Gate.powerOffUntil gate)
      (congrArg Gate.reinit gate) rfl

end Sys2Proof.Machine
end

section
/-! PROOFS. The start of a life-cycle change: what the stop of compute and the wipe after it leave alone (R232, R389, R408 to R410). -/

namespace Sys2Proof.Machine

/-- The clock, Dawn, the module's sector and the control registers stay, and nothing that has left the module is called back. -/
def State.KeepsControl (s t : State) : Prop :=
  t.clk = s.clk ∧ t.dawn = s.dawn ∧ t.sector = s.sector ∧ t.ctl = s.ctl ∧ s.out ⊆ t.out

namespace State.KeepsControl

theorem refl (s : State) : s.KeepsControl s := ⟨rfl, rfl, rfl, rfl, List.Subset.refl _⟩

theorem trans {s t u : State} (h : s.KeepsControl t) (k : t.KeepsControl u) : s.KeepsControl u := by
  obtain ⟨clk, dawn, sector, ctl, out⟩ := h
  obtain ⟨clk', dawn', sector', ctl', out'⟩ := k
  exact ⟨clk'.trans clk, dawn'.trans dawn, sector'.trans sector, ctl'.trans ctl, List.Subset.trans out out'⟩

theorem raiseVector (s : State) (v : Nat) : s.KeepsControl (s.raiseVector v) := by
  have out : s.out ⊆ (s.raiseVector v).out := by
    unfold State.raiseVector
    split
    · exact s.out_subset_raiseOn _ v
    · exact List.Subset.trans (s.out_subset_raiseOn 0 v) (State.out_subset_raiseOn _ 1 v)
  refine ⟨?_, ?_, ?_, ?_, out⟩ <;> rw [State.raiseVector_frame]

theorem syncTiles (s : State) : s.KeepsControl s.syncTiles := by
  rw [State.TilesOnly.syncTiles s]
  exact refl s

theorem addError (s : State) (k : ErrKind) (fails : Bool) : s.KeepsControl (s.addError k fails) := refl s

theorem flood (s : State) (m : SyncMsg) (skip : Option Nat) : s.KeepsControl (s.flood m skip) := by
  rw [State.flood_frame]
  exact refl s

theorem unform (s : State) : s.KeepsControl s.unform := refl s

theorem setRing (s : State) (g r : Nat) (x : Ring) : s.KeepsControl (s.setRing g r x) := refl s

theorem postRecord (s : State) (g r status bytes seq : Nat) (irq : Bool) : s.KeepsControl (s.postRecord g r status bytes seq irq) := by
  unfold State.postRecord
  extract_lets x rec_ posted marked
  have put : s.KeepsControl posted := ite_related (R := State.KeepsControl) (refl s) (refl s)
  have kept : s.KeepsControl marked := put.trans (setRing posted g r _)
  exact ite_related (kept.trans (raiseVector marked _)) kept

theorem endArming (s : State) (g r : Nat) : s.KeepsControl (s.endArming g r) := by
  unfold State.endArming
  dsimp only
  split
  · exact refl s
  · exact ite_related (setRing s g r _) ((setRing s g r _).trans (postRecord _ g r _ _ _ _))

theorem disarmRing (s : State) (g r : Nat) : s.KeepsControl (s.disarmRing g r) := by
  unfold State.disarmRing
  exact ite_related (refl s) ((endArming s g r).trans (setRing _ g r _))

theorem disarmAll (s : State) : s.KeepsControl s.disarmAll :=
  foldl_related State.KeepsControl refl trans (fun s (x : Nat × Nat) => s.disarmRing x.1 x.2) (fun s x => disarmRing s x.1 x.2) _ s

theorem abortSlices (s : State) : s.KeepsControl s.abortSlices := by
  rw [State.abortSlices_frame]
  exact refl s

theorem setPlanState (s : State) (x : PlanState) : s.KeepsControl (s.setPlanState x) := by
  unfold State.setPlanState
  refine ite_related (refl s) (trans (t := { s with plan := { s.plan with state := x } }) ?_ (raiseVector _ vecPlan))
  exact ⟨rfl, rfl, rfl, rfl, List.Subset.refl _⟩

theorem computeWipe (s : State) : s.KeepsControl s.computeWipe := by
  have planned : ∀ (u : State) (p : PlanCtl), u.KeepsControl { u with plan := p } := fun u _ => refl u
  unfold State.computeWipe
  extract_lets ended wiped none_
  have disarmed : s.KeepsControl ended := (abortSlices s).trans (disarmAll _)
  have cleared : ended.KeepsControl wiped.forget := refl ended
  exact ((disarmed.trans cleared).trans (setPlanState _ .none)).trans (planned none_ _)

end State.KeepsControl

/-- The stop of compute stops the spines, begins a compute reset and ends READY; the rest of the control state stays (R389). -/
theorem State.stopCompute_control (s : State) :
    s.stopCompute.clk = { s.clk with running := false } ∧
      s.stopCompute.dawn = { s.dawn with cmpReset := true, ready := false } ∧
      s.stopCompute.sector = s.sector ∧ s.stopCompute.ctl = s.ctl ∧ s.out ⊆ s.stopCompute.out := by
  obtain ⟨clk, dawn, sector, ctl, out⟩ := State.KeepsControl.syncTiles s
  rw [← clk, ← dawn, ← sector, ← ctl]
  unfold State.stopCompute
  extract_lets synced clock idle stopped reported told
  have flooded : stopped.KeepsControl told :=
    State.KeepsControl.trans (t := if reported.grouped then reported.flood ⟨5, reported.member, 1, reported.group.gframe⟩ none else reported)
      (ite_related (R := State.KeepsControl) (.flood reported _ _) (.refl reported)) (.unform _)
  have all : stopped.KeepsControl (if told.runActive then told else told.computeWipe) :=
    flooded.trans (ite_related (.refl told) (.computeWipe told))
  obtain ⟨clk', dawn', sector', ctl', out'⟩ := all
  exact ⟨clk', dawn', sector', ctl', List.Subset.trans out out'⟩

end Sys2Proof.Machine
end

section
/-! PROOFS. Life-cycle requests: what a request does by its result and operation, and the end of a change's wipe (R264, R408 to
R411, R419). -/

namespace Sys2Proof.Machine

/-! ## Requests (R408 to R410) -/

/-- A request is noted with its result, and the nonce replaced (R408). -/
def State.noteRequest (s : State) (q : List Byte) : State :=
  ({ s with ctl := { s.ctl with lastOp := reqOp q, result := s.reqResult q } } : State).freshNonce

/-- The authorisations are used up by a request that is carried out (R409). -/
def State.clearAuth (s : State) : State :=
  { s with ctl := { s.ctl with cfgAuth := none, fwAuth := none, fwAuthStaged := false } }

/-- CFG_AUTH or FW_AUTH holds its digest (R409). -/
def State.authorise (s : State) (q : List Byte) : State :=
  { s with ctl := { s.ctl with
    phase := 3
    cfgAuth := if reqOp q = 12 then some ((reqArg q).take 48) else none
    fwAuth := if reqOp q = 13 then some ((reqArg q).take 48) else none } }

/-- A request is refused: LCS_STATUS shows it, but a change under way keeps its phase (R408). -/
def State.refuse (s : State) (q : List Byte) : State :=
  if s.ctl.change.isSome then s.noteRequest q
  else { s.noteRequest q with ctl := { (s.noteRequest q).ctl with phase := 4 } }

theorem State.refuse_frame (s : State) (q : List Byte) :
    s.refuse q = { s.noteRequest q with ctl := { (s.noteRequest q).ctl with phase := (s.refuse q).ctl.phase } } := by
  unfold State.refuse
  split <;> rfl

theorem State.refuse_phase {s : State} (idle : s.ctl.change = none) (q : List Byte) : (s.refuse q).ctl.phase = 4 := by
  unfold State.refuse
  rw [if_neg (by simp [idle])]

section
variable {s : State} {q : List Byte}

theorem State.submit_refused (no : s.reqResult q ≠ 0) : s.submit q = (s.refuse q).raiseVector vecFirmware := by
  unfold State.submit
  exact if_pos no

theorem State.submit_authorises (ok : s.reqResult q = 0) (op : reqOp q = 12 ∨ reqOp q = 13) :
    s.submit q = ((s.noteRequest q).clearAuth.authorise q).raiseVector vecFirmware := by
  unfold State.submit
  exact (if_neg (not_not_intro ok)).trans (if_pos op)

theorem State.submit_changes (ok : s.reqResult q = 0) (op : reqOp q ≤ 11) :
    s.submit q = (s.noteRequest q).clearAuth.startChange q := by
  unfold State.submit
  exact (if_neg (not_not_intro ok)).trans (if_neg (by omega))

/-- A refused request leaves the sector, the stacks and a change that is under way. -/
theorem State.submit_refused_spec (no : s.reqResult q ≠ 0) :
    (s.submit q).sector = s.sector ∧ (s.submit q).ctl.result = s.reqResult q ∧ (s.submit q).stack = s.stack ∧
      (s.submit q).ctl.change = s.ctl.change ∧ (s.submit q).ctl.lastOp = reqOp q ∧
      (s.ctl.change = none → (s.submit q).ctl.phase = 4) ∧ s.out ⊆ (s.submit q).out := by
  obtain ⟨-, -, sector, ctl, out⟩ := State.KeepsControl.raiseVector (s.refuse q) vecFirmware
  have stack : ((s.refuse q).raiseVector vecFirmware).stack = (s.refuse q).stack := by rw [State.raiseVector_frame]
  rw [State.submit_refused no, sector, ctl, stack]
  refine ⟨?_, ?_, ?_, ?_, ?_, fun idle => State.refuse_phase idle q, List.Subset.trans ?_ out⟩
  all_goals rw [State.refuse_frame]
  · rfl
  · rfl
  · rfl
  · rfl
  · rfl
  · exact List.Subset.refl _

/-- An accepted authorisation holds the digest, and nothing of the sector changes (R409). -/
theorem State.submit_authorises_spec (ok : s.reqResult q = 0) (op : reqOp q = 12 ∨ reqOp q = 13) :
    (s.submit q).sector = s.sector ∧ (s.submit q).ctl = ((s.noteRequest q).clearAuth.authorise q).ctl ∧
      s.out ⊆ (s.submit q).out := by
  obtain ⟨-, -, sector, ctl, out⟩ := State.KeepsControl.raiseVector ((s.noteRequest q).clearAuth.authorise q) vecFirmware
  have kept : ((s.noteRequest q).clearAuth.authorise q).sector = s.sector ∧ ((s.noteRequest q).clearAuth.authorise q).out = s.out := by
    unfold State.authorise State.clearAuth State.noteRequest State.freshNonce State.useFree
    exact ⟨rfl, rfl⟩
  rw [kept.1] at sector
  rw [kept.2] at out
  rw [State.submit_authorises ok op]
  exact ⟨sector, ctl, out⟩

/-- What a change that is accepted writes, and what it stops and empties (R409, R410). -/
theorem State.startChange_spec (s : State) (q : List Byte) :
    (s.startChange q).sector = { s.sector with pending := some (s.sector.transition (reqOp q) (reqArg q)) } ∧
      (s.startChange q).ctl = { s.ctl with change := some (s.sector.transition (reqOp q) (reqArg q)), phase := 2 } ∧
      (s.startChange q).stack = [] ∧ (s.startChange q).clk.running = false ∧ (s.startChange q).dawn.ready = false ∧
      s.out ⊆ (s.startChange q).out := by
  unfold State.startChange
  extract_lets x counted sector ctl pending stopped
  have log : counted = { s with log := counted.log } := s.addTotals_frame
  obtain ⟨clk, dawn, sector', ctl', out⟩ := pending.stopCompute_control
  clear_value counted
  have asked : pending.sector = { s.sector with pending := some x } ∧ pending.ctl = { s.ctl with change := some x, phase := 2 } ∧
      pending.out = s.out := by
    change ({ counted.sector with pending := some x } : Sector) = _ ∧ ({ counted.ctl with change := some x, phase := 2 } : Ctl) = _ ∧
      counted.out = s.out
    rw [log]
    exact ⟨rfl, rfl, rfl⟩
  refine ⟨sector'.trans asked.1, ctl'.trans asked.2.1, rfl, congrArg Clock.running clk, congrArg Dawn.ready dawn, ?_⟩
  rw [← asked.2.2]
  exact out

/-- An accepted change (R409, R410). -/
theorem State.submit_changes_spec (ok : s.reqResult q = 0) (op : reqOp q ≤ 11) :
    (s.submit q).sector = { s.sector with pending := some (s.sector.transition (reqOp q) (reqArg q)) } ∧
      (s.submit q).ctl = { (s.noteRequest q).clearAuth.ctl with
        change := some (s.sector.transition (reqOp q) (reqArg q)), phase := 2 } ∧
      (s.submit q).stack = [] ∧ (s.submit q).clk.running = false ∧ (s.submit q).dawn.ready = false ∧ s.out ⊆ (s.submit q).out := by
  rw [State.submit_changes ok op]
  exact State.startChange_spec _ q

/-- The operations are 1 to 13. -/
theorem State.reqOp_of_accepted (ok : s.reqResult q = 0) : reqOp q ≤ 13 := by
  unfold State.reqResult at ok
  dsimp only at ok
  split at ok
  · cases ok
  · omega

/-- Every request is noted with its operation and leaves the life-cycle state. -/
theorem State.submit_notes (s : State) (q : List Byte) :
    (s.submit q).ctl.lastOp = reqOp q ∧ (s.submit q).sector.state = s.sector.state ∧ s.out ⊆ (s.submit q).out := by
  by_cases ok : s.reqResult q = 0
  · by_cases op : reqOp q ≤ 11
    · obtain ⟨sector, ctl, -, -, -, out⟩ := State.submit_changes_spec ok op
      rw [sector, ctl]
      exact ⟨rfl, rfl, out⟩
    · have bound := State.reqOp_of_accepted ok
      obtain ⟨sector, ctl, out⟩ := State.submit_authorises_spec ok (by omega)
      rw [sector, ctl]
      exact ⟨rfl, rfl, out⟩
  · obtain ⟨sector, -, -, -, op, -, out⟩ := State.submit_refused_spec ok
    rw [sector]
    exact ⟨op, rfl, out⟩

theorem State.reqResult_nonce (op : 1 ≤ reqOp q ∧ reqOp q ≤ 13) (zero : leAt q 1 7 = 0) (wrong : reqNonce q ≠ s.ctl.nonce) :
    s.reqResult q = 3 := by
  unfold State.reqResult
  dsimp only
  rw [if_neg (by omega), if_pos wrong]

/-- A request that its state does not permit is refused (R409). -/
theorem State.reqResult_barred (barred : (opStates (reqOp q)).contains s.sector.state = false) : s.reqResult q ≠ 0 := by
  unfold State.reqResult
  simp only [barred, Bool.not_false, true_or, if_true]
  repeat' split
  all_goals decide

/-! ## The commands (R324, R408, R409, R419) -/

/-- Each command submits the window's request if it is of the command's operation. -/
theorem exec_lcOp {port op : Nat} {c : Instr} (h : (c, op) ∈ lcOps port) (s : State) :
    exec c s = s.submitOp port op ∧ 1 ≤ op ∧ op ≤ 13 := by
  simp only [lcOps, List.mem_cons, Prod.mk.injEq, List.not_mem_nil, or_false] at h
  rcases h with ⟨rfl, rfl⟩ | ⟨rfl, rfl⟩ | ⟨rfl, rfl⟩ | ⟨rfl, rfl⟩ | ⟨rfl, rfl⟩ | ⟨rfl, rfl⟩ | ⟨rfl, rfl⟩ | ⟨rfl, rfl⟩ | ⟨rfl, rfl⟩ |
    ⟨rfl, rfl⟩ | ⟨rfl, rfl⟩ | ⟨rfl, rfl⟩ | ⟨rfl, rfl⟩ <;> exact ⟨rfl, by decide, by decide⟩

/-- LCS_CMD SUBMIT. -/
theorem PortOpen.lifeCycleSubmit {port : Nat} (h : PortOpen s port) (hr : s.ctl.recovery = false) :
    s.hostWrite8 port 0x1D0010 1 = .next (s.submit s.ctl.req) := by
  have hs : s.served 0x1D0010 = true := by simp [State.served, hr]
  refine (h.registerWrite _ 8 1 (by omega)).trans ?_
  simp only [State.writeReg, State.writeLcs, hs, mergeWrite_whole]
  rfl

theorem execLcRequest_up (up : s.sidebandUp = true) :
    exec (.lcRequest q) s = .next (if q.length = 232 then (s.respond 0 []).submit q else s.respond 2 []) :=
  State.onSideband_up up fun s : State => if q.length = 232 then (s.respond 0 []).submit q else s.respond 2 []

end

/-! ## The stacks at the end of the wipe (R264, R410) -/

/-- The wipe of one stack ends (R262, R264). -/
def State.wipeEnds (failed : List Nat) (s : State) (g : Nat) : State :=
  if failed.contains g then s.stackPowerOff g else s.stackUp g

/-- The wipes of a change end. -/
def State.wipesEnd (s : State) (failed : List Nat) : State :=
  ((List.range nGates).filter fun g => (s.gate g).stackState == .wipe).foldl (State.wipeEnds failed) s

section
variable {s : State} {failed : List Nat} {g : Nat}

theorem State.wipeEnds_failed (s : State) (bad : g ∈ failed) :
    ((s.wipeEnds failed g).gate g).stackState = .off ∧
      ((s.wipeEnds failed g).gate g).powerOffUntil = some (s.clk.wall + wallMs 2000) := by
  have gate := (s.blankSlice g).gate_setGate g
    { (s.blankSlice g).gate g with stackState := .off, powerOffUntil := some (s.clk.wall + wallMs 2000) }
  unfold State.wipeEnds
  rw [if_pos (List.contains_iff_mem.mpr bad)]
  exact ⟨congrArg Gate.stackState gate, congrArg Gate.powerOffUntil gate⟩

theorem State.wipeEnds_ready (s : State) (good : g ∉ failed) : ((s.wipeEnds failed g).gate g).stackState = .ready := by
  unfold State.wipeEnds
  rw [if_neg (mt List.contains_iff_mem.mp good)]
  exact congrArg Gate.stackState ((s.blankSlice g).gate_setGate g _)

theorem State.wipeEnds_ne (s : State) {k : Nat} (h : g ≠ k) : (s.wipeEnds failed k).gate g = s.gate g := by
  unfold State.wipeEnds
  split <;> exact State.gate_setGate_ne (s.blankSlice k) _ k g h

/-- Nothing changes but gates and stacks. -/
theorem State.wipeEnds_frame (s : State) (l : List Nat) :
    l.foldl (State.wipeEnds failed) s = { s with
      gates := (l.foldl (State.wipeEnds failed) s).gates
      stack := (l.foldl (State.wipeEnds failed) s).stack
      stackUe := (l.foldl (State.wipeEnds failed) s).stackUe } :=
  foldl_related (fun a b : State => b = { a with gates := b.gates, stack := b.stack, stackUe := b.stackUe }) (fun _ => rfl)
    (fun h k => by rw [k, h]) _ (fun a g => by unfold State.wipeEnds; split <;> rfl) l s

theorem State.gate_foldl_wipeEnds_other {l : List Nat} (h : g ∉ l) (s : State) :
    (l.foldl (State.wipeEnds failed) s).gate g = s.gate g :=
  foldl_related_mem (R := fun a b : State => b.gate g = a.gate g) (fun _ => rfl) (fun h k => k.trans h) l
    (fun _ hk u => u.wipeEnds_ne fun e => h (e ▸ hk)) s

/-- A stack of the list is as its own wipe's end leaves it. -/
theorem State.gate_foldl_wipeEnds {l : List Nat} (h : g ∈ l) (s : State) :
    ∃ u : State, u.clk = s.clk ∧ (l.foldl (State.wipeEnds failed) s).gate g = (u.wipeEnds failed g).gate g := by
  induction l generalizing s with
  | nil => exact absurd h List.not_mem_nil
  | cons k rest ih =>
    by_cases later : g ∈ rest
    · obtain ⟨u, clk, gate⟩ := ih later (s.wipeEnds failed k)
      have same : ([k].foldl (State.wipeEnds failed) s).clk = s.clk := by rw [State.wipeEnds_frame]
      exact ⟨u, clk.trans same, gate⟩
    · obtain rfl : g = k := (List.mem_cons.mp h).resolve_right later
      exact ⟨s, rfl, State.gate_foldl_wipeEnds_other later _⟩

theorem State.mem_wiping : g ∈ ((List.range nGates).filter fun g => (s.gate g).stackState == .wipe) ↔
    g < nGates ∧ (s.gate g).stackState = .wipe := by
  simp

/-- A stack under no wipe stays as it is. -/
theorem State.wipesEnd_other (other : (s.gate g).stackState ≠ .wipe) : (s.wipesEnd failed).gate g = s.gate g :=
  State.gate_foldl_wipeEnds_other (fun listed => other (State.mem_wiping.mp listed).2) s

theorem State.wipesEnd_ready (hg : g < nGates) (wipe : (s.gate g).stackState = .wipe) (good : g ∉ failed) :
    ((s.wipesEnd failed).gate g).stackState = .ready := by
  obtain ⟨u, -, gate⟩ := State.gate_foldl_wipeEnds (failed := failed) (State.mem_wiping.mpr ⟨hg, wipe⟩) s
  exact (congrArg Gate.stackState gate).trans (u.wipeEnds_ready good)

theorem State.wipesEnd_failed (hg : g < nGates) (wipe : (s.gate g).stackState = .wipe) (bad : g ∈ failed) :
    ((s.wipesEnd failed).gate g).stackState = .off ∧
      ((s.wipesEnd failed).gate g).powerOffUntil = some (s.clk.wall + wallMs 2000) := by
  obtain ⟨u, clk, gate⟩ := State.gate_foldl_wipeEnds (failed := failed) (State.mem_wiping.mpr ⟨hg, wipe⟩) s
  obtain ⟨off, power⟩ := u.wipeEnds_failed bad
  rw [clk] at power
  exact ⟨(congrArg Gate.stackState gate).trans off, (congrArg Gate.powerOffUntil gate).trans power⟩

/-- The end of a change's wipe makes no stack FAILED: one whose wipe fails loses its power first (R264). -/
theorem State.wipesEnd_failed_iff (hg : g < nGates) :
    ((s.wipesEnd failed).gate g).stackState = .failed ↔ (s.gate g).stackState = .failed := by
  by_cases wipe : (s.gate g).stackState = .wipe
  · by_cases bad : g ∈ failed
    · rw [(State.wipesEnd_failed hg wipe bad).1, wipe]
      decide
    · rw [State.wipesEnd_ready hg wipe bad, wipe]
      decide
  · rw [State.wipesEnd_other wipe]

/-- What each stack is where every wipe succeeded. -/
theorem State.wipesEnd_settled (hg : g < nGates) (h : (s.gate g).stackState = .ready ∨ (s.gate g).stackState = .failed ∨
    (s.gate g).stackState = .wipe ∧ g ∉ failed) :
    ((s.wipesEnd failed).gate g).stackState = if (s.gate g).stackState = .failed then .failed else .ready := by
  rcases h with ready | dead | ⟨wipe, good⟩
  · rw [State.wipesEnd_other (by simp [ready]), ready]
    rfl
  · rw [State.wipesEnd_other (by simp [dead]), dead]
    rfl
  · rw [State.wipesEnd_ready hg wipe good, wipe]
    rfl

theorem State.stacksReady_iff : s.stacksReady = true ↔
    ∀ g < nGates, (s.gate g).stackState = .ready ∨ (s.gate g).stackState = .failed := by
  simp [State.stacksReady, Gate.settled]

theorem State.failedStacks_isEmpty : s.failedStacks.isEmpty = true ↔ ∀ g < nGates, (s.gate g).stackState ≠ .failed := by
  simp [State.failedStacks]

end

/-! ## The end of a change (R410, R411) -/

/-- A map of which every value has changed, where the default would change to itself. -/
theorem Map.getD_mapVals {α : Type} {f : Nat → α → α} {k : Nat} {d : α} (same : f k d = d) (m : Map α) :
    Map.getD (Map.mapVals f m) k d = f k (Map.getD m k d) := by
  simp only [Map.getD, Map.find?_mapVals]
  cases Map.find? m k with
  | none => exact same.symm
  | some x => rfl

/-- The sector at the end of a change. -/
def Sector.afterChange (y : Sector) (x : Transition) (wipeOk : Bool) (life : Nat) : Sector :=
  { y with
    state := x.target
    returnTo := x.returnTo
    lcSeq := (y.lcSeq + 1) % 65536
    pending := none
    owner := x.owner
    refurbPassed := y.refurbPassed && x.target != LcState.return_
    wipeOk := wipeOk
    changeLife := life }

/-- The control registers at the end of a change, with the stacks that have failed. -/
def Ctl.afterChange (c : Ctl) (failed : List Nat) : Ctl :=
  { c with change := none, phase := 3, result := if failed.isEmpty then 0 else 6 }

theorem State.finishChange_spec (s : State) (x : Transition) (failed : List Nat) (wipeOk : Bool) :
    (∃ life, (s.finishChange x failed wipeOk).sector = s.sector.afterChange x wipeOk life) ∧
    (s.finishChange x failed wipeOk).ctl = s.ctl.afterChange failed ∧
    (s.finishChange x failed wipeOk).plan = PlanCtl.reset ∧
    ∀ g, (s.finishChange x failed wipeOk).gate g = (s.gate g).afterReset := by
  unfold State.finishChange
  extract_lets old u v seq sector ctl w
  have owner : u.sector = s.sector ∧ u.ctl = s.ctl ∧ u.gates = s.gates :=
    ite_related (R := fun a b : State => b.sector = a.sector ∧ b.ctl = a.ctl ∧ b.gates = a.gates) ⟨rfl, rfl, rfl⟩ ⟨rfl, rfl, rfl⟩
  obtain ⟨sector', ctl', gates⟩ := owner
  clear_value u
  rw [State.raiseVector_frame]
  refine ⟨⟨v.lifeFrames, congrArg (fun y => Sector.afterChange y x wipeOk v.lifeFrames) sector'⟩,
    congrArg (fun c => Ctl.afterChange c failed) ctl', rfl, fun g => ?_⟩
  exact (Map.getD_mapVals (f := fun _ => Gate.afterReset) rfl u.gates).trans (congrArg (fun m => (Map.getD m g Gate.reset).afterReset) gates)

/-- The change is over, and the next tick starts the spines where no compute reset holds them (R410, R421). -/
def State.changeOver (s : State) (x : Transition) : State :=
  let u := s.finishChange x s.failedStacks s.failedStacks.isEmpty
  { u with dawn := { u.dawn with release := !u.dawn.cmpPin } }

theorem State.changeOver_spec (s : State) (x : Transition) :
    (∃ life, (s.changeOver x).sector = s.sector.afterChange x s.failedStacks.isEmpty life) ∧
      (s.changeOver x).ctl = s.ctl.afterChange s.failedStacks ∧ (s.changeOver x).plan = PlanCtl.reset ∧
      ∀ g, (s.changeOver x).gate g = (s.gate g).afterReset := by
  have changed := s.finishChange_spec x s.failedStacks s.failedStacks.isEmpty
  unfold State.changeOver
  generalize s.finishChange x s.failedStacks s.failedStacks.isEmpty = u at changed ⊢
  exact changed

theorem State.wipesEnd_keeps (s : State) (failed : List Nat) :
    (s.wipesEnd failed).sector = s.sector ∧ (s.wipesEnd failed).ctl = s.ctl := by
  rw [State.wipesEnd, State.wipeEnds_frame]
  exact ⟨rfl, rfl⟩

theorem execLifecycleWipeDone_idle {s : State} (idle : s.ctl.change = none) (failed : List Nat) :
    exec (.lifecycleWipeDone failed) s = .next s := by
  change execLifecycleWipeDone failed s = _
  unfold execLifecycleWipeDone
  rw [idle]

theorem execLifecycleWipeDone_under {s : State} {x : Transition} (under : s.ctl.change = some x) (cool : s.pwr.coolStop = false)
    (free : s.dawn.modReset = false) (idle : s.runActive = false) (failed : List Nat) :
    exec (.lifecycleWipeDone failed) s =
      if (s.wipesEnd failed).stacksReady then .next ((s.wipesEnd failed).changeOver x) else .next (s.wipesEnd failed) := by
  change execLifecycleWipeDone failed s = _
  unfold execLifecycleWipeDone
  rw [under]
  dsimp only
  rw [if_neg (by simp [cool, free, idle])]
  rfl

/-- Settles O57: a request is refused, an authorisation, or a change, by its result and operation; a change ends when no wipe of its
stacks has failed and waits otherwise. -/
theorem lifeCycleRequestsAreCheckedAndCarriedOut : Obligations.LifeCycleRequestsAreCheckedAndCarriedOut := by
  unfold Obligations.LifeCycleRequestsAreCheckedAndCarriedOut
  refine ⟨fun s port c op command other => (exec_lcOp command s).1.trans (if_neg other), ?window, ?sideband,
    fun s failed => ⟨fun idle => execLifecycleWipeDone_idle idle failed,
      fun x under cool free idle => ⟨fun settled => ?ends, fun g hg wipe bad => ?waits⟩⟩⟩
  case window =>
    intro s port c op open_ hr command asked
    obtain ⟨run, low, high⟩ := exec_lcOp command s
    have submits : exec c s = .next (s.submit s.ctl.req) := run.trans ((if_pos asked).trans (open_.lifeCycleSubmit hr))
    obtain ⟨noted, state, -⟩ := s.submit_notes s.ctl.req
    refine ⟨_, submits, noted.trans asked, state, fun no => ?_, fun ok change => ?_, fun ok cfg => ?_, fun ok fw => ?_,
      fun wrong zero => ?_, fun barred => ?_⟩
    · obtain ⟨sector, result, stack, change, -, phase, -⟩ := State.submit_refused_spec no
      exact ⟨sector, result, stack, change, phase⟩
    · obtain ⟨sector, ctl, stack, spines, ready, -⟩ := State.submit_changes_spec ok (by omega)
      rw [asked] at sector ctl
      rw [ctl]
      exact ⟨sector, rfl, rfl, stack, spines, ready⟩
    · obtain ⟨sector, ctl, -⟩ := State.submit_authorises_spec ok (by omega)
      rw [ctl]
      exact ⟨if_pos (by omega), if_neg (by omega), rfl, sector⟩
    · obtain ⟨sector, ctl, -⟩ := State.submit_authorises_spec ok (by omega)
      rw [ctl]
      exact ⟨if_pos (by omega), if_neg (by omega), rfl, sector⟩
    · have auth := State.reqResult_nonce (by omega) zero wrong
      obtain ⟨-, result, -⟩ := State.submit_refused_spec (s := s) (q := s.ctl.req) (by omega)
      exact result.trans auth
    · exact (State.submit_refused_spec (State.reqResult_barred (by rw [asked]; exact barred))).1
  case sideband =>
    intro s q up
    have run := execLcRequest_up (q := q) up
    refine ⟨fun short => run.trans (by rw [if_neg short]; rfl), fun whole => ?_⟩
    rw [if_pos whole] at run
    obtain ⟨noted, -, out⟩ := (s.respond 0 []).submit_notes q
    refine ⟨_, run, out (List.mem_append_right _ List.mem_cons_self), noted, fun no => ?_, fun ok change => ?_⟩
    · obtain ⟨sector, result, stack, -⟩ := State.submit_refused_spec (s := s.respond 0 []) (q := q) no
      exact ⟨sector, result, stack⟩
    · obtain ⟨-, ctl, stack, -⟩ := State.submit_changes_spec (s := s.respond 0 []) (q := q) ok change
      exact ⟨congrArg Ctl.change ctl, stack⟩
  case ends =>
    have states := fun g hg => State.wipesEnd_settled (failed := failed) hg (settled g hg)
    have ready : (s.wipesEnd failed).stacksReady = true := State.stacksReady_iff.mpr fun g hg => by
      rw [states g hg]
      split <;> simp
    have bad := State.failedStacks_isEmpty (s := s.wipesEnd failed)
    obtain ⟨⟨life, sector⟩, ctl, plan, gates⟩ := (s.wipesEnd failed).changeOver_spec x
    obtain ⟨sector', ctl'⟩ := s.wipesEnd_keeps failed
    refine ⟨_, (execLifecycleWipeDone_under under cool free idle failed).trans (if_pos ready), ?_⟩
    rw [sector, ctl, sector', ctl']
    refine ⟨rfl, rfl, rfl, rfl, rfl, rfl, rfl, plan, rfl, fun g hg live => ?_, fun none_ => ?_, fun some_ => ?_⟩
    · exact (congrArg Gate.stackState (gates g)).trans ((states g hg).trans (if_neg live))
    · have all := bad.mpr fun g hg => mt (State.wipesEnd_failed_iff hg).mp (none_ g hg)
      exact ⟨all, if_pos all⟩
    · obtain ⟨g, hg, dead⟩ := some_
      have listed : ¬ (s.wipesEnd failed).failedStacks.isEmpty = true :=
        fun empty => bad.mp empty g hg ((State.wipesEnd_failed_iff hg).mpr dead)
      exact ⟨Bool.eq_false_iff.mpr listed, if_neg listed⟩
  case waits =>
    obtain ⟨off, power⟩ := State.wipesEnd_failed hg wipe bad
    have open_ : (s.wipesEnd failed).stacksReady = false := Bool.eq_false_iff.mpr fun ready => by
      have settled := State.stacksReady_iff.mp ready g hg
      simp [off] at settled
    have run := (execLifecycleWipeDone_under under cool free idle failed).trans (if_neg (by simp [open_]))
    obtain ⟨sector, ctl⟩ := s.wipesEnd_keeps failed
    exact ⟨_, run, off, power, (congrArg Ctl.change ctl).trans under, sector⟩

end Sys2Proof.Machine
end

section
/-! PROOFS. Rows of the boulevard: a node's buffer, the rates of its links, and rows that join, merge, wait, are lost or leave
(R270 to R273). -/

namespace Sys2Proof.Machine

/-! ## Buffers and outputs of the nodes -/

@[simp] theorem Map.find?_erase_self {α : Type} (m : Map α) (k : Nat) : Map.find? (Map.erase m k) k = none := by
  induction m with
  | nil => rfl
  | cons p rest ih =>
    obtain ⟨j, v⟩ := p
    by_cases h : j = k
    · simpa [Map.erase, h] using ih
    · simpa [Map.erase, Map.find?, h] using ih

theorem Map.find?_erase_ne {α : Type} (m : Map α) {j k : Nat} (h : j ≠ k) : Map.find? (Map.erase m k) j = Map.find? m j := by
  induction m with
  | nil => rfl
  | cons p rest ih =>
    obtain ⟨i, v⟩ := p
    by_cases hi : i = k
    · subst hi
      simpa [Map.erase, Map.find?, Ne.symm h] using ih
    · by_cases hj : i = j
      · subst hj
        simp [Map.erase, Map.find?, hi]
      · simpa [Map.erase, Map.find?, hi, hj] using ih

@[simp] theorem State.nodeRows_setNode (s : State) (n : Nat) (l : List WideRow) : (s.setNode n l).nodeRows n = l := by
  cases l with
  | nil => simp [State.nodeRows, State.setNode, Map.getD]
  | cons w rest => simp [State.nodeRows, State.setNode]

theorem State.nodeRows_setNode_ne (s : State) (l : List WideRow) {n k : Nat} (h : k ≠ n) :
    (s.setNode n l).nodeRows k = s.nodeRows k := by
  cases l with
  | nil => simp [State.nodeRows, State.setNode, Map.getD, Map.find?_erase_ne _ h]
  | cons w rest => simp [State.nodeRows, State.setNode, h]

theorem State.nodeRows_congr {s u : State} (h : u.blvd.nodes = s.blvd.nodes) (n : Nat) : u.nodeRows n = s.nodeRows n := by
  simp only [State.nodeRows, h]

@[simp] theorem State.freeAt_setFree (s : State) (k c : Nat) : (s.setFree k c).freeAt k = c := Map.getD_set_self _ _ _ _

/-- Counting what a region node accepts changes that count only (R270). -/
theorem State.noteTaken_frame (s : State) (n src : Nat) :
    s.noteTaken n src = { s with blvd := { s.blvd with taken := (s.noteTaken n src).blvd.taken } } := by
  unfold State.noteTaken
  split <;> rfl

/-! ## Rows that a node accepts (R271, R272) -/

theorem acceptRow_joins {n held : Nat} {buf : List WideRow} {w : WideRow} (fresh : ∀ b ∈ buf, sameKey b w = false)
    (room : buf.length + held < nodeRoom n) : acceptRow n held buf w = some (buf ++ [w]) := by
  have other : (buf.any fun b => sameKey b w) = false := by simpa using fresh
  rw [acceptRow, if_neg (by simp [other]), if_neg (by omega)]

theorem acceptRow_full {n held : Nat} {buf : List WideRow} {w : WideRow} (fresh : ∀ b ∈ buf, sameKey b w = false)
    (full : nodeRoom n ≤ buf.length + held) : acceptRow n held buf w = none := by
  have other : (buf.any fun b => sameKey b w) = false := by simpa using fresh
  rw [acceptRow, if_neg (by simp [other]), if_pos full]

theorem acceptRow_merges {n held : Nat} {buf : List WideRow} {b w : WideRow} (mem : b ∈ buf) (same : sameKey b w = true) :
    acceptRow n held buf w = some (buf.map fun b => if sameKey b w then mergeRow b w else b) :=
  if_pos (List.any_eq_true.mpr ⟨b, mem, same⟩)

/-- A row whose key no row of the buffer has comes back as its first (R271, R272). -/
theorem State.returnRow_fresh {s : State} {n : Nat} {w : WideRow} (fresh : ∀ b ∈ s.nodeRows n, sameKey b w = false) :
    s.returnRow n w = s.setNode n (w :: s.nodeRows n) := by
  have none_ : ((s.nodeRows n).filter fun b => sameKey b w) = [] := by simpa using fresh
  have all : ((s.nodeRows n).filter fun b => !sameKey b w) = s.nodeRows n := by simpa using fresh
  simp [State.returnRow, none_, all]

/-! ## Rows that arrive (R270 to R273) -/

/-- The oldest row on its way to a node is off its link. -/
def State.offLink (s : State) (n : Nat) : State := { s with blvd := { s.blvd with links := dropFlight n s.blvd.links } }

section
variable {s : State} {n : Nat} {f : BlvdFlight}

theorem State.nodeRow_lost (off : s.nodeOff n = true) : s.nodeRow n f = (s.offLink n).loseRow (nodeRegion n) f.row := if_pos off

theorem State.nodeRow_accepted (on : s.nodeOff n = false) {l : List WideRow}
    (accepted : acceptRow n (s.linkHeld n) (s.nodeRows n) (s.enterRow f.src n f.row) = some l) :
    s.nodeRow n f = ((s.offLink n).setNode n l).noteTaken n f.src := by
  simp [State.nodeRow, State.offLink, on, accepted]

/-- A row without its like in the node that it leaves is again the oldest there. -/
theorem State.nodeRow_refused (on : s.nodeOff n = false)
    (refused : acceptRow n (s.linkHeld n) (s.nodeRows n) (s.enterRow f.src n f.row) = none)
    (fresh : ∀ b ∈ s.nodeRows f.src, sameKey b f.row = false) :
    s.nodeRow n f = (s.offLink n).setNode f.src (f.row :: s.nodeRows f.src) := by
  simp only [State.nodeRow, on, refused]
  exact State.returnRow_fresh fresh

end

/-! ## The commands -/

/-- A tile whose link is free offers its oldest row to its quad node (R270). -/
theorem execBoulevardRow_tile {s : State} {n t : Nat} (hn : n < 6804) (core : s.coreRuns = true) (ht : t < nTiles)
    (quad : quadOf t = n) (clocked : s.tileClocked t = true) (free : s.freeAt (tileKey t) ≤ s.clk.now) :
    exec (.boulevardRow n (some t)) s = .next (s.tileRow n t) := by
  have go : ¬ (6804 ≤ n ∨ (!s.coreRuns) = true) := by simp [core, hn]
  exact (if_neg go).trans (if_pos ⟨ht, quad, clocked, free⟩)

section
variable {s : State} {n t : Nat} {w : WideRow} (row : (s.tilePort t []).1.portRow = some w)
include row

/-- A row that the quad node accepts leaves the port, whose link is taken for 8 cycles (R269, R270). -/
theorem State.tileRow_accepted {l : List WideRow} (accepted : acceptRow n (s.linkHeld n) (s.nodeRows n) w = some l) :
    s.tileRow n t =
      ((s.putTile t (s.tilePort t []).1.portTaken (s.tilePort t []).2).setFree (tileKey t) (s.clk.now + 8)).setNode n l := by
  simp only [State.tileRow, row, accepted]

/-- A refused row waits a cycle in its port and is counted (R272). -/
theorem State.tileRow_refused (refused : acceptRow n (s.linkHeld n) (s.nodeRows n) w = none) :
    s.tileRow n t =
      ({ s with upd := { s.upd with stallCount := wrap64 (s.upd.stallCount + 1) } } : State).setFree (tileKey t)
        (s.clk.now + 1) := by
  simp only [State.tileRow, row, refused]

end

/-- The oldest row on its way to a node waits while the node's rate is used up (R270). -/
theorem execBoulevardRow_node {s : State} {n : Nat} {f : BlvdFlight} (hn : n < 6804) (core : s.coreRuns = true)
    (oldest : (s.blvd.links.find? fun f => f.dst == n) = some f) :
    exec (.boulevardRow n none) s = if s.rateFull n f.src then .next s else .next (s.nodeRow n f) := by
  have go : ¬ (6804 ≤ n ∨ (!s.coreRuns) = true) := by simp [core, hn]
  refine (if_neg go).trans ?_
  simp only [oldest]

/-- A row leaves a powered node over a free link that carries none of its rows (R271). -/
theorem execBoulevardForward_leaves {s : State} {n : Nat} {w : WideRow} {rest : List WideRow} (hn : n < 6804)
    (core : s.coreRuns = true) (on : s.nodeOff n = false) (rows : s.nodeRows n = w :: rest)
    (idle : (s.blvd.links.any fun f => f.src == n && f.dst == nextNode n (s.rowGate n w)) = false)
    (free : s.freeAt (linkKey n (nextNode n (s.rowGate n w))) ≤ s.clk.now) :
    exec (.boulevardForward n) s =
      .next { (s.setNode n rest).setFree (linkKey n (nextNode n (s.rowGate n w))) (s.clk.now + linkCycles n) with
        blvd := { ((s.setNode n rest).setFree (linkKey n (nextNode n (s.rowGate n w))) (s.clk.now + linkCycles n)).blvd with
          links := s.blvd.links ++ [⟨n, nextNode n (s.rowGate n w), w⟩] } } := by
  show execBoulevardForward n s = _
  have go : ¬ (6804 ≤ n ∨ (!s.coreRuns) = true ∨ s.nodeOff n = true ∨
      (s.blvd.links.any fun f => f.src == n && f.dst == nextNode n (s.rowGate n w)) = true ∨
      s.clk.now < s.freeAt (linkKey n (nextNode n (s.rowGate n w)))) := by
    rw [core, on, idle]
    simp [hn, free]
  simp only [execBoulevardForward, rows]
  exact if_neg go

/-! ## The obligation -/

/-- Settles O45: by what becomes of a tile's row and of a row on a link in each case of `acceptRow`, and by the state after a row
leaves. -/
theorem boulevardMovesRows : Obligations.BoulevardMovesRows := by
  unfold Obligations.BoulevardMovesRows
  refine ⟨fun s n t x w hn core ht quad clocked free port row => ?tile,
    fun n held buf w => ⟨acceptRow_joins, acceptRow_full, ?merge⟩, fun s n f hn core oldest => ?node, ?leaves⟩
  case tile =>
    subst port
    have run := execBoulevardRow_tile hn core ht quad clocked free
    refine ⟨fun l accepted => ?_, fun refused => ?_⟩
    · have put := State.TilesOnly.putTile s t (s.tilePort t []).1.portTaken (s.tilePort t []).2
      have stack := congrArg State.stack put
      have blvd := congrArg State.blvd put
      refine ⟨_, run.trans (congrArg _ (State.tileRow_accepted row accepted)), stack, ?_, State.nodeRows_setNode _ n l, ?_,
        (congrArg Boulevard.links blvd :), fun k hk => ?_⟩
      · exact (s.getTile_putTile t _ _ t).trans (State.getTile_setTile _ _ _)
      · exact State.freeAt_setFree _ _ _
      · exact (State.nodeRows_setNode_ne _ _ hk).trans (State.nodeRows_congr (congrArg Boulevard.nodes blvd) k)
    · exact ⟨_, run.trans (congrArg _ (State.tileRow_refused row refused)), rfl, rfl, rfl, State.freeAt_setFree _ _ _, rfl, rfl⟩
  case merge =>
    intro b mem same
    refine ⟨_, acceptRow_merges mem same, List.length_map .., List.mem_map.mpr ⟨b, mem, if_pos same⟩, rfl⟩
  case node =>
    have run := execBoulevardRow_node hn core oldest
    have taken (open_ : s.rateFull n f.src = false) := run.trans (if_neg (by simp [open_]))
    refine ⟨fun full => run.trans (if_pos full), fun open_ off => ?_, fun l open_ on accepted => ?_,
      fun open_ on refused fresh => ?_⟩
    · exact ⟨_, (taken open_).trans (congrArg _ (State.nodeRow_lost off)), rfl, rfl, rfl, rfl⟩
    · refine ⟨_, (taken open_).trans (congrArg _ (State.nodeRow_accepted on accepted)), ?_⟩
      rw [State.noteTaken_frame]
      exact ⟨rfl, State.nodeRows_setNode _ n l, rfl, rfl, rfl⟩
    · exact ⟨_, (taken open_).trans (congrArg _ (State.nodeRow_refused on refused fresh)), rfl, State.nodeRows_setNode _ _ _,
        fun k hk => State.nodeRows_setNode_ne _ _ hk, rfl⟩
  case leaves =>
    rintro s n dst w rest hn core on rows rfl idle free
    refine ⟨_, execBoulevardForward_leaves hn core on rows idle free, State.nodeRows_setNode _ n rest, rfl,
      State.freeAt_setFree _ _ _, ?_, fun k hk => State.nodeRows_setNode_ne _ _ hk, rfl⟩
    simp [State.linkHeld]

end Sys2Proof.Machine
end

section
/-! PROOFS. Rows at a gate and reduction messages: what the slots take, what blocks that become final and ready change in the
unit, and what is discarded (R271, R274, R275, R283). -/

namespace Sys2Proof.Machine

/-! ## Units and slots -/

theorem State.unit_modUnit (s : State) (g : Nat) (f : UpdUnit → UpdUnit) : (s.modUnit g f).unit g = f (s.unit g) :=
  s.unit_setUnit g _

theorem UpdUnit.slot?_spec {u : UpdUnit} {layer blk : Nat} {x : UpdSlot} (found : u.slot? layer blk = some x) :
    x.layer = layer ∧ x.blk = blk := by
  simpa using List.find?_some found

/-- A slot that is set is found where one was open. -/
theorem UpdUnit.slot?_setSlot {u : UpdUnit} {layer blk : Nat} {x y : UpdSlot} (found : u.slot? layer blk = some x)
    (hl : y.layer = layer) (hb : y.blk = blk) : (u.setSlot y).slot? layer blk = some y := by
  obtain ⟨xl, xb⟩ := UpdUnit.slot?_spec found
  subst hl hb
  have same : (fun z : UpdSlot => z.layer == y.layer && z.blk == y.blk) ∘
      (fun z => if z.layer = y.layer ∧ z.blk = y.blk then y else z) =
      fun z => z.layer == y.layer && z.blk == y.blk := by
    funext z
    by_cases h : z.layer = y.layer ∧ z.blk = y.blk <;> simp [h]
  have first : u.slots.find? (fun z => z.layer == y.layer && z.blk == y.blk) = some x := found
  rw [UpdUnit.slot?, UpdUnit.setSlot, List.find?_map, same, first]
  exact congrArg some (if_pos ⟨xl, xb⟩)

/-! ## Blocks that become ready (R276 to R278) -/

/-- Nothing changes but the slots, the transfers and the ready list of a gate's unit. -/
def State.UnitAsks (g : Nat) (s t : State) : Prop :=
  t = { s with upd := { s.upd with units := t.upd.units } } ∧ (∀ k, k ≠ g → t.unit k = s.unit k) ∧
    t.unit g = { s.unit g with slots := (t.unit g).slots, queue := (t.unit g).queue, ready := (t.unit g).ready }

namespace State.UnitAsks
variable {g : Nat}

theorem refl (s : State) : s.UnitAsks g s := ⟨rfl, fun _ _ => rfl, rfl⟩

theorem trans {s t u : State} (h : s.UnitAsks g t) (k : t.UnitAsks g u) : s.UnitAsks g u := by
  obtain ⟨hs, ho, hu⟩ := h
  obtain ⟨ks, ko, ku⟩ := k
  exact ⟨by rw [ks, hs], fun n hn => (ko n hn).trans (ho n hn), by rw [ku, hu]⟩

theorem fold {β : Type} (f : State → β → State) (each : ∀ (s : State) (x : β), s.UnitAsks g (f s x)) (l : List β) (s : State) :
    s.UnitAsks g (l.foldl f s) :=
  foldl_related (State.UnitAsks g) refl trans f each l s

theorem modUnit (s : State) {f : UpdUnit → UpdUnit}
    (keeps : ∀ u, f u = { u with slots := (f u).slots, queue := (f u).queue, ready := (f u).ready }) :
    s.UnitAsks g (s.modUnit g f) :=
  ⟨rfl, fun k hk => s.unit_setUnit_ne _ g k hk, by rw [s.unit_modUnit]; exact keeps _⟩

theorem askPlane (s : State) (l : Layer) (x : UpdSlot) (p : Nat) : s.UnitAsks g (s.askPlane g l x p) :=
  ite_related (refl s) (modUnit s fun _ => rfl)

theorem noteReady (s : State) : s.UnitAsks g (s.noteReady g) := by
  refine fold _ (fun s l => ?_) _ s
  refine fold _ (fun s u => ?_) _ s
  split
  · exact refl s
  · next x _ =>
    extract_lets asked
    have asks : s.UnitAsks g asked := modUnit s fun _ => rfl
    refine asks.trans (fold _ (fun s q => ?_) _ asked)
    exact askPlane s l x q.1

end State.UnitAsks

/-! ## Blocks that become final (R275, R282) -/

/-- A message of the exchange goes to ports only (R310, R311). -/
theorem State.sendReduction_frame (s : State) (g c src : Nat) (msg : List Byte) :
    s.sendReduction g c src msg = { s with ports := (s.sendReduction g c src msg).ports } := by
  unfold State.sendReduction
  extract_lets put ports
  have each : ∀ s ports dest, put s ports dest = { s with ports := (put s ports dest).ports } := by
    intro s ports dest
    simp only [put]
    split <;> rfl
  split
  · exact each _ _ _
  · exact foldl_related (fun a b : State => b = { a with ports := b.ports }) (fun _ => rfl) (fun h k => by rw [k, h]) _
      (fun s m => each s _ m) _ s

/-- Nothing changes but the unit of a gate, whose final blocks stay, the frame's numeric flags and what link ports send. -/
def State.GradientWork (g : Nat) (s t : State) : Prop :=
  t = { s with upd := { s.upd with units := t.upd.units }, numNow := t.numNow, ports := t.ports } ∧
    (t.unit g).finals = (s.unit g).finals

namespace State.GradientWork
variable {g : Nat}

theorem refl (s : State) : s.GradientWork g s := ⟨rfl, rfl⟩

theorem trans {s t u : State} (h : s.GradientWork g t) (k : t.GradientWork g u) : s.GradientWork g u := by
  obtain ⟨hs, hf⟩ := h
  obtain ⟨ks, kf⟩ := k
  exact ⟨by rw [ks, hs], kf.trans hf⟩

theorem of_asks {s t : State} (h : s.UnitAsks g t) : s.GradientWork g t := by
  obtain ⟨state, -, unit⟩ := h
  exact ⟨by rw [state], by rw [unit]⟩

theorem compressBlock (s : State) (l : Layer) (c : Nat) : s.GradientWork g (s.compressBlock g l c) := by
  unfold State.compressBlock
  extract_lets un els done blocks us z pay resid paid noted after
  have finals : noted.finals = un.finals := by
    refine foldl_related (fun a b : UpdUnit => b.finals = a.finals) (fun _ => rfl) (fun h k => k.trans h) _ (fun u r => ?_) resid
      paid
    split <;> rfl
  have kept : s.GradientWork g after := ⟨rfl, (congrArg UpdUnit.finals (s.unit_setUnit g noted)).trans finals⟩
  refine ite_related (refl s) (ite_related kept (kept.trans ⟨?_, ?_⟩))
  · rw [State.sendReduction_frame]
  · rw [State.sendReduction_frame]
    rfl

theorem noteGradient (s : State) (l : Layer) (blk : Nat) : s.GradientWork g (s.noteGradient g l blk) :=
  trans (ite_related (foldl_related (State.GradientWork g) refl trans _ (fun s c => compressBlock s l c) _ s) (refl s))
    (of_asks (.noteReady _))

end State.GradientWork

/-- A block that becomes final joins the unit's list; the stacks and the boulevard stay (R275). -/
theorem State.finishBlock_spec (s : State) (g : Nat) (l : Layer) (x : UpdSlot) :
    (l.id, x.blk) ∈ ((s.finishBlock g l x).unit g).finals ∧ (s.finishBlock g l x).blvd = s.blvd ∧
      (s.finishBlock g l x).stack = s.stack := by
  unfold State.finishBlock
  extract_lets y un base un' s'
  have work : s'.GradientWork g ((if l.hasResidual then s'.askPlane g l x 3 else s').noteGradient g l x.blk) :=
    State.GradientWork.trans (ite_related (State.GradientWork.of_asks (.askPlane s' l x 3)) (State.GradientWork.refl s'))
      (.noteGradient _ l x.blk)
  obtain ⟨state, finals⟩ := work
  have unit : s'.unit g = un' := s.unit_setUnit g un'
  refine ⟨?_, by rw [state]; rfl, by rw [state]; rfl⟩
  rw [finals, unit]
  exact List.mem_append_right _ List.mem_cons_self

/-- A row that joins its slot stays there while rows of the block are due, and the last one makes the block final (R275). -/
theorem State.addGradient_spec (s : State) (g : Nat) {l : Layer} {x : UpdSlot} {w : WideRow}
    (slot : (s.unit g).slot? l.id x.blk = some x) :
    (s.addGradient g l x w).blvd = s.blvd ∧ (s.addGradient g l x w).stack = s.stack ∧
      ((x.addRow (w.row % 48) w).complete l = false →
        ((s.addGradient g l x w).unit g).slot? l.id x.blk = some (x.addRow (w.row % 48) w) ∧
        ((s.addGradient g l x w).unit g).finals = (s.unit g).finals) ∧
      ((x.addRow (w.row % 48) w).complete l = true → (l.id, x.blk) ∈ ((s.addGradient g l x w).unit g).finals) := by
  obtain ⟨own, -⟩ := UpdUnit.slot?_spec slot
  unfold State.addGradient
  extract_lets y joined
  have unit : joined.unit g = (s.unit g).setSlot y := s.unit_modUnit g _
  cases whole : y.complete l with
  | false =>
    refine ⟨rfl, rfl, fun _ => ?_, nofun⟩
    show (joined.unit g).slot? l.id x.blk = some y ∧ (joined.unit g).finals = (s.unit g).finals
    rw [unit]
    exact ⟨UpdUnit.slot?_setSlot slot own rfl, rfl⟩
  | true =>
    obtain ⟨final, blvd, stack⟩ := joined.finishBlock_spec g l y
    exact ⟨blvd, stack, nofun, fun _ => final⟩

/-! ## Rows at a gate (R271, R274, R275) -/

section
variable {s : State} {g : Nat} {w : WideRow} {l : Layer} (found : findLayer s.layers w.tensor = some l) (planned : s.layers ≠ [])
  (aligned : w.col0 % 48 = 0) (row : w.row < l.rows) (col : w.col0 / 48 < l.cb)
include found planned aligned row col

theorem State.gateRow_final (final : (s.unit g).finals.contains (l.id, l.blockAt w.row w.col0) = true) :
    s.gateRow g w = some (s.discardRow g 3 w) := by
  have inside : ¬ (l.rows ≤ w.row ∨ l.cb ≤ w.col0 / 48) := by omega
  simp [State.gateRow, planned, found, aligned, inside, -List.contains_eq_mem, final]

theorem State.gateRow_waits (open_ : (s.unit g).finals.contains (l.id, l.blockAt w.row w.col0) = false)
    (few : w.count ≤ l.contrib) (none_ : (s.unit g).slot? l.id (l.blockAt w.row w.col0) = none)
    (full : 896 ≤ (s.unit g).slots.length) : s.gateRow g w = none := by
  have inside : ¬ (l.rows ≤ w.row ∨ l.cb ≤ w.col0 / 48) := by omega
  have fits : ¬ l.contrib < w.count := by omega
  simp [State.gateRow, planned, found, aligned, inside, -List.contains_eq_mem, open_, none_, fits, UpdUnit.openSlot, full]

theorem State.gateRow_joins (open_ : (s.unit g).finals.contains (l.id, l.blockAt w.row w.col0) = false) {x : UpdSlot}
    (slot : (s.unit g).slot? l.id (l.blockAt w.row w.col0) = some x)
    (few : Map.getD x.counts (w.row % 48) 0 + w.count ≤ l.contrib) :
    s.gateRow g w = some ((s.setUnit g (s.unit g)).addGradient g l x w) := by
  have inside : ¬ (l.rows ≤ w.row ∨ l.cb ≤ w.col0 / 48) := by omega
  have fits : ¬ l.contrib < Map.getD x.counts (w.row % 48) 0 + w.count := by omega
  simp [State.gateRow, planned, found, aligned, inside, -List.contains_eq_mem, open_, slot, fits, UpdUnit.openSlot]

end

section
variable {s t : State} {g : Nat} {f : BlvdFlight} (hg : g < nGates) (core : s.coreRuns = true)
  (oldest : (s.blvd.links.find? fun f => f.dst == gateNode g) = some f)
include hg core oldest

theorem execGradientRowAtGate_taken (taken : (s.offLink (gateNode g)).gateRow g f.row = some t) :
    exec (.gradientRowAtGate g) s = .next t := by
  have go : ¬ (nGates ≤ g ∨ (!s.coreRuns) = true) := by simp [core, hg]
  refine (if_neg go).trans ?_
  simp only [oldest]
  simp only [State.offLink] at taken ⊢
  simp only [taken]

theorem execGradientRowAtGate_waits (waits : (s.offLink (gateNode g)).gateRow g f.row = none) :
    exec (.gradientRowAtGate g) s = .next ((s.offLink (gateNode g)).returnRow f.src f.row).slotWait := by
  have go : ¬ (nGates ≤ g ∨ (!s.coreRuns) = true) := by simp [core, hg]
  refine (if_neg go).trans ?_
  simp only [oldest]
  simp only [State.offLink] at waits ⊢
  simp only [waits]

end

/-! ## Reduction messages (R283) -/

/-- The unit holds one payload more. -/
def UpdUnit.hold (u : UpdUnit) (p : Payload) : UpdUnit := { u with payloads := u.payloads ++ [p] }

theorem State.takeReduction_stale {s : State} {g src : Nat} {msg : List Byte}
    (h : (s.layers.find? fun l => l.id == leAt msg 8 2) = none ∨ leAt msg 0 8 ≠ s.upd.step) :
    s.takeReduction g src msg = s.staleMessage := by
  unfold State.takeReduction
  extract_lets c pay
  split
  · rfl
  · next found => exact if_pos (.inl (h.resolve_left (by simp [found])))

theorem State.takeReduction_taken {s : State} {g src : Nat} {msg : List Byte} {l : Layer}
    (layer : (s.layers.find? fun l => l.id == leAt msg 8 2) = some l) (step : leAt msg 0 8 = s.upd.step)
    (mode : l.exchange = 1 ∨ l.exchange = 2) (same : leAt msg 11 1 = l.exchange) (block : l.cblockLen g (leAt msg 12 4) ≠ 0)
    (length : (msg.drop 16).length = l.payloadLen g (leAt msg 12 4))
    (first : ((s.unit g).payloads.any fun p => p.layer == l.id && p.cblock == leAt msg 12 4 && p.member == src) = false) :
    s.takeReduction g src msg = (s.modUnit g (·.hold ⟨l.id, leAt msg 12 4, src, msg.drop 16⟩)).noteReady g := by
  have fits : ¬ (leAt msg 0 8 ≠ s.upd.step ∨ l.exchange = 0 ∨ l.exchange = 3 ∨ leAt msg 11 1 ≠ l.exchange ∨
      l.cblockLen g (leAt msg 12 4) = 0 ∨ (msg.drop 16).length ≠ l.payloadLen g (leAt msg 12 4)) := by
    omega
  unfold State.takeReduction
  simp only [layer]
  rw [if_neg fits, first]
  rfl

/-- A message that has arrived is taken. -/
def State.offReductions (s : State) (m : Nat × Nat × List Byte) : State := { s with reductions := s.reductions.erase m }

theorem execReductionMessage_oldest {s : State} {g : Nat} {m : Nat × Nat × List Byte}
    (oldest : (s.reductions.find? fun m => m.1 == g) = some m) :
    exec (.reductionMessage g) s = .next ((s.offReductions m).takeReduction g m.2.1 m.2.2) := by
  show execReductionMessage g s = _
  simp only [execReductionMessage, oldest, State.offReductions]

/-! ## The obligation -/

/-- Settles O46: by the case that applies to the row at the gate or to the message, and by what a block that becomes final or
ready changes. -/
theorem gateTakesGradientsAndReductions : Obligations.GateTakesGradientsAndReductions := by
  unfold Obligations.GateTakesGradientsAndReductions
  refine ⟨fun s g f hg core oldest => ⟨fun bare => ?bare, ?planned⟩, fun s g m oldest => ⟨fun stale => ?stale, ?message⟩⟩
  case bare =>
    have discarded : (s.offLink (gateNode g)).gateRow g f.row = some ((s.offLink (gateNode g)).discardRow g 0 f.row) :=
      if_pos (List.isEmpty_iff.mpr bare)
    exact ⟨_, execGradientRowAtGate_taken hg core oldest discarded, rfl, rfl, rfl⟩
  case planned =>
    rintro l _ found planned aligned row col rfl
    refine ⟨fun final => ?_, fun open_ few none_ full fresh => ?_, fun x open_ slot few => ?_⟩
    · exact ⟨_, execGradientRowAtGate_taken hg core oldest
        (State.gateRow_final (s := s.offLink (gateNode g)) found planned aligned row col final), rfl, rfl⟩
    · have waits := State.gateRow_waits (s := s.offLink (gateNode g)) found planned aligned row col open_ few none_ full
      refine ⟨_, execGradientRowAtGate_waits hg core oldest waits, ?_⟩
      rw [State.returnRow_fresh (s := s.offLink (gateNode g)) fresh]
      exact ⟨rfl, State.nodeRows_setNode _ _ _, rfl, rfl, fun _ => rfl⟩
    · have joins := State.gateRow_joins (s := s.offLink (gateNode g)) found planned aligned row col open_ slot few
      obtain ⟨-, blk⟩ := UpdUnit.slot?_spec slot
      rw [← blk] at slot ⊢
      have unit := (s.offLink (gateNode g)).unit_setUnit g (s.unit g)
      obtain ⟨blvd, stack, due, whole⟩ :=
        ((s.offLink (gateNode g)).setUnit g (s.unit g)).addGradient_spec g (w := f.row)
          ((congrArg (·.slot? l.id x.blk) unit).trans slot)
      rw [unit] at due
      exact ⟨_, execGradientRowAtGate_taken hg core oldest joins, congrArg Boulevard.links blvd, stack, due, whole⟩
  case stale =>
    have run := execReductionMessage_oldest oldest
    exact ⟨_, run.trans (congrArg _ (State.takeReduction_stale stale)), rfl⟩
  case message =>
    intro l layer step mode same block length first
    have taken := State.takeReduction_taken (s := s.offReductions m) layer step mode same block length first
    obtain ⟨state, others, unit⟩ :=
      State.UnitAsks.noteReady (g := g) ((s.offReductions m).modUnit g (·.hold ⟨l.id, leAt m.2.2 12 4, m.2.1, m.2.2.drop 16⟩))
    refine ⟨_, (execReductionMessage_oldest oldest).trans (congrArg _ taken), by rw [state]; rfl, by rw [state]; rfl, ?_,
      fun k hk => (others k hk).trans (State.unit_setUnit_ne _ _ g k hk)⟩
    rw [unit, State.unit_modUnit]
    rfl

end Sys2Proof.Machine
end

section
/-! PROOFS. The update of a ready block: the writes of its planes, what RULE 0 gives in each element, and a block whose state
cannot be used (R268, R276 to R281, R445). -/

namespace Sys2Proof.Machine

/-! ## Transfers of a plane (R223) -/

/-- Each transfer of a contiguous range begins as far into the range's addresses as into its bytes. -/
theorem addr_of_mem_cutRange {k : Nat} {z : Xfer} {off addr len : Nat} (h : z ∈ cutRange k off addr len) :
    z.addr + off = addr + z.off := by
  induction k generalizing off addr len with
  | zero => simp [cutRange] at h
  | succ k ih =>
    unfold cutRange at h
    split at h
    · simp at h
    · rcases List.mem_cons.mp h with rfl | later
      · rfl
      · have := ih later
        omega

theorem cutContig_ne_nil {off addr len : Nat} (h : 0 < len) : cutContig off addr len ≠ [] := by
  unfold cutContig cutRange
  rw [if_neg (by omega)]
  exact List.cons_ne_nil _ _

theorem length_bytesOf (l : List Code) : (bytesOf l).length = 2 * l.length := by
  induction l with
  | nil => rfl
  | cons c rest ih =>
    have two : (leBytes 2 c.toNat).length = 2 := by simp [leBytes]
    rw [bytesOf, List.flatMap_cons, List.length_append, two, List.length_cons]
    rw [bytesOf] at ih
    omega

/-! ## The new planes of a block (R268, R281) -/

/-- Plane p of a block's new state. -/
def BlockOut.plane (y : BlockOut) (p : Nat) : List Code := if p = 0 then y.w else if p = 1 then y.m else if p = 2 then y.v else y.r

section
variable (x : BlockIn)

theorem BlockIn.length_update_w : x.update.w.length = 2304 := by simp [BlockIn.update]
theorem BlockIn.length_update_m : x.update.m.length = 2304 := by simp [BlockIn.update]

theorem BlockIn.update_plane_ne_nil (p : Nat) : x.update.plane p ≠ [] := by
  have v : 0 < x.update.v.length := by
    simp only [BlockIn.update]
    split <;> simp
  have r : 0 < x.update.r.length := by simp [BlockIn.update]
  rw [← List.length_pos_iff, BlockOut.plane]
  split
  · rw [x.length_update_w]; decide
  · split
    · rw [x.length_update_m]; decide
    · split
      · exact v
      · exact r

/-- The new weights and first moments are those of the elements in order. -/
theorem BlockIn.update_elements : ∃ r1 k1 rm, ∀ e < 2304,
    x.update.w.getD e 0 = (x.element r1 k1 rm e).1.1 ∧ x.update.m.getD e 0 = (x.element r1 k1 rm e).1.2.1 := by
  unfold BlockIn.update
  extract_lets l sx g fac r1 k1 rm elems rb cb facs st
  exact ⟨r1, k1, rm, fun e he => by simp [elems, he]⟩

end

section
variable {x : BlockIn} {r1 k1 : List U} {rm : U} {e : Nat}

theorem BlockIn.element_padding (pad : x.layer.isPadding x.blk (e / 48) (e % 48) = true) :
    (x.element r1 k1 rm e).1 = (x.w.getD e codeZero, x.m.getD e codeZero, x.v.getD e codeZero, x.r.getD e codeZero) := by
  simp only [BlockIn.element, pad, if_true]

variable (inside : x.layer.isPadding x.blk (e / 48) (e % 48) = false) (rule : x.layer.rule = 0) (exchange : x.layer.exchange = 0)
  {eta w m g : U} (he : eta = uCode x.eta 0) (hw : w = uCode (x.w.getD e codeZero) 0)
  (hm : m = uCode (x.m.getD e codeZero) (-x.layer.scaleX)) (hg : g = uCode (x.g.getD e codeZero) (-x.layer.scaleX))
include inside rule exchange he hw hm hg

/-- RULE 0 under round to nearest: the rule's results, each rounded once. -/
theorem BlockIn.element_momentum (nearest : x.layer.stateSr = false) (real : anyNone [eta, w, m, g] = false) :
    (x.element r1 k1 rm e).1.1 = (uStore .rne (momentum x.layer eta w m g).1 0).1 ∧
      (x.element r1 k1 rm e).1.2.1 = (uStore .rne (momentum x.layer eta w m g).2 x.layer.scaleX).1 := by
  subst he hw hm hg
  simp [BlockIn.element, inside, rule, exchange, nearest, BlockIn.rounding, Layer.hasResidual, -List.getD_eq_getElem?_getD, real]

/-- A NaR among the fields of an element makes both NaR (R279). -/
theorem BlockIn.element_nar (nar : anyNone [eta, w, m, g] = true) :
    (x.element r1 k1 rm e).1.1 = codeNar ∧ (x.element r1 k1 rm e).1.2.1 = codeNar := by
  subst he hw hm hg
  simp [BlockIn.element, inside, rule, exchange, Layer.hasResidual, -List.getD_eq_getElem?_getD, nar, uStore, roundT16]

end

/-! ## The update of a block (R276 to R281) -/

/-- The writes of plane p of a block. -/
def State.planeWrites (s : State) (l : Layer) (u p : Nat) (cs : List Code) : List UpdXfer :=
  (cutContig 0 (l.planeAddr u p) (bytesOf cs).length).map fun z =>
    ⟨l.id, u, p, true, z.off, z.addr, z.len, ((bytesOf cs).drop z.off).take z.len, s.clk.now⟩

/-- The writes of a block's new planes. -/
def State.blockWrites (s : State) (l : Layer) (u : Nat) (y : BlockOut) : List UpdXfer :=
  l.planes.flatMap fun q => s.planeWrites l u q.1 (y.plane q.1)

/-- The gradient that a block's update takes: the group's, or the slot's own (R284). -/
def State.updateGrad (s : State) (g : Nat) (l : Layer) (u : Nat) (x : UpdSlot) : List (Code × Status) :=
  if l.hasResidual then (List.range 2304).map fun e => s.groupGrad g l u e else x.grad.map fun c => (c, 0)

/-- What a block's update takes from its slot, the step and the plan. -/
def State.blockIn (s : State) (g : Nat) (l : Layer) (u : Nat) (x : UpdSlot) : BlockIn :=
  { layer := l, blk := u, step := s.upd.step, eta := s.upd.eta
    seed := (match s.plan.plan with
      | some p => p.hdr.seed
      | none => 0)
    w := x.plane l 0, m := x.plane l 1, v := x.plane l 2, r := x.plane l 3, g := (s.updateGrad g l u x).map (·.1)
    resid := (List.range 2304).map fun e => Map.getD x.resid e codeNar }

/-- The unit once the block's writes wait. -/
def State.unitUpdated (s : State) (g : Nat) (l : Layer) (u : Nat) (x : UpdSlot) : UpdUnit :=
  { (s.unit g).setSlot { x with updated := true } with
    queue := (s.unit g).queue ++ s.blockWrites l u (s.blockIn g l u x).update
    ready := (s.unit g).ready.drop 1
    freeAt := s.clk.now + 36 }

theorem State.updateBlock_open {s : State} {g u : Nat} {l : Layer} {x : UpdSlot} (slot : (s.unit g).slot? l.id u = some x) :
    s.updateBlock g l u = (s.setUnit g (s.unitUpdated g l u x)).addFlags
      ((s.blockIn g l u x).update.flags ||| Status.orAll ((s.updateGrad g l u x).map (·.2))) := by
  simp only [State.updateBlock, slot]
  rfl

theorem State.mem_planeWrites {s : State} {l : Layer} {u p : Nat} {cs : List Code} {y : UpdXfer}
    (h : y ∈ s.planeWrites l u p cs) :
    y.write = true ∧ y.layer = l.id ∧ y.blk = u ∧ y.plane = p ∧ y.addr = l.planeAddr u p + y.off := by
  obtain ⟨z, hz, rfl⟩ := List.mem_map.mp h
  exact ⟨rfl, rfl, rfl, rfl, addr_of_mem_cutRange hz⟩

/-- Every present plane is written. -/
theorem State.exists_mem_blockWrites {s : State} {l : Layer} {u : Nat} {x : BlockIn} {q : Nat × Nat} (h : q ∈ l.planes) :
    ∃ y ∈ s.blockWrites l u x.update, y.plane = q.1 := by
  have bytes : 0 < (bytesOf (x.update.plane q.1)).length := by
    have codes := List.length_pos_iff.mpr (x.update_plane_ne_nil q.1)
    rw [length_bytesOf]
    omega
  have some_ : s.planeWrites l u q.1 (x.update.plane q.1) ≠ [] := by
    simpa [State.planeWrites] using cutContig_ne_nil bytes
  obtain ⟨y, hy⟩ := List.exists_mem_of_ne_nil _ some_
  obtain ⟨-, -, -, plane, -⟩ := State.mem_planeWrites hy
  exact ⟨y, List.mem_flatMap.mpr ⟨q, h, hy⟩, plane⟩

theorem Layer.planes_momentum {l : Layer} (rule : l.rule = 0) (exchange : l.exchange = 0) : l.planes = [(0, 4608), (1, 4608)] := by
  simp [Layer.planes, rule, exchange]

theorem Layer.planeSize_weight (l : Layer) : l.planeSize 0 = 4608 := rfl
theorem Layer.planeSize_moment (l : Layer) : l.planeSize 1 = 4608 := rfl

/-- An element of a plane is there, whatever stands for a missing one. -/
theorem UpdSlot.getD_plane (x : UpdSlot) {l : Layer} {p e : Nat} (h : 2 * e + 1 < l.planeSize p) (c d : Code) :
    (x.plane l p).getD e c = (x.plane l p).getD e d := by
  have there : e < (x.plane l p).length := by
    rw [UpdSlot.plane, List.length_map, List.length_range]
    omega
  rw [List.getD_eq_getElem _ _ there, List.getD_eq_getElem _ _ there]

/-- Under RULE 0 without exchange the writes are those of the weights and the momentum. -/
theorem State.blockWrites_momentum (s : State) {l : Layer} (u : Nat) (x : BlockIn) (rule : l.rule = 0) (exchange : l.exchange = 0) :
    s.blockWrites l u x.update =
      ([(0, bytesOf x.update.w), (1, bytesOf x.update.m)] : List (Nat × List Byte)).flatMap fun q =>
        (cutContig 0 (l.planeAddr u q.1) 4608).map fun z =>
          ⟨l.id, u, q.1, true, z.off, z.addr, z.len, (q.2.drop z.off).take z.len, s.clk.now⟩ := by
  simp [State.blockWrites, State.planeWrites, Layer.planes_momentum rule exchange, BlockOut.plane, length_bytesOf,
    x.length_update_w, x.length_update_m]

/-- Without exchange the update takes the slot's own gradient. -/
theorem State.blockIn_grad (s : State) (g : Nat) {l : Layer} (u : Nat) (x : UpdSlot) (exchange : l.exchange = 0) :
    (s.blockIn g l u x).g = x.grad := by
  simp [State.blockIn, State.updateGrad, Layer.hasResidual, exchange, Function.comp_def]

/-! ## A block whose state cannot be used (R278, R445) -/

theorem State.stateOutside_spec {s : State} {g u : Nat} {l : Layer} {x : UpdSlot} (slot : (s.unit g).slot? l.id u = some x) :
    (s.stateOutside g l u).unit g =
      { (s.unit g).setSlot { x with updated := true } with ready := (s.unit g).ready.drop 1 } := by
  unfold State.stateOutside
  extract_lets outside
  have unit : outside.unit g = _ := s.unit_modUnit g _
  refine Eq.trans (b := outside.unit g) rfl ?_
  rw [unit]
  simp only [slot]
  rfl

/-! ## The command -/

section
variable {s : State} {g layer idx : Nat} {l : Layer} (known : (s.layers.find? fun l => l.id == layer) = some l)
include known

theorem execBlockUpdate_idle (idle : (s.unit g).ready.head? ≠ some (layer, l.blockOf g idx) ∨ s.runActive = false ∨
      (s.stateUsable g l (l.blockOf g idx) = true ∧
        (s.clk.now < (s.unit g).freeAt ∨ s.planeOut g layer (l.blockOf g idx) (fun _ => true) = true))) :
    exec (.blockUpdate g layer idx) s = .next s := by
  show execBlockUpdate g layer idx s = _
  simp only [execBlockUpdate, known]
  rcases idle with other | stopped | ⟨usable, waits⟩
  · exact if_pos (.inr (.inr (.inr other)))
  · exact if_pos (.inr (.inl (by simp [stopped])))
  · rw [usable, if_neg (by simp : ¬ (!true) = true), if_pos waits, ite_self]

variable (hg : g < nGates) (run : s.runActive = true) (core : s.coreRuns = true)
  (first : (s.unit g).ready.head? = some (layer, l.blockOf g idx))
include hg run core first

theorem execBlockUpdate_first : exec (.blockUpdate g layer idx) s =
    if !s.stateUsable g l (l.blockOf g idx) then .next (s.stateOutside g l (l.blockOf g idx))
    else if s.clk.now < (s.unit g).freeAt ∨ s.planeOut g layer (l.blockOf g idx) (fun _ => true) then .next s
    else .next (s.updateBlock g l (l.blockOf g idx)) := by
  have go : ¬ (nGates ≤ g ∨ (!s.runActive) = true ∨ (!s.coreRuns) = true ∨
      (s.unit g).ready.head? ≠ some (layer, l.blockOf g idx)) := by
    simp [hg, run, core, first]
  show execBlockUpdate g layer idx s = _
  simp only [execBlockUpdate, known]
  exact if_neg go

end

/-! ## The obligation -/

/-- Settles O47: the ready block's update by the writes of its planes, and under RULE 0 by what each element of the first two holds;
a block whose state cannot be used by what marks it. -/
theorem readyBlocksAreUpdated : Obligations.ReadyBlocksAreUpdated := by
  unfold Obligations.ReadyBlocksAreUpdated
  refine ⟨fun s g layer idx l known idle => execBlockUpdate_idle known idle, ?_⟩
  rintro s g layer idx b l x hg run core known hb slot first
  have go := execBlockUpdate_first known hg run core (hb ▸ first)
  rw [← hb] at go
  have id_ : l.id = layer := by simpa using List.find?_some known
  subst id_
  obtain ⟨own, blk⟩ := UpdUnit.slot?_spec slot
  have marked := UpdUnit.slot?_setSlot (y := { x with updated := true }) slot own blk
  refine ⟨fun usable free here => ?_, fun unusable => ?_⟩
  · have next := (go.trans (if_neg (by simp [usable]))).trans (if_neg (by simp [here, free]))
    rw [State.updateBlock_open slot] at next
    have unit := s.unit_setUnit g (s.unitUpdated g l b x)
    refine ⟨_, s.blockWrites l b (s.blockIn g l b x).update, { x with updated := true }, next, rfl, rfl,
      congrArg UpdUnit.queue unit, congrArg UpdUnit.ready unit, (congrArg (·.slot? l.id b) unit).trans marked, rfl,
      fun k hk => s.unit_setUnit_ne _ g k hk, fun q hq => State.exists_mem_blockWrites hq, fun y hy => ?_,
      fun rule exchange nearest => ?_⟩
    · obtain ⟨q, -, hy⟩ := List.mem_flatMap.mp hy
      obtain ⟨write, layer, blk, plane, addr⟩ := State.mem_planeWrites hy
      exact ⟨write, layer, blk, by rw [plane]; exact addr⟩
    · obtain ⟨r1, k1, rm, elements⟩ := (s.blockIn g l b x).update_elements
      refine ⟨_, _, BlockIn.length_update_w _, BlockIn.length_update_m _, s.blockWrites_momentum _ _ rule exchange,
        fun e he => ?_⟩
      obtain ⟨weight, moment⟩ := elements e he
      rw [weight, moment]
      refine ⟨fun pad => ?_, fun we me ge eta inside hw hm hg heta => ?_⟩
      · rw [BlockIn.element_padding pad]
        exact ⟨x.getD_plane (by rw [l.planeSize_weight]; omega) _ _, x.getD_plane (by rw [l.planeSize_moment]; omega) _ _⟩
      · rw [← s.blockIn_grad g b x exchange] at hg
        exact ⟨BlockIn.element_momentum inside rule exchange heta hw hm hg nearest,
          BlockIn.element_nar inside rule exchange heta hw hm hg⟩
  · have next := go.trans (if_pos (by simp [unusable]))
    have unit := State.stateOutside_spec slot
    exact ⟨_, { x with updated := true }, next, rfl, (congrArg UpdUnit.queue unit :), (congrArg UpdUnit.ready unit :),
      (congrArg (·.slot? l.id b) unit).trans marked, rfl, State.addError_failNext _ _ run⟩

end Sys2Proof.Machine
end

section
/-! PROOFS. A link map that is refused at its arming sets MAP_REFUSED, and the bit's rise raises vector 5 (R305, R328). -/

namespace Sys2Proof.Machine

/-- A port of the host that takes memory requests, as it is at reset otherwise: its MSI-X is off. -/
def plainHostPort : HostPort := { HostPort.reset with linkUp := true, memSpace := true }

/-- The module has power and both ports of the host are open; the pending link map is 256 zero bytes, which fails its checks. -/
def blankMapPending : State :=
  { State.reset with host := Vector.replicate 2 plainHostPort, dawn := { State.reset.dawn with powered := true } }

theorem hostPort_blankMapPending (p : Nat) (hp : p < 2) : blankMapPending.hostPort p = plainHostPort := by
  simp [State.hostPort, blankMapPending, vget, hp]

theorem blankMapPending_open : PortOpen blankMapPending 0 := by
  constructor
  · decide
  all_goals
    rw [hostPort_blankMapPending 0 (by decide)]
    rfl

/-- The vectors that wait on the first port of the host after a step that goes on. -/
def vectorsWaiting : Outcome → List Nat
  | .next t => (t.hostPort 0).pba
  | _ => []

/-- MAP_REFUSED rises from clear, so vector 5 does, and waits in the pending bits of the port. -/
theorem blankMapPending_armed : vectorsWaiting (exec (.linkMapArm 0) blankMapPending) = [vecLink] := by decide +kernel

/-- Refutes O50: its clause on a refused arming leaves the host's ports as they were, but MAP_REFUSED that rises raises vector 5
(R328), which changes a port's pending bits. -/
theorem not_groupMessagesAndTicksAgree : ¬ Obligations.GroupMessagesAndTicksAgree := by
  unfold Obligations.GroupMessagesAndTicksAgree
  rintro ⟨-, -, -, -, -, -, -, -, -, -, arming, -⟩
  have bad : mapFails blankMapPending.group.mapPend = true := by decide +kernel
  obtain ⟨t, next, -, frame⟩ := (arming blankMapPending 0 blankMapPending_open rfl).1 (.inl bad)
  have waits := blankMapPending_armed
  rw [next] at waits
  have idle : (t.hostPort 0).pba = [] := by
    have same : t.hostPort 0 = blankMapPending.hostPort 0 := State.hostPort_congr _ _ 0 (congrArg State.host frame :)
    rw [same, hostPort_blankMapPending 0 (by decide)]
    rfl
  exact absurd (idle.symm.trans waits) (by decide)

end Sys2Proof.Machine
end

section
/-! PROOFS. The link ports' operations: what a port reads after a change, what taking a port down leaves alone, windows and the
results of training (R297 to R301, R314). -/

namespace Sys2Proof.Machine

/-! ## Ports after a change -/

/-- A port past the last one is at reset, and so QUIET. -/
theorem State.port_lt {s : State} {p : Nat} {st : PortState} (is : (s.port p).st = st) (awake : st ≠ .quiet := by decide) :
    p < 16 := by
  by_contra out
  exact awake (is.symm.trans (congrArg Port.st (dif_neg out : s.port p = Port.reset)))

theorem State.port_modPort (s : State) (f : Port → Port) {p : Nat} (hp : p < 16) : (s.modPort p f).port p = f (s.port p) :=
  s.port_setPort p _ hp

theorem State.port_modPort_ne (s : State) (f : Port → Port) {p q : Nat} (h : q ≠ p) : (s.modPort p f).port q = s.port q :=
  s.port_setPort_ne _ p q h

/-- A change of one port changes a port as it says, or not at all. -/
theorem State.port_modPort_or (s : State) (p q : Nat) (f : Port → Port) :
    (s.modPort p f).port q = s.port q ∨ (s.modPort p f).port q = f (s.port q) := by
  by_cases same : q = p
  · subst same
    by_cases hq : q < 16
    · exact .inr (s.port_modPort f hq)
    · exact .inl ((dif_neg hq : (s.modPort q f).port q = Port.reset).trans (dif_neg hq : s.port q = Port.reset).symm)
  · exact .inl (s.port_modPort_ne f same)

/-! ## Telling that a port went down (R301, R314, R445) -/

/-- Nothing changes but rings and their records, the frame's error records, what a vector changes, and messages that wait at ports. -/
def State.TellsDown (s t : State) : Prop :=
  t = { s with
    gates := t.gates
    stack := t.stack
    stackUe := t.stackUe
    ports := t.ports
    group := { s.group with portChange := t.group.portChange, seen := t.group.seen }
    setAt := t.setAt
    host := t.host
    out := t.out
    err := { s.err with frame := t.err.frame }
    plan := { s.plan with failNext := t.plan.failNext } } ∧
  ∀ q, ∃ l, t.port q = { s.port q with syncQ := l }

namespace State.TellsDown

theorem of_ports {s t : State} (ports : t.ports = s.ports) (q : Nat) : ∃ l, t.port q = { s.port q with syncQ := l } :=
  ⟨_, State.port_congr s t q ports⟩

theorem refl (s : State) : s.TellsDown s := ⟨rfl, of_ports rfl⟩

theorem trans {s t u : State} (h : s.TellsDown t) (k : t.TellsDown u) : s.TellsDown u := by
  obtain ⟨rest, ports⟩ := h
  obtain ⟨rest', ports'⟩ := k
  refine ⟨by rw [rest', rest], fun q => ?_⟩
  obtain ⟨l, hl⟩ := ports q
  obtain ⟨l', hl'⟩ := ports' q
  exact ⟨l', by rw [hl', hl]⟩

theorem fold {β : Type} (f : State → β → State) (each : ∀ (s : State) (x : β), s.TellsDown (f s x)) (l : List β) (s : State) :
    s.TellsDown (l.foldl f s) :=
  foldl_related State.TellsDown refl trans f each l s

theorem addError (s : State) (k : ErrKind) (fails : Bool) : s.TellsDown (s.addError k fails) := ⟨rfl, of_ports rfl⟩

theorem portChange (s : State) : s.TellsDown (s.linkStatus 2 fun g => { g with portChange := true }) := by
  rw [State.linkStatus_frame]
  exact ⟨rfl, of_ports rfl⟩

theorem ringError (s : State) (g r status : Nat) : s.TellsDown (s.ringError g r status) := by
  obtain ⟨t, only, e⟩ := s.ringError_frame g r status
  unfold State.GatesOnly at only
  rw [e, only]
  exact trans ⟨rfl, of_ports rfl⟩ (addError _ _ _)

theorem sendMsg (s : State) (p : Nat) (m : SyncMsg) : s.TellsDown (s.sendMsg p m) := by
  refine ⟨rfl, fun q => ?_⟩
  rcases s.port_modPort_or p q fun x => { x with syncQ := insertMsg m x.syncQ } with same | queued
  · exact ⟨_, same⟩
  · exact ⟨_, queued⟩

theorem flood (s : State) (m : SyncMsg) (skip : Option Nat) : s.TellsDown (s.flood m skip) := by
  unfold State.flood
  exact trans (t := { s with group := s.group.remember m }) ⟨rfl, of_ports rfl⟩ (fold _ (fun u p => sendMsg u p m) _ _)

theorem floodAbort (s : State) (cause : Nat) : s.TellsDown (s.floodAbort cause) := by
  unfold State.floodAbort
  exact ite_related (flood s _ none) (refl s)

variable {s t : State} (h : s.TellsDown t)
include h

theorem tiles : t.tiles = s.tiles := (congrArg State.tiles h.1 :)
theorem linkMap : t.group.map = s.group.map := (congrArg (·.group.map) h.1 :)

end State.TellsDown

/-! ## Taking a port down (R300, R301, R314) -/

/-- A port that is taken down: its queues and buffers are empty but for messages that wait. -/
def Port.takenDown (x : Port) (st : PortState) (result : Nat) (l : List SyncMsg) : Port :=
  { x with
    st := st
    result := result
    mask := 0
    width := 0
    nak := false
    replay := []
    resend := []
    freed := 0
    own := []
    fwd := []
    syncQ := l
    syncIn := none
    rxq := [] }

/-- The receive buffers of other ports that a port's forwarded flits hold are free again (R294). -/
def State.freeHeld (s : State) (p : Nat) : State :=
  ((s.port p).fwd.filterMap TxFlit.via).foldl State.freeBuffer s

/-- A port is taken down, and nobody is told yet. -/
def State.portCleared (s : State) (p : Nat) (st : PortState) (result : Nat) : State :=
  ((s.freeHeld p).modPort p fun x => x.takenDown st result []).mapChange (.link p ⟨0, 0, result⟩)

/-- Freed buffers change the ports only, and of a port their count only. -/
theorem State.freeHeld_port (s : State) (p q : Nat) : ∃ n, (s.freeHeld p).port q = { s.port q with freed := n } := by
  refine foldl_related (fun a b : State => ∃ n, b.port q = { a.port q with freed := n }) (fun a => ⟨_, rfl⟩) ?_ State.freeBuffer
    (fun a k => ?_) _ s
  · rintro a b c ⟨n, hn⟩ ⟨m, hm⟩
    exact ⟨m, by rw [hm, hn]⟩
  · rcases a.port_modPort_or k q fun x => { x with freed := x.freed + 1 } with same | freed
    · exact ⟨_, same⟩
    · exact ⟨_, freed⟩

theorem State.freeHeld_frame (s : State) (p : Nat) : s.freeHeld p = { s with ports := (s.freeHeld p).ports } :=
  State.freed_frame _ s

theorem State.portCleared_frame (s : State) (p : Nat) (st : PortState) (result : Nat) : s.portCleared p st result =
    { s with ports := (s.portCleared p st result).ports, mapNext := s.mapNext ++ [.link p ⟨0, 0, result⟩] } := by
  unfold State.portCleared
  rw [State.freeHeld_frame]
  rfl

theorem State.port_portCleared (s : State) {p : Nat} (hp : p < 16) (st : PortState) (result : Nat) :
    (s.portCleared p st result).port p = (s.port p).takenDown st result [] := by
  obtain ⟨n, freed⟩ := s.freeHeld_port p p
  refine ((s.freeHeld p).port_modPort (fun x => x.takenDown st result []) hp :).trans ?_
  rw [freed]
  rfl

/-- A port that was up also breaks its rings, writes LINK_DOWN, and tells the group where a run fails of it (R314, R445). -/
def State.downTold (s : State) (p result : Nat) : State :=
  let shown := s.linkStatus 2 fun g => { g with portChange := true }
  ((shown.ringsOnPort p).foldl (fun s x => s.ringError x.1 x.2 8) shown).addError (.linkDown p result) true

section
variable {s : State} {p : Nat}

theorem State.portDrop_asleep (asleep : (s.port p).st ≠ .up ∧ (s.port p).st ≠ .recovery) (st : PortState) (result : Nat) :
    s.portDrop p st result = s.portCleared p st result := by
  have up : ((s.port p).st == PortState.up || (s.port p).st == PortState.recovery) = false := by
    simpa using asleep
  exact if_pos (congrArg Bool.not up)

theorem State.portDrop_awake (awake : (s.port p).st = .up ∨ (s.port p).st = .recovery) (st : PortState) (result : Nat) :
    s.portDrop p st result =
      if ((s.portCleared p st result).downTold p result).runActive then
        ((s.portCleared p st result).downTold p result).floodAbort 1
      else (s.portCleared p st result).downTold p result := by
  have up : ¬ (!((s.port p).st == PortState.up || (s.port p).st == PortState.recovery)) = true := by
    rcases awake with h | h <;> rw [h] <;> decide
  exact if_neg up

theorem State.TellsDown.downTold (s : State) (p result : Nat) : s.TellsDown (s.downTold p result) :=
  ((portChange s).trans (fold _ (fun u (x : Nat × Nat) => ringError u x.1 x.2 8) _ _)).trans (addError _ _ true)

/-- Beyond the cleared port, a port that is taken down tells others at most. -/
theorem State.TellsDown.portDrop (s : State) (p : Nat) (st : PortState) (result : Nat) :
    (s.portCleared p st result).TellsDown (s.portDrop p st result) := by
  by_cases awake : (s.port p).st = .up ∨ (s.port p).st = .recovery
  · rw [State.portDrop_awake awake]
    exact ite_related ((downTold _ p result).trans (floodAbort _ 1)) (downTold _ p result)
  · rw [State.portDrop_asleep (not_or.mp awake)]
    exact refl _

theorem State.portDrop_tiles (s : State) (p : Nat) (st : PortState) (result : Nat) : (s.portDrop p st result).tiles = s.tiles := by
  rw [(State.TellsDown.portDrop s p st result).tiles, State.portCleared_frame]

theorem State.portDrop_linkMap (s : State) (p : Nat) (st : PortState) (result : Nat) :
    (s.portDrop p st result).group.map = s.group.map := by
  rw [(State.TellsDown.portDrop s p st result).linkMap, State.portCleared_frame]

/-- The port that is taken down reads so. -/
theorem State.port_portDrop (s : State) {p : Nat} (hp : p < 16) (st : PortState) (result : Nat) :
    ∃ l, (s.portDrop p st result).port p = (s.port p).takenDown st result l := by
  obtain ⟨l, told⟩ := (State.TellsDown.portDrop s p st result).2 p
  exact ⟨l, by rw [told, s.port_portCleared hp]; rfl⟩

/-- A port that was up and goes down fails the step of an active run (R445, R449). -/
theorem State.portDrop_failNext (awake : (s.port p).st = .up ∨ (s.port p).st = .recovery) (st : PortState) (result : Nat)
    (run : s.runActive = true) : (s.portDrop p st result).plan.failNext = true := by
  have still : (s.portDrop p st result).runActive = true := (State.KeepsRun.portDrop s p st result).run.trans run
  rw [State.portDrop_awake awake] at still ⊢
  have failed : ((s.portCleared p st result).downTold p result).runActive = true →
      ((s.portCleared p st result).downTold p result).plan.failNext = true := fun run => State.addError_failNext _ _ run
  split
  · next run => exact (State.KeepsRun.floodAbort _ 1).2.1 (failed run)
  · next idle =>
    rw [if_neg idle] at still
    exact failed still

end

/-! ## Windows (R297, R299) -/

section
variable {s : State} {p : Nat} {finish : Nat}

/-- The window of a port that is used and not disabled. -/
def Port.inWindow (x : Port) (finish now : Nat) : Port :=
  { x with st := .window, windowEnd := finish, answered := false, wakeAt := now }

theorem State.openWindow_used (used : s.portUsed p = true) (enabled : (s.port p).disable = false) :
    s.openWindow p finish = (s.setPort p ((s.port p).inWindow finish s.clk.wall)).emit (.wake p) := by
  simp [State.openWindow, used, enabled, Port.inWindow]

theorem State.openWindow_closed (closed : s.portUsed p = false ∨ (s.port p).disable = true) :
    s.openWindow p finish =
      (s.setPort p { s.port p with st := .disabled, result := if s.group.badMap then 6 else 5 }).mapChange
        (.link p ⟨0, 0, if s.group.badMap then 6 else 5⟩) := by
  have shut : (!s.portUsed p || (s.port p).disable) = true := by simpa using closed
  simp [State.openWindow, shut]

theorem State.port_openWindow_ne {q : Nat} (h : q ≠ p) : (s.openWindow p finish).port q = s.port q := by
  unfold State.openWindow
  dsimp only
  split <;> exact s.port_setPort_ne _ p q h

end

/-! ## Results of training (R298 to R300) -/

theorem laneGroup_width_ne_zero {lanes w m : Nat} (passes : laneGroup lanes = some (w, m)) : w ≠ 0 := by
  have listed := List.mem_of_find?_eq_some passes
  rintro rfl
  simp at listed

section
variable {s : State} {p : Nat} {r : Training}

theorem State.trainingResult_identity (fails : s.identityFails p r = true) : s.trainingResult p r = (4, 0, 0) := by
  simp [State.trainingResult, fails]

theorem State.trainingResult_lanes (identity : s.identityFails p r = false) (fails : laneGroup r.lanes = none) :
    s.trainingResult p r = (3, 0, 0) := by
  simp [State.trainingResult, identity, fails]

theorem State.trainingResult_passes {w m : Nat} (identity : s.identityFails p r = false) (passes : laneGroup r.lanes = some (w, m)) :
    s.trainingResult p r = (if w = 8 then 0 else 1, w, m) := by
  simp [State.trainingResult, identity, passes]

/-! ## The commands of windows and wakes (R297) -/

theorem execTrainingWindowOpen_due (hp : p < 16) (powered : s.dawn.powered = true) (on : s.dawn.on = true)
    (quiet : (s.port p).st = .quiet) (due : s.dawn.started + wallMs 400 ≤ s.clk.wall) :
    exec (.trainingWindowOpen p) s = .next (s.openWindow p (s.dawn.started + wallMs 1500)) :=
  if_pos ⟨hp, powered, on, quiet, due⟩

theorem execTrainingWindowClose_due (waits : (s.port p).st = .window ∨ (s.port p).st = .training)
    (ended : (s.port p).windowEnd ≤ s.clk.wall) :
    exec (.trainingWindowClose p) s = .next (s.portDrop p .down (if (s.port p).answered then 8 else 2)) :=
  if_pos ⟨waits, ended⟩

/-- A port answers a wake with its identity and trains. -/
def State.answerWake (s : State) (p : Nat) (x : Port) : State :=
  ((s.setPort p { x with st := .training, answered := true }).emit (.wake p)).sendIdentity p

theorem State.answerWake_spec (hp : p < 16) (x : Port) :
    (s.answerWake p x).port p = { x with st := .training, answered := true } ∧
      (s.answerWake p x).out = s.out ++ [.wake p, .identity p (mapGroupId s.group.map) s.member] ∧
      ∀ q, q ≠ p → (s.answerWake p x).port q = s.port q :=
  ⟨s.port_setPort p _ hp, List.append_assoc s.out [.wake p] _, fun q h => s.port_setPort_ne _ p q h⟩

theorem execLinkWake_window (waits : (s.port p).st = .window) (inTime : s.clk.wall < (s.port p).windowEnd) :
    exec (.linkWake p) s = .next (s.answerWake p (s.port p)) :=
  if_pos ⟨waits, inTime⟩

theorem execLinkWake_training (trains : (s.port p).st = .training) (inTime : s.clk.wall < (s.port p).windowEnd) :
    exec (.linkWake p) s = .next (s.emit (.wake p)) := by
  change execLinkWake p s = _
  simp [execLinkWake, trains, inTime]

theorem execLinkWake_lost (down : (s.port p).st = .down) (lost : (s.port p).result = 7) :
    exec (.linkWake p) s = .next (s.answerWake p { s.port p with windowEnd := s.clk.wall + wallMs 1100 }) := by
  change execLinkWake p s = _
  simp [execLinkWake, down, lost, State.answerWake]

/-! ## The commands of training and recovery (R298 to R301) -/

theorem execLinkTrainingComplete_late (trains : (s.port p).st = .training) (ended : (s.port p).windowEnd ≤ s.clk.wall) :
    exec (.linkTrainingComplete p r) s = .next (s.portDrop p .down 8) := by
  change execLinkTrainingComplete p r s = _
  simp [execLinkTrainingComplete, trains, ended]

section
variable (trains : (s.port p).st = .training) (inTime : s.clk.wall < (s.port p).windowEnd)
include trains inTime

theorem execLinkTrainingComplete_fails {code : Nat} (result : s.trainingResult p r = (code, 0, 0)) :
    exec (.linkTrainingComplete p r) s = .next ((s.logLanes p (code, 0, 0) r).portDrop p .down code) := by
  change execLinkTrainingComplete p r s = _
  simp [execLinkTrainingComplete, trains, inTime, result]

theorem execLinkTrainingComplete_passes {code w m : Nat} (result : s.trainingResult p r = (code, w, m)) (wide : w ≠ 0) :
    exec (.linkTrainingComplete p r) s = .next ((s.logLanes p (code, w, m) r).portUp p (code, w, m) r) := by
  change execLinkTrainingComplete p r s = _
  simp [execLinkTrainingComplete, trains, inTime, result, wide]

end

/-- Training in recovery that passes: the port is UP on its lanes and sends again what is not acknowledged (R301). -/
def Port.recovered (x : Port) (result width mask : Nat) : Port :=
  { x with st := .up, result := result, width := width, mask := mask, resend := x.replay, slot := 0 }

section
variable (recovers : (s.port p).st = .recovery) (inTime : s.clk.wall < (s.port p).lostAt + wallMs 100)
include recovers inTime

theorem execRecoveryComplete_fails {code : Nat} (result : s.trainingResult p r = (code, 0, 0)) :
    exec (.recoveryComplete p r) s = .next (s.logLanes p (code, 0, 0) r) := by
  change execRecoveryComplete p r s = _
  simp [execRecoveryComplete, recovers, inTime, result]

/-- Only the log, the port, the map's next change and the status of the links, with its vector, are others. -/
theorem execRecoveryComplete_passes {code w m : Nat} (result : s.trainingResult p r = (code, w, m)) (wide : w ≠ 0) :
    ∃ t, exec (.recoveryComplete p r) s = .next t ∧ t.ports = (s.setPort p ((s.port p).recovered code w m)).ports := by
  have next : exec (.recoveryComplete p r) s =
      if m = (s.port p).oldMask then
        .next (((s.logLanes p (code, w, m) r).setPort p ((s.port p).recovered code w m)).mapChange .generation)
      else .next ((((s.logLanes p (code, w, m) r).setPort p ((s.port p).recovered code w m)).mapChange
        (.link p ⟨w, m, code⟩)).linkStatus 2 fun g => { g with portChange := true }) := by
    change execRecoveryComplete p r s = _
    simp only [execRecoveryComplete, result]
    exact (if_neg (by simp [recovers, inTime])).trans (if_neg wide)
  by_cases same : m = (s.port p).oldMask
  · exact ⟨_, next.trans (if_pos same), rfl⟩
  · exact ⟨_, next.trans (if_neg same), by rw [State.linkStatus_frame]; rfl⟩

omit recovers in
theorem execRecoveryTimeout_early : exec (.recoveryTimeout p) s = .next s :=
  if_neg (by omega)

end

theorem execRecoveryTimeout_due (recovers : (s.port p).st = .recovery) (ended : (s.port p).lostAt + wallMs 100 ≤ s.clk.wall) :
    exec (.recoveryTimeout p) s = .next (s.portDrop p .down 7) :=
  if_pos ⟨recovers, ended⟩

end

/-! ## LINK_CTL (R297, R299) -/

/-- LINK_CTL of a port through an open port of the host. -/
theorem PortOpen.linkControl {s : State} {port : Nat} (h : PortOpen s port) (hr : s.ctl.recovery = false) {p v : Nat} (hp : p < 16)
    (hv : v < 4) : s.hostWrite8 port (0x191008 + p * 0x40) v = .next (s.linkControl p v (bitOf v 1)) := by
  have aligned : (0x191008 + p * 0x40) / 8 * 8 = 0x191008 + p * 0x40 := by omega
  have served : s.served (0x191008 + p * 0x40) = true := by
    simp only [State.served, hr, Bool.false_eq_true, if_false]
    rw [if_neg (by omega), if_pos (by omega)]
  have value : ∀ o old, mergeWrite o 8 v old = v := fun o old => (mergeWrite_whole o v old).trans (Nat.mod_eq_of_lt (by omega))
  refine (h.registerWrite _ 8 v (by omega)).trans ?_
  have block : s.writeReg (0x191008 + p * 0x40) 8 v =
      .next (s.writeLink (0x191008 + p * 0x40 - 0x190000) (mergeWrite (0x191008 + p * 0x40) 8 v) v) := by
    simp only [State.writeReg, aligned, served, value]
    rw [if_neg (by omega), if_neg (by decide), if_neg (by omega), if_neg (by omega), if_neg (by omega), if_neg (by omega),
      if_neg (by omega), if_pos (by omega)]
  have which : (0x191008 + p * 0x40 - 0x190000 - 0x1000) / 0x40 = p := by omega
  rw [block, State.writeLink, if_neg (by omega), if_neg (by omega), if_neg (by omega), if_pos (by omega),
    which]
  dsimp only
  rw [value]

section
variable {s : State} {port p : Nat} (h : PortOpen s port) (hr : s.ctl.recovery = false) (hp : p < 16)
include h hr hp

theorem execDisable_open : exec (.disable port p) s =
    .next (s.modPort p fun x => { x with disablePend := x.disablePend.write s.clk.now true }) :=
  (if_pos hp).trans (h.linkControl hr hp (by decide))

theorem execRetrain_open : ∃ b, exec (.retrain port p) s =
    .next ((s.modPort p fun x => { x with disablePend := x.disablePend.write s.clk.now b }).retrainPort p) := by
  have next : exec (.retrain port p) s =
      s.hostWrite8 port (0x191008 + p * 0x40) (2 + flagAt ((s.port p).disablePend.get (s.port p).disable) 0) := if_pos hp
  rw [next]
  cases (s.port p).disablePend.get (s.port p).disable
  · exact ⟨false, h.linkControl hr hp (by decide)⟩
  · exact ⟨true, h.linkControl hr hp (by decide)⟩

end

/-- A port in use that is retrained is taken down into a window of 1,100 ms, with a wake (R297). -/
theorem State.retrainPort_used {s : State} {p : Nat} (hp : p < 16) (used : s.portUsed p = true) (enabled : (s.port p).disable = false) :
    ((s.retrainPort p).port p).st = .window ∧ ((s.retrainPort p).port p).windowEnd = s.clk.wall + wallMs 1100 ∧
      .wake p ∈ (s.retrainPort p).out := by
  obtain ⟨l, down⟩ := s.port_portDrop hp .window (s.port p).result
  have map := s.portDrop_linkMap p .window (s.port p).result
  have used' : (s.portDrop p .window (s.port p).result).portUsed p = true := by
    unfold State.portUsed State.peer at used ⊢
    rwa [map]
  have enabled' : ((s.portDrop p .window (s.port p).result).port p).disable = false := by
    rw [down]
    exact enabled
  unfold State.retrainPort
  rw [State.openWindow_used used' enabled']
  have set := State.port_setPort (s.portDrop p .window (s.port p).result) p
    (((s.portDrop p .window (s.port p).result).port p).inWindow (s.clk.wall + wallMs 1100)
      (s.portDrop p .window (s.port p).result).clk.wall) hp
  exact ⟨congrArg Port.st set, congrArg Port.windowEnd set, List.mem_append_right _ (List.mem_singleton_self _)⟩

/-! ## Recovery (R299, R301) -/

theorem execLinkLossOfLock_up {s : State} {p : Nat} (up : (s.port p).st = .up) :
    exec (.linkLossOfLock p) s = .next (s.enterRecovery p) :=
  if_pos up

theorem State.port_enterRecovery (s : State) {p : Nat} (hp : p < 16) :
    (s.enterRecovery p).port p = { s.port p with st := .recovery, lostAt := s.clk.wall, oldMask := (s.port p).mask } :=
  s.port_setPort p _ hp

theorem State.port_enterRecovery_ne (s : State) {p q : Nat} (h : q ≠ p) : (s.enterRecovery p).port q = s.port q :=
  s.port_setPort_ne _ p q h

end Sys2Proof.Machine
end

section
/-! PROOFS. Windows, training, recovery and LINK_CTL of the link ports (R297 to R301). -/

namespace Sys2Proof.Machine

section
variable {s : State} {p : Nat} {r : Training} (trains : (s.port p).st = .training) (inTime : s.clk.wall < (s.port p).windowEnd)
include trains inTime

/-- A training that fails takes its port DOWN with the code of the failure (R298 to R300). -/
theorem execLinkTrainingComplete_down {code : Nat} (result : s.trainingResult p r = (code, 0, 0)) :
    ∃ t, exec (.linkTrainingComplete p r) s = .next t ∧ (t.port p).st = .down ∧ (t.port p).result = code ∧ (t.port p).width = 0 := by
  have hp : p < 16 := State.port_lt trains
  obtain ⟨l, down⟩ := (s.logLanes p (code, 0, 0) r).port_portDrop hp .down code
  exact ⟨_, execLinkTrainingComplete_fails trains inTime result, congrArg Port.st down, congrArg Port.result down, congrArg Port.width down⟩

end

/-- Settles O48: each command leaves a port as its own law says; a port that goes down reads as one taken down. -/
theorem linkPortsTrainAndRecover : Obligations.LinkPortsTrainAndRecover := by
  unfold Obligations.LinkPortsTrainAndRecover
  refine ⟨fun s p hp powered on quiet due => ?opens, fun s p waits ended => ?closes, fun s p => ⟨fun waits inTime => ?wakes,
    fun trains inTime => execLinkWake_training trains inTime, fun down lost => ?returns⟩, fun s p r trains ended => ?late,
    fun s p r trains inTime => ⟨fun stranger => ?identity, fun known dead => ?lanes, fun w m known passes => ?trained⟩,
    fun s p up => ?loses, fun s p r recovers => ⟨fun inTime => ⟨fun w m known passes => ?again, fun fails => ?goesOn,
      execRecoveryTimeout_early inTime⟩, fun ended => ?timeout⟩,
    fun s port p h hr hp => ⟨fun used enabled => ?retrained, ?disabled⟩⟩
  case opens =>
    refine ⟨_, execTrainingWindowOpen_due hp powered on quiet due, fun q h => State.port_openWindow_ne h, fun used enabled => ?_,
      fun closed => ?_⟩
    · rw [State.openWindow_used used enabled]
      have set := s.port_setPort p ((s.port p).inWindow (s.dawn.started + wallMs 1500) s.clk.wall) hp
      exact ⟨congrArg Port.st set, congrArg Port.windowEnd set, rfl⟩
    · rw [State.openWindow_closed closed]
      have set := s.port_setPort p { s.port p with st := .disabled, result := if s.group.badMap then 6 else 5 } hp
      exact ⟨congrArg Port.st set, rfl, congrArg Port.result set⟩
  case closes =>
    have hp : p < 16 := waits.elim (State.port_lt ·) (State.port_lt ·)
    have asleep : (s.port p).st ≠ .up ∧ (s.port p).st ≠ .recovery := by
      rcases waits with h | h <;> rw [h] <;> decide
    obtain ⟨l, down⟩ := s.port_portDrop hp .down (if (s.port p).answered then 8 else 2)
    refine ⟨_, execTrainingWindowClose_due waits ended, congrArg Port.st down, congrArg Port.result down, ?_, ?_⟩
    all_goals rw [State.portDrop_quiet s p _ _ asleep]
  case wakes =>
    obtain ⟨port, out, others⟩ := s.answerWake_spec (p := p) (State.port_lt waits) (s.port p)
    exact ⟨_, execLinkWake_window waits inTime, congrArg Port.st port, congrArg Port.answered port, out, others⟩
  case returns =>
    obtain ⟨port, out, others⟩ := s.answerWake_spec (p := p) (State.port_lt down)
      { s.port p with windowEnd := s.clk.wall + wallMs 1100 }
    exact ⟨_, execLinkWake_lost down lost, congrArg Port.st port, congrArg Port.windowEnd port, out, others⟩
  case late =>
    obtain ⟨l, down⟩ := s.port_portDrop (State.port_lt trains) .down 8
    exact ⟨_, execLinkTrainingComplete_late trains ended, congrArg Port.st down, congrArg Port.result down, congrArg Port.width down⟩
  case identity => exact execLinkTrainingComplete_down trains inTime (State.trainingResult_identity stranger)
  case lanes => exact execLinkTrainingComplete_down trains inTime (State.trainingResult_lanes known dead)
  case trained =>
    refine ⟨_, execLinkTrainingComplete_passes trains inTime (State.trainingResult_passes known passes)
      (laneGroup_width_ne_zero passes), ?_⟩
    have set := fun x => (s.logLanes p (if w = 8 then 0 else 1, w, m) r).port_setPort p x
      (State.port_lt trains)
    exact ⟨congrArg Port.st (set _), congrArg Port.width (set _), congrArg Port.mask (set _), congrArg Port.result (set _),
      congrArg Port.peerMember (set _), congrArg Port.txSeq (set _), congrArg Port.rxSeq (set _), congrArg Port.credits (set _),
      congrArg Port.replay (set _), fun q h => State.port_setPort_ne (s.logLanes p _ r) _ p q h, rfl⟩
  case loses =>
    exact ⟨_, execLinkLossOfLock_up up, s.port_enterRecovery (State.port_lt up), rfl,
      fun q h => s.port_enterRecovery_ne h, rfl⟩
  case again =>
    obtain ⟨t, next, ports⟩ := execRecoveryComplete_passes recovers inTime (State.trainingResult_passes known passes)
      (laneGroup_width_ne_zero passes)
    have set := (State.port_congr _ t p ports).trans (s.port_setPort p _ (State.port_lt recovers))
    exact ⟨t, next, congrArg Port.st set, congrArg Port.mask set, congrArg Port.resend set, (congrArg Port.txSeq set :),
      (congrArg Port.rxSeq set :)⟩
  case goesOn =>
    by_cases stranger : s.identityFails p r = true
    · exact ⟨_, execRecoveryComplete_fails recovers inTime (State.trainingResult_identity stranger), rfl, rfl⟩
    · have dead := fails.resolve_left stranger
      rw [Bool.not_eq_true] at stranger
      exact ⟨_, execRecoveryComplete_fails recovers inTime (State.trainingResult_lanes stranger dead), rfl, rfl⟩
  case timeout =>
    obtain ⟨l, down⟩ := s.port_portDrop (State.port_lt recovers) .down 7
    exact ⟨_, execRecoveryTimeout_due recovers ended, congrArg Port.st down, congrArg Port.result down, congrArg Port.replay down,
      State.portDrop_failNext (.inr recovers) .down 7, s.portDrop_tiles p .down 7⟩
  case retrained =>
    obtain ⟨b, next⟩ := execRetrain_open h hr hp
    have enabled' := (congrArg Port.disable
      (s.port_modPort (fun x => { x with disablePend := x.disablePend.write s.clk.now b }) hp)).trans enabled
    exact ⟨_, next, State.retrainPort_used hp used enabled'⟩
  case disabled =>
    exact ⟨_, execDisable_open h hr hp, s.port_modPort _ hp, fun q hq => s.port_modPort_ne _ hq, rfl⟩

end Sys2Proof.Machine
end

section
/-! PROOFS. The flit layer of a link port: the flit of a slot, what FEC reports, what an arriving flit does (R291 to R296, R301 to
R303). -/

namespace Sys2Proof.Machine

/-! ## The flit of a slot (R291 to R296) -/

/-- A port's queues, its replay buffer and its counts of what it sends are others. -/
def Port.SendsOnly (x y : Port) : Prop :=
  y = { x with
    txSeq := y.txSeq
    replay := y.replay
    resend := y.resend
    replays := y.replays
    credits := y.credits
    own := y.own
    fwd := y.fwd
    fwdLast := y.fwdLast
    syncQ := y.syncQ
    sent := y.sent }

namespace Port.SendsOnly

theorem refl (x : Port) : x.SendsOnly x := rfl

theorem trans {x y z : Port} (h : x.SendsOnly y) (k : y.SendsOnly z) : x.SendsOnly z := by
  unfold Port.SendsOnly at *
  rw [k, h]

theorem syncSlot (x : Port) : x.SendsOnly x.syncSlot.1 := by
  unfold Port.syncSlot
  split
  · split
    · rfl
    · split <;> rfl
  · split <;> rfl

theorem pickData {x y : Port} {t : TxFlit} (picked : x.pickData = some (y, t)) : x.SendsOnly y := by
  unfold Port.pickData at picked
  split at picked
  · nomatch picked
  · cases picked; rfl
  · cases picked; rfl
  · split at picked <;> cases picked <;> rfl

theorem slotFlit (x : Port) : x.SendsOnly x.slotFlit.1 := by
  unfold Port.slotFlit
  split
  · exact syncSlot x
  · split
    · split <;> rfl
    · split
      · rfl
      · split
        · rfl
        · next y t picked => exact (pickData picked).trans rfl

theorem stoppedSlot (x : Port) : x.SendsOnly x.stoppedSlot.1 :=
  (trans (y := { x with credits := 0 }) rfl (slotFlit _)).trans rfl

end Port.SendsOnly

theorem Flit.kind_idle_ne_sync : Flit.idle.kind ≠ 2 := by decide
theorem Port.kind_syncFlit (x : Port) : x.syncFlit.2.kind = 2 := rfl

theorem TxFlit.kind_toFlit (t : TxFlit) : t.toFlit.kind = 1 := by
  simp only [Flit.kind, TxFlit.toFlit]
  split <;> split <;> rfl

/-- With room in the replay buffer the sync slot carries a sync flit. -/
theorem Port.kind_syncSlot {x : Port} (room : x.replay.length < 512) : x.syncSlot.2.kind = 2 := by
  have full : ¬ 512 ≤ x.replay.length := by omega
  unfold Port.syncSlot
  split
  · split
    · assumption
    · exact x.kind_syncFlit
  · rw [if_neg full]
    exact x.kind_syncFlit

theorem Port.kind_slotFlit_sync {x : Port} (sync : x.slot = 31) (room : x.replay.length < 512) : x.slotFlit.2.1.kind = 2 := by
  unfold Port.slotFlit
  rw [if_pos sync]
  exact Port.kind_syncSlot room

/-- Outside the sync slot no sync flit leaves. -/
theorem Port.kind_slotFlit_data {x : Port} (data : x.slot ≠ 31) : x.slotFlit.2.1.kind ≠ 2 := by
  unfold Port.slotFlit
  rw [if_neg data]
  split
  · split
    · exact Flit.kind_idle_ne_sync
    · assumption
  · split
    · exact Flit.kind_idle_ne_sync
    · split
      · exact Flit.kind_idle_ne_sync
      · next y t picked => exact fun sync => absurd (t.kind_toFlit.symm.trans sync) (by decide)

/-- The one data flit that waits at a port goes, with the next sequence number and into the replay buffer. -/
theorem Port.slotFlit_own {x : Port} {t : TxFlit} {rest : List TxFlit} (data : x.slot ≠ 31) (fresh : x.resend = [])
    (room : x.replay.length < 512) (credit : 0 < x.credits) (own : x.own = t :: rest) (fwd : x.fwd = []) :
    x.slotFlit = ({ x with
      own := rest
      fwdLast := false
      credits := x.credits - 1
      txSeq := (x.txSeq + 1) % 4096
      replay := x.replay ++ [{ t.toFlit with seq := x.txSeq }]
      sent := x.sent + if t.frame.isSome then 1 else 0 }, { t.toFlit with seq := x.txSeq }, some t) := by
  have free : ¬ (512 ≤ x.replay.length ∨ x.credits = 0) := by omega
  have picked : x.pickData = some ({ x with own := rest, fwdLast := false }, t) := by
    simp only [Port.pickData, own, fwd]
  unfold Port.slotFlit
  simp only [if_neg data, fresh, if_neg free, picked]
  rfl

/-! ## A slot is sent (R291, R293, R302) -/

/-- After a flit only EOFs are queued at its port, and buffers that it held are free. -/
def Port.Settles (x y : Port) : Prop := y = { x with freed := y.freed, syncQ := y.syncQ, sent := y.sent, eofSent := y.eofSent }

namespace Port.Settles

theorem refl (x : Port) : x.Settles x := rfl

theorem trans {x y z : Port} (h : x.Settles y) (k : y.Settles z) : x.Settles z := by
  unfold Port.Settles at *
  rw [k, h]

theorem emitEof (member gframe : Nat) (x : Port) : x.Settles (x.emitEof member gframe) := by
  unfold Port.emitEof
  exact ite_related rfl rfl

theorem emitEofs (member gframe n : Nat) (x : Port) : x.Settles (x.emitEofs member gframe n) := by
  induction n generalizing x with
  | zero => rfl
  | succ n ih => exact (emitEof member gframe x).trans (ih _)

/-- A change of one port that settles it settles each port. -/
theorem modPort {f : Port → Port} (each : ∀ x : Port, x.Settles (f x)) (s : State) (p q : Nat) :
    (s.port q).Settles ((s.modPort p f).port q) := by
  rcases s.port_modPort_or p q f with same | changed
  · rw [same]; rfl
  · rw [changed]; exact each _

theorem freeBuffer (s : State) (p q : Nat) : (s.port q).Settles ((s.freeBuffer p).port q) := 
  modPort (f := fun x => { x with freed := x.freed + 1 }) (fun _ => rfl) s p q

theorem stateEmitEofs (s : State) (p q : Nat) : (s.port q).Settles ((s.emitEofs p).port q) := by
  unfold State.emitEofs
  refine ite_related (R := fun (a b : State) => (a.port q).Settles (b.port q)) ?_ (refl _)
  exact modPort (f := fun x => x.emitEofs s.member s.group.gframe (s.group.gframe + 1 - (s.port p).eofSent))
    (fun x => emitEofs _ _ _ x) s p q

end Port.Settles

/-- The flit of a port's next slot, with the port after it and the data flit that went (R357). -/
def State.nextFlit (s : State) (p : Nat) : Port × Flit × Option TxFlit :=
  if s.pwr.coolStop then (s.port p).stoppedSlot else (s.port p).slotFlit

/-- The flit as it leaves, with what every flit carries. -/
def State.flitSent (s : State) (p : Nat) : Flit := ((s.nextFlit p).1.stamp (s.nextFlit p).2.1).2

theorem State.nextFlit_sendsOnly (s : State) (p : Nat) : (s.port p).SendsOnly (s.nextFlit p).1 := by
  unfold State.nextFlit
  split
  · exact .stoppedSlot _
  · exact .slotFlit _

/-- One flit leaves; ports are all that changes besides. -/
theorem State.sendSlot_frame (s : State) (p : Nat) :
    s.sendSlot p = { s with ports := (s.sendSlot p).ports, out := s.out ++ [.flit p (s.flitSent p)] } := by
  unfold State.sendSlot
  extract_lets y z u
  have left : u = { s with ports := u.ports, out := s.out ++ [.flit p (s.flitSent p)] } := rfl
  clear_value u
  split
  · exact left
  · next t _ =>
    extract_lets v
    have freed : v = { u with ports := v.ports } := by
      unfold v
      split <;> rfl
    split
    · rw [State.emitEofs_frame, freed, left]
    · rw [freed, left]

/-- The port of the slot, but for EOFs that join its queue and its own buffers that a forwarded flit held. -/
theorem State.sendSlot_port (s : State) {p : Nat} (hp : p < 16) :
    ((s.nextFlit p).1.stamp (s.nextFlit p).2.1).1.Settles ((s.sendSlot p).port p) := by
  unfold State.sendSlot
  extract_lets y z u
  have set : u.port p = ((s.nextFlit p).1.stamp (s.nextFlit p).2.1).1 := s.port_setPort p _ hp
  rw [← set]
  clear_value u
  split
  · rfl
  · extract_lets v
    have freed : (u.port p).Settles (v.port p) := by
      unfold v
      split
      · exact .freeBuffer u _ p
      · rfl
    split
    · exact freed.trans (.stateEmitEofs v p p)
    · exact freed

theorem execFlitSlotSend_up {s : State} {p : Nat} (up : (s.port p).st = .up) : exec (.flitSlotSend p) s = .next (s.sendSlot p) :=
  if_pos up

/-- The kind of a port's next flit goes by the slot, during a COOL_OK stop too. -/
theorem State.kind_flitSent (s : State) (p : Nat) :
    ((s.port p).slot = 31 → (s.port p).replay.length < 512 → (s.flitSent p).kind = 2) ∧
      ((s.port p).slot ≠ 31 → (s.flitSent p).kind ≠ 2) := by
  change (_ → _ → (s.nextFlit p).2.1.kind = 2) ∧ (_ → (s.nextFlit p).2.1.kind ≠ 2)
  unfold State.nextFlit
  split
  · exact ⟨Port.kind_slotFlit_sync (x := { s.port p with credits := 0 }), Port.kind_slotFlit_data (x := { s.port p with credits := 0 })⟩
  · exact ⟨Port.kind_slotFlit_sync, Port.kind_slotFlit_data⟩

/-! ## What FEC reports (R293, R301) -/

/-- The port with the codewords that came with a flit; of the uncorrectable ones those of the last millisecond are kept. -/
def Port.countCodewords (x : Port) (ce ue now : Nat) : Port :=
  { x with
    fecCe := wrap64 (x.fecCe + ce)
    fecUe := wrap64 (x.fecUe + ue)
    ueTimes := (x.ueTimes.filter fun t => decide (now < t + wallMs 1)) ++ List.replicate ue now }

section
variable {s : State} {p ce ue : Nat}

theorem State.fecReport_few
    (few : ((s.port p).ueTimes.filter fun t => decide (s.clk.wall < t + wallMs 1)).length + ue ≤ 32) :
    s.fecReport p ce ue = s.setPort p ((s.port p).countCodewords ce ue s.clk.wall) :=
  if_neg fun both => by simp at both; omega

theorem State.fecReport_many (up : (s.port p).st = .up)
    (many : 32 < ((s.port p).ueTimes.filter fun t => decide (s.clk.wall < t + wallMs 1)).length + ue) :
    s.fecReport p ce ue = (s.setPort p ((s.port p).countCodewords ce ue s.clk.wall)).enterRecovery p :=
  if_pos ⟨up, by simpa using many⟩

/-- A report counts codewords at its port; beside the counts only a recovery may begin. -/
theorem State.port_fecReport (s : State) {p : Nat} (hp : p < 16) (ce ue : Nat) : ∃ st lost old, (s.fecReport p ce ue).port p =
    { (s.port p).countCodewords ce ue s.clk.wall with st := st, lostAt := lost, oldMask := old } := by
  have counted := s.port_setPort p ((s.port p).countCodewords ce ue s.clk.wall) hp
  unfold State.fecReport
  dsimp only
  split
  · have recovers := State.port_enterRecovery (s.setPort p ((s.port p).countCodewords ce ue s.clk.wall)) hp
    rw [counted] at recovers
    exact ⟨_, _, _, recovers⟩
  · exact ⟨_, _, _, counted⟩

/-- A port that a report took into recovery takes no flit. -/
theorem execDataFlitReceive_down (down : ((s.fecReport p ce ue).port p).st ≠ .up) (f : Flit) :
    exec (.dataFlitReceive p f ce ue) s = .next (s.fecReport p ce ue) :=
  if_pos (.inl down)

theorem execIdleFlitReceive_down (down : ((s.fecReport p ce ue).port p).st ≠ .up) (f : Flit) :
    exec (.idleFlitReceive p f ce ue) s = .next (s.fecReport p ce ue) :=
  if_pos (.inl down)

end

/-! ## Accepting a flit (R293) -/

/-- The header gives credits and acknowledges; what of the replay buffer is to be resent may change. -/
theorem Port.takeHeader_eq (x : Port) (f : Flit) : ∃ l, x.takeHeader f =
    { x with
      credits := min 1024 (x.credits + 4 * f.credits)
      replay := x.replay.filter fun y => !acked (f.ack % 4096) y.seq
      resend := l } := by
  unfold Port.takeHeader
  extract_lets replay y
  split
  · exact ⟨_, rfl⟩
  · exact ⟨_, rfl⟩

theorem Port.accept_damaged {f : Flit} (damaged : f.good = false) (x : Port) : x.accept f = ({ x with nak := true }, false) := by
  simp [Port.accept, damaged]

theorem Port.accept_idle {f : Flit} (whole : f.good = true) (idle : f.kind = 0) (x : Port) : x.accept f = (x.takeHeader f, true) := by
  simp [Port.accept, whole, idle]

/-- A data flit out of sequence: its header acts, and it is asked for again. -/
theorem Port.accept_gap {f : Flit} {x : Port} (whole : f.good = true) (data : f.kind = 1) (gap : f.seq % 4096 ≠ (x.rxSeq + 1) % 4096) :
    x.accept f = ({ x.takeHeader f with nak := true }, false) := by
  obtain ⟨l, header⟩ := x.takeHeader_eq f
  simp [Port.accept, whole, data, header, gap]

theorem Port.accept_next {f : Flit} {x : Port} (whole : f.good = true) (data : f.kind = 1) (next : f.seq % 4096 = (x.rxSeq + 1) % 4096) :
    x.accept f = ({ x.takeHeader f with rxSeq := f.seq % 4096 }, true) := by
  obtain ⟨l, header⟩ := x.takeHeader_eq f
  simp [Port.accept, whole, data, header, next]

section
variable {s₀ s : State} {p ce ue : Nat} {f : Flit} (after : s = s₀.fecReport p ce ue) (up : (s.port p).st = .up)
include after up

/-- A data flit, or a damaged one, at a port that is still UP. -/
theorem execDataFlitReceive_up (data : f.good = false ∨ f.kind = 1) :
    exec (.dataFlitReceive p f ce ue) s₀ = .next (if ((s.port p).accept f).2 then
      (s.setPort p ((s.port p).accept f).1).takeData p f else s.setPort p ((s.port p).accept f).1) := by
  subst after
  refine if_neg fun refused => ?_
  rcases refused with asleep | ⟨whole, other⟩
  · exact asleep up
  · rcases data with damaged | data
    · rw [damaged] at whole; nomatch whole
    · exact other data

theorem execIdleFlitReceive_up (idle : f.kind = 0) :
    exec (.idleFlitReceive p f ce ue) s₀ = .next (s.setPort p ((s.port p).accept f).1) := by
  subst after
  exact if_neg (by simp [up, idle])

end

end Sys2Proof.Machine
end

section
/-! PROOFS. Flits that a link port sends and takes in order (R291 to R296, R301 to R303). -/

namespace Sys2Proof.Machine

/-! ## A payload for this member (R294, R302, R303) -/

theorem Flit.length_used (f : Flit) : f.used.length = min f.len 240 := by
  simp [Flit.used, padTo]

/-- A ring that takes a stream is not in ERROR. -/
theorem State.linkRing_runs {s : State} {p l g r : Nat} (taken : s.linkRing p l = some (g, r)) : (s.ring g r).state ≠ .error := by
  intro failed
  have test := List.find?_some taken
  have active : (RingState.error == .active) = false := rfl
  have done : (RingState.error == .done) = false := rfl
  simp [failed, active, done] at test

/-- Bytes that end within the current block of a class 3 ring go into it. -/
def Arming.fill (a : Arming) (data : List Byte) : Arming :=
  { (a.modBlock (a.received / a.d.blockBytes) fun b =>
      { b with bytes := b.bytes.putBytes (a.received % a.d.blockBytes) data }) with received := a.received + data.length }

theorem Arming.block?_fill {a : Arming} {b : Block} {data : List Byte} (found : a.block? (a.received / a.d.blockBytes) = some b) :
    (a.fill data).block? (a.received / a.d.blockBytes) =
      some { b with bytes := b.bytes.putBytes (a.received % a.d.blockBytes) data } :=
  Arming.block?_modBlock found fun _ => rfl

/-- Within a block lies within the stream. -/
theorem Desc.received_lt {d : Desc} {n k : Nat} (within : n % d.blockBytes + k < d.blockLen (n / d.blockBytes)) :
    n < d.streamBytes := by
  have split_ := Nat.div_add_mod' n d.blockBytes
  have len : d.blockLen (n / d.blockBytes) ≤ d.streamBytes - n / d.blockBytes * d.blockBytes := Nat.min_le_right _ _
  omega

theorem Desc.streamBytes_le_padded (d : Desc) : d.streamBytes ≤ d.paddedBytes := by
  unfold Desc.paddedBytes
  omega

theorem State.fillLink_nil (s : State) (g r n : Nat) : s.fillLink g r n [] = (s, []) := by
  cases n with
  | zero => rfl
  | succ n =>
    unfold State.fillLink
    dsimp only
    split
    · rfl
    · rfl

theorem State.fillLink_within {s : State} {g r : Nat} {a : Arming} {b : Block} {data : List Byte} (n : Nat)
    (arming : (s.ring g r).arming = some a) (runs : (s.ring g r).state ≠ .error) (some_ : 0 < data.length)
    (near : a.received / a.d.blockBytes < a.released + 5) (found : a.block? (a.received / a.d.blockBytes) = some b)
    (within : a.received % a.d.blockBytes + data.length < a.d.blockLen (a.received / a.d.blockBytes)) :
    s.fillLink g r (n + 1) data = (s.setRing g r { s.ring g r with arming := some (a.fill data) }, []) := by
  have inStream := Desc.received_lt within
  have inPadded := Nat.lt_of_lt_of_le inStream a.d.streamBytes_le_padded
  have offset : a.received - a.received / a.d.blockBytes * a.d.blockBytes = a.received % a.d.blockBytes := by
    have := Nat.div_add_mod' a.received a.d.blockBytes
    omega
  have whole : min data.length (a.d.blockLen (a.received / a.d.blockBytes) - a.received % a.d.blockBytes) = data.length := by omega
  have open_ : (data.isEmpty || (s.ring g r).state == .error || decide (a.d.paddedBytes ≤ a.received)) = false := by
    simp [List.isEmpty_eq_false_iff, List.length_pos_iff.mp some_, runs, inPadded]
  have room : ¬ (a.released + 5 ≤ a.received / a.d.blockBytes ∨
      (some b).isNone = true ∧ (s.ring g r).slotHeld a.d (a.received / a.d.blockBytes) = true) := by
    simp [near]
  have short : ¬ a.received % a.d.blockBytes + data.length = a.d.blockLen (a.received / a.d.blockBytes) := by omega
  unfold State.fillLink
  simp only [arming, open_, Bool.false_eq_true, if_false, if_neg (Nat.not_le.mpr inStream), found, if_neg room, offset, whole,
    Option.isSome_some, if_true, if_neg short, List.take_length, List.drop_length, State.fillLink_nil]
  rfl

section
variable {s : State} {p l src gf : Nat} {data : List Byte}

/-- With nothing in a port's receive buffers nothing is drained. -/
theorem State.drainPort_nil (empty : (s.port p).rxq = []) (n : Nat) : s.drainPort p n = s := by
  cases n with
  | zero => rfl
  | succ n => simp only [State.drainPort, empty]

/-- A payload that is not taken is counted and its buffer is free. -/
theorem State.port_dropFlit (s : State) {p : Nat} (hp : p < 16) (l src : Nat) :
    (s.dropFlit p l src).port p = { s.port p with rxDrop := wrap64 ((s.port p).rxDrop + 1), freed := (s.port p).freed + 1 } := by
  have counted : ((s.countRxDrop p).freeBuffer p).port p =
      { s.port p with rxDrop := wrap64 ((s.port p).rxDrop + 1), freed := (s.port p).freed + 1 } := by
    unfold State.freeBuffer State.countRxDrop
    rw [State.port_modPort _ _ hp, State.port_modPort _ _ hp]
  unfold State.dropFlit
  dsimp only
  split
  · exact counted
  · exact counted

variable (hp : p < 16) (one : (s.port p).rxq = [(l, src, data, gf)])
include hp one

theorem State.drainPort_untaken (n : Nat) (none_ : s.linkRing p l = none) :
    s.drainPort p (n + 1) = (s.setPort p { s.port p with rxq := [] }).dropFlit p l src := by
  have empty : (((s.setPort p { s.port p with rxq := [] }).dropFlit p l src).port p).rxq = [] := by
    rw [State.port_dropFlit _ hp, s.port_setPort p _ hp]
  simp only [State.drainPort, one, none_]
  exact State.drainPort_nil empty n

theorem State.drainPort_taken {g r : Nat} {a : Arming} {b : Block} (n : Nat) (taken : s.linkRing p l = some (g, r))
    (open_ : (s.port p).eofIn ≤ gf) (arming : (s.ring g r).arming = some a) (some_ : 0 < data.length)
    (near : a.received / a.d.blockBytes < a.released + 5) (found : a.block? (a.received / a.d.blockBytes) = some b)
    (within : a.received % a.d.blockBytes + data.length < a.d.blockLen (a.received / a.d.blockBytes)) :
    s.drainPort p (n + 1) =
      ((s.setPort p { s.port p with rxq := [] }).setRing g r { s.ring g r with arming := some (a.fill data) }).freeBuffer p := by
  have filled : (s.setPort p { s.port p with rxq := [] }).fillLink g r 8 data =
      ((s.setPort p { s.port p with rxq := [] }).setRing g r { s.ring g r with arming := some (a.fill data) }, []) :=
    State.fillLink_within (s := s.setPort p { s.port p with rxq := [] }) 7 arming (State.linkRing_runs taken) some_ near found within
  have empty : ((((s.setPort p { s.port p with rxq := [] }).setRing g r
      { s.ring g r with arming := some (a.fill data) }).freeBuffer p).port p).rxq = [] := by
    refine (congrArg Port.rxq (State.port_modPort _ _ hp)).trans ?_
    exact congrArg Port.rxq (s.port_setPort p _ hp)
  simp only [State.drainPort, one, taken, filled, if_neg (Nat.not_lt.mpr open_), List.isEmpty_nil, if_true]
  exact State.drainPort_nil empty n

end

/-! ## A data flit in sequence (R296, R302, R303) -/

section
variable {s : State} {p : Nat} {f : Flit}

theorem State.takeData_forward {q : Nat} (cool : s.pwr.coolStop = false) (other : f.dest ≠ s.member)
    (route : q = mapRoute s.group.map f.dest) (hq : q < 16) (dest : f.dest < 64)
    (works : (s.port q).st = .up ∨ (s.port q).st = .recovery) :
    s.takeData p f = s.modPort q fun x =>
      { x with fwd := x.fwd ++ [⟨f.dest, f.src, f.lstream, f.start, f.stop, f.used, none, some p⟩] } := by
  subst route
  have kept : ¬ s.pwr.coolStop = true := by simp [cool]
  exact ((if_neg kept).trans (if_pos other)).trans (if_pos ⟨hq, dest, works⟩)

/-- A data flit for this member waits in a receive buffer until its ring takes it. -/
theorem State.takeData_own (cool : s.pwr.coolStop = false) (mine : f.dest = s.member) (core : s.dawn.cmpReset = false)
    (stream : f.lstream < 0xFFF0) :
    s.takeData p f =
      (s.modPort p fun x => { x with rxq := x.rxq ++ [(f.lstream, f.src, f.used, x.eofIn)] }).drainPort p 1025 := by
  unfold State.takeData
  rw [if_neg (by simp [cool]), if_neg (not_not_intro mine), if_neg (by simp [core]), if_neg (by omega)]

theorem State.setPort_setPort (s : State) (p : Nat) (x y : Port) : (s.setPort p x).setPort p y = s.setPort p y := by
  have same : vset (vset s.ports p x) p y = vset s.ports p y := by
    simp [vset, Vector.setIfInBounds_setIfInBounds]
  exact congrArg (fun v => { s with ports := v }) same

/-- A payload that no ring takes fails the step of an active run, unless the module is in compute reset (R303). -/
theorem State.dropFlit_core (core : s.dawn.cmpReset = false) (l src : Nat) :
    s.dropFlit p l src = ((s.countRxDrop p).freeBuffer p).addError (.linkRxDrop p l src) true :=
  if_neg (by simp [State.freeBuffer, State.countRxDrop, State.modPort, core])

section
variable (cool : s.pwr.coolStop = false) (mine : f.dest = s.member) (core : s.dawn.cmpReset = false) (stream : f.lstream < 0xFFF0)
  (hp : p < 16) (empty : (s.port p).rxq = [])
include cool mine core stream hp empty

theorem State.takeData_untaken (none_ : s.linkRing p f.lstream = none) :
    s.takeData p f = (s.setPort p { s.port p with rxq := [] }).dropFlit p f.lstream f.src := by
  have waits := s.port_modPort (fun x => { x with rxq := x.rxq ++ [(f.lstream, f.src, f.used, x.eofIn)] }) hp
  rw [State.takeData_own cool mine core stream,
    State.drainPort_untaken hp ((congrArg Port.rxq waits).trans (by rw [empty]; rfl)) 1024 none_, waits]
  exact congrArg (·.dropFlit p f.lstream f.src) (s.setPort_setPort p _ _)

/-- A payload that no ring takes is counted and its buffer is free; in a run that fails the step (R303). -/
theorem State.takeData_untaken_spec (none_ : s.linkRing p f.lstream = none) :
    (s.takeData p f).port p =
        { s.port p with rxq := [], rxDrop := wrap64 ((s.port p).rxDrop + 1), freed := (s.port p).freed + 1 } ∧
      (s.runActive = true → (s.takeData p f).plan.failNext = true) ∧ (s.takeData p f).stack = s.stack := by
  rw [State.takeData_untaken cool mine core stream hp empty none_]
  refine ⟨?_, fun run => ?_, ?_⟩
  · rw [State.port_dropFlit _ hp, s.port_setPort p _ hp]
  · rw [State.dropFlit_core (s := s.setPort p { s.port p with rxq := [] }) core]
    exact State.addError_failNext _ _ run
  · rw [State.dropFlit_core (s := s.setPort p { s.port p with rxq := [] }) core]
    rfl

theorem State.takeData_taken {g r : Nat} {a : Arming} {b : Block} (taken : s.linkRing p f.lstream = some (g, r))
    (arming : (s.ring g r).arming = some a) (some_ : 0 < f.used.length)
    (near : a.received / a.d.blockBytes < a.released + 5) (found : a.block? (a.received / a.d.blockBytes) = some b)
    (within : a.received % a.d.blockBytes + f.used.length < a.d.blockLen (a.received / a.d.blockBytes)) :
    s.takeData p f = ((s.setPort p { s.port p with rxq := [] }).setRing g r
      { s.ring g r with arming := some (a.fill f.used) }).freeBuffer p := by
  have waits := s.port_modPort (fun x => { x with rxq := x.rxq ++ [(f.lstream, f.src, f.used, x.eofIn)] }) hp
  rw [State.takeData_own cool mine core stream,
    State.drainPort_taken hp ((congrArg Port.rxq waits).trans (by rw [empty]; rfl)) 1024 taken
      (le_of_eq (congrArg Port.eofIn waits :)) arming some_ near found within, waits]
  exact congrArg (fun u : State => (u.setRing g r { s.ring g r with arming := some (a.fill f.used) }).freeBuffer p)
    (s.setPort_setPort p _ _)

/-- A payload that its ring has room for joins the ring's current block and its buffer is free (R294, R302). -/
theorem State.takeData_taken_spec {g r : Nat} {a : Arming} {b : Block} (taken : s.linkRing p f.lstream = some (g, r))
    (arming : (s.ring g r).arming = some a) (some_ : 0 < f.used.length)
    (near : a.received / a.d.blockBytes < a.released + 5) (found : a.block? (a.received / a.d.blockBytes) = some b)
    (within : a.received % a.d.blockBytes + f.used.length < a.d.blockLen (a.received / a.d.blockBytes)) :
    (s.takeData p f).port p = { s.port p with rxq := [], freed := (s.port p).freed + 1 } ∧
      ((s.takeData p f).ring g r).arming = some (a.fill f.used) ∧ (s.takeData p f).stack = s.stack := by
  rw [State.takeData_taken cool mine core stream hp empty taken arming some_ near found within]
  refine ⟨(State.port_modPort _ _ hp).trans ?_, congrArg Ring.arming (State.ring_setRing _ g r _), rfl⟩
  exact congrArg (fun x : Port => { x with freed := x.freed + 1 }) (s.port_setPort p { s.port p with rxq := [] } hp)

end

end

/-- What a flit that is taken leaves of its port: its header acts, and its number is the last one. -/
def Port.taking (x : Port) (f : Flit) : Port := { x.takeHeader f with rxSeq := f.seq % 4096 }

theorem Port.taking_eq (x : Port) (f : Flit) : ∃ l, x.taking f =
    { x with
      credits := min 1024 (x.credits + 4 * f.credits)
      replay := x.replay.filter fun y => !acked (f.ack % 4096) y.seq
      resend := l
      rxSeq := f.seq % 4096 } := by
  obtain ⟨l, header⟩ := x.takeHeader_eq f
  exact ⟨l, by rw [Port.taking, header]⟩

theorem State.port_taking (s : State) {p : Nat} (hp : p < 16) (f : Flit) : ∃ l, (s.setPort p ((s.port p).taking f)).port p =
    { s.port p with
      credits := min 1024 ((s.port p).credits + 4 * f.credits)
      replay := (s.port p).replay.filter fun y => !acked (f.ack % 4096) y.seq
      resend := l
      rxSeq := f.seq % 4096 } := by
  obtain ⟨l, taken⟩ := (s.port p).taking_eq f
  exact ⟨l, (s.port_setPort p _ hp).trans taken⟩

/-- No port's state or forwarded flits are others for it. -/
theorem State.port_taking_keeps (s : State) {p : Nat} (hp : p < 16) (f : Flit) (q : Nat) :
    ((s.setPort p ((s.port p).taking f)).port q).st = (s.port q).st ∧
      ((s.setPort p ((s.port p).taking f)).port q).fwd = (s.port q).fwd := by
  by_cases same : q = p
  · subst same
    obtain ⟨l, taken⟩ := s.port_taking hp f
    rw [taken]
    exact ⟨rfl, rfl⟩
  · rw [s.port_setPort_ne _ p q same]
    exact ⟨rfl, rfl⟩

/-! ## The commands -/

section
variable {s₀ s : State} {p ce ue : Nat} {f : Flit} (after : s = s₀.fecReport p ce ue) (up : (s.port p).st = .up)
  (whole : f.good = true) (data : f.kind = 1)
include after up whole data

theorem execDataFlitReceive_gap (gap : f.seq % 4096 ≠ ((s.port p).rxSeq + 1) % 4096) :
    exec (.dataFlitReceive p f ce ue) s₀ = .next (s.setPort p { (s.port p).takeHeader f with nak := true }) := by
  rw [execDataFlitReceive_up after up (.inr data), Port.accept_gap whole data gap]
  rfl

/-- A data flit in sequence: its header acts, and it is taken. -/
theorem execDataFlitReceive_next (next : f.seq % 4096 = ((s.port p).rxSeq + 1) % 4096) :
    exec (.dataFlitReceive p f ce ue) s₀ =
      .next ((s.setPort p ((s.port p).taking f)).takeData p f) := by
  rw [execDataFlitReceive_up after up (.inr data), Port.accept_next whole data next]
  rfl

end

/-- Settles O49: the flit of a slot by its kind and its frame, FEC by how many codewords it reports, and an arriving flit by how its
port accepts it and what becomes of its payload. -/
theorem flitsMoveInOrder : Obligations.FlitsMoveInOrder := by
  unfold Obligations.FlitsMoveInOrder
  refine ⟨fun s p up => ?sent, fun s p ce ue up => ?fec, fun s₀ s p ce ue f after up => ⟨fun damaged => ?damaged,
    fun whole data gap => ?gap, fun whole data next cool => ⟨fun q other route hq dest works => ?forwarded,
      fun mine core stream empty => ⟨fun none_ => ?dropped, fun g r a b taken arming some_ near found within => ?joined⟩⟩,
    fun whole idle => ?idle⟩⟩
  case sent =>
    have hp : p < 16 := State.port_lt up
    have frame := s.sendSlot_frame p
    have port := s.sendSlot_port hp
    have sends := s.nextFlit_sendsOnly p
    obtain ⟨sync, other⟩ := s.kind_flitSent p
    unfold Port.Settles at port
    unfold Port.SendsOnly at sends
    have freed : (s.nextFlit p).1.freed = (s.port p).freed := (congrArg Port.freed sends :)
    have taken : (s.nextFlit p).1.rxSeq = (s.port p).rxSeq := (congrArg Port.rxSeq sends :)
    have slot : (s.nextFlit p).1.slot = (s.port p).slot := (congrArg Port.slot sends :)
    refine ⟨_, s.flitSent p, execFlitSlotSend_up up, congrArg State.out frame, rfl, ?_, ?_, ?_, congrArg Port.nak port,
      (congrArg State.stack frame :), (congrArg State.tiles frame :), fun x rest cool fresh room data credit own fwd => ?_, sync, other⟩
    · change ((s.nextFlit p).1.rxSeq + if (s.nextFlit p).1.nak then 4096 else 0) % 4096 = _
      rw [taken]
      split <;> omega
    · change min 255 ((s.nextFlit p).1.freed / 4) = _
      rw [freed]
    · rw [port, ← slot]
      rfl
    · have picked : s.nextFlit p = _ := (if_neg (by simp [cool])).trans (Port.slotFlit_own data fresh room credit own fwd)
      have flit : s.flitSent p = _ := congrArg (fun y : Port × Flit × Option TxFlit => (y.1.stamp y.2.1).2) picked
      rw [picked] at port
      rw [flit]
      exact ⟨x.kind_toFlit, rfl, rfl, rfl, rfl, rfl, rfl, (congrArg Port.txSeq port :), (congrArg Port.own port :),
        (congrArg Port.credits port :), (congrArg (·.replay.length) port :).trans List.length_append⟩
  case fec =>
    have hp : p < 16 := State.port_lt up
    obtain ⟨st, lost, old, counted⟩ := s.port_fecReport hp ce ue
    refine ⟨(congrArg Port.fecCe counted :), (congrArg Port.fecUe counted :), fun few => ?_, fun many => ?_⟩
    · rw [State.fecReport_few few]
      exact ⟨(congrArg Port.st (s.port_setPort p _ hp)).trans up, rfl⟩
    · have recovers := State.port_enterRecovery (s.setPort p ((s.port p).countCodewords ce ue s.clk.wall)) hp
      rw [← State.fecReport_many up many] at recovers
      have down : ((s.fecReport p ce ue).port p).st ≠ .up := by rw [recovers]; exact nofun
      exact ⟨congrArg Port.st recovers, congrArg Port.lostAt recovers, fun f =>
        ⟨execDataFlitReceive_down down f, execIdleFlitReceive_down down f⟩⟩
  case damaged =>
    rw [execDataFlitReceive_up after up (.inl damaged), Port.accept_damaged damaged]
    rfl
  case gap =>
    obtain ⟨l, header⟩ := (s.port p).takeHeader_eq f
    have read := s.port_setPort p { (s.port p).takeHeader f with nak := true } (State.port_lt up)
    rw [header] at read
    refine ⟨_, execDataFlitReceive_gap after up whole data gap, ?_, ?_, ?_, fun q h => s.port_setPort_ne _ p q h, rfl⟩
    all_goals rw [header, read]
  case forwarded =>
    have hp : p < 16 := State.port_lt up
    obtain ⟨l, taken⟩ := s.port_taking hp f
    obtain ⟨st, fwd⟩ := s.port_taking_keeps hp f q
    refine ⟨_, execDataFlitReceive_next after up whole data next, ?_⟩
    rw [State.takeData_forward (s := s.setPort p ((s.port p).taking f)) cool other route hq dest (by rwa [st])]
    refine ⟨?_, by rw [State.port_modPort _ _ hq, fwd]⟩
    have number := congrArg Port.rxSeq taken
    rcases State.port_modPort_or (s.setPort p ((s.port p).taking f)) q p _ with same | queued
    · rw [same, number]
    · rw [queued, number]
  case dropped =>
    have hp : p < 16 := State.port_lt up
    obtain ⟨l, taken⟩ := s.port_taking hp f
    obtain ⟨port, fails, stack⟩ := State.takeData_untaken_spec (s := s.setPort p ((s.port p).taking f)) cool mine core stream hp
      ((congrArg Port.rxq taken).trans empty) none_
    rw [taken] at port
    exact ⟨_, execDataFlitReceive_next after up whole data next, congrArg Port.rxSeq port, (congrArg Port.rxDrop port :),
      (congrArg Port.freed port :), fails, stack⟩
  case joined =>
    have hp : p < 16 := State.port_lt up
    obtain ⟨l, read⟩ := s.port_taking hp f
    have some_ : 0 < f.used.length := by rw [Flit.length_used]; omega
    obtain ⟨port, filled, stack⟩ := State.takeData_taken_spec (s := s.setPort p ((s.port p).taking f)) cool mine core stream hp
      ((congrArg Port.rxq read).trans empty) taken arming some_ near found within
    rw [read] at port
    exact ⟨_, a.fill f.used, _, execDataFlitReceive_next after up whole data next, congrArg Port.rxSeq port,
      (congrArg Port.freed port :), filled, rfl, Arming.block?_fill found, rfl, stack⟩
  case idle =>
    obtain ⟨l, header⟩ := (s.port p).takeHeader_eq f
    have read := s.port_setPort p ((s.port p).takeHeader f) (State.port_lt up)
    rw [header] at read
    refine ⟨s.setPort p ((s.port p).takeHeader f), ?_, ?_, ?_, ?_, fun q h => s.port_setPort_ne _ p q h, rfl⟩
    · rw [execIdleFlitReceive_up after up idle, Port.accept_idle whole idle]
    all_goals rw [header, read]

end Sys2Proof.Machine
end

section
/-! PROOFS. What an instruction of a tile program leaves alone beside its tile (R79, R90, R203, R431, R443). -/

namespace Sys2Proof.Machine

/-- The state after an issue reads, of the module's parts that an issue has no part in, as the state before. -/
def State.TileWork (s u : State) : Prop :=
  u = { s with
    tiles := u.tiles, regions := u.regions, barriers := u.barriers, numNow := u.numNow, free := u.free
    err := { s.err with frame := u.err.frame }
    plan := { s.plan with failNext := u.plan.failNext }
    frm := { s.frm with lastWait := u.frm.lastWait } }

theorem State.noteWait_lastWait (s : State) (t : Nat) :
    s.noteWait t = { s with frm := { s.frm with lastWait := (s.noteWait t).frm.lastWait } } := by
  unfold State.noteWait
  exact ite_related (R := fun a b : State => b = { a with frm := { a.frm with lastWait := b.frm.lastWait } }) rfl rfl

theorem State.TileWork.finishIssue (s : State) (t : Nat) (x : Tile) (n : Notes) : s.TileWork (s.finishIssue t x n) := by
  have put := State.TilesOnly.putTile s t x n
  unfold State.TilesOnly at put
  unfold State.TileWork State.finishIssue
  rw [State.noteBarriers_frame, State.noteWait_lastWait, put]

/-- Only the counters of the tile's region change, and no other region. -/
theorem State.regions_finishIssue (s : State) (t : Nat) (x : Tile) (n : Notes) :
    (s.finishIssue t x n).regions = (s.putTile t x n).regions := by
  rw [State.finishIssue_frame]

theorem State.region_finishIssue_ne (s : State) {t k : Nat} (x : Tile) (n : Notes) (h : k ≠ regionOf t) :
    (s.finishIssue t x n).region k = s.region k := by
  rw [State.region_congr _ _ k (s.regions_finishIssue t x n), State.putTile,
    (State.OtherRegions.applyNotes (s.setTile t x) t n).1 k h]
  rfl

/-- Settles O21: the state after a command is the one before it, that one with a free value taken (log 9), or one that an issue
has left (`exec_tileIssued`). -/
theorem tileInstructionsChangeOnlyTheirTile : Obligations.TileInstructionsChangeOnlyTheirTile := by
  unfold Obligations.TileInstructionsChangeOnlyTheirTile
  intro c t op a s u named run
  obtain ⟨s', free, rfl | ⟨x, n, rfl, -⟩⟩ := exec_tileIssued named rfl run
  · rcases free with rfl | rfl <;> exact ⟨fun _ _ => rfl, fun _ _ => rfl, rfl, rfl⟩
  · have tile : ∀ k, k ≠ t → (s'.finishIssue t x n).getTile k = s'.getTile k := fun k h => by
      rw [State.getTile_finishIssue, State.getTile_setTile_ne s' x t k h]
    have region := s'.region_finishIssue t x n
    have work := State.TileWork.finishIssue s' t x n
    unfold State.TileWork at work
    rcases free with rfl | rfl
    · exact ⟨tile, fun r h => State.region_finishIssue_ne _ x n h, by rw [region]; rfl, work⟩
    · exact ⟨tile, fun r h => State.region_finishIssue_ne _ x n h, by rw [region]; rfl, work⟩

end Sys2Proof.Machine
end

section
/-! PROOFS. The life cycle: a state that has not fallen behind an earlier one in SVN_MIN and has not left SCRAP, and the shared
operations that keep it so (R402, R407, R409). -/

namespace Sys2Proof.Machine

/-- The state o may come to s: SVN_MIN is no less than it was in o, and s is scrapped if o was. -/
def State.LifeFrom (s o : State) : Prop := o.sector.svnMin ≤ s.sector.svnMin ∧ (o.scrapped → s.scrapped)

theorem State.LifeFrom.refl (s : State) : s.LifeFrom s := ⟨Nat.le_refl _, id⟩

namespace State.LifeFrom

variable {s o : State}

theorem branch {c : Prop} [Decidable c] {a b : State} (ha : a.LifeFrom o) (hb : b.LifeFrom o) : (if c then a else b).LifeFrom o := by
  split <;> assumption

section
variable (h : s.LifeFrom o)
include h

/-- It rests on the state sector and the change under way only. -/
theorem congr {t : State} (sector : t.sector = s.sector) (change : t.ctl.change = s.ctl.change) : t.LifeFrom o := by
  obtain ⟨svn, scrap⟩ := h
  refine ⟨sector ▸ svn, fun was => ?_⟩
  rw [State.scrapped, sector, change]
  exact scrap was

theorem foldl {α : Type} {f : State → α → State} (each : ∀ {s : State} (a : α), s.LifeFrom o → (f s a).LifeFrom o) (l : List α) :
    (l.foldl f s).LifeFrom o :=
  foldl_related (fun a b : State => a.LifeFrom o → b.LifeFrom o) (fun _ => id) (fun hab hbc => hbc ∘ hab) f (fun _ a => each a) l s h

/-! ## Work that touches neither the sector nor the change under way -/

theorem tilesOnly {t : State} (k : s.TilesOnly t) : t.LifeFrom o := by
  rw [k]
  exact h

theorem missOnly {t : State} (k : s.MissOnly t) : t.LifeFrom o := by
  rw [k]
  exact h

theorem gateWork {t : State} (k : s.GateWork t) : t.LifeFrom o := by
  rw [k]
  exact h

theorem cycleWork {t : State} (k : s.CycleWork t) : t.LifeFrom o := by
  rw [k]
  exact h

theorem stopWork {t : State} (k : s.StopWork t) : t.LifeFrom o := by
  rw [k]
  exact h

theorem readWork {t : State} (k : s.ReadWork t) : t.LifeFrom o := by
  rw [k]
  exact h

theorem dawnFinds {t : State} (k : s.DawnFinds t) : t.LifeFrom o := by
  rw [k]
  exact h

theorem tileWork {t : State} (k : s.TileWork t) : t.LifeFrom o := by
  rw [k]
  exact h

theorem tellsDown {t : State} (k : s.TellsDown t) : t.LifeFrom o := by
  rw [k.1]
  exact h

theorem unitAsks {g : Nat} {t : State} (k : s.UnitAsks g t) : t.LifeFrom o := by
  rw [k.1]
  exact h

theorem gradientWork {g : Nat} {t : State} (k : s.GradientWork g t) : t.LifeFrom o := by
  rw [k.1]
  exact h

theorem keepsControl {t : State} (k : s.KeepsControl t) : t.LifeFrom o := by
  obtain ⟨-, -, sector, ctl, -⟩ := k
  exact h.congr sector (congrArg Ctl.change ctl)

/-! ## Records, vectors and messages -/

theorem noteSet (r : W1cReg) (b : Nat) : (s.noteSet r b).LifeFrom o := h
theorem modTile (t : Nat) (f : Tile → Tile) : (s.modTile t f).LifeFrom o := h
theorem modRegion (r : Nat) (f : Region → Region) : (s.modRegion r f).LifeFrom o := h
theorem modGate (g : Nat) (f : Gate → Gate) : (s.modGate g f).LifeFrom o := h
theorem setRing (g r : Nat) (x : Ring) : (s.setRing g r x).LifeFrom o := h
theorem modPort (p : Nat) (f : Port → Port) : (s.modPort p f).LifeFrom o := h
theorem setHost (p : Nat) (x : HostPort) : (s.setHost p x).LifeFrom o := h
theorem modHost (p : Nat) (f : HostPort → HostPort) : (s.modHost p f).LifeFrom o := h
theorem emit (x : Out) : (s.emit x).LifeFrom o := h
theorem addError (k : ErrKind) (fails : Bool) : (s.addError k fails).LifeFrom o := h
theorem logRecord (kind : Nat) (data : List Byte) : (s.logRecord kind data).LifeFrom o := h
theorem mapChange (c : MapChange) : (s.mapChange c).LifeFrom o := h
theorem unform : s.unform.LifeFrom o := h

theorem raiseVector (v : Nat) : (s.raiseVector v).LifeFrom o := by
  rw [State.raiseVector_frame]
  exact h

theorem sendPending (p : Nat) : (s.sendPending p).LifeFrom o := by
  rw [State.sendPending_frame]
  exact h

theorem powerEvent (b : Nat) : (s.powerEvent b).LifeFrom o := by
  rw [State.powerEvent_frame]
  exact h

theorem linkStatus (b : Nat) (f : Group → Group) : (s.linkStatus b f).LifeFrom o := by
  rw [State.linkStatus_frame]
  exact h

theorem flood (m : SyncMsg) (skip : Option Nat) : (s.flood m skip).LifeFrom o := by
  rw [State.flood_frame]
  exact h

theorem floodAbort (cause : Nat) : (s.floodAbort cause).LifeFrom o := by
  rw [State.floodAbort_frame]
  exact h

theorem addChanDrop (r n : Nat) : (s.addChanDrop r n).LifeFrom o := by
  rw [State.addChanDrop_frame]
  exact h

theorem placeErrors : s.placeErrors.LifeFrom o := by
  unfold State.placeErrors
  extract_lets e noted
  have kept : noted.LifeFrom o := branch h h
  exact branch h (raiseVector (by exact kept) _)

theorem detectSyncLost : s.detectSyncLost.LifeFrom o := (((h.addError .syncLost true).linkStatus 0 _).floodAbort 3).unform

theorem syncTiles : s.syncTiles.LifeFrom o := h.tilesOnly (.syncTiles s)

theorem putTile (t : Nat) (x : Tile) (n : Notes) : (s.putTile t x n).LifeFrom o := h.tilesOnly (.putTile s t x n)

theorem noteBarriers : s.noteBarriers.LifeFrom o := by
  rw [State.noteBarriers_frame]
  exact h

theorem dropNodes (r : Nat) : (s.dropNodes r).LifeFrom o := by
  rw [State.dropNodes_frame]
  exact h

/-! ## The live map and the images (R36, R402) -/

theorem mergeMap : s.mergeMap.LifeFrom o := by
  rw [State.mergeMap_frame]
  exact h

theorem settleMap : s.settleMap.LifeFrom o := by
  rw [State.settleMap_frame]
  exact h

theorem storeMap : s.storeMap.LifeFrom o := by
  rw [State.storeMap_frame]
  exact h

theorem storeOwner : s.storeOwner.LifeFrom o := by
  rw [State.storeOwner_frame]
  exact h

theorem finishWrites : s.finishWrites.LifeFrom o := h.storeOwner.storeMap

theorem applyMap : s.applyMap.LifeFrom o := by
  unfold State.applyMap
  exact branch (h.mergeMap.raiseVector _) h.mergeMap

theorem addTotals : s.addTotals.LifeFrom o := by
  have log := s.addTotals_frame
  generalize s.addTotals = t at log ⊢
  rw [log]
  exact h

/-! ## Night and stops (R355 to R359, R389) -/

theorem enterNight : s.enterNight.LifeFrom o := by
  rw [State.enterNight_frame]
  exact h

theorem coolStop : s.coolStop.LifeFrom o := h.stopWork (.coolStop s)

theorem thermTrip (k : ErrKind) : (s.thermTrip k).LifeFrom o := by
  unfold State.thermTrip
  extract_lets _ _ tripped
  have kept : tripped.LifeFrom o := powerEvent (by exact h) 2
  exact branch h (kept.addError k true).coolStop

theorem abortSlices : s.abortSlices.LifeFrom o := by
  rw [State.abortSlices_frame]
  exact h

theorem computeWipe : s.computeWipe.LifeFrom o := h.keepsControl (.computeWipe s)

theorem stopCompute : s.stopCompute.LifeFrom o := by
  obtain ⟨-, -, sector, ctl, -⟩ := s.stopCompute_control
  exact h.congr sector (congrArg Ctl.change ctl)

/-! ## Ports (R300, R301) -/

theorem portDrop (p : Nat) (st : PortState) (result : Nat) : (s.portDrop p st result).LifeFrom o := by
  refine tellsDown ?_ (.portDrop s p st result)
  rw [State.portCleared_frame]
  exact h

end

end State.LifeFrom

end Sys2Proof.Machine
end

section
/-! PROOFS. The life cycle under the frame tick: no part of it changes SVN_MIN or leads out of SCRAP (R24, R402, R407). -/

namespace Sys2Proof.Machine

namespace State.LifeFrom

variable {s o : State} (h : s.LifeFrom o)
include h

/-! ## The frame that ends (R189, R201, R203, R345 to R354) -/

theorem discardFlights : s.discardFlights.LifeFrom o := by
  unfold State.discardFlights
  extract_lets cleared mesh rim
  have stripped : cleared.LifeFrom o := h
  have lost : mesh.LifeFrom o := stripped.foldl (fun _ k => k.addChanDrop _ 1) _
  have lostAtRim : rim.LifeFrom o := lost.foldl (fun _ k => k.addChanDrop _ 1) _
  exact lostAtRim.foldl (fun _ k => branch k (addChanDrop (by exact k) _ _)) _

theorem measureFrame (tel : Telemetry) (wall : Nat) : (s.measureFrame tel wall).LifeFrom o := by
  unfold State.measureFrame
  extract_lets ph ks noted _ metered _ _ _ learnt _ _
  have seen : noted.LifeFrom o := foldl (f := fun s (x : Nat × Nat) => s.noteRegion x.1 x.2) h (fun x k => k.modRegion x.1 _) _
  clear_value noted
  have shown : metered.LifeFrom o := seen
  have known : learnt.LifeFrom o := branch shown shown
  clear_value learnt
  exact branch (powerEvent (by exact known) 6) known

theorem watchStage : s.watchStage.LifeFrom o := by
  unfold State.watchStage
  exact branch (raiseVector (by exact h) _) h

theorem stackTemps (l : List (Nat × Int)) : (s.stackTemps l).LifeFrom o := by
  unfold State.stackTemps
  extract_lets heated
  have kept : heated.LifeFrom o := h.foldl (fun x k => branch (k.modGate _ _) k) _
  split
  · exact branch kept ((kept.thermTrip _).logRecord 7 _)
  · exact kept

theorem closeFrame : s.closeFrame.LifeFrom o := by
  unfold State.closeFrame
  extract_lets stretch _ frm noted
  have kept : noted.LifeFrom o := h.foldl (fun b k => k.noteSet .num b) _
  exact kept

theorem enterDusk (r : Nat) (f : Region → Region) : (s.enterDusk r f).LifeFrom o := branch h (h.dropNodes r)

theorem leaveDusk (r : Nat) (f : Region → Region) : (s.leaveDusk r f).LifeFrom o := branch h h

theorem planDuskRegion (r : Nat) : (s.planDuskRegion r).LifeFrom o := by
  unfold State.planDuskRegion
  split
  · exact h
  · exact branch (h.enterDusk r _) (branch (h.leaveDusk r _) h)

theorem endRamps (count : Nat) : (s.endRamps count).LifeFrom o := by
  refine h.foldl (fun r k => ?_) _
  extract_lets done ramped
  have plan : ramped.LifeFrom o := branch (k.leaveDusk r _) k
  exact branch (plan.leaveDusk r _) plan

theorem heatEnter (idle phaseBegins : Bool) (r : Nat) : (s.heatEnter idle phaseBegins r).LifeFrom o := by
  unfold State.heatEnter
  extract_lets x dusk _ counted
  have entered : dusk.LifeFrom o := h.enterDusk r _
  clear_value dusk
  have event : counted.LifeFrom o := powerEvent (by exact entered) 4
  exact branch h (branch (event.addError _ _) (branch ((h.addError _ _).powerEvent 4) h))

theorem heatTick : s.heatTick.LifeFrom o := by
  unfold State.heatTick
  extract_lets on f
  split
  · exact h.foldl (fun r k => k.heatEnter _ _ r) _
  · exact h.foldl (fun r k => k.heatEnter true false r) _

theorem heatWatch (r : Nat) : (s.heatWatch r).LifeFrom o := by
  unfold State.heatWatch
  exact branch h (branch (branch h h) (branch h h))

theorem tickEnd (tel : Telemetry) : (s.tickEnd tel).LifeFrom o := by
  have closed := ((h.measureFrame tel s.pwr.tickWall).watchStage.stackTemps tel.stackTemps).closeFrame
  exact (closed.endRamps _).heatTick.gateWork (.linkedFaults _)

/-! ## The run (R146, R147, R287, R331) -/

theorem setPlanState (x : PlanState) : (s.setPlanState x).LifeFrom o := by
  unfold State.setPlanState
  exact branch h (raiseVector (by exact h) _)

theorem refusePlan (code : Nat) : (s.refusePlan code).LifeFrom o := raiseVector (by exact h) _

theorem recordStep (status : Nat) (stop : Bool) : (s.recordStep status stop).LifeFrom o := by
  unfold State.recordStep
  extract_lets r
  unfold State.postStep
  exact branch h (raiseVector (by exact h) _)

theorem endRun : s.endRun.LifeFrom o := setPlanState (gateWork (by exact h) (.disarmAll _)) _

theorem agree : s.agree.LifeFrom o := by
  unfold State.agree
  extract_lets u others ms badOk badStep agreed _ _ refused
  have told : refused.LifeFrom o := h
  exact branch h (branch h ((told.noteSet .upd 0).addError _ false))

theorem restartTiles : s.restartTiles.LifeFrom o := by
  unfold State.restartTiles
  split
  · exact h
  · exact foldl (f := fun (s : State) (i : Nat × TileImage) => s.modTile i.1 _) h (fun i k => k.modTile i.1 _) _

theorem beginStep (first : Bool) : (s.beginStep first).LifeFrom o := by
  unfold State.beginStep
  extract_lets _ _ begun
  have fresh : begun.LifeFrom o := h
  clear_value begun
  refine restartTiles ?_
  unfold State.openStep
  extract_lets u now ok slots opened told
  have kept : opened.LifeFrom o := fresh
  exact (show told.LifeFrom o from branch (kept.flood _ _) kept).agree

theorem takeLength : s.takeLength.LifeFrom o := by
  unfold State.takeLength
  split
  · exact branch h h
  · exact h

theorem applyLength : s.applyLength.LifeFrom o := h.takeLength

theorem failStep (codes : List Nat) : (s.failStep codes).LifeFrom o := by
  unfold State.failStep
  extract_lets refused recorded _ failed tell stopped told
  have step : recorded.LifeFrom o := h.recordStep _ true
  have noted : failed.LifeFrom o := branch (noteSet (by exact step) .err 2) step
  have idle : stopped.LifeFrom o := noted.endRun
  have sent : told.LifeFrom o := (branch (idle.floodAbort 1) idle).unform
  exact branch sent.computeWipe sent

theorem startRun : s.startRun.1.LifeFrom o := by
  unfold State.startRun
  split
  · exact h
  · extract_lets _ taken _ begun rings _ seen go armed
    have kept : taken.LifeFrom o := h
    split
    · exact ((kept.refusePlan 11).floodAbort 2).unform
    · have repeats : rings.LifeFrom o := (applyLength (s := begun) kept).gateWork (.repeatRings _)
      have each : armed.LifeFrom o := foldl (s := seen) repeats (fun t k => k.gateWork (.armRing _ t.gate t.ring _)) _
      exact (each.setPlanState .running).beginStep true

theorem runTick (codes : List Nat) : (s.runTick codes).1.LifeFrom o := by
  unfold State.runTick
  split
  · split
    · exact (h.failStep codes).applyLength
    · split
      · extract_lets stop closed
        have kept : closed.LifeFrom o := h.recordStep 0 stop
        split
        · exact applyLength (s := (closed.endRun).rampBack) kept.endRun
        · exact (kept.gateWork (.repeatRings _)).beginStep false
      · exact h
  · split
    · exact h.startRun
    · exact h.applyLength

/-! ## Commits, the clock and the map (R15, R24, R36, R356, R358) -/

theorem commitPort (p : Nat) : (s.commitPort p).LifeFrom o := by
  unfold State.commitPort
  extract_lets x b taken
  have kept : taken.LifeFrom o := h
  exact branch (kept.portDrop p _ _) kept

theorem commitFields : s.commitFields.LifeFrom o := by
  unfold State.commitFields
  extract_lets g _ _ taken
  have kept : taken.LifeFrom o := h
  exact kept.foldl (fun p k => k.commitPort p) _

theorem resume : s.resume.LifeFrom o := by
  unfold State.resume
  extract_lets _ _ day _ _ _ woken called restarted back _ _ released ready
  have morning : day.LifeFrom o := branch h h
  have tiles : woken.LifeFrom o := morning
  have vector : called.LifeFrom o := branch (tiles.raiseVector _) tiles
  have core : restarted.LifeFrom o := branch (branch (vector.flood _ _) vector) morning
  clear_value restarted
  have free : released.LifeFrom o := core
  have told : ready.LifeFrom o := branch (free.raiseVector _) free
  exact branch (branch (told.flood _ _) told) core

theorem applyClock : s.applyClock.LifeFrom o := h

theorem storeOld : s.storeOld.LifeFrom o := by
  unfold State.storeOld
  split
  · exact branch h.storeMap h
  · exact h

theorem mapTick : s.mapTick.LifeFrom o := by
  unfold State.mapTick
  extract_lets l day old merged c
  have kept : merged.LifeFrom o := h.applyMap
  exact branch kept (kept.logRecord 11 _)

theorem tickTurn : s.tickTurn.1.LifeFrom o := by
  unfold State.tickTurn
  extract_lets codes committed resumed _ counted ended c stored y armed
  have fields : committed.LifeFrom o := h.placeErrors.commitFields
  have clock : resumed.LifeFrom o := fields.resume.applyClock
  clear_value resumed
  have frames : ended.LifeFrom o := foldl (s := counted) clock (fun (x : Nat × Nat) k => k.gateWork (.ringFrameEnd _ x.1 x.2)) _
  have map : stored.LifeFrom o := (frames.gateWork (.commitRings _)).storeOld.mapTick
  exact (map.runTick codes).gateWork (.checkArmings _ armed)

/-! ## The frame that begins (R217 to R219, R308, R340 to R354, R384) -/

theorem startSlice (r : Nat) (begun : List Nat) : (s.startSlice r begun).LifeFrom o := by
  unfold State.startSlice
  extract_lets x gapOk
  split
  · exact h
  · split <;> exact h

theorem startTiles : s.startTiles.LifeFrom o := by
  unfold State.startTiles
  extract_lets begun started
  have kept : started.LifeFrom o := h
  exact branch kept (kept.foldl (fun r k => k.startSlice r begun) _)

theorem groupTick : s.groupTick.LifeFrom o := by
  unfold State.groupTick
  extract_lets g code _ sent _
  have kept : sent.LifeFrom o := h
  exact branch h (branch kept (emit (by exact kept) _))

theorem openOrigin (stretched : Bool) : (s.openOrigin stretched).LifeFrom o := by
  unfold State.openOrigin
  extract_lets hs n _ before missed _
  have kept : missed.LifeFrom o := foldl (s := before) h (fun (x : Nat × Nat) k => k.missOnly (.addMiss _ 1 x.1 x.2 0)) _
  exact branch h kept

theorem emitEofs (p : Nat) : (s.emitEofs p).LifeFrom o := by
  rw [State.emitEofs_frame]
  exact h

theorem formRequest : s.formRequest.LifeFrom o := by
  unfold State.formRequest
  extract_lets keep q _ asked _ _ coded p limited
  have request : asked.LifeFrom o := h
  have code : coded.LifeFrom o := branch request request
  have limit : limited.LifeFrom o := branch (code.powerEvent 5) code
  exact branch limit (limit.powerEvent 7)

theorem thermalUpdate : s.thermalUpdate.LifeFrom o := h.congr rfl rfl
theorem moveRails : s.moveRails.LifeFrom o := by
  simp only [State.LifeFrom, State.scrapped, State.moveRails]
  exact h
theorem showWindows : s.showWindows.LifeFrom o := h.congr rfl rfl

theorem countTemp : s.countTemp.LifeFrom o := by
  unfold State.countTemp
  exact branch h h

theorem tickBegin (stretched : Bool) : (s.tickBegin stretched).LifeFrom o := by
  unfold State.tickBegin
  extract_lets _ _ cleared grouped started dusk heated near rings handed eofs
  have fresh : cleared.LifeFrom o := h
  have tiles : started.LifeFrom o := fresh.groupTick.startTiles
  clear_value started
  have planned : dusk.LifeFrom o := branch (tiles.foldl (fun r k => k.planDuskRegion r) _) tiles
  have regions : heated.LifeFrom o := planned.foldl (fun r k => k.heatWatch r) _
  clear_value heated
  have counted : near.LifeFrom o := regions.congr rfl rfl
  have opened : rings.LifeFrom o :=
    (counted.foldl (fun (x : Nat × Nat) k => k.gateWork (.ringFrameStart _ x.1 x.2)) _).openOrigin stretched
  have given : handed.LifeFrom o := branch opened ((opened.gateWork (.markAllGo _)).gateWork (.handBlocks _))
  have sent : eofs.LifeFrom o := given.foldl (fun p k => k.emitEofs p) _
  clear_value eofs
  exact sent.thermalUpdate.formRequest.moveRails.countTemp.showWindows

theorem tick (tel : Telemetry) : (s.tick tel).LifeFrom o := ((h.tickEnd tel).tickTurn.tickBegin _).noteBarriers

/-! ## A cycle that passes (R8, R22) -/

theorem passCycle : s.passCycle.LifeFrom o := by
  cases powered : s.dawn.powered with
  | false => rwa [State.passCycle_unpowered powered]
  | true =>
    have start : s.dropStrays.sendWakes.LifeFrom o := by
      have frame := s.sendWakes_dropStrays_frame
      exact h.congr (by rw [frame]) (by rw [frame])
    rw [State.passCycle_powered powered rfl]
    have passed := start.cycleWork (.cycleBody _)
    generalize s.dropStrays.sendWakes.cycleBody = u at passed ⊢
    exact passed

end State.LifeFrom

end Sys2Proof.Machine
end

section
/-! PROOFS. The life cycle under transfers of the stacks, reads of the host, lines, flits, rows of the boulevard, tests of Dawn and
messages of the group: none of them is part of it (R402, R407). -/

namespace Sys2Proof.Machine

/-- An outcome whose next state, if it has one, o may come to. -/
structure LifeOutcome (r : Outcome) (o : State) : Prop where
  kept : match r with
    | .next s => s.LifeFrom o
    | _ => True

namespace LifeOutcome

variable {s o : State}

theorem next (h : s.LifeFrom o) : LifeOutcome (.next s) o := ⟨h⟩

theorem of_next {r : Outcome} (h : LifeOutcome r o) (run : r = .next s) : s.LifeFrom o := (run ▸ h).kept

theorem fault (f : Fault) : LifeOutcome (.fault f) o := ⟨trivial⟩

theorem branch {c : Prop} [Decidable c] {a b : Outcome} (ha : LifeOutcome a o) (hb : LifeOutcome b o) :
    LifeOutcome (if c then a else b) o := by
  split <;> assumption

end LifeOutcome

namespace State.LifeFrom

variable {s o : State} (h : s.LifeFrom o)
include h

/-! ## Transfers of the stacks (R225 to R227, R245, R277) -/

theorem issueRing (g : Nat) (c : Candidate) : (s.issueRing g c).LifeFrom o := by
  unfold State.issueRing
  extract_lets x ring pop
  split
  · exact h
  · split
    · exact h
    · extract_lets wd fl issued
      have kept : issued.LifeFrom o := h
      exact branch kept kept

theorem issueUpdate (g : Nat) (y : UpdXfer) (rest : List UpdXfer) : (s.issueUpdate g y rest).LifeFrom o := branch h h

theorem issueChecked (g : Nat) (c : Candidate) : LifeOutcome (s.issueChecked g c) o := by
  unfold State.issueChecked
  exact .branch (.next (h.issueRing g c)) (.branch (.fault _) (.next ((h.modGate g _).issueRing g c)))

theorem updateChecked (g : Nat) : LifeOutcome (s.updateChecked g) o := by
  unfold State.updateChecked
  split
  · exact .next h
  · exact .branch (.fault _) (.next (h.issueUpdate g _ _))

theorem issueStack (g : Nat) : LifeOutcome (s.issueStack g) o := by
  unfold State.issueStack
  split
  · exact .branch (h.updateChecked g) (h.issueChecked g _)
  · exact .branch (h.updateChecked g) (.next h)

theorem bufferReport (g ring addr : Nat) (e : EccReport) : (s.bufferReport g ring addr e).LifeFrom o :=
  foldl (h.modGate g _) (fun _ k => k.addError _ true) _

theorem checkRead (g ring : Nat) (fl : StackFlight) (e : EccReport) : (s.checkRead g ring fl e).1.LifeFrom o := by
  have reported : (s.readReport g e).LifeFrom o := foldl (h.modGate g _) (fun a k => k.readWork (.countCorrected _ g a)) _
  exact reported.foldl (fun b k => k.readWork (.countHard _ g ring b true)) _

theorem captureInto (g : Nat) (l : Layer) (u addr : Nat) (bytes : List (Nat × Nat)) : (s.captureInto g l u addr bytes).LifeFrom o := by
  simp only [State.captureInto]
  split
  · exact h
  · split
    · exact h
    · split <;> exact h

theorem captureRead (g addr : Nat) (bytes : List Byte) : (s.captureRead g addr bytes).LifeFrom o := by
  refine h.foldl (fun l k => ?_) _
  refine branch k ?_
  exact k.foldl (fun u k => k.captureInto g l u addr _) _

theorem readArrives (g r gen j : Nat) (fl : StackFlight) (e : EccReport) : (s.readArrives g r gen j fl e).LifeFrom o := by
  unfold State.readArrives
  extract_lets c reported spoiled x take outbound stored captured
  have kept : stored.LifeFrom o := (h.checkRead g r fl e).bufferReport g r fl.addr e
  exact gateWork (s := captured) (branch (kept.captureRead g fl.addr _) kept) (.settleRing _ g r)

theorem writeAccepted (g r gen j : Nat) (fl : StackFlight) (e : EccReport) : (s.writeAccepted g r gen j fl e).LifeFrom o := by
  unfold State.writeAccepted
  extract_lets reported new marked noted
  have told : reported.LifeFrom o := h.bufferReport g r fl.addr e
  exact gateWork (s := noted) told (.settleRing _ g r)

theorem noteGradient (g : Nat) (l : Layer) (blk : Nat) : (s.noteGradient g l blk).LifeFrom o :=
  h.gradientWork (.noteGradient s l blk)

theorem endTransfer (g : Nat) (fl : StackFlight) (e : EccReport) : (s.endTransfer g fl e).LifeFrom o := by
  unfold State.endTransfer
  split
  · exact branch (h.writeAccepted g _ _ _ fl e) (h.readArrives g _ _ _ fl e)
  · refine branch (branch h h) ?_
    unfold State.updateRead
    extract_lets c bytes kept
    have read : kept.LifeFrom o := h.checkRead g 0xFFFF fl e
    split
    · exact branch (read.noteGradient g _ _) read
    · exact read

/-! ## Reads of the host and doorbells (R235 to R238, R330) -/

theorem issueHost (g : Nat) (c : Candidate) : (s.issueHost g c).LifeFrom o := by
  unfold State.issueHost
  extract_lets x
  split
  · exact h
  · exact branch h h

theorem settleInval (p : Nat) : (s.settleInval p).LifeFrom o :=
  foldl (h.setHost p _) (fun _ k => k.emit _) _

theorem endHostRead (g : Nat) (f : HostFlight) : (s.endHostRead g f).LifeFrom o := (h.modGate g _).settleInval f.port

theorem partialWrite (g r : Nat) : (s.partialWrite g r).LifeFrom o := by
  unfold State.partialWrite
  extract_lets x
  split
  · exact h
  · split
    · exact h
    · split
      · exact h
      · refine branch h ?_
        extract_lets z written
        have kept : written.LifeFrom o := h
        split
        · exact kept.gateWork (.addrError _ g r _ _)
        · exact kept

theorem hostData (g : Nat) (f : HostFlight) (addr : Nat) (data : List Byte) : (s.hostData g f addr data).LifeFrom o := by
  unfold State.hostData
  extract_lets got ended stored
  have kept : ended.LifeFrom o := branch (h.endHostRead g f) h
  exact (gateWork (s := stored) kept (.settleRing _ g f.ring)).partialWrite g f.ring

theorem hostFails (g : Nat) (f : HostFlight) : (s.hostFails g f).LifeFrom o := by
  unfold State.hostFails
  extract_lets ended x
  have kept : ended.LifeFrom o := h.endHostRead g f
  exact branch (kept.gateWork (.ringError _ g f.ring 6)) kept

theorem faultPage (g r page : Nat) : (s.faultPage g r page).LifeFrom o := by
  unfold State.faultPage
  extract_lets x ring
  split
  · refine branch h ?_
    exact partialWrite (by exact h) g r
  · exact h

theorem translated (g r page : Nat) : (s.translated g r page).LifeFrom o := by
  unfold State.translated
  extract_lets x
  split
  · exact h
  · exact branch h h

theorem acceptDoorbell (g r a : Nat) : (s.acceptDoorbell g r a).LifeFrom o :=
  (h.setRing g r _).gateWork (.requestRing _ g r)

theorem doorbell (p g r a : Nat) : (s.doorbell p g r a).LifeFrom o := by
  unfold State.doorbell
  exact branch h (branch h (branch (h.acceptDoorbell g r a) h))

/-! ## Crossings, slices and regions that lose their power (R182, R194, R195, R360, R361, R387) -/

theorem forward (t d : Nat) (data : List Byte) : (s.forward t d data).LifeFrom o := by
  unfold State.forward
  split
  · exact h
  · split
    · exact h
    · split
      · exact branch h h
      · exact h

theorem sendAll {t : Nat} {l : List (Nat × List Byte)} {u : State} (sent : s.sendAll t l = some u) : u.LifeFrom o := by
  induction l generalizing s with
  | nil =>
    cases sent
    exact h
  | cons p rest ih =>
    unfold State.sendAll at sent
    split at sent
    · cases sent
    · exact ih (h.forward t p.1 p.2) sent

theorem sendRim (g r : Nat) (d : Desc) (b : Block) (k : Nat) : (s.sendRim g r d b k).LifeFrom o := by
  unfold State.sendRim
  extract_lets t x sent
  have kept : sent.LifeFrom o := h
  exact branch kept kept

theorem listSliceRow (t : Nat) (u : Upset) : (s.listSliceRow t u).LifeFrom o := by
  unfold State.listSliceRow
  extract_lets m cleared
  have kept : cleared.LifeFrom o := h
  clear_value cleared
  split
  · exact kept
  · exact branch kept kept

theorem noteShort (r rail : Nat) : (s.noteShort r rail).LifeFrom o := by
  unfold State.noteShort
  refine powerEvent (logRecord ?_ _ _) 3
  exact h

theorem darken (r : Nat) : (s.darken r).LifeFrom o := by
  have synced : (s.syncRegion r).LifeFrom o := h.foldl (fun t k => k.tilesOnly (.syncTile _ t)) _
  unfold State.darken
  extract_lets dropped dark
  have kept : dark.LifeFrom o := synced.dropNodes r
  exact (((kept.mapChange (.flag r 0)).addError (.regionDark r) true).noteShort r 0).noteBarriers

theorem loseThoroughfare (r : Nat) : (s.loseThoroughfare r).LifeFrom o := by
  unfold State.loseThoroughfare
  extract_lets stopped lost
  have kept : stopped.LifeFrom o := h
  have marked : lost.LifeFrom o := (kept.mapChange (.flag r 1)).foldl (fun g k => k.mapChange (.segment (segKey g))) _
  exact (marked.addError (.thoroughfareLost r) true).noteShort r 1

/-! ## Flits (R291 to R303) -/

theorem freeBuffer (p : Nat) : (s.freeBuffer p).LifeFrom o := h.modPort p _

theorem countRxDrop (p : Nat) : (s.countRxDrop p).LifeFrom o := h.modPort p _

theorem dropFlit (p lstream src : Nat) : (s.dropFlit p lstream src).LifeFrom o := by
  unfold State.dropFlit
  exact branch ((h.countRxDrop p).freeBuffer p) (((h.countRxDrop p).freeBuffer p).addError _ true)

theorem giveWrites (g r : Nat) (a : Arming) (b : Block) (n : Nat) : (s.giveWrites g r a b n).LifeFrom o := by
  unfold State.giveWrites
  extract_lets y given
  have kept : given.LifeFrom o := h
  split
  · exact kept.gateWork (.addrError _ g r _ _)
  · exact kept

theorem fillLink (g r n : Nat) (data : List Byte) : (s.fillLink g r n data).1.LifeFrom o := by
  induction n generalizing s data with
  | zero => exact h
  | succ n ih =>
    unfold State.fillLink
    extract_lets x
    split
    · exact h
    · extract_lets d _ j _ _ _ _ _ _ done
      split
      · exact h
      · split
        · exact ih (h.setRing g r _) _
        · have closed : done.LifeFrom o :=
            branch (((h.setRing g r _).gateWork (.completeInbound _ g r j)).gateWork (.settleRing _ g r)) (h.setRing g r _)
          split
          · exact h
          · exact ih closed _

theorem flushRing (g r f : Nat) : (s.flushRing g r f).LifeFrom o := by
  have stamped : ∀ {u : State}, u.LifeFrom o → (u.stampRing g r f).LifeFrom o := fun k => k
  unfold State.flushRing
  refine stamped ?_
  dsimp only
  split
  · exact h
  · refine branch h ?_
    split
    · exact h
    · exact branch h (h.giveWrites g r _ _ _)

theorem flushPort (p f : Nat) : (s.flushPort p f).LifeFrom o := h.foldl (fun (x : Nat × Nat) k => k.flushRing x.1 x.2 f) _

theorem drainPort (p n : Nat) : (s.drainPort p n).LifeFrom o := by
  induction n generalizing s with
  | zero => exact h
  | succ n ih =>
    unfold State.drainPort
    extract_lets x
    split
    · exact h
    · split
      · exact ih ((h.modPort p fun _ => _).dropFlit p _ _)
      · extract_lets y flushed
        have filled : y.1.LifeFrom o := (h.modPort p fun _ => _).fillLink _ _ 8 _
        have kept : flushed.LifeFrom o := branch (filled.flushRing _ _ _) filled
        exact branch (ih (kept.freeBuffer p)) (branch (ih (kept.dropFlit p _ _)) (kept.modPort p _))

theorem drainRing (g r : Nat) : (s.drainRing g r).LifeFrom o := by
  unfold State.drainRing
  split
  · exact branch (h.drainPort _ _) h
  · exact h

theorem staleMessage : s.staleMessage.LifeFrom o := noteSet (by exact h) .upd 4

theorem messageArrives (p lstream src : Nat) (msg : List Byte) : (s.messageArrives p lstream src msg).LifeFrom o := by
  unfold State.messageArrives
  extract_lets passed g
  have kept : passed.LifeFrom o := by
    unfold passed State.passOn
    dsimp only
    refine branch ?_ h
    split <;> exact h
  exact branch kept.staleMessage kept

theorem reductionFlit (p : Nat) (f : Flit) : (s.reductionFlit p f).LifeFrom o := by
  unfold State.reductionFlit
  extract_lets mine old data taken
  have kept : taken.LifeFrom o := h
  exact branch (kept.messageArrives p _ _ data) kept

theorem takeData (p : Nat) (f : Flit) : (s.takeData p f).LifeFrom o := by
  unfold State.takeData
  have dropped := (h.countRxDrop p).freeBuffer p
  have forwarded : (s.forwardFlit p f).LifeFrom o := branch h dropped
  exact branch dropped (branch forwarded (branch dropped (branch (h.reductionFlit p f) ((h.modPort p _).drainPort p _))))

theorem sendSlot (p : Nat) : (s.sendSlot p).LifeFrom o := by
  rw [State.sendSlot_frame]
  exact h

theorem openWindow (p finish : Nat) : (s.openWindow p finish).LifeFrom o := branch h h

theorem enterRecovery (p : Nat) : (s.enterRecovery p).LifeFrom o := h

theorem fecReport (p ce ue : Nat) : (s.fecReport p ce ue).LifeFrom o := by
  unfold State.fecReport
  extract_lets x times counted
  have kept : counted.LifeFrom o := h
  exact branch (kept.enterRecovery p) kept

theorem retrainPort (p : Nat) : (s.retrainPort p).LifeFrom o := (h.portDrop p _ _).openWindow p _

/-! ## Rows, gradients and updates (R270 to R283) -/

theorem tileRow (n t : Nat) : (s.tileRow n t).LifeFrom o := by
  unfold State.tileRow
  extract_lets y
  split
  · exact h
  · split
    · exact h.putTile t _ _
    · exact h

theorem nodeRow (n : Nat) (f : BlvdFlight) : (s.nodeRow n f).LifeFrom o := by
  unfold State.nodeRow
  extract_lets _ arrived
  have kept : arrived.LifeFrom o := h
  refine branch kept ?_
  split
  · rw [State.noteTaken_frame]
    exact kept
  · exact kept

theorem addGradient (g : Nat) (l : Layer) (x : UpdSlot) (w : WideRow) : (s.addGradient g l x w).LifeFrom o := by
  unfold State.addGradient
  refine branch ?_ h
  unfold State.finishBlock
  extract_lets y un _ _ done
  have kept : done.LifeFrom o := h
  exact noteGradient (branch (kept.unitAsks (.askPlane _ l _ 3)) kept) g l _

theorem gateRow {g : Nat} {w : WideRow} {u : State} (taken : s.gateRow g w = some u) : u.LifeFrom o := by
  have discarded : ∀ cause, (s.discardRow g cause w).LifeFrom o := fun _ => branch h h
  unfold State.gateRow at taken
  split at taken
  · exact Option.some.inj taken ▸ discarded 0
  · split at taken
    · exact Option.some.inj taken ▸ discarded 1
    · extract_lets b un count at taken
      clear_value count
      split at taken
      · exact Option.some.inj taken ▸ discarded 2
      · split at taken
        · exact Option.some.inj taken ▸ h
        · split at taken
          · exact Option.some.inj taken ▸ discarded 3
          · split at taken
            · exact Option.some.inj taken ▸ discarded 4
            · split at taken
              · nomatch taken
              · split at taken
                · exact Option.some.inj taken ▸ h
                · exact Option.some.inj taken ▸ addGradient (by exact h) g _ _ w

theorem takeReduction (g src : Nat) (msg : List Byte) : (s.takeReduction g src msg).LifeFrom o := by
  unfold State.takeReduction
  dsimp only
  split
  · exact h.staleMessage
  · exact branch h.staleMessage (branch h (unitAsks (by exact h) (.noteReady _)))

theorem updateBlock (g : Nat) (l : Layer) (u : Nat) : (s.updateBlock g l u).LifeFrom o := by
  simp only [State.updateBlock]
  split <;> exact h

/-! ## Tests of Dawn (R370 to R378) -/

theorem searchTile (t : Nat) (fails : List Nat) : (s.searchTile t fails).LifeFrom o := by
  unfold State.searchTile
  dsimp only
  refine branch h ?_
  split
  · exact branch h (branch h h)
  · exact h

theorem testRegion (x : RegionTest) (again : Bool) : (s.testRegion x again).LifeFrom o := by
  have tile : ∀ {u : State} (t : TileTest), u.LifeFrom o → (u.testTile t).LifeFrom o := fun t k =>
    branch k ((k.searchTile _ _).dawnFinds (.repairTile _ _ _ false))
  unfold State.testRegion
  extract_lets r dead tested wiped
  have killed : dead.LifeFrom o := h
  have found : tested.LifeFrom o := branch h (branch h (killed.foldl tile _))
  have kept : wiped.LifeFrom o := branch found found
  exact kept

theorem waveRegion (tests : List RegionTest) (r : Nat) : (s.waveRegion tests r).LifeFrom o := by
  unfold State.waveRegion
  exact branch h (branch h (h.testRegion _ false))

/-! ## Messages of the group (R305 to R310) -/

theorem onSync {act : State → SyncMsg → State} (each : ∀ {u : State} m, u.LifeFrom o → (act u m).LifeFrom o)
    (p : Nat) (f : Flit) (k kind : Nat) : LifeOutcome (s.onSync p f k kind act) o := by
  unfold State.onSync
  extract_lets y
  have kept : y.1.LifeFrom o := by
    unfold y
    rw [State.takeSync_frame]
    exact h
  split
  · exact .next kept
  · exact .next (each _ kept)

theorem floodIn {p : Nat} {m : SyncMsg} {u : State} (taken : s.floodIn p m = some u) : u.LifeFrom o := by
  unfold State.floodIn at taken
  split at taken
  · nomatch taken
  · exact Option.some.inj taken ▸ h.flood m _

theorem readyArrives (p : Nat) (m : SyncMsg) : (s.readyArrives p m).LifeFrom o := by
  unfold State.readyArrives
  exact branch h (branch h.detectSyncLost h)

theorem toggleFsync : s.toggleFsync.LifeFrom o := h

theorem masterToggle : s.masterToggle.LifeFrom o := by
  unfold State.masterToggle
  extract_lets formed
  have kept : formed.LifeFrom o := branch h h
  clear_value formed
  exact kept

theorem sendMsg (p : Nat) (m : SyncMsg) : (s.sendMsg p m).LifeFrom o := h.modPort p _

theorem sendGo : s.sendGo.LifeFrom o := by
  unfold State.sendGo
  extract_lets t start sent
  have kept : sent.LifeFrom o := h.foldl (fun p k => k.sendMsg p _) _
  exact kept

theorem goArrives (p : Nat) (m : SyncMsg) : (s.goArrives p m).LifeFrom o := by
  unfold State.goArrives
  extract_lets g go on keep v ports adopted _ _ ticked
  have passed : ∀ {u : State}, u.LifeFrom o → (keep (on u)).LifeFrom o := fun k =>
    foldl k (f := fun s q => s.sendMsg q m) (fun q k => k.sendMsg q m) _
  have kept : adopted.LifeFrom o := h
  clear_value adopted
  have set : ticked.LifeFrom o := branch kept kept
  have eofs := set.foldl (f := State.emitEofs) (fun q k => k.emitEofs q) (List.range 16)
  refine branch h (branch (branch (passed ?_) h) (branch (passed eofs) (branch (passed ?_) (branch (passed ?_) h.detectSyncLost))))
  all_goals exact h

theorem abortArrives (p : Nat) (m : SyncMsg) : (s.abortArrives p m).LifeFrom o := by
  unfold State.abortArrives
  split
  · exact h
  · next taken =>
    have kept := h.floodIn taken
    extract_lets cause running noted lost
    have told : noted.LifeFrom o := kept.addError _ true
    have set : lost.LifeFrom o := branch (told.linkStatus 0 _) told
    exact branch set.unform set

theorem stepOpenArrives (p : Nat) (m : SyncMsg) : (s.stepOpenArrives p m).LifeFrom o := by
  unfold State.stepOpenArrives
  split
  · exact h
  · next taken =>
    have kept := h.floodIn taken
    exact (agree (by exact kept)).foldl (fun g k => k.unitAsks (.noteReady _)) _

theorem resetStateArrives (p : Nat) (m : SyncMsg) : (s.resetStateArrives p m).LifeFrom o := by
  unfold State.resetStateArrives
  split
  · exact h
  · next taken =>
    have kept := h.floodIn taken
    extract_lets down _ noted
    have told : noted.LifeFrom o := kept
    exact branch ((told.addError _ true).linkStatus 1 _).unform told

theorem eofArrives (p : Nat) (m : SyncMsg) : (s.eofArrives p m).LifeFrom o := (h.flushPort p _).modPort p _

theorem commitMap (m : List Byte) : (s.commitMap m).LifeFrom o := by
  unfold State.commitMap
  extract_lets changed _ mapped trained
  have kept : mapped.LifeFrom o := h
  have set : trained.LifeFrom o := kept.foldl (fun p k => k.retrainPort p) _
  exact (set.linkStatus 3 _).unform

/-! ## The frame's end (R203 to R205) -/

theorem tickOutcome (tel : Telemetry) : LifeOutcome (s.tickOutcome tel) o := by
  unfold State.tickOutcome
  extract_lets t
  have kept : t.LifeFrom o := tick (branch h h.discardFlights) tel
  exact .branch (.fault _) (.branch (.fault _) (.next kept))

theorem releaseOrigin : s.releaseOrigin.LifeFrom o := by
  unfold State.releaseOrigin
  extract_lets _ released
  have kept : released.LifeFrom o := h
  exact ((kept.gateWork (.markAllGo _)).gateWork (.handBlocks _)).foldl (fun p k => k.emitEofs p) _

end State.LifeFrom

end Sys2Proof.Machine
end

section
/-! PROOFS. The life cycle itself: a scrapped module takes no request, a boot and a power-down keep the sector, and a trial's end raises
SVN_MIN or leaves it (R402, R403, R407 to R410, R414). -/

namespace Sys2Proof.Machine

/-- No operation is accepted in SCRAP (R407, R409). -/
theorem opStates_scrap (op : Nat) : (opStates op).contains .scrap = false := by
  unfold opStates
  split <;> rfl

namespace State.LifeFrom

variable {s o : State} (h : s.LifeFrom o)
include h

/-! ## Requests (R408 to R410) -/

/-- A change ends where one was under way or pending, which is not so of a scrapped module. -/
theorem finishChange (alive : ¬ s.scrapped) (t : Transition) (failed : List Nat) (wipeOk : Bool) :
    (s.finishChange t failed wipeOk).LifeFrom o := by
  obtain ⟨⟨life, sector⟩, -⟩ := s.finishChange_spec t failed wipeOk
  refine ⟨?_, fun was => absurd (h.2 was) alive⟩
  rw [sector]
  exact h.1

/-- A request is refused, or notes a digest, or begins a change of a module that is not scrapped. -/
theorem submit (q : List Byte) : (s.submit q).LifeFrom o := by
  by_cases ok : s.reqResult q = 0
  · have alive : ¬ s.scrapped := fun ⟨scrap, _⟩ =>
      State.reqResult_barred (by rw [scrap]; exact opStates_scrap _) ok
    refine ⟨?_, fun was => absurd (h.2 was) alive⟩
    by_cases op : reqOp q ≤ 11
    · obtain ⟨sector, -⟩ := State.submit_changes_spec ok op
      rw [sector]
      exact h.1
    · have bound := State.reqOp_of_accepted ok
      obtain ⟨sector, -⟩ := State.submit_authorises_spec ok (by omega)
      rw [sector]
      exact h.1
  · obtain ⟨sector, -, -, change, -⟩ := State.submit_refused_spec ok
    exact h.congr sector change

/-! ## Dawn and the loss of power (R390, R396, R405, R414) -/

/-- A reset ends the change under way, and keeps the sector with what is pending. -/
theorem dawnState (straps cause : Nat) : (s.dawnState straps cause).LifeFrom o := by
  obtain ⟨svn, scrap⟩ := h
  refine ⟨svn, fun was => ?_⟩
  obtain ⟨state, -, pending⟩ := scrap was
  exact ⟨state, rfl, pending⟩

theorem powerDown : s.powerDown.LifeFrom o := by
  have written := h.settleMap.finishWrites.addTotals
  unfold State.powerDown
  generalize s.settleMap.finishWrites.addTotals = u at written ⊢
  obtain ⟨svn, scrap⟩ := written
  refine ⟨svn, fun was => ?_⟩
  obtain ⟨state, -, pending⟩ := scrap was
  exact ⟨state, rfl, pending⟩

theorem selectImage : s.selectImage.1.LifeFrom o := by
  unfold State.selectImage
  extract_lets trial pick
  split
  · exact h
  · split
    · exact branch (by exact h) (by exact h)
    · exact h

theorem readConfig : s.readConfig.LifeFrom o := by
  have record : s.readRecord.1.LifeFrom o := by
    unfold State.readRecord
    extract_lets run usable
    split
    · split <;> exact h
    · exact h
  unfold State.readConfig
  generalize s.readRecord = y at record ⊢
  extract_lets _ read owner map _ _ _ taken installed
  have kept : taken.LifeFrom o := by
    simp only [taken, State.LifeFrom, State.scrapped]
    exact record
  clear_value taken
  have map : installed.LifeFrom o := branch kept kept
  exact branch (map.logRecord 13 _) map

theorem dawnLines : s.dawnLines.LifeFrom o := by
  unfold State.dawnLines
  extract_lets dark
  have kept : dark.LifeFrom o := branch h h.enterNight
  exact branch kept kept.coolStop

theorem beginDawn (straps cause : Nat) : (s.beginDawn straps cause).LifeFrom o := by
  unfold State.beginDawn
  extract_lets y _ _ installed _
  have fresh := h.settleMap.finishWrites.dawnState straps cause
  have booted : y.1.LifeFrom o := selectImage (by exact fresh)
  clear_value y
  have read : installed.LifeFrom o := booted.readConfig
  exact branch (logRecord (by exact booted) 10 _) (dawnLines read)

theorem fullReset (cause : Nat) : (s.fullReset cause).LifeFrom o := by
  unfold State.fullReset
  extract_lets stopped
  have kept : stopped.LifeFrom o := h.finishWrites.addTotals.abortSlices.unform
  clear_value stopped
  exact kept

/-! ## FW_CMD (R400 to R406) -/

theorem stackLoad (a n : Nat) (e : EccReport) (fails : Bool) : (s.stackLoad a n e fails).1.LifeFrom o :=
  h.readWork (.stackLoad s a n e fails)

theorem stageCommand : s.stageCommand.LifeFrom o := by
  unfold State.stageCommand
  extract_lets y m code b read _ staged
  have source : y.1.LifeFrom o := by
    unfold y State.stageSource
    split
    · exact h
    · exact h.stackLoad _ _ _ _
  have kept : read.LifeFrom o := source
  clear_value read
  have set : staged.LifeFrom o := kept
  exact branch (raiseVector (by exact h) _) (set.logRecord 10 _)

theorem stageDone (flashOk : Bool) (ecc : EccReport) : (s.stageDone flashOk ecc).LifeFrom o := by
  unfold State.stageDone
  extract_lets b y read m v code marked done
  have loaded : y.1.LifeFrom o := h.readWork (.loadReport s _ _ _ _ _)
  have kept : read.LifeFrom o := branch h loaded
  have fresh : marked.LifeFrom o := kept
  have closed : done.LifeFrom o := branch kept (branch fresh fresh)
  clear_value done
  exact raiseVector (by exact closed) _

theorem activateCommand : s.activateCommand.LifeFrom o := by
  unfold State.activateCommand
  extract_lets x code _ _ active
  have kept : active.LifeFrom o := h
  exact branch h (branch h (branch h (kept.logRecord 10 _)))

/-- CONFIRM raises SVN_MIN to that of the image, or leaves it (R402). -/
theorem confirmCommand : s.confirmCommand.LifeFrom o := by
  unfold State.confirmCommand
  extract_lets _ confirmed
  have raised : o.sector.svnMin ≤ confirmed.sector.svnMin := Nat.le_trans h.1 (Nat.le_max_left _ _)
  have kept : confirmed.LifeFrom o := ⟨raised, h.2⟩
  exact branch h (kept.logRecord 10 _)

theorem revertCommand : s.revertCommand.LifeFrom o := by
  unfold State.revertCommand
  exact branch h (logRecord (by exact h) 10 _)

theorem cfgStoreCommand : s.cfgStoreCommand.LifeFrom o := by
  unfold State.cfgStoreCommand
  extract_lets y ow code
  have read : y.1.LifeFrom o := h.stackLoad _ _ _ _
  have same : y.1.sector = s.sector := by
    have work : s.ReadWork y.1 := .stackLoad s _ _ _ _
    rw [work]
  exact branch h (branch h (branch h (h.congr same rfl)))

theorem cfgStoreDone (flashOk : Bool) (ecc : EccReport) : (s.cfgStoreDone flashOk ecc).LifeFrom o := by
  unfold State.cfgStoreDone
  extract_lets y _ _
  have kept : y.1.LifeFrom o := h.readWork (.loadReport s _ _ _ _ _)
  split
  · exact h
  · extract_lets ow read seq
    have stored : read.LifeFrom o := kept
    clear_value read
    exact branch stored.storeOwner (logRecord (by exact stored) 13 _)

theorem fwCommand (c : Nat) : (s.fwCommand c).LifeFrom o := by
  unfold State.fwCommand
  split
  · exact h.stageCommand
  · exact h.activateCommand
  · exact h.confirmCommand
  · exact h.revertCommand
  · exact h.cfgStoreCommand
  · exact h

/-! ## TST_CMD (R418, R433, R434) -/

theorem testCommand (c : Nat) : (s.testCommand c).LifeFrom o := by
  unfold State.testCommand
  split
  · exact branch h (branch h h)
  · exact branch h h
  · exact branch h h
  · exact h

theorem runDone (res : TestResult) : (s.runDone res).LifeFrom o := by
  unfold State.runDone
  extract_lets x pass tested
  have kept : tested.LifeFrom o := h.foldl (fun t k => k.modTile t Tile.afterReset) _
  exact kept

theorem closeRefurb (pass : Bool) (fuses rails better result : Nat) : (s.closeRefurb pass fuses rails better result).LifeFrom o := h

theorem refurbDone (res : TestResult) : (s.refurbDone res).LifeFrom o := by
  unfold State.refurbDone
  extract_lets rails l now m better n pass _ reset lit stored _ done
  have fresh : reset.LifeFrom o := h
  have kept : lit.LifeFrom o := fresh.foldl (fun r k => k.modRegion r _) _
  clear_value lit
  have put : stored.LifeFrom o := by
    unfold stored
    rw [State.putStored_frame]
    exact kept
  clear_value stored
  have closed : done.LifeFrom o := put
  exact branch (h.closeRefurb false 0 0 0 3) (closed.closeRefurb pass n _ better _)

end State.LifeFrom

end Sys2Proof.Machine
end

section
/-! PROOFS. The life cycle under the host's accesses: each row of BAR0 and BAR4, the aperture, requests held back, and a port's reset
(R320 to R327, R402, R407, R436). -/

namespace Sys2Proof.Machine

namespace State.LifeFrom

variable {s o : State} (h : s.LifeFrom o)
include h

/-! ## Plans (R145 to R147, R429) -/

theorem loadCommand : s.loadCommand.LifeFrom o := by
  unfold State.loadCommand
  refine branch (h.refusePlan 1) (branch (h.refusePlan 12) (branch (h.refusePlan 13) ?_))
  exact setPlanState (by exact h) _

theorem loadComplete (ecc : EccReport) : (s.loadComplete ecc).LifeFrom o := by
  unfold State.loadComplete
  extract_lets y loaded _ plan written _
  have kept : loaded.LifeFrom o := h.stackLoad _ _ ecc true
  have stored : written.LifeFrom o := by
    unfold written
    rw [State.installTemplates_frame, State.writeStores_frame]
    exact kept
  clear_value written loaded
  split
  · exact setPlanState (by exact kept) _
  · exact setPlanState (by exact stored) _

theorem startCommand : s.startCommand.LifeFrom o := by
  unfold State.startCommand
  exact branch h (branch (h.refusePlan 1) (branch (h.refusePlan 1) (branch (h.refusePlan 12) (branch (h.refusePlan 10) h))))

theorem stopCommand : s.stopCommand.LifeFrom o := by
  unfold State.stopCommand
  exact branch h (branch h h)

theorem planCommand (c : Nat) : (s.planCommand c).LifeFrom o := by
  unfold State.planCommand
  split
  · exact h.loadCommand
  · exact h.startCommand
  · exact h.stopCommand
  · exact h

/-! ## The registers (R14 to R17, R326, R436 to R440) -/

theorem writeCqHead (g v : Nat) : (s.writeCqHead g v).LifeFrom o := branch h h

theorem writeScqHead (v : Nat) : (s.writeScqHead v).LifeFrom o := branch h h

theorem writeGlb (b : Nat) (m : Nat → Nat) (c : Nat) : LifeOutcome (s.writeGlb b m c) o := by
  unfold State.writeGlb
  exact .branch (.next h) (.branch (.branch (.fault _) (.next h)) (.branch (.next (h.planCommand _)) (.next h)))

theorem writeFrm (b : Nat) (m : Nat → Nat) (c : Nat) : (s.writeFrm b m c).LifeFrom o := by
  unfold State.writeFrm
  exact branch h (branch h h)

theorem writeGate (g b : Nat) (m : Nat → Nat) : (s.writeGate g b m).LifeFrom o := by
  unfold State.writeGate
  exact branch h (branch h (branch (h.writeCqHead g _) h))

theorem writeStrm (g b : Nat) (m : Nat → Nat) : (s.writeStrm g b m).LifeFrom o := by
  unfold State.writeStrm
  exact branch h (branch h (branch h h))

theorem writeUpd (b : Nat) (m : Nat → Nat) (c : Nat) : (s.writeUpd b m c).LifeFrom o := by
  unfold State.writeUpd
  exact branch h (branch h h)

theorem writeLink (b : Nat) (m : Nat → Nat) (c : Nat) : (s.writeLink b m c).LifeFrom o := by
  have armed : s.armMap.LifeFrom o := branch (h.linkStatus 4 _) h
  have controlled : ∀ p v retrain, (s.linkControl p v retrain).LifeFrom o := fun p v _ =>
    branch ((h.modPort p fun _ => _).retrainPort p) h
  unfold State.writeLink
  refine branch h (branch (branch armed h) ?_)
  exact branch (h.congr rfl rfl) (branch (controlled _ _ _) h)

theorem writeHost (b : Nat) (m : Nat → Nat) : (s.writeHost b m).LifeFrom o := by
  unfold State.writeHost
  exact branch h (branch h (branch h (branch h (branch (h.writeScqHead _) h))))

theorem writePwr (b : Nat) (m : Nat → Nat) (c : Nat) : (s.writePwr b m c).LifeFrom o := by
  unfold State.writePwr
  exact branch h (branch h h)

theorem writeTst (b : Nat) (m : Nat → Nat) (c : Nat) : LifeOutcome (s.writeTst b m c) o := by
  unfold State.writeTst
  exact .branch (.next (h.testCommand _)) (.branch (.branch (.fault _) (.branch (.next h) (.next h))) (.next h))

theorem writeLcs (b : Nat) (m : Nat → Nat) (c : Nat) : (s.writeLcs b m c).LifeFrom o := by
  unfold State.writeLcs
  exact branch (branch (h.submit _) h) (branch h (branch (h.congr rfl rfl) h))

theorem writeFw (b : Nat) (m : Nat → Nat) (c : Nat) : (s.writeFw b m c).LifeFrom o := by
  unfold State.writeFw
  exact branch h (branch (h.fwCommand _) (branch h (branch h h)))

theorem writeErr (b c : Nat) : (s.writeErr b c).LifeFrom o := branch h h

theorem writeReg (off size v : Nat) : LifeOutcome (s.writeReg off size v) o := by
  unfold State.writeReg
  extract_lets b m c
  refine .branch (.next h) ?_
  refine .branch (.next h) ?_
  refine .branch (h.writeGlb b m c) ?_
  refine .branch (.next (h.writeFrm _ m c)) ?_
  refine .branch (.next (h.writeGate _ _ m)) ?_
  refine .branch (.next (h.writeStrm _ _ m)) ?_
  refine .branch (.next (h.writeUpd _ m c)) ?_
  refine .branch (.next (h.writeLink _ m c)) ?_
  refine .branch (.next (h.writeHost _ m)) ?_
  refine .branch (.next (h.writePwr _ m c)) ?_
  refine .branch (h.writeTst _ m c) ?_
  refine .branch (.next (h.writeLcs _ m c)) ?_
  refine .branch (.next (h.writeFw _ m c)) ?_
  exact .branch (.next (h.writeErr _ c)) (.next h)

theorem writeBar4 (port off size v : Nat) : (s.writeBar4 port off size v).LifeFrom o := by
  unfold State.writeBar4
  extract_lets v g k i set
  have kept : set.LifeFrom o := h
  exact branch h <| branch (branch h <| branch (h.doorbell port g _ _) <| branch (h.writeCqHead g _) h) <|
    branch (h.writeScqHead _) <| branch (kept.sendPending port) h

/-! ## The aperture and the requests (R320, R321, R325, R327) -/

theorem apertureRead (port off len : Nat) (ecc : EccReport) : (s.apertureRead port off len ecc).LifeFrom o := by
  unfold State.apertureRead
  extract_lets a blank
  exact branch h <| branch (h.emit _) <| branch (emit (by exact h) blank) <| branch (h.emit blank) <| branch h
    ((h.stackLoad a len ecc false).emit _)

theorem apertureWrite (port off : Nat) (data : List (Option Byte)) (poisoned : Bool) :
    LifeOutcome (s.apertureWrite port off data poisoned) o := by
  unfold State.apertureWrite
  extract_lets a
  exact .branch (.next h) <| .branch (.next (h.emit _)) <| .branch (.next (branch h h)) <| .branch (.fault _) <|
    .branch (.next h) <| .branch (.next h) (.next h)

theorem applyAccess (port : Nat) (i : Instr) : LifeOutcome (s.applyAccess port i) o := by
  unfold State.applyAccess
  extract_lets x guarded
  have open? : ∀ {r : Outcome}, LifeOutcome r o → LifeOutcome (guarded r) o := fun ho => .branch (.next (h.emit _)) ho
  split
  · exact open? (.branch (.branch (h.writeReg _ _ _) (.next h)) (.branch (.next (h.writeBar4 port _ _ _)) (.next h)))
  · exact open? (.next (h.apertureRead port _ _ _))
  · exact open? (h.apertureWrite port _ _ _)
  · exact .next ((h.modHost port _).sendPending port)
  · exact .next h

theorem hostAccess (port : Nat) (i : Instr) : LifeOutcome (s.hostAccess port i) o := by
  unfold State.hostAccess
  exact .branch (.next h) (.branch (.next h) (h.applyAccess port i))

theorem hostWrite8 (port off v : Nat) : LifeOutcome (s.hostWrite8 port off v) o := h.hostAccess port _

theorem submitOp (port op : Nat) : LifeOutcome (s.submitOp port op) o := by
  unfold State.submitOp
  exact .branch (h.hostWrite8 port _ _) (.next h)

theorem replay (port : Nat) (l : List Instr) : LifeOutcome (State.replay port l s) o := by
  induction l generalizing s with
  | nil => exact .next h
  | cons i rest ih =>
    unfold State.replay
    have applied := h.applyAccess port i
    split
    · next run =>
      have kept := applied.of_next run
      exact .branch (.next (kept.modHost port _)) (ih kept)
    · exact applied

theorem releaseHeld (port : Nat) : LifeOutcome (s.releaseHeld port) o := (h.modHost port _).replay port _

theorem resetPort (p : Nat) : (s.resetPort p).LifeFrom o := by
  refine setHost ?_ p _
  unfold State.failRequests
  extract_lets asking reads failed stopped
  have kept : failed.LifeFrom o := h.foldl (fun (x : Nat × HostFlight) k => k.hostFails x.1 x.2) _
  have ended : stopped.LifeFrom o := kept.foldl (fun (x : Nat × Nat) k => branch k (k.gateWork (.ringError _ x.1 x.2 6))) _
  exact ended

/-! ## The sideband and SPDM (R332 to R335) -/

theorem onSideband {f : State → State} (each : (f s).LifeFrom o) : LifeOutcome (s.onSideband f) o := .next (branch each h)

theorem onSpdm {f : State → State} (tr : Nat) (each : (f s).LifeFrom o) : LifeOutcome (s.onSpdm tr f) o := .next (branch each h)

theorem onNegotiated {f : State → State} (tr : Nat) (each : (f s).LifeFrom o) : LifeOutcome (s.onNegotiated tr f) o :=
  h.onSpdm tr (branch each (h.emit _))

/-! ## Commands of a tile -/

theorem runEngines (t : Nat) (ups : List Upset) : LifeOutcome (s.runEngines t ups) o := by
  unfold State.runEngines
  exact .branch (.next (h.putTile t _ _)) (.next h)

theorem tileCommand {c : Instr} {t op : Nat} {a : Access} (named : tileOp c = some (t, op, a)) : LifeOutcome (exec c s) o := by
  cases run : exec c s with
  | next u =>
    obtain ⟨-, -, -, work⟩ := tileInstructionsChangeOnlyTheirTile c t op a s u named run
    exact .next (h.tileWork work)
  | fault f => exact .fault f
  | refused r => exact ⟨trivial⟩

end State.LifeFrom

end Sys2Proof.Machine
end

section
/-! PROOFS. No step leads out of SCRAP or lets SVN_MIN fall (R402, R407, R409). -/

namespace Sys2Proof.Machine

open State.LifeFrom (branch)

variable {s o : State} (h : s.LifeFrom o)
include h

/-! ## Commands that end a change of the life cycle (R410) -/

/-- The last stage of Dawn ends a change that is pending in the sector. -/
theorem execDawnFinalStage_life : LifeOutcome (execDawnFinalStage s) o := by
  unfold execDawnFinalStage
  extract_lets settled d failed down closed logged
  have kept : settled.LifeFrom o := h.settleMap
  clear_value settled
  have final : closed.LifeFrom o := kept
  have told : logged.LifeFrom o := final.logRecord 1 _
  clear_value logged
  refine .branch ?_ (.next h)
  split
  · next pending =>
    have alive : ¬ logged.scrapped := fun ⟨_, _, settledNow⟩ => nomatch settledNow.symm.trans pending
    exact .next (told.finishChange alive _ _ _)
  · exact .next told

/-- The end of the wipe ends the change that is under way. -/
theorem execLifecycleWipeDone_life (failed : List Nat) : LifeOutcome (execLifecycleWipeDone failed s) o := by
  unfold execLifecycleWipeDone
  split
  · exact .next h
  · next t under =>
    extract_lets wiped up bad done
    have frame : up = { s with gates := up.gates, stack := up.stack, stackUe := up.stackUe } := State.wipeEnds_frame s wiped
    have kept : up.LifeFrom o := h.congr (by rw [frame]) (by rw [frame])
    have alive : ¬ up.scrapped := fun ⟨_, over_, _⟩ => by
      rw [frame, under] at over_
      cases over_
    have changed : done.LifeFrom o := kept.finishChange alive _ _ _
    clear_value done
    exact .branch (.next h) (.branch (.next changed) (.next kept))

/-! ## Commands that begin Dawn or stop the module (R367, R388, R389, R403) -/

theorem execPowerGood_life (straps : Nat) : LifeOutcome (execPowerGood straps s) o := by
  unfold execPowerGood
  exact .branch (.next h) (.next (State.LifeFrom.beginDawn (by exact h) _ _))

theorem execTrialWatchdog_life : LifeOutcome (execTrialWatchdog s) o := by
  unfold execTrialWatchdog
  extract_lets d old settled _ plain dawn _ _ _ fell
  have written : settled.LifeFrom o := h.settleMap.finishWrites
  clear_value settled
  have ended : plain.LifeFrom o := written
  have begun : dawn.LifeFrom o := ended.beginDawn _ _
  clear_value dawn
  have kept : fell.LifeFrom o := begun
  exact .branch (.next ((kept.noteSet .fw 5).logRecord 10 _)) (.next h)

theorem execCmpResetAssert_life : LifeOutcome (execCmpResetAssert s) o := by
  unfold execCmpResetAssert
  extract_lets _ pinned
  have kept : pinned.LifeFrom o := h
  exact .next (branch kept.stopCompute kept)

/-! ## Commands of Dawn's stages (R369 to R383) -/

theorem execDawnWave_life (w : Nat) (tests : List RegionTest) : LifeOutcome (execDawnWave w tests s) o := by
  unfold execDawnWave
  extract_lets d tested
  have kept : tested.LifeFrom o := h.foldl (fun r k => k.waveRegion tests r) _
  clear_value tested
  exact .branch (.next kept) (.next h)

theorem execWaveRepeat_life (test : RegionTest) : LifeOutcome (execWaveRepeat test s) o := by
  unfold execWaveRepeat
  extract_lets d tested
  have kept : tested.LifeFrom o := h.testRegion test true
  clear_value tested
  exact .branch (.next kept) (.next h)

theorem execInterconnectTest_life (res : InterconnectResult) : LifeOutcome (execInterconnectTest res s) o := by
  unfold execInterconnectTest
  extract_lets d segs rims syncs mapped linked tested
  have kept : tested.LifeFrom o := branch h h
  clear_value tested
  exact .branch (.next kept) (.next h)

theorem execRetentionReadback_life (r : Nat) (res : RetentionResult) : LifeOutcome (execRetentionReadback r res s) o := by
  unfold execRetentionReadback
  extract_lets due ts repaired others read wiped
  have fixed : repaired.LifeFrom o := h.foldl (fun t k => k.dawnFinds (.repairTile _ t _ true)) _
  clear_value repaired
  have kept : read.LifeFrom o := branch h (branch fixed fixed)
  have all : wiped.LifeFrom o := branch kept kept
  clear_value wiped
  exact .branch (.next all) (.next h)

theorem execStackReady_life (g : Nat) (init : StackInit) : LifeOutcome (execStackReady g init s) o := by
  unfold execStackReady
  extract_lets x repaired _ ended
  have listed : (s.repairRows g init).LifeFrom o := by
    unfold State.repairRows
    extract_lets l keep _ kept logged done
    have start : kept.LifeFrom o := h
    have each : logged.LifeFrom o := start.foldl (fun (e : Nat × Nat × Bool) k => k.logRecord 5 _) _
    exact each.foldl (fun (e : Nat × Nat × Bool) k => k.logRecord 5 _) _
  have fixed : repaired.LifeFrom o := branch h listed
  clear_value repaired
  have kept : ended.LifeFrom o := fixed
  exact .branch (.branch (.next kept) (.branch (.next kept) (.next kept))) (.next h)

theorem execStackPowerCycleExpiry_life (g : Nat) (initOk : Bool) : LifeOutcome (execStackPowerCycleExpiry g initOk s) o := by
  unfold execStackPowerCycleExpiry
  split
  · exact .next h
  · exact .branch (.branch (.next h) (.next h)) (.next h)

theorem execReadyReached_life : LifeOutcome (execReadyReached s) o := by
  unfold execReadyReached
  extract_lets d merged _ ready raised
  have kept : merged.LifeFrom o := h.mergeMap
  clear_value merged
  have up : ready.LifeFrom o := kept
  have told : raised.LifeFrom o := up.raiseVector _
  exact .branch (.next (branch (told.raiseVector _) told)) (.next h)

/-! ## Commands of the frame and of tiles (R132, R182, R198, R201, R205, R386) -/

theorem execVrAlertFall_life : LifeOutcome (execVrAlertFall s) o := by
  unfold execVrAlertFall
  exact .branch (.next h) (.next (branch (.enterNight (by exact h)) h))

theorem execSensorConversion_life (r : Nat) (temps : List Int) : LifeOutcome (execSensorConversion r temps s) o := by
  unfold execSensorConversion
  have kept := h.modRegion r fun x => { x with temps := temps }
  exact .branch (.next h) (.branch (.next ((kept.thermTrip _).logRecord 7 _)) (.next kept))

theorem execFrameEnd_life : LifeOutcome (execFrameEnd s) o := by
  unfold execFrameEnd
  have kept : s.discardFlights.LifeFrom o := h.discardFlights
  have logged : ∀ {u : State}, u.LifeFrom o → u.logMisses.LifeFrom o := fun k =>
    k.foldl (fun (x : Nat × Nat) k => k.missOnly (.addMiss _ 1 x.1 x.2 0)) _
  exact .branch (.next (logged (by exact kept))) (.next h)

theorem execHoldTimeout_life (tel : Telemetry) : LifeOutcome (execHoldTimeout tel s) o := by
  unfold execHoldTimeout
  extract_lets z _ y
  have synced : z.LifeFrom o := h.syncTiles
  clear_value z
  have kept : y.LifeFrom o := .addError (.noteSet (by exact synced) .frm 3) _ true
  exact .branch (.branch (.next kept.releaseOrigin) (kept.tickOutcome tel)) (.next h)

theorem execBarrierComplete_life (d : Nat) : LifeOutcome (execBarrierComplete d s) o := by
  unfold execBarrierComplete
  split
  · exact .next h
  · exact .branch (.next h) (.next (.noteBarriers (by exact h)))

theorem execSlotEntry_life (t : Nat) (ups : List Upset) : LifeOutcome (execSlotEntry t ups s) o := by
  unfold execSlotEntry
  extract_lets y x a p
  refine .branch (.next h) (.branch (.next (.addChanDrop (by exact h) _ _)) (.branch (.next h) ?_))
  split
  · exact .fault _
  · extract_lets entered dropped
    have put : entered.LifeFrom o := h.putTile t _ _
    clear_value entered
    have kept : dropped.LifeFrom o := State.LifeFrom.addChanDrop (by exact put) _ _
    split
    · exact .fault _
    · next sent => exact .next (kept.sendAll sent)

theorem execLocalSend_life (t : Nat) (ups : List Upset) : LifeOutcome (execLocalSend t ups s) o := by
  unfold execLocalSend
  refine .branch (.next h) (.branch (.next h) ?_)
  split
  · exact .next h
  · exact .next (h.putTile t _ _)

theorem execLineReceive_life (t : Nat) : LifeOutcome (execLineReceive t s) o := by
  unfold execLineReceive
  extract_lets y
  split
  · exact .next h
  · exact .next (h.putTile t _ _)

theorem execTestSliceEnd_life (t : Nat) (mismatch : Bool) (ups : List Upset) : LifeOutcome (execTestSliceEnd t mismatch ups s) o := by
  unfold execTestSliceEnd
  extract_lets listed marked failed told _ passed
  have rows : listed.LifeFrom o := h.foldl (fun u k => k.listSliceRow t u) _
  have kept : marked.LifeFrom o := rows
  clear_value marked
  have bad : told.LifeFrom o := kept
  have good : passed.LifeFrom o := kept
  clear_value told passed
  exact .branch (.next h) (.branch (.next bad) (.next good))

/-! ## Commands of the gates and the update units (R209, R225, R235, R270, R283) -/

theorem execStackTransferIssue_life (g : Nat) (host : Bool) : LifeOutcome (execStackTransferIssue g host s) o := by
  unfold execStackTransferIssue
  refine .branch (.next h) (.branch (.branch ?_ (.next h)) (.branch (h.issueStack g) (.next h)))
  split
  · exact .next (h.issueHost g _)
  · exact .next h

theorem execStackTransferComplete_life (g idx : Nat) (ecc : EccReport) : LifeOutcome (execStackTransferComplete g idx ecc s) o := by
  unfold execStackTransferComplete
  split
  · exact .next h
  · next fl _ =>
    have ended := (h.modGate g fun x => { x with flights := x.flights.eraseIdx idx }).endTransfer g fl ecc
    refine .next ?_
    split
    · exact ended.drainRing g _
    · exact ended

theorem execRimLineSend_life (g r bufCe : Nat) : LifeOutcome (execRimLineSend g r bufCe s) o := by
  unfold execRimLineSend
  refine .branch (.next h) ?_
  split
  · exact .next h
  · exact .branch (.fault _) (.next ((h.modGate g _).sendRim g r _ _ _))

theorem execRimLineReceive_life (g : Nat) : LifeOutcome (execRimLineReceive g s) o := by
  unfold execRimLineReceive
  split
  · exact .next h
  · extract_lets claims taken
    have kept : taken.LifeFrom o := h
    clear_value claims
    split
    · exact .next kept
    · exact .next kept
    · exact .fault _

theorem execHostReadCompletion_life (g r addr : Nat) (data : List Byte) : LifeOutcome (execHostReadCompletion g r addr data s) o := by
  unfold execHostReadCompletion
  split
  · exact .next h
  · exact .next (h.hostData g _ addr data)

theorem execHostReadError_life (g r : Nat) : LifeOutcome (execHostReadError g r s) o := by
  unfold execHostReadError
  split
  · exact .next h
  · exact .next (h.hostFails g _)

theorem execCompletionTimeout_life (g r : Nat) : LifeOutcome (execCompletionTimeout g r s) o := by
  unfold execCompletionTimeout
  split
  · exact .next h
  · exact .next (h.hostFails g _)

theorem execPageRequestResponse_life (g r : Nat) (success : Bool) : LifeOutcome (execPageRequestResponse g r success s) o := by
  unfold execPageRequestResponse
  dsimp only
  split
  · exact .branch (.branch (.next h) (.next h)) (.next (h.gateWork (.ringError s g r 5)))
  · exact .next h

theorem execFaultTimeout_life (g r : Nat) : LifeOutcome (execFaultTimeout g r s) o := by
  unfold execFaultTimeout
  split
  · exact .branch (.next (h.gateWork (.ringError s g r 5))) (.next h)
  · exact .next h

theorem execBoulevardRow_life (node : Nat) (tile : Option Nat) : LifeOutcome (execBoulevardRow node tile s) o := by
  unfold execBoulevardRow
  refine .branch (.next h) ?_
  split
  · exact .branch (.next (h.tileRow node _)) (.next h)
  · split
    · exact .branch (.next h) (.next (h.nodeRow node _))
    · exact .next h

theorem execBoulevardForward_life (node : Nat) : LifeOutcome (execBoulevardForward node s) o := by
  unfold execBoulevardForward
  split
  · exact .next h
  · exact .branch (.next h) (.next h)

theorem execGradientRowAtGate_life (g : Nat) : LifeOutcome (execGradientRowAtGate g s) o := by
  unfold execGradientRowAtGate
  refine .branch (.next h) ?_
  split
  · exact .next h
  · extract_lets _ arrived
    have kept : arrived.LifeFrom o := h
    split
    · next taken => exact .next (kept.gateRow taken)
    · exact .next kept

theorem execReductionMessage_life (g : Nat) : LifeOutcome (execReductionMessage g s) o := by
  unfold execReductionMessage
  split
  · exact .next h
  · exact .next (.takeReduction (by exact h) g _ _)

theorem execBlockUpdate_life (g layer idx : Nat) : LifeOutcome (execBlockUpdate g layer idx s) o := by
  unfold execBlockUpdate
  split
  · exact .next h
  · exact .branch (.next h) (.branch (.next h) (.branch (.next h) (.next (h.updateBlock g _ _))))

/-! ## Commands of the links and the group (R290 to R309) -/

theorem execLinkTrainingComplete_life (p : Nat) (res : Training) : LifeOutcome (execLinkTrainingComplete p res s) o := by
  unfold execLinkTrainingComplete
  have logged : (s.logLanes p (s.trainingResult p res) res).LifeFrom o := h.logRecord 2 _
  exact .branch (.next h) (.branch (.next (h.portDrop p _ _)) (.branch (.next (logged.portDrop p _ _)) (.next logged)))

theorem execRecoveryComplete_life (p : Nat) (res : Training) : LifeOutcome (execRecoveryComplete p res s) o := by
  unfold execRecoveryComplete
  extract_lets x r logged up
  have told : logged.LifeFrom o := h.logRecord 2 _
  have kept : up.LifeFrom o := told
  exact .branch (.next h) (.branch (.next told) (.branch (.next kept) (.next ((kept.mapChange _).linkStatus 2 _))))

theorem execDataFlitReceive_life (p : Nat) (f : Flit) (ce ue : Nat) : LifeOutcome (execDataFlitReceive p f s ce ue) o := by
  unfold execDataFlitReceive
  extract_lets told y taken
  have kept : told.LifeFrom o := h.fecReport p ce ue
  have set : taken.LifeFrom o := kept
  exact .branch (.next kept) (.next (branch (set.takeData p f) set))

theorem execIdleFlitReceive_life (p : Nat) (f : Flit) (ce ue : Nat) : LifeOutcome (execIdleFlitReceive p f s ce ue) o := by
  unfold execIdleFlitReceive
  have kept := h.fecReport p ce ue
  exact .branch (.next kept) (.next (kept.modPort p fun _ => _))

theorem execMasterTickRelease_life : LifeOutcome (execMasterTickRelease s) o := by
  unfold execMasterTickRelease
  refine .branch (.branch ?_ (.branch (.next h.masterToggle.sendGo) (.next h))) (.next h)
  split
  · exact .next h.sendGo
  · exact .branch (.next h.masterToggle) (.next h)

theorem execFsyncTransition_life : LifeOutcome (execFsyncTransition s) o := by
  unfold execFsyncTransition
  extract_lets _ moved toggled tick
  have kept : moved.LifeFrom o := h
  have told : toggled.LifeFrom o := kept.toggleFsync
  clear_value moved toggled
  exact .branch (.next kept) <| .branch (.branch (.next told) (.next told.detectSyncLost)) (.branch (.next told) (.next told))

theorem execSyncLostTimeout_life : LifeOutcome (execSyncLostTimeout s) o := by
  unfold execSyncLostTimeout
  split
  · exact .branch (.next h.detectSyncLost) (.next h)
  · exact .next h

theorem execLinkMapCommit_life : LifeOutcome (execLinkMapCommit s) o := by
  unfold execLinkMapCommit
  split
  · exact .branch (.next (h.commitMap _)) (.next h)
  · exact .next h

/-! ## Commands of the host (R235, R238, R327, R329) -/

theorem execAtsInvalidation_life (port page pasid : Nat) : LifeOutcome (execAtsInvalidation port page pasid s) o := by
  unfold execAtsInvalidation
  exact .branch (.next h) (.next (.settleInval (.modHost (by exact h) port _) port))

theorem execDoorbellAccept_life (port : Nat) : LifeOutcome (execDoorbellAccept port s) o := by
  unfold execDoorbellAccept
  split
  · exact .next h
  · exact .branch (.next h) <| .branch (State.LifeFrom.releaseHeld (by exact h) port) <| .branch (h.releaseHeld port) <|
      .branch (((h.acceptDoorbell _ _ _).raiseVector _).releaseHeld port) (.next h)

theorem execMsixUnmask_life (port : Nat) (vec : Option Nat) : LifeOutcome (execMsixUnmask port vec s) o := by
  unfold execMsixUnmask
  split
  · exact .branch (h.hostAccess port _) (.next h)
  · exact h.hostAccess port _

/-! ## Every command, every step -/

theorem exec_life (c : Instr) : LifeOutcome (exec c s) o := by
  cases c
  case halt | nop | fwait | testw | sync | gfence | cwait | sli | slih | salu | smovs | br | dbnz | setrc | lds | sts | loadw |
      wfill | stream | drain | dfill | dcopy | varith | vcmp | vint | vmove | vcvt | vfunc | vred | vld | vst | vgather |
      vscatter | vscadd | csend | crecv =>
    exact h.tileCommand rfl
  case loadwStart | streamStart | gridRowOutput | routeSummaryWrite => exact h.runEngines _ _
  case scqHeadWrite | linkMapArm | load | start | stop | stage | activate | confirm | revert | cfgStore | tstRun | tstRefurb |
      tstAbort =>
    exact h.hostWrite8 _ _ _
  case apertureRead | apertureWrite | pcieConfigWrite | registerWrite => exact h.hostAccess _ _
  case arm | disarm | cqHeadWrite | retrain | disable => exact .branch (h.hostWrite8 _ _ _) (.next h)
  case ingressDoorbell | updStepWrite => exact .branch (h.hostAccess _ _) (.next h)
  case lcFinish | lcClaim | lcLock | lcUnlock | lcShip | lcReceive | lcTransfer | lcRelease | lcReturn | lcRestock | lcScrap |
      lcCfgAuth | lcFwAuth =>
    exact h.submitOp _ _
  case setdasa | getEndpointId | getMctpVersionSupport | getMessageTypeSupport | getStatus | readLastStep | getNonce | lcStatus |
      fwStatusQuery =>
    unfold exec
    exact h.onSideband h
  case entdaa | setEndpointId | readMap | readLog | readReg =>
    unfold exec
    exact h.onSideband (branch h h)
  case lcRequest req =>
    unfold exec
    exact h.onSideband (branch ((h.emit _).submit req) (h.emit _))
  case fwControl op =>
    unfold exec
    exact h.onSideband (branch ((h.emit _).fwCommand op) (h.emit _))
  case getVersion =>
    unfold exec
    exact h.onSpdm _ h
  case getCapabilities | negotiateAlgorithms =>
    unfold exec
    exact h.onSpdm _ (branch h h)
  case getDigests | challenge =>
    unfold exec
    exact h.onNegotiated _ h
  case getCertificate =>
    unfold exec
    exact h.onNegotiated _ (branch h h)
  case getMeasurements =>
    unfold exec
    exact h.onNegotiated _ (branch h (branch h h))
  case doeDiscovery | regionPowerOffExpiry | vrAlertRise | nightEnd | coolOkAssert | coolOkRestart | agingMeasurement |
      logSummaryWrite | cmpResetRelease | testWindowEnd | refreshSlot | forcedRefresh | linkLossOfLock | pciePortResetRelease |
      testSliceAbort =>
    exact .branch (.next h) (.next h)
  case powerGood straps => exact execPowerGood_life h straps
  case dawnWave w tests => exact execDawnWave_life h w tests
  case waveRepeat test => exact execWaveRepeat_life h test
  case interconnectTest res => exact execInterconnectTest_life h res
  case retentionReadback r res => exact execRetentionReadback_life h r res
  case stackReady g init => exact execStackReady_life h g init
  case stackPowerCycleExpiry g ok => exact execStackPowerCycleExpiry_life h g ok
  case dawnFinalStage => exact execDawnFinalStage_life h
  case readyReached => exact execReadyReached_life h
  case trialWatchdog => exact execTrialWatchdog_life h
  case lockstepMismatch => exact .branch (.next h) (.next ((h.fullReset 2).beginDawn _ 2))
  case modResetAssert => exact .branch (.next h) (.next (h.fullReset 1))
  case modResetDeassert straps => exact .branch (.next (h.beginDawn straps _)) (.next h)
  case cmpResetAssert => exact execCmpResetAssert_life h
  case vrAlertFall => exact execVrAlertFall_life h
  case coolOkDeassert => exact .next (branch (.coolStop (by exact h)) h)
  case sensorConversion r temps => exact execSensorConversion_life h r temps
  case inputUndervoltage | inputOvervoltage => exact .next (branch h.powerDown h)
  case computeEfuseOpen r => exact .branch (.next h) (.next (h.darken r))
  case thoroughfareEfuseOpen r => exact .branch (.next h) (.next (h.loseThoroughfare r))
  case frameEnd => exact execFrameEnd_life h
  case frameTick tel => exact .branch (h.syncTiles.tickOutcome tel) (.next h)
  case mapStore => exact .next (branch h.storeMap h)
  case holdTimeout tel => exact execHoldTimeout_life h tel
  case originFrameRelease => exact .branch (.next h.releaseOrigin) (.next h)
  case barrierComplete d => exact execBarrierComplete_life h d
  case slotEntry t ups => exact execSlotEntry_life h t ups
  case localSend t ups => exact execLocalSend_life h t ups
  case lineReceive t => exact execLineReceive_life h t
  case queuedDeckWrite t ups => exact .branch (.next h) (.branch (.next h) (.next (h.putTile t _ _)))
  case testSliceEnd t mismatch ups => exact execTestSliceEnd_life h t mismatch ups
  case stackTransferIssue g host => exact execStackTransferIssue_life h g host
  case stackTransferComplete g idx ecc => exact execStackTransferComplete_life h g idx ecc
  case rimLineSend g r bufCe => exact execRimLineSend_life h g r bufCe
  case rimLineReceive g => exact execRimLineReceive_life h g
  case hostReadCompletion g r addr data => exact execHostReadCompletion_life h g r addr data
  case hostReadError g r => exact execHostReadError_life h g r
  case completionTimeout g r => exact execCompletionTimeout_life h g r
  case pageFault g r page => exact .next (h.faultPage g r page)
  case pageRequestResponse g r success => exact execPageRequestResponse_life h g r success
  case faultTimeout g r => exact execFaultTimeout_life h g r
  case atsInvalidation port page pasid => exact execAtsInvalidation_life h port page pasid
  case atsTranslationCompletion g r page granted => exact .next (branch (h.translated g r page) (h.faultPage g r page))
  case doorbellAccept port => exact execDoorbellAccept_life h port
  case boulevardRow node tile => exact execBoulevardRow_life h node tile
  case boulevardForward node => exact execBoulevardForward_life h node
  case gradientRowAtGate g => exact execGradientRowAtGate_life h g
  case reductionMessage g => exact execReductionMessage_life h g
  case blockUpdate g layer idx => exact execBlockUpdate_life h g layer idx
  case trainingWindowOpen p => exact .branch (.next (h.openWindow p _)) (.next h)
  case trainingWindowClose p => exact .branch (.next (h.portDrop p _ _)) (.next h)
  case linkWake p => exact .branch (.next h) <| .branch (.next h) <| .branch (.next h) (.next h)
  case linkTrainingComplete p res => exact execLinkTrainingComplete_life h p res
  case recoveryComplete p res => exact execRecoveryComplete_life h p res
  case recoveryTimeout p => exact .branch (.next (h.portDrop p _ _)) (.next h)
  case flitSlotSend p => exact .branch (.next (h.sendSlot p)) (.next h)
  case dataFlitReceive p f ce ue => exact execDataFlitReceive_life h p f ce ue
  case idleFlitReceive p f ce ue => exact execIdleFlitReceive_life h p f ce ue
  case ready p f k => exact h.onSync (fun m k => k.readyArrives p m) p f k 1
  case go p f k => exact h.onSync (fun m k => k.goArrives p m) p f k 2
  case abort p f k => exact h.onSync (fun m k => k.abortArrives p m) p f k 3
  case stepOpen p f k => exact h.onSync (fun m k => k.stepOpenArrives p m) p f k 4
  case resetState p f k => exact h.onSync (fun m k => k.resetStateArrives p m) p f k 5
  case eof p f k => exact h.onSync (fun m k => k.eofArrives p m) p f k 6
  case sendReady => exact .branch (.next (.sendMsg (by exact h) _ _)) (.next h)
  case masterTickRelease => exact execMasterTickRelease_life h
  case fsyncTransition => exact execFsyncTransition_life h
  case syncLostTimeout => exact execSyncLostTimeout_life h
  case linkMapCommit => exact execLinkMapCommit_life h
  case pciePortReset port => exact .next (branch (h.resetPort port) h)
  case msixUnmask port vec => exact execMsixUnmask_life h port vec
  case planLoadComplete ecc => exact .next (branch (h.loadComplete ecc) h)
  case stageComplete ok ecc => exact .next (branch (h.stageDone ok ecc) h)
  case cfgStoreComplete ok ecc => exact .next (h.cfgStoreDone ok ecc)
  case lifecycleWipeDone failed => exact execLifecycleWipeDone_life h failed
  case testComplete res => exact .next (branch h (branch (h.refurbDone res) (h.runDone res)))

omit h in
/-- Settles O58: each command, and a cycle that passes, leaves a state that the one before may come to (`exec_life`). -/
theorem scrapIsFinalAndSvnNeverFalls : Obligations.ScrapIsFinalAndSvnNeverFalls := by
  unfold Obligations.ScrapIsFinalAndSvnNeverFalls
  intro s t run
  unfold step at run
  split at run
  · next c rest _ =>
    have from_ : ({ s with pending := rest } : State).LifeFrom s := .refl s
    exact (exec_life from_ c).of_next run
  · exact Host.Outcome.next.inj run ▸ (State.LifeFrom.refl s).passCycle

end Sys2Proof.Machine
end

section
/-! PROOFS. Night's line, and the sensors (R349, R355, R356, R359). -/

namespace Sys2Proof.Machine

/-! ## Night begins (R355) -/

/-- Entering Night from the day puts the core clock at code 40, counts one Night and sets bit 0 of PWR_EVENTS (R355, R362). -/
theorem State.enterNight_fromDay {s : State} (day : s.pwr.night = false) :
    s.enterNight.pwr.night = true ∧ s.enterNight.clk.code = 40 ∧ s.enterNight.clk.nextCode = 40 ∧
      s.enterNight.pwr.nightCount = wrap64 (s.pwr.nightCount + 1) ∧ s.enterNight.pwr.events &&& 1 = 1 ∧
      s.enterNight.pwr.alertHigh = s.pwr.alertHigh := by
  have event : ∀ u : State, (u.powerEvent 0).pwr.night = u.pwr.night ∧ (u.powerEvent 0).clk = u.clk ∧
      (u.powerEvent 0).pwr.nightCount = u.pwr.nightCount ∧ (u.powerEvent 0).pwr.alertHigh = u.pwr.alertHigh ∧
      (u.powerEvent 0).pwr.events &&& 1 = 1 := by
    intro u
    have set : (u.powerEvent 0).pwr.events &&& 1 = 1 := u.powerEvent_sets 0 (by decide)
    refine ⟨?_, u.powerEvent_clk 0, ?_, ?_, set⟩ <;> rw [State.powerEvent_frame]
  generalize begun : ({ s with
      clk := { s.clk with code := 40, nextCode := 40 }
      pwr := { s.pwr with night := true, nightCount := wrap64 (s.pwr.nightCount + 1) } } : State) = u
  have entered : s.enterNight = u.powerEvent 0 := by
    rw [← begun]
    exact if_neg (by simp [day])
  obtain ⟨night, clk, count, level, set⟩ := event u
  rw [entered, night, clk, count, level]
  subst begun
  exact ⟨rfl, rfl, rfl, rfl, set, rfl⟩

/-- Settles O9: the fall of the line notes its level and begins a Night where none is; the other two commands note a level, a
time or a pending end. -/
theorem vrAlertEntersAndLeavesNight : Obligations.VrAlertEntersAndLeavesNight := by
  unfold Obligations.VrAlertEntersAndLeavesNight
  refine ⟨fun s high on day => ?begins, fun s high night => ?again, fun s low => if_neg (by simp [low]),
    fun s night high cold => ⟨fun due => if_pos (by simp [night, high, cold, due]), fun early => if_neg ?early⟩⟩
  case begins =>
    generalize low : ({ s with pwr := { s.pwr with alertHigh := false, nightOver := false } } : State) = u
    have run : exec .vrAlertFall s = .next u.enterNight := by
      rw [← low]
      refine (if_neg (by simp [high])).trans ?_
      exact congrArg Host.Outcome.next (if_pos on)
    obtain ⟨entered, code, nextCode, count, event, level⟩ := State.enterNight_fromDay (s := u) (by rw [← low]; exact day)
    refine ⟨_, run, ?_, entered, code, nextCode, ?_, event, ?_, ?_, ?_, ?_⟩
    · rw [level, ← low]
    · rw [count, ← low]
    · rw [State.enterNight_stack, ← low]
    · rw [State.enterNight_tiles, ← low]
    · rw [State.enterNight_gates, ← low]
    · rw [State.enterNight_frm, ← low]
  case again =>
    generalize low : ({ s with pwr := { s.pwr with alertHigh := false, nightOver := false } } : State) = u
    have still : u.enterNight = u := if_pos (by rw [← low]; exact night)
    refine ⟨u, ?_, ?_⟩
    · refine (if_neg (by simp [high])).trans ?_
      simp only [low, still, ite_self]
    · subst low
      exact ⟨rfl, rfl, rfl⟩
  case early =>
    simp only [not_and]
    intros
    omega

/-! ## Sensors (R349, R359) -/

/-- The region's temperature is the largest of its four sensors' (R349). -/
theorem State.temp_setSensors (s : State) (r : Nat) (a b c d : Int) :
    (s.modRegion r fun x => { x with temps := [a, b, c, d] }).temp r = max (max a b) (max c d) := by
  simp only [State.temp, State.modRegion, State.region_setRegion, Region.temp, List.headD_cons, List.foldl_cons, List.foldl_nil]
  omega

/-- A trip latches THERM_TRIP_N, is counted in the log and begins a COOL_OK stop; the stacks' bytes stay (R359). -/
theorem State.thermTrip_trips {s : State} (free : s.pwr.trip = false) (k : ErrKind) :
    (s.thermTrip k).pwr.trip = true ∧ (s.thermTrip k).pwr.coolStop = true ∧ (s.thermTrip k).log.trips = s.log.trips + 1 ∧
      (s.thermTrip k).stack = s.stack := by
  unfold State.thermTrip
  rw [if_neg (by simp [free])]
  dsimp only
  generalize latched : ({ s with pwr := { s.pwr with trip := true }, log := { s.log with trips := s.log.trips + 1 } } : State) = u
  generalize noted : (u.powerEvent 2).addError k true = v
  have work : u.StopWork v.coolStop := by
    rw [← noted]
    exact ((State.StopWork.powerEvent u 2).trans (.addError _ k true)).trans (.coolStop _)
  have stopped : v.coolStop.pwr.coolStop = true := by
    cases cool : v.pwr.coolStop with
    | false => exact (v.coolStop_spec cool).1
    | true =>
      have same : v.coolStop = v := if_pos cool
      rw [same, cool]
  refine ⟨?_, stopped, ?_, ?_⟩ <;> rw [work, ← latched]

/-- Making room in the log and writing a record keep its count of trips (R417). -/
theorem State.logRecord_trips (s : State) (kind : Nat) (data : List Byte) : (s.logRecord kind data).log.trips = s.log.trips := by
  have room : s.log.makeRoom.trips = s.log.trips := by
    unfold Log.makeRoom
    extract_lets first
    split <;> rfl
  exact room

/-- Settles O11: the conversion sets the region's sensors alone, and the trip acts at 115 °C. -/
theorem sensorConversionUpdatesTemperature : Obligations.SensorConversionUpdatesTemperature := by
  unfold Obligations.SensorConversionUpdatesTemperature
  intro r a b c d s bound on
  generalize sensed : (s.modRegion r fun x => { x with temps := [a, b, c, d] }) = u
  have hot : u.temp r = max (max a b) (max c d) := by rw [← sensed, State.temp_setSensors]
  have run : exec (.sensorConversion r [a, b, c, d]) s =
      if 115 ≤ u.temp r ∧ !u.pwr.trip then
        .next ((u.thermTrip (.thermTripSensor r (u.temp r))).logRecord 7 [BitVec.ofNat 8 r, BitVec.ofInt 8 (u.temp r)])
      else .next u := by
    rw [← sensed]
    exact if_neg (by simp [bound, on])
  have stack : u.stack = s.stack := by rw [← sensed]; rfl
  have pwr : u.pwr = s.pwr := by rw [← sensed]; rfl
  have log : u.log = s.log := by rw [← sensed]; rfl
  by_cases trips : 115 ≤ u.temp r ∧ !u.pwr.trip
  · rw [if_pos trips] at run
    obtain ⟨reached, free⟩ := trips
    obtain ⟨latched, stopped, count, kept⟩ := State.thermTrip_trips (by simpa using free) (.thermTripSensor r (u.temp r))
    refine ⟨_, run, kept.trans stack, fun below => ?_, fun _ _ => ⟨latched, stopped, ?_⟩⟩
    · omega
    · rw [State.logRecord_trips, count, log]
  · rw [if_neg trips] at run
    refine ⟨u, run, stack, fun _ => ⟨hot, fun k other => ?_, by rw [← sensed]; rfl⟩, fun reached free => ?_⟩
    · rw [← sensed]
      exact State.region_setRegion_ne s _ r k other
    · exact absurd ⟨hot ▸ reached, by simp [pwr, free]⟩ trips

end Sys2Proof.Machine
end

section
/-! PROOFS. The heads of the queues, through BAR0 and BAR4 (R324, R326, R440). -/

namespace Sys2Proof.Machine

/-! ## A head and its queue (R440) -/

/-- Only the low 32 bits of a written value become a head. -/
theorem State.writeCqHead_mod (s : State) (g v : Nat) : s.writeCqHead g (v % 2 ^ 32) = s.writeCqHead g v := by
  unfold State.writeCqHead headOk
  rw [Nat.mod_mod]

theorem State.writeScqHead_mod (s : State) (v : Nat) : s.writeScqHead (v % 2 ^ 32) = s.writeScqHead v := by
  unfold State.writeScqHead headOk
  rw [Nat.mod_mod]

/-- A 32-bit value may become the head where the entries from it to the tail fit the queue. -/
theorem headOk_iff {tail entries v : Nat} (small : v < 2 ^ 32) :
    headOk tail entries v = true ↔ (tail + 2 ^ 32 - v) % 2 ^ 32 ≤ entries := by
  simp only [headOk, Nat.mod_eq_of_lt small, decide_eq_true_eq]

theorem State.writeCqHead_of_fits {s : State} {g v : Nat} (small : v < 2 ^ 32)
    (fits : ((s.gate g).cqTail + 2 ^ 32 - v) % 2 ^ 32 ≤ (s.gate g).cqEntries) :
    s.writeCqHead g v = s.setGate g { s.gate g with cqHead := v } := by
  have value := Nat.mod_eq_of_lt small
  unfold State.writeCqHead
  dsimp only
  rw [if_pos ((headOk_iff small).mpr fits), value]

theorem State.writeCqHead_of_passes {s : State} {g v : Nat} (small : v < 2 ^ 32)
    (passes : (s.gate g).cqEntries < ((s.gate g).cqTail + 2 ^ 32 - v) % 2 ^ 32) : s.writeCqHead g v = s.badAccess :=
  if_neg fun ok => absurd ((headOk_iff small).mp ok) (Nat.not_le.mpr passes)

theorem State.writeScqHead_of_fits {s : State} {v : Nat} (small : v < 2 ^ 32)
    (fits : (s.hostRegs.scqTail + 2 ^ 32 - v) % 2 ^ 32 ≤ s.hostRegs.scqEntries) :
    s.writeScqHead v = { s with hostRegs := { s.hostRegs with scqHead := v } } := by
  have value := Nat.mod_eq_of_lt small
  unfold State.writeScqHead
  dsimp only
  rw [if_pos ((headOk_iff small).mpr fits), value]

theorem State.writeScqHead_of_passes {s : State} {v : Nat} (small : v < 2 ^ 32)
    (passes : s.hostRegs.scqEntries < (s.hostRegs.scqTail + 2 ^ 32 - v) % 2 ^ 32) : s.writeScqHead v = s.badAccess :=
  if_neg fun ok => absurd ((headOk_iff small).mp ok) (Nat.not_le.mpr passes)

/-! ## The ways to a head (R324, R326) -/

/-- A write of either size at an 8-byte offset carries the value in its low 32 bits. -/
theorem mergeWrite_low {o n : Nat} (size : n = 4 ∨ n = 8) (whole : o % 8 = 0) (v old : Nat) :
    mergeWrite o n v old % 2 ^ 32 = v % 2 ^ 32 := by
  obtain rfl | rfl := size
  · rw [mergeWrite, if_neg (by decide), if_pos whole]
    omega
  · rw [mergeWrite_whole]
    omega

/-- GATE_CQ_HEAD in BAR0 (R324, R440). -/
theorem State.writeReg_cqHead {s : State} (recovery : s.ctl.recovery = false) (ready : s.dawn.firstReady = true) {g n : Nat}
    (bound : g < 48) (size : n = 4 ∨ n = 8) (v : Nat) :
    s.writeReg (0x100050 + g * 0x1000) n v = .next (s.writeCqHead g v) := by
  have base : (0x100050 + g * 0x1000) / 8 * 8 = 0x100050 + g * 0x1000 := by omega
  have served : s.served (0x100050 + g * 0x1000) = true := (s.served_late recovery (by omega)).trans ready
  have aligned : ¬ ((n ≠ 4 ∧ n ≠ 8) ∨ (0x100050 + g * 0x1000) % n ≠ 0) := by
    obtain rfl | rfl := size <;> omega
  have page : (0x100050 + g * 0x1000 - 0x100000) / 0x1000 = g := by omega
  have reg : (0x100050 + g * 0x1000) % 0x1000 = 0x50 := by omega
  unfold State.writeReg
  dsimp only
  rw [base, if_neg aligned, served, page, reg, if_neg (by simp), if_neg (by omega), if_neg (by omega), if_pos (by omega)]
  refine congrArg Host.Outcome.next ?_
  have low := mergeWrite_low size (o := 0x100050 + g * 0x1000) (by omega) v (s.gate g).cqHead
  calc s.writeGate g 0x50 (mergeWrite (0x100050 + g * 0x1000) n v)
    _ = s.writeCqHead g (mergeWrite (0x100050 + g * 0x1000) n v (s.gate g).cqHead) := by simp [State.writeGate]
    _ = s.writeCqHead g v := by rw [← State.writeCqHead_mod, low, State.writeCqHead_mod]

/-- HOST_SCQ_HEAD in BAR0 (R324, R440). -/
theorem State.writeReg_scqHead {s : State} (recovery : s.ctl.recovery = false) {n : Nat} (size : n = 4 ∨ n = 8) (v : Nat) :
    s.writeReg 0x1A0020 n v = .next (s.writeScqHead v) := by
  have served : s.served 0x1A0020 = true := by simp [State.served, recovery]
  have low := mergeWrite_low size (o := 0x1A0020) (by omega) v s.hostRegs.scqHead
  have aligned : ¬ ((n ≠ 4 ∧ n ≠ 8) ∨ 0x1A0020 % n ≠ 0) := by
    obtain rfl | rfl := size <;> omega
  have page : s.writeReg 0x1A0020 n v = .next (s.writeHost 0x20 (mergeWrite 0x1A0020 n v)) := by
    unfold State.writeReg
    dsimp only
    rw [if_neg aligned]
    simp [served]
  rw [page]
  refine congrArg Host.Outcome.next ?_
  calc s.writeHost 0x20 (mergeWrite 0x1A0020 n v)
    _ = s.writeScqHead (mergeWrite 0x1A0020 n v s.hostRegs.scqHead) := by simp [State.writeHost]
    _ = s.writeScqHead v := by rw [← State.writeScqHead_mod, low, State.writeScqHead_mod]

/-- A value of 32 bits fits a doorbell of either size. -/
theorem doorbell_value {n v : Nat} (size : n = 4 ∨ n = 8) (small : v < 2 ^ 32) : v % 2 ^ (8 * n) % 2 ^ 32 = v := by
  obtain rfl | rfl := size <;> omega

/-- The doorbell of GATE_CQ_HEAD in BAR4 (R326). -/
theorem State.writeBar4_cqHead (s : State) (port : Nat) {g n v : Nat} (bound : g < 48) (size : n = 4 ∨ n = 8)
    (small : v < 2 ^ 32) : s.writeBar4 port (g * 0x10000 + 0x2000) n v = s.writeCqHead g v := by
  have aligned : ¬ ((n ≠ 4 ∧ n ≠ 8) ∨ (g * 0x10000 + 0x2000) % n ≠ 0) := by
    obtain rfl | rfl := size <;> omega
  have gate : (g * 0x10000 + 0x2000) / 0x10000 = g := by omega
  have reg : (g * 0x10000 + 0x2000) % 0x10000 = 0x2000 := by omega
  unfold State.writeBar4
  dsimp only
  rw [if_neg aligned, if_pos (by omega), if_neg (by omega), gate, reg, doorbell_value size small, if_neg (by omega),
    if_pos rfl]

/-- The doorbell of HOST_SCQ_HEAD in BAR4 (R326). -/
theorem State.writeBar4_scqHead (s : State) (port : Nat) {n v : Nat} (size : n = 4 ∨ n = 8) (small : v < 2 ^ 32) :
    s.writeBar4 port 0x300000 n v = s.writeScqHead v := by
  have aligned : ¬ ((n ≠ 4 ∧ n ≠ 8) ∨ 0x300000 % n ≠ 0) := by
    obtain rfl | rfl := size <;> omega
  unfold State.writeBar4
  dsimp only
  rw [if_neg aligned, doorbell_value size small, if_neg (by omega), if_pos rfl]

/-- Each way to GATE_CQ_HEAD comes to the same write (R440). -/
theorem PortOpen.cqHead {s : State} {port : Nat} (opened : PortOpen s port) (recovery : s.ctl.recovery = false)
    (ready : s.dawn.firstReady = true) {g v : Nat} (bound : g < 48) (small : v < 2 ^ 32) {c : Instr}
    (way : c = .cqHeadWrite port g v ∨ (∃ n, (n = 4 ∨ n = 8) ∧ c = .registerWrite port 0 (0x100050 + g * 0x1000) n v) ∨
      (∃ n, (n = 4 ∨ n = 8) ∧ c = .registerWrite port 4 (g * 0x10000 + 0x2000) n v)) :
    exec c s = .next (s.writeCqHead g v) := by
  have bar0 : ∀ n, n = 4 ∨ n = 8 →
      s.hostAccess port (.registerWrite port 0 (0x100050 + g * 0x1000) n v) = .next (s.writeCqHead g v) := fun n size =>
    (opened.registerWrite _ n v (by omega)).trans (State.writeReg_cqHead recovery ready bound size v)
  obtain rfl | ⟨n, size, rfl⟩ | ⟨n, size, rfl⟩ := way
  · exact (if_pos bound).trans (bar0 8 (.inr rfl))
  · exact bar0 n size
  · refine (opened.bar4Write _ n v (by omega)).trans ?_
    rw [State.writeBar4_cqHead s port bound size small]

/-- Each way to HOST_SCQ_HEAD comes to the same write (R440). -/
theorem PortOpen.scqHead {s : State} {port : Nat} (opened : PortOpen s port) (recovery : s.ctl.recovery = false) {v : Nat}
    (small : v < 2 ^ 32) {c : Instr}
    (way : c = .scqHeadWrite port v ∨ (∃ n, (n = 4 ∨ n = 8) ∧ c = .registerWrite port 0 0x1A0020 n v) ∨
      (∃ n, (n = 4 ∨ n = 8) ∧ c = .registerWrite port 4 0x300000 n v)) :
    exec c s = .next (s.writeScqHead v) := by
  have bar0 : ∀ n, n = 4 ∨ n = 8 →
      s.hostAccess port (.registerWrite port 0 0x1A0020 n v) = .next (s.writeScqHead v) := fun n size =>
    (opened.registerWrite _ n v (by decide)).trans (State.writeReg_scqHead recovery size v)
  obtain rfl | ⟨n, size, rfl⟩ | ⟨n, size, rfl⟩ := way
  · exact bar0 8 (.inr rfl)
  · exact bar0 n size
  · refine (opened.bar4Write _ n v (by decide)).trans ?_
    rw [State.writeBar4_scqHead s port size small]

/-- Settles O52: every way writes through the same test, so a value that passes it fits the queue and any other leaves the
head alone. -/
theorem queueHeadsNeverPassTheirTails : Obligations.QueueHeadsNeverPassTheirTails := by
  unfold Obligations.QueueHeadsNeverPassTheirTails
  refine ⟨fun s port g v c opened recovery ready bound small way =>
      ⟨_, opened.cqHead recovery ready bound small way, ?gate⟩,
    fun s port v c opened recovery small way => ⟨_, opened.scqHead recovery small way, ?host⟩⟩
  case gate =>
    obtain passes | fits := Nat.lt_or_ge (s.gate g).cqEntries (((s.gate g).cqTail + 2 ^ 32 - v) % 2 ^ 32)
    · rw [State.writeCqHead_of_passes small passes]
      exact ⟨fun fits => absurd fits (Nat.not_le.mpr passes), fun _ => rfl, id⟩
    · rw [State.writeCqHead_of_fits small fits, State.gate_setGate]
      exact ⟨fun _ => ⟨rfl, fun k other => State.gate_setGate_ne s _ g k other, rfl⟩,
        fun passes => absurd fits (Nat.not_le.mpr passes), fun _ => fits⟩
  case host =>
    obtain passes | fits := Nat.lt_or_ge s.hostRegs.scqEntries ((s.hostRegs.scqTail + 2 ^ 32 - v) % 2 ^ 32)
    · rw [State.writeScqHead_of_passes small passes]
      exact ⟨fun fits => absurd fits (Nat.not_le.mpr passes), fun _ => rfl, id⟩
    · rw [State.writeScqHead_of_fits small fits]
      exact ⟨fun _ => rfl, fun passes => absurd fits (Nat.not_le.mpr passes), fun _ => fits⟩

end Sys2Proof.Machine
end

section
/-! PROOFS. The ports of the host: their reset, configuration writes, and messages that leave (R319 to R321, R329). -/

namespace Sys2Proof.Machine

/-! ## Messages that leave (R329) -/

/-- The messages of a port leave in order, and nothing else changes. -/
theorem State.foldl_msix (p : Nat) (l : List Nat) (s : State) :
    l.foldl (fun s v => s.emit (.msix p v)) s = { s with out := s.out ++ l.map (Out.msix p) } := by
  induction l generalizing s with
  | nil => simp
  | cons v rest ih =>
    rw [List.foldl_cons, ih]
    simp [State.emit]

/-- What sending the pending messages of a port does. -/
theorem State.sendPending_eq (s : State) (p : Nat) :
    s.sendPending p =
      { s.setHost p { s.hostPort p with pba := (s.hostPort p).pba.filter fun v => !(s.hostPort p).canSend v } with
        out := s.out ++ ((s.hostPort p).pba.filter (s.hostPort p).canSend).map (Out.msix p) } := by
  unfold State.sendPending
  dsimp only
  rw [State.foldl_msix]
  rfl

theorem State.hostPort_sendPending (s : State) {p : Nat} (bound : p < 2) :
    (s.sendPending p).hostPort p =
      { s.hostPort p with pba := (s.hostPort p).pba.filter fun v => !(s.hostPort p).canSend v } := by
  rw [State.sendPending_eq]
  exact State.hostPort_setHost s p _ bound

theorem State.hostPort_sendPending_ne (s : State) {p q : Nat} (other : q ≠ p) :
    (s.sendPending p).hostPort q = s.hostPort q := by
  rw [State.sendPending_eq]
  exact State.hostPort_setHost_ne s _ p q other

/-- A message that can leave does, and is pending no more. -/
theorem State.sendPending_leaves {s : State} {p v : Nat} (bound : p < 2) (pending : v ∈ (s.hostPort p).pba)
    (free : (s.hostPort p).canSend v = true) :
    v ∉ ((s.sendPending p).hostPort p).pba ∧ .msix p v ∈ (s.sendPending p).out := by
  constructor
  · rw [State.hostPort_sendPending s bound]
    simp [free]
  · rw [State.sendPending_eq]
    exact List.mem_append_right _ (List.mem_map_of_mem (List.mem_filter.mpr ⟨pending, free⟩))

/-- Every message that is still pending is one that may not leave. -/
theorem State.sendPending_stays (s : State) {p : Nat} (bound : p < 2) :
    ∀ v ∈ ((s.sendPending p).hostPort p).pba, ((s.sendPending p).hostPort p).canSend v = false := by
  rw [State.hostPort_sendPending s bound]
  intro v left
  have held : (!(s.hostPort p).canSend v) = true := (List.mem_filter.mp left).2
  have same : ({ s.hostPort p with pba := (s.hostPort p).pba.filter fun v => !(s.hostPort p).canSend v } : HostPort).canSend v =
      (s.hostPort p).canSend v := rfl
  rw [same]
  simpa using held

/-! ## Reset (R320) -/

theorem State.GateWork.settleInval (s : State) (p : Nat) : s.GateWork (s.settleInval p) := by
  unfold State.settleInval
  exact State.GateWork.trans (t := s.setHost p _) rfl (.fold (β := Nat × Nat) (fun s i => s.emit (.invalidated p i.1 i.2)) (fun _ _ => rfl) _ _)

/-- A read that fails ends, and its ring may enter ERROR (R237). -/
theorem State.GateWork.hostFails (s : State) (g : Nat) (h : HostFlight) : s.GateWork (s.hostFails g h) := by
  have ended : s.GateWork (s.endHostRead g h) := State.GateWork.trans (t := s.modGate g _) rfl (.settleInval _ _)
  unfold State.hostFails
  exact ite_related (ended.trans (.ringError _ g h.ring 6)) ended

/-- The failing requests of a port are gate work. -/
theorem State.GateWork.failRequests (s : State) (p : Nat) : s.GateWork (s.failRequests p) := by
  have ring : ∀ (u : State) (x : Nat × Nat),
      u.GateWork (if (u.ring x.1 x.2).state = .error then u else u.ringError x.1 x.2 6) := fun u x =>
    ite_related (.refl u) (.ringError u x.1 x.2 6)
  have gates : ∀ (u : State) (m : Map Gate), u.GateWork { u with gates := m } := fun _ _ => rfl
  unfold State.failRequests
  extract_lets asking reads read failed
  have ended : s.GateWork read := fold (fun u (x : Nat × HostFlight) => u.hostFails x.1 x.2)
    (fun u x => hostFails u x.1 x.2) reads s
  clear_value read
  have stopped : read.GateWork failed := fold _ ring asking read
  clear_value failed
  exact (ended.trans stopped).trans (gates failed _)

/-- With no request outstanding on the port nothing fails, and the stacks keep their bytes. -/
theorem State.failRequests_stack {s : State} {p : Nat} (idle : ∀ x ∈ s.gates, ∀ h ∈ x.2.hostFlights, h.port ≠ p)
    (quiet : ∀ g r, s.asksOn p g r = false) : (s.failRequests p).stack = s.stack := by
  have asking : (s.allRings.filter fun x => s.asksOn p x.1 x.2) = [] := by
    simp [quiet]
  have reads : (s.gates.flatMap fun x => (x.2.hostFlights.filter fun h => h.port == p).map fun h => (x.1, h)) = [] := by
    rw [List.flatMap_eq_nil_iff]
    intro x member
    rw [List.map_eq_nil_iff, List.filter_eq_nil_iff]
    intro h flight
    simpa using idle x member h flight
  unfold State.failRequests
  rw [asking, reads]
  rfl

/-- No gate keeps a translation of the port. -/
theorem State.failRequests_trans {s : State} {p g : Nat} {k : Nat × Nat × Nat} (kept : k ∈ ((s.failRequests p).gate g).trans) :
    k.1 ≠ p := by
  unfold State.failRequests at kept
  extract_lets asking reads read failed at kept
  have gate : ({ failed with gates := Map.mapVals (fun _ (x : Gate) => { x with
        trans := x.trans.filter fun t => t.1 != p
        transAsked := x.transAsked.filter fun t => t.1 != p }) failed.gates } : State).gate g =
      { failed.gate g with
        trans := (failed.gate g).trans.filter fun t => t.1 != p
        transAsked := (failed.gate g).transAsked.filter fun t => t.1 != p } :=
    Map.getD_mapVals (f := fun _ (x : Gate) => { x with
      trans := x.trans.filter fun t => t.1 != p
      transAsked := x.transAsked.filter fun t => t.1 != p }) rfl failed.gates
  rw [gate] at kept
  simpa using (List.mem_filter.mp kept).2

/-! ## Masks (R329) -/

/-- The vector control of a vector lies in BAR4, and writing 0 unmasks it: its pending message may leave (R326, R329). -/
theorem State.writeBar4_unmask (s : State) (p : Nat) {v : Nat} (bound : v < 2048) :
    s.writeBar4 p (0x38000C + 16 * v) 4 0 = (s.modHost p fun h => h.setDword (4 * v + 3) 0).sendPending p := by
  have aligned : ¬ (((4 : Nat) ≠ 4 ∧ (4 : Nat) ≠ 8) ∨ (0x38000C + 16 * v) % 4 ≠ 0) := by omega
  have entry : (0x38000C + 16 * v - 0x380000) / 4 = 4 * v + 3 := by omega
  unfold State.writeBar4
  dsimp only
  rw [if_neg aligned, if_neg (by omega), if_neg (by omega), if_pos (by omega), entry, Nat.zero_mod]
  simp only [(by decide : ¬ (4 : Nat) = 8), if_false]

/-- A vector is not masked once 0 is written to its vector control. -/
theorem HostPort.vectorMasked_setDword (h : HostPort) (v : Nat) : (h.setDword (4 * v + 3) 0).vectorMasked v = false := by
  simp [HostPort.vectorMasked, HostPort.setDword, msixDword]

/-! ## The commands of a port -/

/-- Settles O55: the function's registers after each command, over the laws of failing requests and of pending messages. -/
theorem pciePortsResetAndConfigure : Obligations.PciePortsResetAndConfigure := by
  unfold Obligations.PciePortsResetAndConfigure
  refine ⟨fun s p bound => ?reset, fun s p bound on free => ?release, fun s p op bound up free => ?configure,
    fun s p v opened bound pending request enable unmasked => ?unmask⟩
  case reset =>
    have tiles : (s.failRequests p).tiles = s.tiles := by rw [State.GateWork.failRequests s p]
    refine ⟨_, congrArg Host.Outcome.next (if_pos bound), State.hostPort_setHost _ p _ bound, tiles,
      fun idle quiet => State.failRequests_stack idle quiet, fun g k kept => State.failRequests_trans (s := s) (g := g) kept⟩
  case release =>
    refine ⟨_, if_pos bound, ?_, rfl⟩
    rw [State.modHost, State.hostPort_setHost _ p _ bound]
    simp [on, free]
  case configure =>
    generalize written : (s.modHost p fun h => h.configure op) = u
    have port : u.hostPort p = (s.hostPort p).configure op := by
      rw [← written, State.modHost, State.hostPort_setHost _ p _ bound]
    have run : exec (.pcieConfigWrite p op) s = .next (u.sendPending p) := by
      rw [← written]
      exact State.hostAccess_free bound up free _
    have sent := State.hostPort_sendPending u bound
    refine ⟨_, run, ?_, fun q _ other => ?_, ?_, ?_, ?_, ?_, State.sendPending_stays u bound⟩
    · rw [State.sendPending_frame, ← written]
      rfl
    · rw [State.hostPort_sendPending_ne u other, ← written]
      exact State.hostPort_setHost_ne s _ p q other
    all_goals rw [sent, port]
    · rintro b rfl
      rfl
    · rintro b rfl
      rfl
    · rintro b rfl
      rfl
    · rintro e f rfl
      exact ⟨rfl, rfl⟩
  case unmask =>
    generalize written : (s.modHost p fun h => h.setDword (4 * v + 3) 0) = u
    have port : u.hostPort p = (s.hostPort p).setDword (4 * v + 3) 0 := by
      rw [← written, State.modHost, State.hostPort_setHost _ p _ opened.bound]
    have run : exec (.msixUnmask p (some v)) s = .next (u.sendPending p) := by
      have access := opened.bar4Write (0x38000C + 16 * v) 4 0 (by omega)
      rw [State.writeBar4_unmask s p bound, written] at access
      exact (if_pos bound).trans access
    have free : (u.hostPort p).canSend v = true := by
      have ready : ((s.hostPort p).setDword (4 * v + 3) 0).canRequest = true := request
      have enabled : ((s.hostPort p).setDword (4 * v + 3) 0).msixEnable = true := enable
      have allowed : ((s.hostPort p).setDword (4 * v + 3) 0).functionMask = false := unmasked
      rw [port, HostPort.canSend, HostPort.vectorMasked_setDword, ready, enabled, allowed]
      rfl
    obtain ⟨gone, left⟩ := State.sendPending_leaves opened.bound (by rw [port]; exact pending) free
    refine ⟨_, run, gone, left, ?_⟩
    rw [State.sendPending_frame, ← written]
    rfl

end Sys2Proof.Machine
end

section
/-! PROOFS. The reset lines (R388, R389). -/

namespace Sys2Proof.Machine

/-! ## MOD_RESET_N (R388) -/

/-- A full reset keeps the stacks' bytes, and the step of an active run is to fail. -/
theorem State.fullReset_keeps (s : State) (cause : Nat) :
    (s.fullReset cause).stack = s.stack ∧ (s.runActive = true → (s.fullReset cause).plan.failNext = true) := by
  have before : s.finishWrites.addTotals.abortSlices.unform.stack = s.stack ∧
      s.finishWrites.addTotals.abortSlices.unform.plan.run = s.plan.run := by
    rw [State.unform_stack, State.unform_plan, State.abortSlices_frame, State.addTotals_frame, State.BootWork.finishWrites s]
    exact ⟨rfl, rfl⟩
  obtain ⟨stack, run⟩ := before
  unfold State.fullReset
  dsimp only
  refine ⟨stack, fun active => ?_⟩
  rw [State.runActive, run, show s.plan.run = true from active, Bool.or_true]

/-- Every link port is at its reset values in a full reset. -/
theorem State.port_fullReset (s : State) (cause : Nat) {p : Nat} (bound : p < 16) : (s.fullReset cause).port p = Port.reset := by
  have ports : (s.fullReset cause).ports = Vector.replicate 16 Port.reset := rfl
  simp only [State.port, ports, vget, bound, dite_true, Vector.getElem_replicate]

/-! ## CMP_RESET_N (R389) -/

/-- A compute wipe leaves no ring (R232, R389). -/
theorem State.rings_computeWipe (s : State) (g : Nat) : (s.computeWipe.gate g).rings = [] := by
  have gate : ∀ m : Map Gate, Map.getD (Map.mapVals (fun _ (x : Gate) => x.afterReset) m) g Gate.reset =
      (Map.getD m g Gate.reset).afterReset := Map.getD_mapVals (f := fun _ (x : Gate) => x.afterReset) rfl
  unfold State.computeWipe
  extract_lets ended wiped planned
  have gates : planned.gates = wiped.gates := by
    unfold planned
    rw [State.setPlanState_frame]
    rfl
  have rings : (planned.gate g).rings = [] := by
    rw [State.gate_congr wiped planned g gates]
    exact congrArg Gate.rings (gate ended.gates)
  exact rings

/-- While a run is active the stop of compute keeps the stacks' bytes; with none no ring is left (R389). -/
theorem State.stopCompute_memories (s : State) :
    (s.runActive = true → s.stopCompute.stack = s.stack) ∧
      (s.runActive = false → ∀ g, (s.stopCompute.gate g).rings = []) := by
  have synced : s.syncTiles.stack = s.stack ∧ s.syncTiles.plan.run = s.plan.run := by
    rw [State.TilesOnly.syncTiles s]
    exact ⟨rfl, rfl⟩
  have told : ∀ (u : State) (m : SyncMsg),
      (if u.grouped then u.flood m none else u).unform.stack = u.stack ∧
        (if u.grouped then u.flood m none else u).unform.plan = u.plan := by
    intro u m
    split
    · exact ⟨u.flood_stack m none, u.flood_plan m none⟩
    · exact ⟨rfl, rfl⟩
  obtain ⟨stack, run⟩ := synced
  unfold State.stopCompute
  extract_lets u clock idle stopped reported last
  obtain ⟨stack', plan⟩ := told reported ⟨5, reported.member, 1, reported.group.gframe⟩
  have active : last.runActive = s.runActive := (congrArg PlanCtl.run plan).trans run
  refine ⟨fun on => ?_, fun off g => ?_⟩
  · rw [if_pos (active.trans on)]
    exact stack'.trans stack
  · rw [if_neg (by rw [active, off]; decide)]
    exact State.rings_computeWipe last g

/-- Settles O7: the fields that each line sets, over what a full reset and the stop of compute leave alone. -/
theorem resetLinesStopTheModule : Obligations.ResetLinesStopTheModule := by
  unfold Obligations.ResetLinesStopTheModule
  refine ⟨fun s on free => ?full, fun s ready core free => ?stop, fun s early => ?pin, fun s idle core quiet => ?release,
    fun s active core => if_pos (by simp [core, active])⟩
  case full =>
    obtain ⟨stack, fails⟩ := s.fullReset_keeps 1
    exact ⟨_, if_neg (by simp [on, free]), rfl, rfl, rfl, rfl, rfl, fails, fun p bound => s.port_fullReset 1 bound, stack⟩
  case stop =>
    generalize pinned : ({ s with dawn := { s.dawn with cmpPin := true } } : State) = u
    have run : exec .cmpResetAssert s = .next u.stopCompute := by
      rw [← pinned]
      exact congrArg Host.Outcome.next (if_pos (by simp [ready, core, free]))
    obtain ⟨clk, dawn, -⟩ := u.stopCompute_control
    obtain ⟨kept, wiped⟩ := u.stopCompute_memories
    refine ⟨_, run, ?_, by rw [dawn], by rw [dawn], by rw [clk], ?_, ?_⟩
    · rw [dawn, ← pinned]
    · subst pinned
      exact kept
    · subst pinned
      exact wiped
  case pin => exact congrArg Host.Outcome.next (if_neg (by simp [early]))
  case release =>
    refine ⟨_, if_neg (by simp [idle]), rfl, ?_, rfl⟩
    simp [core, quiet]

end Sys2Proof.Machine
end

section
/-! PROOFS. The sideband, SPDM and DOE Discovery (R318, R332 to R335, R397, R398, R419). -/

namespace Sys2Proof.Machine

/-! ## The sideband (R332 to R334, R419) -/

/-- A command over the sideband that answers a range where it lies in its space, and code 2 where it does not (R334). -/
theorem State.onSideband_answers {s : State} (up : s.sidebandUp = true) {p : Prop} [Decidable p] {f : State → State}
    {answer : State} (asks : f s = if p then answer else s.respond 2 []) :
    (p → s.onSideband f = .next answer) ∧ (¬ p → s.onSideband f = .next { s with out := s.out ++ [.response 2 []] }) := by
  rw [State.onSideband_up up, asks]
  refine ⟨fun ok => by rw [if_pos ok], fun bad => ?_⟩
  rw [if_neg bad]
  rfl

theorem rangeOk_iff {off len size : Nat} : rangeOk off len size = true ↔ 1 ≤ len ∧ len ≤ 1024 ∧ off + len ≤ size := by
  simp only [rangeOk, Bool.and_eq_true, decide_eq_true_eq, and_assoc]

/-- A range that is empty, longer than 1,024 bytes or beyond its space is none. -/
theorem not_rangeOk {off len size : Nat} (bad : len = 0 ∨ 1024 < len ∨ size < off + len) : ¬ rangeOk off len size = true := by
  rw [rangeOk_iff]
  omega

/-- CONFIRM and REVERT send nothing (R402). -/
theorem State.confirmCommand_out (s : State) : s.confirmCommand.out = s.out := by
  unfold State.confirmCommand
  split <;> rfl

theorem State.revertCommand_out (s : State) : s.revertCommand.out = s.out := by
  unfold State.revertCommand
  split <;> rfl

/-- FW_CONTROL answers and carries out CONFIRM or REVERT (R402, R419). -/
theorem execFwControl_acts {s : State} (up : s.sidebandUp = true) (recovery : s.ctl.recovery = false) :
    (∃ t, exec (.fwControl 3) s = .next t ∧ .response 0 [] ∈ t.out ∧
      (s.sector.trial = true → t.sector.active = s.ctl.image ∧ t.sector.trial = false) ∧
      (s.sector.trial = false → t.sector = s.sector)) ∧
    (∃ t, exec (.fwControl 4) s = .next t ∧ .response 0 [] ∈ t.out ∧
      (s.sector.trial = true → t.sector.active = (!s.ctl.image) ∧ t.sector.trial = false) ∧
      (s.sector.trial = false → t.sector = s.sector)) := by
  have told : .response 0 [] ∈ (s.respond 0 []).out := List.mem_append_right _ (List.mem_singleton_self _)
  constructor
  · obtain ⟨-, taken, none⟩ := State.confirmCommand_spec (s := s.respond 0 []) recovery
    have run : exec (.fwControl 3) s = .next (s.respond 0 []).confirmCommand := by
      unfold exec
      exact State.onSideband_up up _
    refine ⟨_, run, (State.confirmCommand_out _).symm ▸ told, fun trial => ?_, fun free => ?_⟩
    · have sector : (s.respond 0 []).confirmCommand.sector = _ := taken trial
      exact ⟨congrArg Sector.active sector, congrArg Sector.trial sector⟩
    · have same := congrArg State.sector (none free)
      exact same
  · obtain ⟨-, taken, none⟩ := State.revertCommand_spec (s := s.respond 0 []) recovery
    have run : exec (.fwControl 4) s = .next (s.respond 0 []).revertCommand := by
      unfold exec
      exact State.onSideband_up up _
    refine ⟨_, run, (State.revertCommand_out _).symm ▸ told, fun trial => ?_, fun free => ?_⟩
    · have sector : (s.respond 0 []).revertCommand.sector = _ := taken trial
      exact ⟨congrArg Sector.active sector, congrArg Sector.trial sector⟩
    · have same := congrArg State.sector (none free)
      exact same

/-! ## SPDM (R335, R398) -/

/-- A request on a transport that is up acts. -/
theorem State.onSpdm_up {s : State} {tr : Nat} (up : s.transportUp tr = true) (f : State → State) :
    s.onSpdm tr f = .next (f s) :=
  congrArg Host.Outcome.next (if_pos up)

/-- A request that needs a negotiated connection acts on one, and is unexpected on any other (R398). -/
theorem State.onNegotiated_ready {s : State} {tr : Nat} (up : s.transportUp tr = true) (ready : s.spdmState tr = .negotiated)
    (f : State → State) : s.onNegotiated tr f = .next (f s) :=
  (State.onSpdm_up up _).trans (congrArg Host.Outcome.next (if_pos ready))

theorem State.onNegotiated_early {s : State} {tr : Nat} (up : s.transportUp tr = true) (early : s.spdmState tr ≠ .negotiated)
    (f : State → State) : s.onNegotiated tr f = .next { s with out := s.out ++ [.spdm tr 0x7F [0x04]] } :=
  (State.onSpdm_up up _).trans (congrArg Host.Outcome.next (if_neg early))

/-- A transport that is up is one of the three. -/
theorem State.transportUp_bound {s : State} {tr : Nat} (up : s.transportUp tr = true) : tr < 3 := by
  by_contra far
  have other : ¬ tr = 2 := by omega
  have none : ¬ tr < 2 := by omega
  simp [State.transportUp, other, none] at up

/-- The connection of a transport after a request that moves it. -/
theorem State.spdmState_setSpdm (s : State) {tr : Nat} (bound : tr < 3) (x : SpdmState) : (s.setSpdm tr x).spdmState tr = x :=
  vget_vset_self s.hostRegs.spdm tr x .start bound

/-- The block of a measurement that the table holds (R397). -/
theorem State.measurementBlock_of_some {s : State} {i : Nat} {d : List Byte} (held : s.measurement? i = some d) :
    s.measurementBlock i = [BitVec.ofNat 8 i] ++ leBytes 2 d.length ++ d := by
  unfold State.measurementBlock
  rw [held]

/-- The index of all measurements is not that of one (R397). -/
theorem State.measurement?_all (s : State) : s.measurement? 0xFF = none := by simp [State.measurement?]

/-- GET_MEASUREMENTS on a negotiated connection: one block, all, or an invalid index (R397, R398). -/
theorem execGetMeasurements_ready {s : State} {tr : Nat} (up : s.transportUp tr = true) (ready : s.spdmState tr = .negotiated) :
    (∀ i n d, s.measurement? i = some d → exec (.getMeasurements tr i n) s = .next { s with
      free := s.free + 1
      out := s.out ++ [.spdm tr 0x60 (s.signed n ([1] ++ ([BitVec.ofNat 8 i] ++ leBytes 2 d.length ++ d)))] }) ∧
    (∀ n, exec (.getMeasurements tr 0xFF n) s = .next { s with
      free := s.free + 1
      out := s.out ++ [.spdm tr 0x60 (s.signed n ([10] ++ measurementIndexes.flatMap s.measurementBlock))] }) ∧
    (∀ i n, i ≠ 0xFF → s.measurement? i = none →
      exec (.getMeasurements tr i n) s = .next { s with out := s.out ++ [.spdm tr 0x7F [0x01]] }) := by
  unfold exec execGetMeasurements
  refine ⟨fun i n d held => ?_, fun n => ?_, fun i n one none => ?_⟩
  · have one : i ≠ 0xFF := by
      rintro rfl
      exact absurd (s.measurement?_all.symm.trans held) (by simp)
    refine (State.onNegotiated_ready up ready _).trans (congrArg Host.Outcome.next ?_)
    rw [if_neg one, if_pos (by rw [held]; rfl), State.measurementBlock_of_some held]
    rfl
  · exact (State.onNegotiated_ready up ready _).trans (congrArg Host.Outcome.next (if_pos rfl))
  · refine (State.onNegotiated_ready up ready _).trans (congrArg Host.Outcome.next ?_)
    rw [if_neg one, if_neg (by rw [none]; exact Bool.false_ne_true)]
    rfl

/-- The requests that open a connection advance it in their order (R335, R398). -/
theorem spdm_opens {s : State} {tr : Nat} (up : s.transportUp tr = true) :
    (∃ t, exec (.getVersion tr) s = .next t ∧ t.spdmState tr = .version ∧ t.out = s.out ++ [.spdm tr 0x04 [0x12]] ∧
      t.sector = s.sector ∧ t.ctl = s.ctl) ∧
    (s.spdmState tr ≠ .start → ∃ t, exec (.getCapabilities tr) s = .next t ∧ t.spdmState tr = .capabilities ∧
      t.out = s.out ++ [.spdm tr 0x61 (leBytes 4 0x16)]) ∧
    (s.spdmState tr = .start → exec (.getCapabilities tr) s = .next { s with out := s.out ++ [.spdm tr 0x7F [0x04]] }) ∧
    (s.spdmState tr = .capabilities → ∃ t, exec (.negotiateAlgorithms tr) s = .next t ∧ t.spdmState tr = .negotiated ∧
      t.out.length = s.out.length + 1) ∧
    (s.spdmState tr ≠ .capabilities →
      exec (.negotiateAlgorithms tr) s = .next { s with out := s.out ++ [.spdm tr 0x7F [0x04]] }) := by
  unfold exec execGetVersion execGetCapabilities execNegotiateAlgorithms
  have moved := s.spdmState_setSpdm (State.transportUp_bound up)
  refine ⟨⟨_, State.onSpdm_up up _, moved .version, rfl, rfl, rfl⟩, fun begun => ?_, fun fresh => ?_, fun able => ?_, fun other => ?_⟩
  · exact ⟨_, (State.onSpdm_up up _).trans (congrArg Host.Outcome.next (if_neg begun)), moved .capabilities, rfl⟩
  · exact (State.onSpdm_up up _).trans (congrArg Host.Outcome.next (if_pos fresh))
  · exact ⟨_, (State.onSpdm_up up _).trans (congrArg Host.Outcome.next (if_pos able)), moved .negotiated, List.length_append⟩
  · exact (State.onSpdm_up up _).trans (congrArg Host.Outcome.next (if_neg other))

/-- Settles O59: each command is its answer where its transport is up, and the two FW_CONTROL operations are those of the
firmware. -/
theorem sidebandAndSpdmAnswer : Obligations.SidebandAndSpdmAnswer := by
  unfold Obligations.SidebandAndSpdmAnswer
  refine ⟨fun s down c member => ?silent, fun s a up => ?addresses, fun s up => ?reads, fun s off len up => ?ranges,
    fun s up recovery => ?control, fun s tr up => ?spdm, fun s port i bound up => ?doe⟩
  case silent =>
    simp only [List.mem_cons, List.not_mem_nil, or_false] at member
    obtain rfl | rfl | rfl | rfl | rfl | rfl | rfl | rfl := member <;>
      (unfold exec; exact State.onSideband_down down _)
  case addresses =>
    unfold exec execSetdasa execEntdaa execSetEndpointId
    refine ⟨State.onSideband_up up _, fun free => ?_, fun given => ?_, fun low high => ?_, fun bad => ?_⟩
    · exact (State.onSideband_up up _).trans (congrArg Host.Outcome.next (if_neg (by simp [free])))
    · exact (State.onSideband_up up _).trans (congrArg Host.Outcome.next (if_pos (Option.isSome_iff_ne_none.mpr given)))
    · exact (State.onSideband_up up _).trans (congrArg Host.Outcome.next (if_neg (by omega)))
    · exact (State.onSideband_up up _).trans (congrArg Host.Outcome.next (if_pos bad))
  case reads =>
    unfold exec
    exact ⟨State.onSideband_up up _, State.onSideband_up up _, State.onSideband_up up _, State.onSideband_up up _,
      State.onSideband_up up _, State.onSideband_up up _, State.onSideband_up up _, State.onSideband_up up _⟩
  case ranges =>
    unfold exec
    have map := State.onSideband_answers up (p := rangeOk off len 40412 = true) (f := fun s =>
      if rangeOk off len 40412 then s.respond 0 (leBytes 4 s.mapGen ++ s.mapBytes off len) else s.respond 2 []) rfl
    have log := State.onSideband_answers up (p := rangeOk off len logSpace = true) (f := fun s =>
      if rangeOk off len logSpace then s.respond 0 (s.logBytes off len) else s.respond 2 []) rfl
    have reg := State.onSideband_answers up (p := off % 8 = 0 ∧ off < 2 ^ 26) (f := fun s =>
      if off % 8 = 0 ∧ off < 2 ^ 26 then s.respond 0 (leBytes 8 (s.readReg off)) else s.respond 2 []) rfl
    exact ⟨fun fits => map.1 (rangeOk_iff.mpr fits), fun bad => map.2 (not_rangeOk bad),
      fun fits => log.1 (rangeOk_iff.mpr fits), fun bad => log.2 (not_rangeOk bad),
      fun aligned inside => reg.1 ⟨aligned, inside⟩, fun bad => reg.2 (by omega)⟩
  case control =>
    obtain ⟨confirmed, reverted⟩ := execFwControl_acts up recovery
    refine ⟨confirmed, reverted, fun n first second => ?_⟩
    unfold exec execFwControl
    exact (State.onSideband_up up _).trans (congrArg Host.Outcome.next (if_neg (by omega)))
  case spdm =>
    obtain ⟨version, able, fresh, negotiated, other⟩ := spdm_opens up
    refine ⟨version, able, fresh, negotiated, other, fun early => ?_, fun ready => ?_⟩
    · unfold exec
      exact ⟨State.onNegotiated_early up early _, fun _ _ => State.onNegotiated_early up early _,
        fun _ => State.onNegotiated_early up early _, fun _ _ => State.onNegotiated_early up early _⟩
    · obtain ⟨one, all, none⟩ := execGetMeasurements_ready up ready
      unfold exec at one all none ⊢
      unfold execGetCertificate
      refine ⟨State.onNegotiated_ready up ready _, fun o l inside => ?_, fun o l beyond => ?_,
        fun _ => State.onNegotiated_ready up ready _, one, all, none⟩
      · exact (State.onNegotiated_ready up ready _).trans (congrArg Host.Outcome.next (if_neg (Nat.not_le.mpr inside)))
      · exact (State.onNegotiated_ready up ready _).trans (congrArg Host.Outcome.next (if_pos beyond))
  case doe =>
    refine ⟨_, if_pos ⟨bound, up⟩, ?_⟩
    split
    · rfl
    · split <;> rfl

end Sys2Proof.Machine
end

section
/-! PROOFS. The waves of Dawn (R369, R370, R375). -/

namespace Sys2Proof.Machine

/-! ## What the tests of a region can change (R370 to R378) -/

namespace State.DawnFinds

theorem regionDone (s : State) (r : Nat) : s.DawnFinds (s.regionDone r) := rfl

theorem dawnSlow (s : State) (t code : Nat) : s.DawnFinds (s.dawnSlow t code) := by
  unfold State.dawnSlow
  exact ite_related (refl s) rfl

theorem searchTile (s : State) (t : Nat) (fails : List Nat) : s.DawnFinds (s.searchTile t fails) := by
  unfold State.searchTile
  extract_lets b slow start
  refine ite_related (refl s) ?_
  split
  · exact ite_related (refl s) (dawnSlow s t _)
  · exact dawnDead s [t] _

theorem testTile (s : State) (x : TileTest) : s.DawnFinds (s.testTile x) := by
  unfold State.testTile
  exact ite_related (refl s) ((searchTile s x.tile x.failCodes).trans (repairTile _ x.tile x.cells false))

theorem testRegion (s : State) (x : RegionTest) (again : Bool) : s.DawnFinds (s.testRegion x again) := by
  unfold State.testRegion
  extract_lets r quads found wiped
  have tested : s.DawnFinds found :=
    ite_related (refl s) (ite_related (dawnDead s _ 1) ((dawnDead s _ 1).trans (fold State.testTile testTile _ quads)))
  clear_value found
  have worn : found.DawnFinds wiped := ite_related (wipeFails found r) (refl found)
  exact (tested.trans worn).trans (regionDone wiped r)

theorem waveRegion (s : State) (tests : List RegionTest) (r : Nat) : s.DawnFinds (s.waveRegion tests r) := by
  unfold State.waveRegion
  exact ite_related (regionDone s r) (ite_related rfl (testRegion s _ false))

end State.DawnFinds

/-! ## A wave (R369, R370) -/

/-- Each of the 14 waves has six regions. -/
theorem length_waveRegions {w : Nat} (bound : w < 14) : (waveRegions w).length = 6 := by
  have all : waveOrder.length = 84 := by decide +kernel
  rw [waveRegions, List.length_take, List.length_drop, all]
  omega

/-- Dawn that finds no tile dead leaves the map. -/
theorem State.map_dawnDead_nil (s : State) (cause : Nat) : (s.dawnDead [] cause).map = s.map := rfl

/-- A region that passes all its tests changes no entry of the map, and has finished (R370, R378). -/
theorem State.waveRegion_passes (s : State) (r : Nat) :
    (s.waveRegion [] r).map = s.map ∧ (s.waveRegion [] r).dawn.regionsDone = s.dawn.regionsDone + 1 := by
  have tested : (s.testRegion ⟨r, false, false, false, [], [], false⟩ false).map = s.map ∧
      (s.testRegion ⟨r, false, false, false, [], [], false⟩ false).dawn.regionsDone = s.dawn.regionsDone + 1 := by
    unfold State.testRegion
    simp only [Bool.false_eq_true, false_and, or_self, if_false, List.filter_nil, List.flatMap_nil, List.foldl_nil]
    split <;> exact ⟨rfl, rfl⟩
  unfold State.waveRegion
  rw [show findTest [] r = ⟨r, false, false, false, [], [], false⟩ from rfl]
  dsimp only
  split
  · exact ⟨rfl, rfl⟩
  · rw [if_neg (by simp)]
    exact tested

/-- So do the regions of a list. -/
theorem State.waveRegions_pass (l : List Nat) (s : State) :
    (l.foldl (fun s r => s.waveRegion [] r) s).map = s.map ∧
      (l.foldl (fun s r => s.waveRegion [] r) s).dawn.regionsDone = s.dawn.regionsDone + l.length := by
  induction l generalizing s with
  | nil => exact ⟨rfl, rfl⟩
  | cons r rest ih =>
    obtain ⟨map, done⟩ := s.waveRegion_passes r
    obtain ⟨map', done'⟩ := ih (s.waveRegion [] r)
    rw [List.foldl_cons]
    refine ⟨map'.trans map, done'.trans ?_⟩
    rw [done, List.length_cons]
    omega

/-! ## A repetition (R375) -/

/-- A second missing signature marks every tile of the region dead, unless the module is in SCRAP (R375, R407). -/
theorem State.tileDead_testRegion {s : State} {x : RegionTest} (none : x.noSignature = true) (able : s.sector.state ≠ .scrap)
    {k : Nat} (mem : k ∈ tilesOfRegion x.region) : (s.testRegion x true).map.tileDead k = true := by
  have wiped : ∀ (c : Prop) [Decidable c] (u : State) (r : Nat), (if c then u.wipeFails r else u).map = u.map :=
    fun _ _ u r => ite_related (R := fun a b : State => b.map = a.map) (s := u) rfl rfl
  have map : (s.testRegion x true).map = (s.dawnDead (tilesOfRegion x.region) 1).map := by
    unfold State.testRegion
    extract_lets r quads found worn
    have marked : found = s.dawnDead (tilesOfRegion x.region) 1 :=
      (if_neg able).trans (if_pos (.inr (.inr ⟨none, rfl⟩)))
    have kept : worn.map = found.map := wiped _ found r
    exact kept.trans (congrArg State.map marked)
  rw [map]
  exact State.tileDead_dawnDead s mem

/-- Settles O1: a wave folds over its six regions, and a repetition is the region's tests with the list of repetitions
filtered. -/
theorem dawnWavesAdvance : Obligations.DawnWavesAdvance := by
  unfold Obligations.DawnWavesAdvance
  refine ⟨fun w tests s goes next bound day due => ?wave, fun x s goes next waits day due => ?again⟩
  case wave =>
    have work : s.DawnFinds ((waveRegions w).foldl (fun s r => s.waveRegion tests r) s) :=
      .fold (fun s r => s.waveRegion tests r) (fun s r => .waveRegion s tests r) _ s
    have wall : ((waveRegions w).foldl (fun s r => s.waveRegion tests r) s).clk.wall = s.clk.wall := by rw [work]
    have stack : ((waveRegions w).foldl (fun s r => s.waveRegion tests r) s).stack = s.stack := by rw [work]
    refine ⟨_, if_pos ⟨goes, next, bound, by simp [day], due⟩, rfl, wall, stack, ?_⟩
    rintro rfl
    obtain ⟨map, done⟩ := State.waveRegions_pass (waveRegions w) s
    rw [length_waveRegions bound] at done
    exact ⟨map, done⟩
  case again =>
    have listed : s.dawn.repeats.contains x.region = true := by simpa using waits
    have stack : (s.testRegion x true).stack = s.stack := by rw [State.DawnFinds.testRegion s x true]
    refine ⟨_, if_pos ⟨goes, next, listed, by simp [day], due⟩, ?_, stack,
      fun none able k mem => State.tileDead_testRegion none able mem⟩
    simp

end Sys2Proof.Machine
end
